-- ==== Sys2Proof/Word.lean ====
section
/-! DEFINITION. The word and byte types of the PV9420: every register is 32 bits wide (R99), memory is bytes. -/
namespace Sys2Proof

/-- A register or memory word (R99). -/
abbrev Word := BitVec 32

/-- A byte of memory. -/
abbrev Byte := BitVec 8

end Sys2Proof
end

