-- ==== Sys2Proof/Machine/Windows.lean ====
section
/-! DEFINITION. The 47 peripheral windows (Table ARC-11), the ordering options (Table SCO-2), the power domains
(Table PMU-2), the fabric masters (Table ARC-8) and the event sources of each window (Table EVL-3). -/
namespace Sys2Proof.Machine

/-- The peripheral windows of Table ARC-11. -/
inductive Win where
  | pmu | clk | tmb | sys | evr | sem | cfc | scr | flc | tlm
  | ang | eng | edr | lam | hbr
  | pwm | psc | egv
  | chg | rcm | plm
  | met | bil
  | key | cry | pke | trng | vlt
  | upd | saf | lsw
  | ul0 | ul1 | uq0 | uq1 | uq2 | uq3
  | can0 | can1 | eth | spi0 | spi1 | spi2 | i2c0 | i2c1 | usb
  | dbg
  deriving DecidableEq, Repr

/-- Every window, in ascending address order. -/
def Win.all : List Win :=
  [.pmu, .clk, .tmb, .sys, .evr, .sem, .cfc, .scr, .flc, .tlm, .ang, .eng, .edr, .lam, .hbr, .pwm, .psc, .egv,
   .chg, .rcm, .plm, .met, .bil, .key, .cry, .pke, .trng, .vlt, .upd, .saf, .lsw, .ul0, .ul1, .uq0, .uq1, .uq2,
   .uq3, .can0, .can1, .eth, .spi0, .spi1, .spi2, .i2c0, .i2c1, .usb, .dbg]

/-- The window code: (window base - 0x4000_0000) >> 12 (Table RING-13). -/
def Win.code : Win → Nat
  | .pmu => 0x00 | .clk => 0x01 | .tmb => 0x02 | .sys => 0x03 | .evr => 0x04 | .sem => 0x05 | .cfc => 0x06
  | .scr => 0x07 | .flc => 0x08 | .tlm => 0x09
  | .ang => 0x10 | .eng => 0x11 | .edr => 0x12 | .lam => 0x13 | .hbr => 0x14
  | .pwm => 0x20 | .psc => 0x21 | .egv => 0x22
  | .chg => 0x30 | .rcm => 0x31 | .plm => 0x32
  | .met => 0x40 | .bil => 0x41
  | .key => 0x50 | .cry => 0x51 | .pke => 0x52 | .trng => 0x53 | .vlt => 0x54
  | .upd => 0x60 | .saf => 0x70 | .lsw => 0x80
  | .ul0 => 0x90 | .ul1 => 0x91 | .uq0 => 0x92 | .uq1 => 0x93 | .uq2 => 0x94 | .uq3 => 0x95
  | .can0 => 0xA0 | .can1 => 0xA1 | .eth => 0xA2 | .spi0 => 0xA3 | .spi1 => 0xA4 | .spi2 => 0xA5
  | .i2c0 => 0xA6 | .i2c1 => 0xA7 | .usb => 0xA8
  | .dbg => 0xF0

/-- The window whose code is `c`, if any. -/
def winOfCode (c : Nat) : Option Win := Win.all.find? (fun w => w.code == c)

/-- Base address of a window (Table ARC-11). -/
def Win.base (w : Win) : Nat := 0x40000000 + 0x1000 * w.code

/-- The window that holds address `a`, if any. -/
def winOf (a : Nat) : Option Win :=
  if 0x40000000 ≤ a ∧ a < 0x400F1000 then winOfCode ((a - 0x40000000) / 0x1000) else none

/-- The power domain of a window (Table PMU-2). -/
def Win.domain : Win → Nat
  | .pmu | .tmb | .sys | .ul0 | .ul1 => 0
  | .vlt => 1
  | .met | .bil => 10
  | .ang => 13
  | .pwm | .psc | .egv => 14
  | .key | .cry | .pke | .trng => 15
  | .plm => 16
  | .eng | .edr | .lam | .hbr => 20
  | .chg | .rcm => 21
  | .dbg => 23
  | .clk | .evr | .sem | .cfc | .scr | .flc | .tlm | .upd | .saf | .lsw | .uq0 | .uq1 | .uq2 | .uq3
  | .can0 | .can1 | .eth | .spi0 | .spi1 | .spi2 | .i2c0 | .i2c1 | .usb => 19

/-- Table RING-15: the windows of a check domain, in ascending address order. -/
def cfcWindows : Nat → List Win
  | 0 => [.pmu, .clk, .tmb, .sys, .evr, .sem, .scr, .flc, .tlm]
  | 1 => [.ang, .eng, .edr, .lam, .hbr]
  | 2 => [.pwm, .psc, .egv]
  | 3 => [.chg, .rcm, .plm]
  | 4 => [.key, .cry, .pke, .trng, .vlt, .upd]
  | 5 => [.lsw]
  | 6 => [.ul0, .ul1, .uq0, .uq1, .uq2, .uq3, .can0, .can1, .eth, .spi0, .spi1, .spi2, .i2c0, .i2c1, .usb]
  | _ => Win.all

/-- Option codes of Table SCO-7. -/
def optGC : Nat := 1
/-- PV9420-EC (Table SCO-7). -/
def optEC : Nat := 2
/-- PV9420-CP (Table SCO-7). -/
def optCP : Nat := 3

/-- R1, Table SCO-2: is the block of this window carried by the ordering option? -/
def Win.present (opt : Nat) : Win → Bool
  | .chg | .rcm | .plm | .met | .bil => opt != optEC
  | .eng | .edr | .lam | .egv => opt != optCP
  | _ => true

/-- R1, Table SCO-2: is this core (master ID) carried by the option? -/
def corePresent (opt core : Nat) : Bool :=
  match core with
  | 2 => opt != optCP
  | 4 => opt != optEC
  | n => n ≤ 6

/-- R1, Table SCO-2: is this angle domain (0 CRK, 1 ALT, 2 GRD, 3 INV, 4 CPL) carried by the option? -/
def angleDomainPresent (opt d : Nat) : Bool :=
  match d with
  | 0 | 1 => opt != optCP
  | 4 => opt != optEC
  | n => n ≤ 4

/-- R8, Table PMU-2: the power domains whose whole contents the option lacks. -/
def domainPresent (opt n : Nat) : Bool :=
  if opt = optEC then !(n == 10 || n == 16 || n == 21) else if opt = optCP then n != 8 else true

/-- Fabric master IDs (Table ARC-8). -/
def mH0 : Nat := 0
/-- Master H1. -/
def mH1 : Nat := 1
/-- Master E. -/
def mE : Nat := 2
/-- Master P. -/
def mP : Nat := 3
/-- Master M. -/
def mM : Nat := 4
/-- Master SA. -/
def mSA : Nat := 5
/-- Master SB. -/
def mSB : Nat := 6
/-- Master DBG. -/
def mDBG : Nat := 7

/-- The DMA port (master ID) that serves a unit (Table ARC-8). -/
def Win.dmaPort : Win → Nat
  | .ang | .eng | .edr | .lam | .hbr | .pwm | .psc | .egv => 8
  | .chg | .rcm | .plm | .met | .bil => 9
  | .flc | .key | .cry | .pke | .trng | .vlt | .upd => 10
  | _ => 11

/-- Number of rings of a window (R117, Table EVL-3). -/
def Win.nRings : Win → Nat
  | .evr | .ang | .pwm | .plm | .cry => 8
  | .tmb | .sys | .eng | .edr | .psc | .chg | .rcm | .met | .bil | .key | .pke | .upd | .lsw | .usb => 4
  | .sem | .cfc | .saf | .dbg => 0
  | .scr => 1
  | _ => 2

/-- First ring completion source of a window (R116, Table EVL-3). -/
def Win.ringSource : Win → Nat
  | .pmu => 32 | .clk => 34 | .tmb => 36 | .sys => 40 | .evr => 64 | .sem => 96 | .cfc => 120
  | .scr => 1192 | .flc => 1200 | .tlm => 1184
  | .ang => 384 | .eng => 416 | .edr => 448 | .lam => 480 | .hbr => 496
  | .pwm => 512 | .psc => 576 | .egv => 640
  | .chg => 672 | .rcm => 704 | .plm => 736 | .met => 768 | .bil => 800
  | .key => 832 | .cry => 848 | .pke => 864 | .trng => 874 | .vlt => 882
  | .upd => 896 | .saf => 928 | .lsw => 960
  | .ul0 => 1024 | .ul1 => 1032 | .uq0 => 1040 | .uq1 => 1048 | .uq2 => 1056 | .uq3 => 1064
  | .can0 => 1072 | .can1 => 1080 | .eth => 1088 | .spi0 => 1096 | .spi1 => 1104 | .spi2 => 1112
  | .i2c0 => 1120 | .i2c1 => 1128 | .usb => 1136 | .dbg => 1208

/-- The window that owns a source number (Tables EVL-2 and EVL-3); `none` for the ring-level group 36 and for
numbers no window owns. -/
def ownerOf (s : Nat) : Option Win :=
  if s ≤ 5 then some .pmu else if s ≤ 11 then some .clk else if s ≤ 16 then some .tmb
  else if s ≤ 31 then some .sys else if s ≤ 33 then some .pmu else if s ≤ 35 then some .clk
  else if s ≤ 39 then some .tmb else if s ≤ 43 then some .sys else if s ≤ 55 then some .tmb
  else if s ≤ 63 then some .pmu else if s ≤ 95 then some .evr else if s ≤ 119 then some .sem
  else if s ≤ 127 then some .cfc else if s ≤ 415 then some .ang else if s ≤ 447 then some .eng
  else if s ≤ 479 then some .edr else if s ≤ 495 then some .lam else if s ≤ 511 then some .hbr
  else if s ≤ 575 then some .pwm else if s ≤ 639 then some .psc else if s ≤ 671 then some .egv
  else if s ≤ 703 then some .chg else if s ≤ 735 then some .rcm else if s ≤ 767 then some .plm
  else if s ≤ 799 then some .met else if s ≤ 831 then some .bil else if s ≤ 847 then some .key
  else if s ≤ 863 then some .cry else if s ≤ 873 then some .pke else if s ≤ 881 then some .trng
  else if s ≤ 895 then some .vlt else if s ≤ 927 then some .upd else if s ≤ 959 then some .saf
  else if s ≤ 1023 then some .lsw else if s ≤ 1031 then some .ul0 else if s ≤ 1039 then some .ul1
  else if s ≤ 1047 then some .uq0 else if s ≤ 1055 then some .uq1 else if s ≤ 1063 then some .uq2
  else if s ≤ 1071 then some .uq3 else if s ≤ 1079 then some .can0 else if s ≤ 1087 then some .can1
  else if s ≤ 1095 then some .eth else if s ≤ 1103 then some .spi0 else if s ≤ 1111 then some .spi1
  else if s ≤ 1119 then some .spi2 else if s ≤ 1127 then some .i2c0 else if s ≤ 1135 then some .i2c1
  else if s ≤ 1151 then some .usb else if s ≤ 1183 then none else if s ≤ 1191 then some .tlm
  else if s ≤ 1199 then some .scr else if s ≤ 1207 then some .flc else if s ≤ 1215 then some .dbg
  else none

end Sys2Proof.Machine
end

