-- ==== Sys2Proof/Machine/Operands.lean ====
section
/-! DEFINITION. Operand forms of the commands: what a sender says beside the command's name. -/
namespace Sys2Proof.Machine

/-- Kinds of core access. -/
inductive AccKind where
  | load | store | fetch
  deriving DecidableEq, Repr

/-- What a core does: an access, or a write of one of its PMP regions (R45): the region's pmpcfg byte, its pmpaddr being the
command's address. -/
inductive CoreOp where
  | access (k : AccKind)
  | pmp (i : Fin 16) (cfg : BitVec 8)
  deriving DecidableEq, Repr

/-- Widths of an access (R99). -/
inductive AccSize where
  | byte | half | word
  deriving DecidableEq, Repr

/-- The bytes of an access. -/
def AccSize.bytes : AccSize → Nat
  | .byte => 1
  | .half => 2
  | .word => 4

/-- The LR, SC and AMO operations of the A extension (R47). -/
inductive AmoOp where
  | lr | sc | swap | add | and | or | xor | min | max | minu | maxu
  deriving DecidableEq, Repr

/-- How a controller transfer on I2C ends (R824). -/
inductive I2cEnd where
  | acked
  | nackAddr
  /-- this many data bytes were acknowledged before the one that was not -/
  | nackData (k : Nat)
  | arbLost
  deriving DecidableEq, Repr

/-- What the debugger does through DBG_ACCESS (R833, Table SER-7). -/
inductive DbgOp where
  | halt (c : Fin 7)
  | run (c : Fin 7)
  | step (c : Fin 7)
  | register (c : Fin 7)
  | access (k : AccKind) (a : Word) (size : AccSize) (v : Word)
  deriving DecidableEq, Repr

/-- R880 step 1: an asynchronous path acts. -/
inductive AsyncPath where
  /-- a TRIP or DESAT input (R430) -/
  | trip (i : Fin 14)
  /-- XW_STA (`b` false) or XW_STB (R19) -/
  | tripWire (b : Bool)
  /-- XW_DWA (R20) -/
  | dwellAbort (c : Fin 4)
  /-- the PWM trip of SA (`b` false) or SB (R433) -/
  | pwmTrip (b : Bool)
  deriving DecidableEq, Repr

/-- R880 step 2: a comparison, deadline or sample falls in the cycle. -/
inductive CycleSample where
  /-- a commit-gate deadline -/
  | gate (w : Win) (g : Fin 3)
  /-- a compare channel reaches its target -/
  | compare (c : Fin 8)
  /-- a configuration-check pass starts -/
  | passStart
  /-- a channel samples its safety inputs -/
  | input (c : Fin 2) (v : BitVec 16)
  deriving DecidableEq, Repr

/-- R880 step 3: an access of a master. -/
structure BusAccess where
  m : Fin 8
  kind : AccKind
  user : Bool
  a : Word
  size : AccSize
  v : Word
  deriving DecidableEq, Repr

/-- R880 step 4: an update that hardware makes to its own registers. -/
inductive HwUpdate where
  /-- a telemetry frame arrives (R196) -/
  | telemetry
  /-- a SAR conversion ends (R373) -/
  | conversion (c : Fin 2) (value : BitVec 12)
  /-- a precise sigma-delta output completes (R425) -/
  | sigmaDelta (k : Fin 12) (sum : Nat)
  /-- a load-switch current sample arrives (R777) -/
  | current (n : Fin 16) (code : BitVec 12) (seq : BitVec 8)
  /-- an event source asserts (R124) -/
  | event (src : Fin 1216)
  deriving DecidableEq, Repr

end Sys2Proof.Machine
end

