-- ==== Sys2Proof/Syntax.lean ====
section
/-! DEFINITION. The commands of the PV9420, one constructor per row of the opcode table. Masters are numbered as in
Table ARC-8: H0, H1, E, P, M, SA, SB, DBG are 0 to 7. -/
namespace Sys2Proof
open Sys2Proof.Machine

/-- A command: an access of a master, a step of an engine of the part, an event at a pin or of the clock. -/
inductive Instr where
  /-- PD_REGISTER_READ (R28) -/
  | pdRegisterRead (m : Fin 8) (a : Word) (z : AccSize)
  /-- PD_REGISTER_WRITE (R29) -/
  | pdRegisterWrite (m : Fin 8) (a : Word) (z : AccSize) (v : Word)
  /-- LINK_REQUEST_SEND (R30) -/
  | linkRequestSend
  /-- LINK_RESPONSE_FRAME (R26) -/
  | linkResponseFrame (crcOk : Bool)
  /-- LINK_RESPONSE_TIMEOUT (R26) -/
  | linkResponseTimeout
  /-- PD_REQUEST_FRAME (R27) -/
  | pdRequestFrame (crcOk : Bool)
  /-- KEEPALIVE_SEND (R23) -/
  | keepaliveSend (fromPd : Bool)
  /-- KEEPALIVE_RECEIVED (R35) -/
  | keepaliveReceived (atPd : Bool)
  /-- LINK_LOSS_CD (R36) -/
  | linkLossCd
  /-- LINK_LOSS_PD (R35) -/
  | linkLossPd
  /-- LINK_RETRAINED (R36) -/
  | linkRetrained
  /-- GRACE_EXPIRY (R39) -/
  | graceExpiry
  /-- PD_RESET (R41) -/
  | pdReset
  /-- RESUME (R40) -/
  | resume (m : Fin 8)
  /-- LML_CTL_WRITE (R40) -/
  | lmlCtlWrite (m : Fin 8) (z : AccSize) (v : Word)
  /-- SAFETY_TRIP_WIRE (R19) -/
  | safetyTripWire (b : Bool)
  /-- DWELL_ABORT_WIRE (R20) -/
  | dwellAbortWire (c : Fin 4)
  /-- PD_FAULT (R43) -/
  | pdFault
  /-- CORE_MEMORY_ACCESS (R53) -/
  | coreMemoryAccess (m : Fin 8) (o : CoreOp) (user : Bool) (a : Word) (z : AccSize) (v : Word)
  /-- AMO_INSTRUCTION (R47) -/
  | amoInstruction (m : Fin 8) (o : AmoOp) (a : Word) (v : Word)
  /-- FENCE_I (R50) -/
  | fenceI (m : Fin 8)
  /-- TIME_CSR_WRITE (R48) -/
  | timeCsrWrite (m : Fin 8)
  /-- MISALIGNED_ACCESS (R46) -/
  | misalignedAccess (m : Fin 8) (isStore : Bool)
  /-- HAPPENINGS_ORDER (R880) -/
  | happeningsOrder (paths : List AsyncPath) (samples : List CycleSample) (accesses : List BusAccess) (updates : List HwUpdate)
  /-- REGISTER_WRITE (R99) -/
  | registerWrite (m : Fin 8) (a : Word) (z : AccSize) (v : Word)
  /-- COMPLEMENT_WRITE (R102) -/
  | complementWrite (m : Fin 8) (w : Win) (off : BitVec 12) (z : AccSize) (v : Word)
  /-- WP_REGISTER_WRITE (R102) -/
  | wpRegisterWrite (m : Fin 8) (a : Word) (z : AccSize) (v : Word)
  /-- PAIR_WINDOW_EXPIRY (R102) -/
  | pairWindowExpiry (w : Win)
  /-- BLK_LOCK_SET (R101) -/
  | blkLockSet (m : Fin 8) (w : Win) (z : AccSize) (v : Word)
  /-- OFF_DOMAIN_ACCESS (R245) -/
  | offDomainAccess (m : Fin 8) (a : Word)
  /-- DOORBELL (R89) -/
  | doorbell (w : Win) (m : Fin 8) (z : AccSize) (v : Word)
  /-- DESCRIPTOR_FETCH (R72) -/
  | descriptorFetch (w : Win) (n : Fin 8)
  /-- DESCRIPTOR_COMPLETE (R74) -/
  | descriptorComplete (w : Win) (n : Fin 8)
  /-- PREEMPTED_COMPLETION (R77) -/
  | preemptedCompletion (w : Win) (n : Fin 8)
  /-- RING_START (R81) -/
  | ringStart (w : Win) (n : Fin 8) (m : Fin 8)
  /-- RING_STOP (R83) -/
  | ringStop (w : Win) (n : Fin 8) (m : Fin 8)
  /-- RING_PAUSE (R83) -/
  | ringPause (w : Win) (n : Fin 8) (m : Fin 8)
  /-- RING_RESUME (R83) -/
  | ringResume (w : Win) (n : Fin 8) (m : Fin 8)
  /-- RING_ABORT (R83) -/
  | ringAbort (w : Win) (n : Fin 8) (m : Fin 8)
  /-- RING_RECLAIM (R97) -/
  | ringReclaim (w : Win) (n : Fin 8) (m : Fin 8)
  /-- LOGGING_TIMEOUT (R409) -/
  | loggingTimeout (w : Win) (n : Fin 8)
  /-- CFC_PASS_START (R109) -/
  | cfcPassStart
  /-- CFC_PASS_END (R110) -/
  | cfcPassEnd
  /-- CFC_DOMAIN7_RESULT (R112) -/
  | cfcDomain7Result (timely : Bool)
  /-- CFC_CAPTURE (R113) -/
  | cfcCapture (m : Fin 8) (z : AccSize) (v : Word)
  /-- CFC_CTL_WRITE (R109) -/
  | cfcCtlWrite (m : Fin 8) (z : AccSize) (v : Word)
  /-- MISMATCH_CLEAR (R111) -/
  | mismatchClear (m : Fin 8) (z : AccSize) (v : Word)
  /-- EVENT_ASSERT (R124) -/
  | eventAssert (src : Fin 1216)
  /-- EVR_ACK (R128) -/
  | evrAck (m : Fin 8) (z : AccSize) (v : Word)
  /-- EVR_SWEV (R130) -/
  | evrSwev (m : Fin 8) (z : AccSize) (v : Word)
  /-- EVR_ROUTE_WRITE (R120) -/
  | evrRouteWrite (m : Fin 8) (z : AccSize) (v : Word)
  /-- WAIT (R131) -/
  | wait (n : Fin 8)
  /-- WAIT_SOURCE_ASSERTED (R131) -/
  | waitSourceAsserted (n : Fin 8)
  /-- WAIT_TIMEOUT (R131) -/
  | waitTimeout (n : Fin 8)
  /-- RAISE (R133) -/
  | raise (n : Fin 8)
  /-- SEM_ACQUIRE (R136) -/
  | semAcquire (m : Fin 8) (n : Fin 64) (z : AccSize) (wait : Bool)
  /-- SEM_RELEASE (R136) -/
  | semRelease (m : Fin 8) (n : Fin 64) (z : AccSize)
  /-- SEM_RELEASE_REPAIRED (R140) -/
  | semReleaseRepaired (m : Fin 8) (n : Fin 64) (z : AccSize)
  /-- SEM_FORCE_ORPHAN (R136) -/
  | semForceOrphan (m : Fin 8) (n : Fin 64) (z : AccSize)
  /-- MBX_DATA_WRITE (R141) -/
  | mbxDataWrite (m : Fin 8) (k : Fin 8) (z : AccSize) (v : Word)
  /-- MBX_FULL_CLEAR (R142) -/
  | mbxFullClear (m : Fin 8) (k : Fin 8)
  /-- MBX_OVF_DROP_CLEAR (R143) -/
  | mbxOvfDropClear (m : Fin 8) (k : Fin 8) (ovf : Bool) (drop : Bool)
  /-- CORE_RESET (R145) -/
  | coreReset (c : Fin 7)
  /-- LOOP_STEP (R151) -/
  | loopStep (w : Win) (n : Fin 16) (margin : Nat)
  /-- LOOP_BOUND_WRITE (R155) -/
  | loopBoundWrite (m : Fin 8) (w : Win) (n : Fin 16) (hi : Bool) (z : AccSize) (v : Word)
  /-- LOOP_POS_WRITE (R157) -/
  | loopPosWrite (m : Fin 8) (w : Win) (n : Fin 16) (z : AccSize) (v : Word)
  /-- LOOP_MODE_WRITE (R158) -/
  | loopModeWrite (m : Fin 8) (w : Win) (n : Fin 16) (z : AccSize) (v : Word)
  /-- FAIRNESS_SLOT (R163) -/
  | fairnessSlot (w : Win)
  /-- GATE_CMT (R170) -/
  | gateCmt (m : Fin 8) (w : Win) (g : Fin 3) (z : AccSize) (v : Word)
  /-- GATE_DEADLINE (R173) -/
  | gateDeadline (w : Win) (g : Fin 3)
  /-- ESCALATED_CLEAR (R177) -/
  | escalatedClear (m : Fin 8) (w : Win) (g : Fin 3) (z : AccSize) (v : Word)
  /-- SCR_PASS_START (R180) -/
  | scrPassStart
  /-- SCR_WORD_READ (R181) -/
  | scrWordRead
  /-- SCR_PASS_LATE (R184) -/
  | scrPassLate
  /-- SCRUB_RANGE (R185) -/
  | scrubRange (n : Fin 8)
  /-- FL_PROGRAM (R189) -/
  | flProgram (n : Fin 8)
  /-- FL_ERASE (R195) -/
  | flErase (n : Fin 8)
  /-- FL_WEAR (R195) -/
  | flWear (n : Fin 8)
  /-- FLC_STEP_DONE (R188) -/
  | flcStepDone (ok : Bool) (last : Bool)
  /-- FLC_REFRESH_SPAN (R193) -/
  | flcRefreshSpan (diff : Nat)
  /-- TLM_FRAME (R196) -/
  | tlmFrame
  /-- TLM_LIST_FORWARD (R196) -/
  | tlmListForward
  /-- PD_TELEMETRY_SEND (R196) -/
  | pdTelemetrySend (n : Fin 16) (value : BitVec 16)
  /-- TLM_STALE (R197) -/
  | tlmStale (n : Fin 16)
  /-- TLM_STREAM (R198) -/
  | tlmStream (n : Fin 8)
  /-- CLK_DOM_WRITE (R203) -/
  | clkDomWrite (m : Fin 8) (n : Fin 28) (z : AccSize) (v : Word)
  /-- SSC_BOUNDARY (R209) -/
  | sscBoundary
  /-- CLK_MONITOR_GATE (R220) -/
  | clkMonitorGate (n : Fin 7) (count : BitVec 16)
  /-- XO_FAIL (R221) -/
  | xoFail
  /-- RC_RELOCK (R221) -/
  | rcRelock
  /-- PLL_UNLOCK (R222) -/
  | pllUnlock (k : Fin 3)
  /-- PLL_RELOCK (R222) -/
  | pllRelock (k : Fin 3)
  /-- CLK_LIMP (R222) -/
  | clkLimp
  /-- UPLL_RECOVERED (R223) -/
  | upllRecovered
  /-- LF_FAIL (R224) -/
  | lfFail
  /-- XO_READOPT (R225) -/
  | xoReadopt (m : Fin 8) (z : AccSize) (v : Word)
  /-- XO_RELOCK (R225) -/
  | xoRelock
  /-- LF_MEASUREMENT (R217) -/
  | lfMeasurement (ticks : Word)
  /-- TB_LO_READ (R218) -/
  | tbLoRead (m : Fin 8)
  /-- TB_CMP_FIRE (R238) -/
  | tbCmpFire (c : Fin 8)
  /-- TB_CMP_ARM (R238) -/
  | tbCmpArm (m : Fin 8) (c : Fin 8) (z : AccSize) (v : Word)
  /-- PAD_CFG_WRITE (R230) -/
  | padCfgWrite (m : Fin 8) (z : AccSize) (v : Word)
  /-- MEASURE (R234) -/
  | measure (n : Fin 8) (count : Nat)
  /-- ALARM (R235) -/
  | alarm (n : Fin 8)
  /-- SNAPSHOT (R236) -/
  | snapshot (n : Fin 8)
  /-- PWR_REQ_WRITE (R242) -/
  | pwrReqWrite (m : Fin 8) (z : AccSize) (v : Word)
  /-- DOMAIN_POWER_UP (R246) -/
  | domainPowerUp (n : Fin 24)
  /-- DOMAIN_POWER_DOWN (R244) -/
  | domainPowerDown (n : Fin 24)
  /-- DOMAIN_SET (R278) -/
  | domainSet (n : Fin 8)
  /-- SUPPLY_SNAP (R279) -/
  | supplySnap (n : Fin 8) (vin : Nat) (vio : Nat) (vcore : Nat) (temp : Int)
  /-- CORE_LOAD (R280) -/
  | coreLoad (n : Fin 8)
  /-- CORE_RELEASE (R280) -/
  | coreRelease (n : Fin 8)
  /-- CORE_CTL_WRITE (R266) -/
  | coreCtlWrite (m : Fin 8) (z : AccSize) (v : Word)
  /-- SYS_RESET (R265) -/
  | sysReset (m : Fin 8) (z : AccSize) (v : Word)
  /-- PIN_RESET (R262) -/
  | pinReset
  /-- RESET_N_RELEASE (R262) -/
  | resetNRelease
  /-- BOR_RESET (R261) -/
  | borReset (vio : Bool)
  /-- BOR_RELEASE (R261) -/
  | borRelease
  /-- VLT_POR (R261) -/
  | vltPor
  /-- WDT_KICK (R268) -/
  | wdtKick (m : Fin 8) (c : Fin 5) (z : AccSize) (v : Word)
  /-- WDT_EXPIRY (R269) -/
  | wdtExpiry (c : Fin 5)
  /-- STANDBY_REQUEST (R251) -/
  | standbyRequest (m : Fin 8) (z : AccSize) (v : Word)
  /-- STANDBY_SAVE_DONE (R252) -/
  | standbySaveDone
  /-- STANDBY_ENTERED (R252) -/
  | standbyEntered
  /-- WAKE_EVENT (R254) -/
  | wakeEvent (src : Fin 15)
  /-- DOZE_ENTRY (R250) -/
  | dozeEntry (wfi0 : Bool) (wfi1 : Bool)
  /-- DOZE_EXIT (R250) -/
  | dozeExit
  /-- PMU_PF_WARN (R257) -/
  | pmuPfWarn (vin : Nat)
  /-- VIN_PF_RISE (R257) -/
  | vinPfRise (vin : Nat)
  /-- PMU_VBAT_LOW (R257) -/
  | pmuVbatLow (v : Nat)
  /-- PMU_TEMP_WARN (R260) -/
  | pmuTempWarn (t : Int)
  /-- PMU_AVS_ALARM (R248) -/
  | pmuAvsAlarm (margin : Nat)
  /-- OPTION_REPORT (R14) -/
  | optionReport
  /-- BOOT_START (R270) -/
  | bootStart (spllOk : Bool) (linkOk : Bool) (xoOk : Bool)
  /-- CORE_RDY_WRITE (R274) -/
  | coreRdyWrite (m : Fin 8) (z : AccSize) (v : Word)
  /-- BOOT_READY_TIMEOUT (R270) -/
  | bootReadyTimeout (c : Fin 7)
  /-- HOST_ENTRY (R270) -/
  | hostEntry
  /-- HOST_RESTART (R275) -/
  | hostRestart
  /-- VIN_RISE (R849) -/
  | vinRise (vbat : Bool)
  /-- VIN_FALL_PD_STOP (R850) -/
  | vinFallPdStop
  /-- PD_THERMAL_SHUTDOWN (R870) -/
  | pdThermalShutdown (t : Int)
  /-- PD_THERMAL_RELEASE (R870) -/
  | pdThermalRelease (t : Int)
  /-- SO_THERMAL_OFF (R871) -/
  | soThermalOff (c : Fin 2) (n : Fin 4)
  /-- SO_THERMAL_RELEASE (R871) -/
  | soThermalRelease (c : Fin 2) (n : Fin 4)
  /-- VSAFE_CHANGE (R847) -/
  | vsafeChange (v : Nat)
  /-- VHB_CHANGE (R847) -/
  | vhbChange (v : Nat)
  /-- ANG_CTL_WRITE (R283) -/
  | angCtlWrite (m : Fin 8) (z : AccSize) (v : Word)
  /-- CRK_EDGE (R291) -/
  | crkEdge
  /-- VIRTUAL_TOOTH (R292) -/
  | virtualTooth (d : Fin 2)
  /-- CRK_STALL (R295) -/
  | crkStall
  /-- CAM_EDGE (R298) -/
  | camEdge
  /-- PHASE_FLIP (R300) -/
  | phaseFlip (m : Fin 8)
  /-- RESYNC (R301) -/
  | resync (m : Fin 8)
  /-- CLR_CNT (R288) -/
  | clrCnt (m : Fin 8)
  /-- PARTNER_EDGE (R310) -/
  | partnerEdge
  /-- PARTNER_MISS (R312) -/
  | partnerMiss
  /-- ALT_EDGE (R313) -/
  | altEdge (ph : Fin 3) (rise : Bool)
  /-- GRD_UPDATE (R315) -/
  | grdUpdate (ampl : Nat) (mhz : Nat) (angle : Nat) (pherr : Int)
  /-- INV_FREQ_WRITE (R317) -/
  | invFreqWrite (m : Fin 8) (z : AccSize) (v : Word)
  /-- INV_CYCLE (R318) -/
  | invCycle
  /-- SYNC_SNAP (R322) -/
  | syncSnap (n : Fin 8)
  /-- TOOTH_LOG (R323) -/
  | toothLog (n : Fin 8)
  /-- SHAPE_SAVE (R324) -/
  | shapeSave (n : Fin 8)
  /-- SHAPE_LOAD (R324) -/
  | shapeLoad (n : Fin 8)
  /-- SLOT_SET (R327) -/
  | slotSet (n : Fin 8)
  /-- SLOT_CLEAR (R331) -/
  | slotClear (n : Fin 8)
  /-- SLOT_WAIT (R360) -/
  | slotWait (n : Fin 8)
  /-- SLOT_WAIT_TIMEOUT (R360) -/
  | slotWaitTimeout (n : Fin 8)
  /-- SLOT_READ (R361) -/
  | slotRead (n : Fin 8)
  /-- SLOT_ARMING_POINT (R333) -/
  | slotArmingPoint (ign : Bool)
  /-- SLOT_FIRE (R337) -/
  | slotFire (slot : Fin 256)
  /-- DWELL_START (R343) -/
  | dwellStart (slot : Fin 256)
  /-- DWELL_MAX (R345) -/
  | dwellMax (slot : Fin 256)
  /-- DWA_HOLD_EXPIRY (R346) -/
  | dwaHoldExpiry (c : Fin 4)
  /-- OUTPUT_END (R349) -/
  | outputEnd (slot : Fin 256)
  /-- AO_ROUTE_WRITE (R355) -/
  | aoRouteWrite (m : Fin 8) (k : Fin 32) (z : AccSize) (v : Word)
  /-- STAGING_WRITE (R335) -/
  | stagingWrite (m : Fin 8) (r : Fin 3) (c : Fin 4) (z : AccSize) (v : Word)
  /-- VR_EDGE (R363) -/
  | vrEdge (n : Fin 2) (peak : BitVec 16) (noise : BitVec 16)
  /-- HALL_EDGE (R367) -/
  | hallEdge (h : Fin 4) (level : Bool)
  /-- SENS_FAULT (R368) -/
  | sensFault (n : Fin 2) (code : Fin 4)
  /-- SAR_TRIGGER (R371) -/
  | sarTrigger (line : Fin 4) (delay : Fin 3)
  /-- SAR_CONVERSION_DONE (R373) -/
  | sarConversionDone (c : Fin 2) (value : BitVec 12)
  /-- SAR_PERIODIC (R370) -/
  | sarPeriodic
  /-- SAR_SWTRIG (R370) -/
  | sarSwtrig (m : Fin 8) (z : AccSize) (v : Word)
  /-- SAR_CAL_STEP (R372) -/
  | sarCalStep (fits : Bool)
  /-- KNOCK_SAMPLE (R374) -/
  | knockSample (x : Int) (y0 : Int) (y1 : Int)
  /-- KNOCK_WINDOW_CLOSE (R376) -/
  | knockWindowClose
  /-- KNOCK_WINDOW (R376) -/
  | knockWindow (n : Fin 8)
  /-- SAR_STREAM (R409) -/
  | sarStream (n : Fin 8)
  /-- OPD_LOG (R409) -/
  | opdLog (n : Fin 8)
  /-- COIL_LOG (R409) -/
  | coilLog (n : Fin 8)
  /-- LAM_LOG (R409) -/
  | lamLog (n : Fin 8)
  /-- LAM_PERIOD (R379) -/
  | lamPeriod (nernst : Nat) (ri : Nat) (nb : Nat) (sat : Bool)
  /-- LAM_PUMP_STG_WRITE (R381) -/
  | lamPumpStgWrite (m : Fin 8) (z : AccSize) (v : Word)
  /-- INJECTOR_OVERCURRENT (R385) -/
  | injectorOvercurrent (c : Fin 4)
  /-- INJ_DIAG_CHANGE (R386) -/
  | injDiagChange (c : Fin 4) (st : Fin 5)
  /-- OPENING_POINT_FRAME (R389) -/
  | openingPointFrame (c : Fin 4) (lost : Bool)
  /-- OPENING_DELAY_STEP (R388) -/
  | openingDelayStep (c : Fin 4) (measured : Nat)
  /-- FUEL_INJECTION_END (R390) -/
  | fuelInjectionEnd
  /-- FUEL_CYCLE (R391) -/
  | fuelCycle
  /-- IGN_TMAX (R397) -/
  | ignTmax (c : Fin 4)
  /-- IGN_DIAG_CHANGE (R397) -/
  | ignDiagChange (c : Fin 4) (st : Fin 5)
  /-- SOFT_ABORT_RAMP_END (R396) -/
  | softAbortRampEnd (c : Fin 4)
  /-- HB_PERIOD (R399) -/
  | hbPeriod (b : Fin 4) (cur : Int)
  /-- HB_STG_WRITE (R400) -/
  | hbStgWrite (m : Fin 8) (b : Fin 4) (z : AccSize) (v : Word)
  /-- HB_OVERCURRENT (R401) -/
  | hbOvercurrent (b : Fin 4)
  /-- HB_FAULT (R401) -/
  | hbFault (b : Fin 4) (ot : Bool)
  /-- STEP_MOVE (R410) -/
  | stepMove (n : Fin 8) (k : Nat)
  /-- STEP_PAUSE (R403) -/
  | stepPause
  /-- CARRIER_PERIOD_START (R413) -/
  | carrierPeriodStart (g : Fin 3) (peak : Bool)
  /-- RESYNC_TRIGGER (R414) -/
  | resyncTrigger (g : Fin 3) (frac : Fin 32)
  /-- DUTY_STG_WRITE (R417) -/
  | dutyStgWrite (m : Fin 8) (l : Fin 8) (z : AccSize) (v : Word)
  /-- GRP_EN_WRITE (R419) -/
  | grpEnWrite (m : Fin 8) (z : AccSize) (v : Word)
  /-- DEAD_TIME_STEP (R421) -/
  | deadTimeStep (g : Fin 3) (delays : List (Option Nat))
  /-- DELAY_LINE_SWAP (R423) -/
  | delayLineSwap (k : Fin 16) (forced : Bool)
  /-- SD_OUTPUT (R425) -/
  | sdOutput (k : Fin 12) (sum : Nat)
  /-- SD_FAIL (R428) -/
  | sdFail (k : Fin 12)
  /-- FAST_COMPARATOR_CROSSING (R429) -/
  | fastComparatorCrossing (k : Fin 12) (sum : Nat)
  /-- TRIP_INPUT (R430) -/
  | tripInput (ch : Fin 14)
  /-- TRIP_INPUT_RELEASE (R432) -/
  | tripInputRelease (ch : Fin 14)
  /-- SAFETY_PWM_TRIP (R433) -/
  | safetyPwmTrip (b : Bool)
  /-- TRIP_LATCH_CLEAR (R432) -/
  | tripLatchClear (m : Fin 8) (z : AccSize) (v : Word)
  /-- PLAUSIBILITY_CHECK (R436) -/
  | plausibilityCheck (g : Fin 3)
  /-- OPEN_PHASE_CHECK (R440) -/
  | openPhaseCheck
  /-- INV_FAULT (R441) -/
  | invFault
  /-- ZC_REACHED (R441) -/
  | zcReached
  /-- VEH_T_EXPIRY (R441) -/
  | vehTExpiry
  /-- INVF_SEQUENCE_END (R443) -/
  | invfSequenceEnd
  /-- INVF_CLR (R443) -/
  | invfClr (m : Fin 8)
  /-- TCC_CLOSE_EDGE (R445) -/
  | tccCloseEdge
  /-- XFER_PAR_TMAX (R446) -/
  | xferParTmax
  /-- REC_MOTOR_WRITE (R447) -/
  | recMotorWrite (m : Fin 8) (z : AccSize) (v : Word)
  /-- CRANK_END (R448) -/
  | crankEnd
  /-- EGV_HALF_SWITCH (R450) -/
  | egvHalfSwitch
  /-- EGV_PERIOD_END (R451) -/
  | egvPeriodEnd
  /-- DUTY_STAGE (R455) -/
  | dutyStage (n : Fin 8)
  /-- TRIP_WAIT (R455) -/
  | tripWait (n : Fin 8)
  /-- SD_STREAM (R455) -/
  | sdStream (n : Fin 8)
  /-- PSC_SNAP (R455) -/
  | pscSnap (n : Fin 8)
  /-- EGV_LOG (R455) -/
  | egvLog (n : Fin 8)
  /-- CP_CYCLE_START (R457) -/
  | cpCycleStart
  /-- CP_OUT_WRITE (R458) -/
  | cpOutWrite (m : Fin 8) (z : AccSize) (v : Word)
  /-- PILOT_SAMPLE (R465) -/
  | pilotSample (hi : Bool) (v : Int)
  /-- CP_STALE (R468) -/
  | cpStale
  /-- PP_MEASUREMENT (R469) -/
  | ppMeasurement (mv : Nat)
  /-- LOCK_ACT (R470) -/
  | lockAct (n : Fin 8) (fb : Bool)
  /-- LOCK_LOST (R471) -/
  | lockLost (level : Bool)
  /-- CLOSE_REQ (R473) -/
  | closeReq (m : Fin 8)
  /-- ILK_WITHDRAW (R474) -/
  | ilkWithdraw
  /-- OPEN_REQ (R475) -/
  | openReq (m : Fin 8)
  /-- WELD_CLR (R477) -/
  | weldClr (m : Fin 8)
  /-- MIRROR_TELEMETRY (R476) -/
  | mirrorTelemetry (input : Fin 16) (level : Bool)
  /-- CLOSE_FAIL (R476) -/
  | closeFail
  /-- WELD_DETECT (R477) -/
  | weldDetect
  /-- RDC_UPDATE (R480) -/
  | rdcUpdate (v : Int)
  /-- RDC_SENSOR (R484) -/
  | rdcSensor
  /-- RDC_TRIP_CLEAR (R485) -/
  | rdcTripClear (m : Fin 8)
  /-- SELFTEST (R486) -/
  | selftest (n : Fin 8)
  /-- ST_EXPIRED (R487) -/
  | stExpired
  /-- RDC_AC_UPDATE (R489) -/
  | rdcAcUpdate (v : Nat)
  /-- IMD_PERIOD_END (R492) -/
  | imdPeriodEnd (dvm : Int) (du : Int) (drift : Int) (ampl : Nat) (pe : Bool)
  /-- IMD_CONN_FAIL (R495) -/
  | imdConnFail
  /-- IT_ACTIVE_CHANGE (R497) -/
  | itActiveChange
  /-- IMD_SETTLING_END (R497) -/
  | imdSettlingEnd
  /-- BEACON_SEND (R499) -/
  | beaconSend
  /-- BEACON_LOSS (R499) -/
  | beaconLoss
  /-- FRAME_TX (R503) -/
  | frameTx (n : Fin 8) (transmissions : Nat) (ack : Bool)
  /-- FRAME_RX (R503) -/
  | frameRx (n : Fin 8)
  /-- PLM_FRAME_ARRIVAL (R503) -/
  | plmFrameArrival (beacon : Bool) (frame : List Byte) (encrypted : Bool) (management : Bool) (sound : Option (List Byte × List Nat))
  /-- SOUND_CAPTURE (R501) -/
  | soundCapture (n : Fin 8)
  /-- CP_LOG (R503) -/
  | cpLog (n : Fin 8)
  /-- STATE_WAIT (R503) -/
  | stateWait (n : Fin 8)
  /-- RCM_LOG (R503) -/
  | rcmLog (n : Fin 8)
  /-- MET_CONVERTER_START (R512) -/
  | metConverterStart (cal : List (Int × Int × Int))
  /-- MET_SAMPLE (R528) -/
  | metSample (codes : List Int) (delayed : List Int)
  /-- MET_WINDOW (R526) -/
  | metWindow (freq : Nat) (qs : List Int)
  /-- REEL_PHASE (R513) -/
  | reelPhase (avg : Int)
  /-- REEL_OVERLAP_START (R518) -/
  | reelOverlapStart
  /-- REEL_TAKEOVER (R515) -/
  | reelTakeover (delay : Int)
  /-- CONVERTER_STUCK (R522) -/
  | converterStuck (c : Fin 7)
  /-- CLK_DOUBT_CHG (R533) -/
  | clkDoubtChg
  /-- SEAL_OPENING (R536) -/
  | sealOpening (ok : Bool)
  /-- SEAL_CLOSING (R541) -/
  | sealClosing
  /-- SL_WRITE (R540) -/
  | slWrite (m : Fin 8) (z : AccSize) (v : Word)
  /-- MET_PARAM_DATA_WRITE (R544) -/
  | metParamDataWrite (m : Fin 8) (v : Word)
  /-- CAL_STEP (R545) -/
  | calStep (n : Fin 8) (meas : Int) (h1 : Int) (h2 : Int) (freq : Nat)
  /-- CAL_COMMIT (R546) -/
  | calCommit (n : Fin 8)
  /-- MET_SNAP (R554) -/
  | metSnap (n : Fin 8)
  /-- WAVE_CAPTURE (R554) -/
  | waveCapture (n : Fin 8)
  /-- LOG_READ (R554) -/
  | logRead (n : Fin 8)
  /-- MET_SNAP_SEQ_READ (R552) -/
  | metSnapSeqRead (m : Fin 8)
  /-- M_STOP (R507) -/
  | mStop
  /-- TARIFF_SWITCH (R562) -/
  | tariffSwitch
  /-- DST_CHANGE (R564) -/
  | dstChange
  /-- CAL_LOAD (R560) -/
  | calLoad (n : Fin 8)
  /-- CALENDAR_ACTIVATION (R565) -/
  | calendarActivation
  /-- MD_PERIOD_END (R566) -/
  | mdPeriodEnd
  /-- MD_RESET (R568) -/
  | mdReset (n : Fin 8)
  /-- SESSION_START (R569) -/
  | sessionStart (n : Fin 8)
  /-- SESSION_END (R571) -/
  | sessionEnd (n : Fin 8)
  /-- SIGN_RETRY (R573) -/
  | signRetry
  /-- RECORD_READ (R574) -/
  | recordRead (n : Fin 8)
  /-- JOURNAL_ENTRY (R577) -/
  | journalEntry (ok : Bool)
  /-- PF_SAVE (R578) -/
  | pfSave (ok : Bool)
  /-- BILLING_RESTORE (R579) -/
  | billingRestore
  /-- RESTORED_SESSION_END (R580) -/
  | restoredSessionEnd
  /-- DISP_LIST (R583) -/
  | dispList (n : Fin 8)
  /-- DISPLAY_DWELL_EXPIRY (R583) -/
  | displayDwellExpiry
  /-- DISP_STEP (R584) -/
  | dispStep
  /-- INFO_SET (R585) -/
  | infoSet (n : Fin 8)
  /-- BIL_SNAP (R587) -/
  | bilSnap (n : Fin 8)
  /-- BIL_SNAP_SEQ_READ (R590) -/
  | bilSnapSeqRead (m : Fin 8)
  /-- KEY_READY (R603) -/
  | keyReady
  /-- ROOT_NEW (R595) -/
  | rootNew
  /-- KEY_REQUEST (R606) -/
  | keyRequest (w : Win) (n : Fin 8) (upset : Bool)
  /-- KEY_PATROL (R609) -/
  | keyPatrol (upset : Bool)
  /-- KEY_UPDATE (R614) -/
  | keyUpdate (n : Fin 8) (ok : Bool)
  /-- PUBKEY_READ (R632) -/
  | pubkeyRead (n : Fin 8)
  /-- TAMPER_EVENT (R620) -/
  | tamperEvent (src : Fin 8) (stands : Bool)
  /-- TAMPER_SAMPLE (R618) -/
  | tamperSample (balls : BitVec 4) (meshIn : Bool)
  /-- CALENDAR_SECOND (R624) -/
  | calendarSecond
  /-- CLOCK_SET (R627) -/
  | clockSet (n : Fin 8)
  /-- CALENDAR_SECONDS_READ (R625) -/
  | calendarSecondsRead (m : Fin 8) (sub : BitVec 15)
  /-- GCM_ENC (R640) -/
  | gcmEnc (n : Fin 8)
  /-- GCM_DEC (R646) -/
  | gcmDec (n : Fin 8)
  /-- CCM_ENC (R640) -/
  | ccmEnc (n : Fin 8)
  /-- CCM_DEC (R646) -/
  | ccmDec (n : Fin 8)
  /-- CTR_ENC (R640) -/
  | ctrEnc (n : Fin 8)
  /-- CTR_DEC (R641) -/
  | ctrDec (n : Fin 8)
  /-- CMAC (R647) -/
  | cmac (n : Fin 8)
  /-- SHA256 (R648) -/
  | sha256 (n : Fin 8)
  /-- SHA384 (R648) -/
  | sha384 (n : Fin 8)
  /-- HMAC256 (R648) -/
  | hmac256 (n : Fin 8)
  /-- HMAC384 (R648) -/
  | hmac384 (n : Fin 8)
  /-- CRY_CTX_LOST (R645) -/
  | cryCtxLost (n : Fin 8)
  /-- ECDSA_SIGN (R653) -/
  | ecdsaSign (n : Fin 8) (faulty : Bool)
  /-- ECDSA_VERIFY (R654) -/
  | ecdsaVerify (n : Fin 8)
  /-- ECDH (R654) -/
  | ecdh (n : Fin 8)
  /-- EPH_GEN (R655) -/
  | ephGen (n : Fin 8)
  /-- ECDH_EPH (R655) -/
  | ecdhEph (n : Fin 8)
  /-- ED448_SIGN (R651) -/
  | ed448Sign (n : Fin 8) (faulty : Bool)
  /-- ED448_VERIFY (R651) -/
  | ed448Verify (n : Fin 8)
  /-- RAND (R664) -/
  | rand (n : Fin 8)
  /-- TRNG_STARTUP (R660) -/
  | trngStartup (health : Bool) (kat : Bool)
  /-- TRNG_HEALTH (R658) -/
  | trngHealth (apt : Bool)
  /-- DRBG_RESEED (R662) -/
  | drbgReseed
  /-- BANK_OPEN (R683) -/
  | bankOpen (n : Fin 8)
  /-- IMAGE_WRITE (R684) -/
  | imageWrite (n : Fin 8)
  /-- VERIFY (R686) -/
  | verify (n : Fin 8)
  /-- ACTIVATE (R687) -/
  | activate (n : Fin 8)
  /-- COMMIT (R712) -/
  | commit (n : Fin 8)
  /-- CUTIN_ARM (R688) -/
  | cutinArm (n : Fin 8)
  /-- E_SWITCH (R689) -/
  | eSwitch
  /-- P_SWITCH (R690) -/
  | pSwitch
  /-- CUTIN_SWITCH (R691) -/
  | cutinSwitch (c : Fin 4)
  /-- COLD_SWITCH (R693) -/
  | coldSwitch (c : Fin 4)
  /-- STOP_SWITCH (R694) -/
  | stopSwitch (c : Fin 4)
  /-- STATE_SEND (R698) -/
  | stateSend (n : Fin 8)
  /-- STATE_RECV (R698) -/
  | stateRecv (n : Fin 8)
  /-- UPD_OWN_MOVE (R699) -/
  | updOwnMove (m : Fin 8) (z : AccSize)
  /-- UPD_OWN_MOVE_BACK (R708) -/
  | updOwnMoveBack (m : Fin 8) (z : AccSize)
  /-- UPD_HEALTH_WRITE (R706) -/
  | updHealthWrite (m : Fin 8) (z : AccSize) (v : Word)
  /-- HEALTH_WINDOW_CLOSE (R706) -/
  | healthWindowClose (c : Fin 4)
  /-- UPD_REVERT_REQ (R707) -/
  | updRevertReq (c : Fin 4)
  /-- UPD_REVACK (R708) -/
  | updRevack (m : Fin 8) (z : AccSize) (v : Word)
  /-- REVERT_TIMEOUT (R708) -/
  | revertTimeout (c : Fin 4)
  /-- RESET_PATH (R710) -/
  | resetPath
  /-- SAFE_NEW_TIMEOUT (R705) -/
  | safeNewTimeout
  /-- RECOVERY_DATA (R713) -/
  | recoveryData (payload : List Byte) (crc : BitVec 16)
  /-- RECOVERY_END (R713) -/
  | recoveryEnd (payload : List Byte) (crc : BitVec 16)
  /-- SAF_CYCLE (R717) -/
  | safCycle (c : Fin 2)
  /-- SAF_INPUT_SAMPLE (R725) -/
  | safInputSample (c : Fin 2) (v : BitVec 16)
  /-- TEST_PULSE (R728) -/
  | testPulse (c : Fin 2) (k : Fin 4) (mid : BitVec 16) (after : BitVec 16)
  /-- SAF_WATCHDOG (R723) -/
  | safWatchdog (c : Fin 2)
  /-- SAF_CLOCK_HALT (R724) -/
  | safClockHalt (c : Fin 2)
  /-- ELEMENT_READBACK (R735) -/
  | elementReadback (c : Fin 2) (n : Fin 4) (on : Bool)
  /-- DARK_TEST (R736) -/
  | darkTest (c : Fin 2) (n : Fin 4) (off : Bool)
  /-- EDM_CHECK (R738) -/
  | edmCheck (n : Fin 4)
  /-- MANUAL_RESET (R747) -/
  | manualReset
  /-- STOP1_EXPIRY (R748) -/
  | stop1Expiry (f : Fin 8)
  /-- SAF_COMM_WRITE (R755) -/
  | safCommWrite (m : Fin 8) (z : AccSize) (v : Word)
  /-- COMMISSION_PROGRAM (R755) -/
  | commissionProgram (ok : Bool)
  /-- COMMISSION_TIMEOUT (R755) -/
  | commissionTimeout
  /-- SAF_START (R752) -/
  | safStart (c : Fin 2) (test : Bool)
  /-- SAF_CMD_UNLOCK (R743) -/
  | safCmdUnlock (m : Fin 8) (z : AccSize) (v : Word)
  /-- TCC_OPEN_EDGE (R733) -/
  | tccOpenEdge
  /-- LS_SET (R763) -/
  | lsSet (m : Fin 8) (z : AccSize) (v : Word)
  /-- LS_CLR (R763) -/
  | lsClr (m : Fin 8) (z : AccSize) (v : Word)
  /-- LS_LCLR (R769) -/
  | lsLclr (m : Fin 8) (z : AccSize) (v : Word)
  /-- LS_FORWARD (R765) -/
  | lsForward
  /-- LSIN_EDGE (R762) -/
  | lsinEdge (n : Fin 16) (level : Bool)
  /-- LS_CURRENT_LIMIT (R766) -/
  | lsCurrentLimit (n : Fin 16) (limited : Bool) (temp : Int)
  /-- LS_RESTART (R767) -/
  | lsRestart (n : Fin 16) (temp : Int)
  /-- RST_CNT_CLEAR (R768) -/
  | rstCntClear (n : Fin 16)
  /-- LS_DERATE_STEP (R770) -/
  | lsDerateStep (n : Fin 16) (temp : Int)
  /-- LS_OVERLOAD (R771) -/
  | lsOverload (n : Fin 16)
  /-- LS_OFF_TEST (R774) -/
  | lsOffTest (n : Fin 16) (stbHigh : Bool) (olHigh : Bool)
  /-- LS_CURRENT_SAMPLE (R777) -/
  | lsCurrentSample (n : Fin 16) (code : BitVec 12) (seq : BitVec 8)
  /-- CUR_STREAM (R783) -/
  | curStream (n : Fin 8)
  /-- DIAG_WAIT (R783) -/
  | diagWait (n : Fin 8)
  /-- DIAG_SNAP (R783) -/
  | diagSnap (n : Fin 8)
  /-- UART_CHAR_RECEIVED (R788) -/
  | uartCharReceived (p : Fin 6) (ch : BitVec 9) (pe : Bool) (fe : Bool) (brk : Bool)
  /-- UART_CHAR_SENT (R790) -/
  | uartCharSent (p : Fin 6)
  /-- U_DATA_READ (R792) -/
  | uDataRead (m : Fin 8) (p : Fin 6)
  /-- U_DATA_WRITE (R790) -/
  | uDataWrite (m : Fin 8) (p : Fin 6) (z : AccSize) (v : Word)
  /-- UART_WAKE (R797) -/
  | uartWake (p : Fin 6) (ch : BitVec 9)
  /-- FLOW_SEND (R800) -/
  | flowSend (p : Fin 6)
  /-- XOFF_TMO (R801) -/
  | xoffTmo (p : Fin 6)
  /-- UART_TX (R807) -/
  | uartTx (p : Fin 6)
  /-- UART_RX (R807) -/
  | uartRx (p : Fin 6)
  /-- UART_RX_IDLE (R807) -/
  | uartRxIdle (p : Fin 6)
  /-- BREAK (R807) -/
  | uartBreak (p : Fin 6)
  /-- KLINE_INIT_FAST (R804) -/
  | klineInitFast (p : Fin 6)
  /-- KLINE_INIT_5BAUD (R805) -/
  | klineInit5Baud (p : Fin 6) (sound : Bool) (period : Nat)
  /-- KLINE_ECHO_MISMATCH (R803) -/
  | klineEchoMismatch (p : Fin 6)
  /-- CAN_TX (R811) -/
  | canTx (c : Fin 2) (outcome : Fin 3) (errs : BitVec 5) (sof : Nat)
  /-- CAN_RX (R811) -/
  | canRx (c : Fin 2)
  /-- CAN_FRAME_RECEIVED (R810) -/
  | canFrameReceived (c : Fin 2) (w0 : Word) (w1 : Word) (data : List Byte) (sof : Nat) (errs : Nat)
  /-- CAN_BUS_OFF (R814) -/
  | canBusOff (c : Fin 2)
  /-- CAN_RECOVER (R814) -/
  | canRecover (m : Fin 8) (c : Fin 2) (z : AccSize) (v : Word)
  /-- CAN_RECOVERY_DONE (R814) -/
  | canRecoveryDone (c : Fin 2)
  /-- CAN_SYNCHRONISED (R836) -/
  | canSynchronised (c : Fin 2)
  /-- ETH_TX (R816) -/
  | ethTx (outcome : Fin 3) (sfd : Nat)
  /-- ETH_RX (R818) -/
  | ethRx
  /-- ETH_FRAME_RECEIVED (R817) -/
  | ethFrameReceived (frame : List Byte) (fcsOk : Bool) (sfd : Nat)
  /-- MDIO (R819) -/
  | mdio (data : BitVec 16)
  /-- SPI_XFER (R821) -/
  | spiXfer (p : Fin 3) (n : Fin 2) (rx : List Byte) (filled : Bool)
  /-- SPI_PSEL_RISE (R822) -/
  | spiPselRise (p : Fin 3) (n : Fin 2)
  /-- SPI_PERIPHERAL_WORD (R822) -/
  | spiPeripheralWord (p : Fin 3)
  /-- I2C_WRITE (R824) -/
  | i2cWrite (p : Fin 2) (e : I2cEnd)
  /-- I2C_READ (R824) -/
  | i2cRead (p : Fin 2) (e : I2cEnd) (rx : List Byte)
  /-- I2C_WRITE_READ (R824) -/
  | i2cWriteRead (p : Fin 2) (e : I2cEnd) (rx : List Byte)
  /-- BUS_CLEAR (R824) -/
  | busClear (p : Fin 2) (sda : Bool)
  /-- I2C_SCL_TIMEOUT (R824) -/
  | i2cSclTimeout (p : Fin 2)
  /-- I2C_TARGET_ADDRESSED (R825) -/
  | i2cTargetAddressed (p : Fin 2) (addr : BitVec 10) (general : Bool) (rd : Bool)
  /-- TGT_RX (R825) -/
  | tgtRx (p : Fin 2) (data : List Byte)
  /-- TGT_TX (R825) -/
  | tgtTx (p : Fin 2) (k : Nat)
  /-- SETUP_WAIT (R829) -/
  | setupWait (pkt : List Byte)
  /-- EP0_IN (R829) -/
  | ep0In
  /-- EP0_OUT (R829) -/
  | ep0Out (pkt : List Byte)
  /-- IN_XFER (R829) -/
  | inXfer (n : Fin 4)
  /-- OUT_XFER (R829) -/
  | outXfer (n : Fin 4) (pkt : List Byte)
  /-- USB_BUS_RESET (R827) -/
  | usbBusReset
  /-- USB_SUSPEND (R827) -/
  | usbSuspend
  /-- USB_RESUME (R827) -/
  | usbResume (m : Fin 8) (z : AccSize) (v : Word)
  /-- USB_HOST_RESUME (R827) -/
  | usbHostResume
  /-- USB_SOF (R827) -/
  | usbSof (frame : BitVec 11)
  /-- USB_ADDR_WRITE (R828) -/
  | usbAddrWrite
  /-- USB_VBUS_CHANGE (R827) -/
  | usbVbusChange (level : Bool)
  /-- PORT_CLK_LOST (R836) -/
  | portClkLost (p : Fin 4)
  /-- PORT_CLK_RESTORED (R836) -/
  | portClkRestored (p : Fin 4)
  /-- JTAG_AUTH (R832) -/
  | jtagAuth (response : Option (Word × List Byte × List Byte))
  /-- JTAG_DBG_ACCESS (R833) -/
  | jtagDbgAccess (o : DbgOp)
  /-- JTAG_BOUNDARY_SCAN (R834) -/
  | jtagBoundaryScan
  /-- DBG_END (R835) -/
  | dbgEnd
  deriving DecidableEq, Repr

end Sys2Proof
end

