-- ==== Sys2Proof/Decode.lean ====
section
/-! DEFINITION. The words that spell commands: the opcode table gives none of its rows any bits. -/
namespace Sys2Proof

/-- The command that a word spells by the opcode table's bits. No row of the table has bits, so no word spells one. -/
def decodeTableWord (_nbits _w : Nat) : Option Instr := none

end Sys2Proof
end

