-- ==== Sys2Proof/Machine/Hash.lean ====
section
/-! DEFINITION. SHA-256, SHA-384 and SHA-512 (FIPS 180-4), which the part computes over sections, images, reports and
messages (R271, and chapters 13, 15 and 16). -/
namespace Sys2Proof.Machine

/-- The first 80 round constants of SHA-512; their high words are those of SHA-256 (FIPS 180-4). -/
def shaK : List Nat :=
  [0x428a2f98d728ae22, 0x7137449123ef65cd, 0xb5c0fbcfec4d3b2f, 0xe9b5dba58189dbbc, 0x3956c25bf348b538, 0x59f111f1b605d019,
   0x923f82a4af194f9b, 0xab1c5ed5da6d8118, 0xd807aa98a3030242, 0x12835b0145706fbe, 0x243185be4ee4b28c, 0x550c7dc3d5ffb4e2,
   0x72be5d74f27b896f, 0x80deb1fe3b1696b1, 0x9bdc06a725c71235, 0xc19bf174cf692694, 0xe49b69c19ef14ad2, 0xefbe4786384f25e3,
   0x0fc19dc68b8cd5b5, 0x240ca1cc77ac9c65] ++
  [0x2de92c6f592b0275, 0x4a7484aa6ea6e483, 0x5cb0a9dcbd41fbd4, 0x76f988da831153b5, 0x983e5152ee66dfab, 0xa831c66d2db43210,
   0xb00327c898fb213f, 0xbf597fc7beef0ee4, 0xc6e00bf33da88fc2, 0xd5a79147930aa725, 0x06ca6351e003826f, 0x142929670a0e6e70,
   0x27b70a8546d22ffc, 0x2e1b21385c26c926, 0x4d2c6dfc5ac42aed, 0x53380d139d95b3df, 0x650a73548baf63de, 0x766a0abb3c77b2a8,
   0x81c2c92e47edaee6, 0x92722c851482353b] ++
  [0xa2bfe8a14cf10364, 0xa81a664bbc423001, 0xc24b8b70d0f89791, 0xc76c51a30654be30, 0xd192e819d6ef5218, 0xd69906245565a910,
   0xf40e35855771202a, 0x106aa07032bbd1b8, 0x19a4c116b8d2d0c8, 0x1e376c085141ab53, 0x2748774cdf8eeb99, 0x34b0bcb5e19b48a8,
   0x391c0cb3c5c95a63, 0x4ed8aa4ae3418acb, 0x5b9cca4f7763e373, 0x682e6ff3d6b2b8a3, 0x748f82ee5defb2fc, 0x78a5636f43172f60,
   0x84c87814a1f0ab72, 0x8cc702081a6439ec] ++
  [0x90befffa23631e28, 0xa4506cebde82bde9, 0xbef9a3f7b2c67915, 0xc67178f2e372532b, 0xca273eceea26619c, 0xd186b8c721c0c207,
   0xeada7dd6cde0eb1e, 0xf57d4f7fee6ed178, 0x06f067aa72176fba, 0x0a637dc5a2c898a6, 0x113f9804bef90dae, 0x1b710b35131c471b,
   0x28db77f523047d84, 0x32caab7b40c72493, 0x3c9ebe0a15c9bebc, 0x431d67c49c100d4c, 0x4cc5d4becb3e42b6, 0x597f299cfc657e2a,
   0x5fcb6fab3ad6faec, 0x6c44198c4a475817]

/-- Right rotation of a `w`-bit word. -/
def rotr (w x k : Nat) : Nat := (x >>> k) ||| ((x <<< (w - k)) % 2 ^ w)

/-- The bitwise complement of a `w`-bit word. -/
def notW (w x : Nat) : Nat := 2 ^ w - 1 - x % 2 ^ w

/-- The parameters in which SHA-256 and the SHA-512 family differ: word width, rounds, rotations. -/
structure ShaAlg where
  w : Nat
  rounds : Nat
  bs0 : Nat × Nat × Nat
  bs1 : Nat × Nat × Nat
  ss0 : Nat × Nat × Nat
  ss1 : Nat × Nat × Nat
  iv : List Nat
  outWords : Nat
  deriving DecidableEq, Repr

/-- SHA-256. -/
def sha256 : ShaAlg :=
  ⟨32, 64, (2, 13, 22), (6, 11, 25), (7, 18, 3), (17, 19, 10),
   [0x6a09e667, 0xbb67ae85, 0x3c6ef372, 0xa54ff53a, 0x510e527f, 0x9b05688c, 0x1f83d9ab, 0x5be0cd19], 8⟩

/-- SHA-512. -/
def sha512 : ShaAlg :=
  ⟨64, 80, (28, 34, 39), (14, 18, 41), (1, 8, 7), (19, 61, 6),
   [0x6a09e667f3bcc908, 0xbb67ae8584caa73b, 0x3c6ef372fe94f82b, 0xa54ff53a5f1d36f1, 0x510e527fade682d1, 0x9b05688c2b3e6c1f,
    0x1f83d9abfb41bd6b, 0x5be0cd19137e2179], 8⟩

/-- SHA-384: SHA-512 from another start, cut to six words. -/
def sha384 : ShaAlg :=
  { sha512 with
    iv := [0xcbbb9d5dc1059ed8, 0x629a292a367cd507, 0x9159015a3070dd17, 0x152fecd8f70e5939, 0x67332667ffc00b31,
           0x8eb44a8768581511, 0xdb0c2e0d64f98fa7, 0x47b5481dbefa4fa4],
    outWords := 6 }

/-- The big sigma functions. -/
def bigSigma (w : Nat) (r : Nat × Nat × Nat) (x : Nat) : Nat := rotr w x r.1 ^^^ rotr w x r.2.1 ^^^ rotr w x r.2.2
/-- The small sigma functions: two rotations and a shift. -/
def smallSigma (w : Nat) (r : Nat × Nat × Nat) (x : Nat) : Nat := rotr w x r.1 ^^^ rotr w x r.2.1 ^^^ (x >>> r.2.2)

/-- A number from bytes, most significant first. -/
def beNat (l : List Byte) : Nat := l.foldl (fun n b => n * 256 + b.toNat) 0

/-- `n` bytes of a number, most significant first. -/
def natBe (n x : Nat) : List Byte := (List.range n).map (fun i => BitVec.ofNat 8 (x >>> (8 * (n - 1 - i))))

/-- A number from bytes, least significant first. -/
def leNat (l : List Byte) : Nat := l.foldr (fun b n => n * 256 + b.toNat) 0

/-- `n` bytes of a number, least significant first. -/
def natLe (n x : Nat) : List Byte := (List.range n).map (fun i => BitVec.ofNat 8 (x >>> (8 * i)))

/-- The message schedule, newest word first, extended by `k` words. -/
def shaExtend (a : ShaAlg) : Nat → List Nat → List Nat
  | 0, l => l
  | k + 1, l =>
    shaExtend a k ((smallSigma a.w a.ss1 (l.getD 1 0) + l.getD 6 0 + smallSigma a.w a.ss0 (l.getD 14 0) + l.getD 15 0) % 2 ^ a.w :: l)

/-- One round on the eight working words. -/
def shaRound (a : ShaAlg) (v : List Nat) (kw : Nat × Nat) : List Nat :=
  let g (i : Nat) : Nat := v.getD i 0
  let ch := (g 4 &&& g 5) ^^^ (notW a.w (g 4) &&& g 6)
  let maj := (g 0 &&& g 1) ^^^ (g 0 &&& g 2) ^^^ (g 1 &&& g 2)
  let t1 := g 7 + bigSigma a.w a.bs1 (g 4) + ch + kw.1 + kw.2
  let t2 := bigSigma a.w a.bs0 (g 0) + maj
  [(t1 + t2) % 2 ^ a.w, g 0, g 1, g 2, (g 3 + t1) % 2 ^ a.w, g 4, g 5, g 6]

/-- One block of `16 * w / 8` bytes. -/
def shaBlock (a : ShaAlg) (h : List Nat) (block : List Byte) : List Nat :=
  let ws := (List.range 16).map (fun i => beNat ((block.drop (i * (a.w / 8))).take (a.w / 8)))
  let sched := (shaExtend a (a.rounds - 16) ws.reverse).reverse
  let ks := (shaK.take a.rounds).map (fun k => k >>> (64 - a.w))
  let v := (ks.zip sched).foldl (shaRound a) h
  (h.zip v).map (fun p => (p.1 + p.2) % 2 ^ a.w)

/-- Whole blocks, `n` of them. -/
def shaBlocks (a : ShaAlg) : Nat → List Nat → List Byte → List Nat
  | 0, h, _ => h
  | n + 1, h, m => shaBlocks a n (shaBlock a h (m.take (2 * a.w))) (m.drop (2 * a.w))

/-- FIPS 180-4 padding of a message of `len` bytes in all, whose last part is `m`. -/
def shaPad (a : ShaAlg) (len : Nat) (m : List Byte) : List Byte :=
  let blk := 2 * a.w
  let z := (blk - (m.length + 1 + a.w / 4) % blk) % blk
  m ++ [0x80#8] ++ List.replicate z 0#8 ++ natBe (a.w / 4) (8 * len)

/-- The hash of a message. -/
def shaHash (a : ShaAlg) (m : List Byte) : List Byte :=
  let p := shaPad a m.length m
  ((shaBlocks a (p.length / (2 * a.w)) a.iv p).take a.outWords).flatMap (natBe (a.w / 8))

/-- HMAC (FIPS 198-1). -/
def hmac (a : ShaAlg) (key m : List Byte) : List Byte :=
  let blk := 2 * a.w
  let k0 := if blk < key.length then shaHash a key else key
  let k := k0 ++ List.replicate (blk - k0.length) 0#8
  shaHash a (k.map (· ^^^ 0x5c#8) ++ shaHash a (k.map (· ^^^ 0x36#8) ++ m))

end Sys2Proof.Machine
end

