-- ==== Sys2Proof/Machine/Aes.lean ====
section
/-! DEFINITION. AES (FIPS 197) and the modes that chapters 14 and 15 name: CTR, CMAC, GCM, CCM, the counter-mode KDF of
R593 and CTR_DRBG of R661. Blocks and keys are lists of bytes. -/
namespace Sys2Proof.Machine

/-- Multiplication by x in GF(2^8). -/
def xtime (b : Byte) : Byte := if b.getLsbD 7 then (b <<< 1) ^^^ 0x1B#8 else b <<< 1

/-- Multiplication in GF(2^8). -/
def gmul (a b : Byte) : Byte :=
  ((List.range 8).foldl (fun (p : Byte × Byte) i => (if b.getLsbD i then p.1 ^^^ p.2 else p.1, xtime p.2)) (0#8, a)).1

/-- The inverse in GF(2^8), 0 for 0: the 254th power. -/
def ginv (b : Byte) : Byte :=
  (List.range 6).foldl (fun (r : Byte) _ => gmul (gmul r r) b) b |> fun r => gmul r r

/-- The AES S-box. -/
def sbox (b : Byte) : Byte :=
  let i := ginv b
  i ^^^ i.rotateLeft 1 ^^^ i.rotateLeft 2 ^^^ i.rotateLeft 3 ^^^ i.rotateLeft 4 ^^^ 0x63#8

/-- Byte-wise exclusive or, as long as the shorter list. -/
def xorB (a b : List Byte) : List Byte := List.zipWith (· ^^^ ·) a b

/-- Key expansion: words newest first; `k` words still to make, number `i` next. -/
def aesExpand (nk : Nat) : Nat → Nat → Byte → List (List Byte) → List (List Byte)
  | 0, _, _, ws => ws
  | k + 1, i, rc, ws =>
    let t := ws.getD 0 []
    let old := ws.getD (nk - 1) []
    if i % nk = 0 then
      let s := ((t.drop 1) ++ (t.take 1)).map sbox
      aesExpand nk k (i + 1) (xtime rc) (xorB old (xorB s [rc, 0#8, 0#8, 0#8]) :: ws)
    else if 6 < nk ∧ i % nk = 4 then aesExpand nk k (i + 1) rc (xorB old (t.map sbox) :: ws)
    else aesExpand nk k (i + 1) rc (xorB old t :: ws)

/-- A list cut into pieces of `n`, `k` of them. -/
def chunks {α : Type} (n : Nat) : Nat → List α → List (List α)
  | 0, _ => []
  | k + 1, l => l.take n :: chunks n k (l.drop n)

/-- The round keys of a 16- or 32-byte key. -/
def aesKeys (key : List Byte) : List (List Byte) :=
  let nk := key.length / 4
  let ws := (aesExpand nk (4 * (nk + 7) - nk) nk 1#8 (chunks 4 nk key).reverse).reverse
  (chunks 4 (nk + 7) ws).map List.flatten

/-- ShiftRows on the column-major state. -/
def shiftRows (b : List Byte) : List Byte := (List.range 16).map (fun i => b.getD (4 * ((i / 4 + i % 4) % 4) + i % 4) 0#8)

/-- MixColumns. -/
def mixColumns (b : List Byte) : List Byte :=
  (List.range 16).map (fun i =>
    let g (r : Nat) : Byte := b.getD (4 * (i / 4) + (i % 4 + r) % 4) 0#8
    xtime (g 0) ^^^ (xtime (g 1) ^^^ g 1) ^^^ g 2 ^^^ g 3)

/-- AES encryption of one block under expanded keys. -/
def aesRounds (ks : List (List Byte)) (b : List Byte) : List Byte :=
  let n := ks.length - 1
  let b1 := ((ks.drop 1).take (n - 1)).foldl (fun b k => xorB (mixColumns (shiftRows (b.map sbox))) k) (xorB b (ks.getD 0 []))
  xorB (shiftRows (b1.map sbox)) (ks.getD n [])

/-- AES encryption of one block. -/
def aes (key b : List Byte) : List Byte := aesRounds (aesKeys key) b

/-- R641: a counter block's last 32 bits, and the block with them replaced. -/
def ctrOf (b : List Byte) : Nat := beNat (b.drop 12)
/-- The counter block with another counter. -/
def withCtr (b : List Byte) (n : Nat) : List Byte := b.take 12 ++ natBe 4 n

/-- CTR: `data` against the key stream of the blocks from counter `c0` of block `b` (R641). -/
def ctrStream (key b : List Byte) (c0 : Nat) (data : List Byte) : List Byte :=
  let ks := aesKeys key
  let n := (data.length + 15) / 16
  xorB data ((List.range n).flatMap (fun i => aesRounds ks (withCtr b ((c0 + i) % 4294967296))))

/-- Doubling in GF(2^128) for CMAC (SP 800-38B). -/
def cmacDouble (b : List Byte) : List Byte :=
  let x := beNat b
  let y := 2 * x % 2 ^ 128
  natBe 16 (if 2 ^ 127 ≤ x then y ^^^ 0x87 else y)

/-- AES-CMAC (SP 800-38B). -/
def cmac (key m : List Byte) : List Byte :=
  let ks := aesKeys key
  let k1 := cmacDouble (aesRounds ks (List.replicate 16 0#8))
  let n := max 1 ((m.length + 15) / 16)
  let last := m.drop (16 * (n - 1))
  let fin := if last.length = 16 then xorB last k1
    else xorB (last ++ [0x80#8] ++ List.replicate (15 - last.length) 0#8) (cmacDouble k1)
  (chunks 16 (n - 1) m ++ [fin]).foldl (fun x b => aesRounds ks (xorB x b)) (List.replicate 16 0#8)

/-- R593: KDF in counter mode; `bits` of output, whole bytes. -/
def kdf (key label context : List Byte) (bits : Nat) : List Byte :=
  ((List.range ((bits + 127) / 128)).flatMap (fun i =>
    cmac key ([BitVec.ofNat 8 (i + 1)] ++ label ++ [0#8] ++ context ++ natBe 2 bits))).take (bits / 8)

/-- Multiplication in the GHASH field (SP 800-38D); bit 127 of the number is the first bit. -/
def ghMul (x y : Nat) : Nat :=
  ((List.range 128).foldl (fun (p : Nat × Nat) i =>
    (if x.testBit (127 - i) then p.1 ^^^ p.2 else p.1, if p.2.testBit 0 then (p.2 >>> 1) ^^^ (0xE1 <<< 120) else p.2 >>> 1)) (0, y)).1

/-- Zero padding to whole blocks. -/
def padBlock (m : List Byte) : List Byte := m ++ List.replicate ((16 - m.length % 16) % 16) 0#8

/-- GHASH of whole blocks. -/
def ghash (h : Nat) (m : List Byte) : Nat := (chunks 16 (m.length / 16) m).foldl (fun y b => ghMul (y ^^^ beNat b) h) 0

/-- The GCM tag of AAD and ciphertext under a 12-byte IV (SP 800-38D, R640). -/
def gcmTag (key iv aad c : List Byte) : List Byte :=
  let h := beNat (aes key (List.replicate 16 0#8))
  let s := ghash h (padBlock aad ++ padBlock c ++ natBe 8 (8 * aad.length) ++ natBe 8 (8 * c.length))
  xorB (natBe 16 s) (aes key (iv ++ [0#8, 0#8, 0#8, 1#8]))

/-- The CCM tag of AAD and plaintext under a 12-byte nonce, L 3 (SP 800-38C, R640). -/
def ccmTag (key nonce aad p : List Byte) (tagLen : Nat) : List Byte :=
  let flags := (if aad.isEmpty then 0 else 64) + 8 * ((tagLen - 2) / 2) + 2
  let b0 := [BitVec.ofNat 8 flags] ++ nonce ++ natBe 3 p.length
  let a := if aad.isEmpty then [] else
    padBlock ((if aad.length < 65280 then natBe 2 aad.length else [0xFF#8, 0xFE#8] ++ natBe 4 aad.length) ++ aad)
  let m := b0 ++ a ++ padBlock p
  let ks := aesKeys key
  let t := (chunks 16 (m.length / 16) m).foldl (fun x b => aesRounds ks (xorB x b)) (List.replicate 16 0#8)
  (xorB t (aesRounds ks ([2#8] ++ nonce ++ [0#8, 0#8, 0#8]))).take tagLen

/-- The CCM counter block of a nonce; data blocks count from 1. -/
def ccmCtr (nonce : List Byte) : List Byte := [2#8] ++ nonce ++ [0#8, 0#8, 0#8]

/-! ## CTR_DRBG (SP 800-90A, AES-256, no derivation function) -/

/-- The DRBG's key and V. -/
structure Drbg where
  key : List Byte := []
  v : List Byte := []
  deriving DecidableEq, Repr

/-- V + k modulo 2^128. -/
def addV (v : List Byte) (k : Nat) : List Byte := natBe 16 ((beNat v + k) % 2 ^ 128)

/-- The update function with 48 bytes of input. -/
def Drbg.update (d : Drbg) (x : List Byte) : Drbg :=
  let t := xorB ((List.range 3).flatMap (fun i => aes d.key (addV d.v (i + 1)))) x
  ⟨t.take 32, t.drop 32⟩

/-- Instantiation from entropy and a personalisation string of at most 48 bytes. -/
def Drbg.start (entropy pers : List Byte) : Drbg :=
  Drbg.update ⟨List.replicate 32 0#8, List.replicate 16 0#8⟩ (xorB entropy (pers ++ List.replicate (48 - pers.length) 0#8))

/-- Reseeding. -/
def Drbg.reseed (d : Drbg) (entropy : List Byte) : Drbg := d.update entropy

/-- `n` bytes of output. -/
def Drbg.gen (d : Drbg) (n : Nat) : List Byte × Drbg :=
  let k := (n + 15) / 16
  let out := ((List.range k).flatMap (fun i => aes d.key (addV d.v (i + 1)))).take n
  (out, Drbg.update ⟨d.key, addV d.v k⟩ (List.replicate 48 0#8))

end Sys2Proof.Machine
end

