-- ==== Sys2Proof/Machine/Bits.lean ====
section
/-! DEFINITION. Bit fields of registers, saturating counts and byte order (R99, R100, Table RING-5, R108). -/
namespace Sys2Proof.Machine

/-- The word whose `len` bits from `lo` are 1. -/
def fieldMask (lo len : Nat) : Word := BitVec.ofNat 32 (2 ^ len - 1) <<< lo

/-- The value of the `len`-bit field of `w` whose lowest bit is `lo`. -/
def fld (w : Word) (lo len : Nat) : Nat := (w >>> lo).toNat % 2 ^ len

/-- `w` with the `len`-bit field at `lo` replaced by the low bits of `v`. -/
def setFld (w : Word) (lo len v : Nat) : Word :=
  (w &&& ~~~ (fieldMask lo len)) ||| ((BitVec.ofNat 32 v <<< lo) &&& fieldMask lo len)

/-- Bit `i` of `w`. -/
def bit (w : Word) (i : Nat) : Bool := w.getLsbD i

/-- `w` with bit `i` set or cleared. -/
def setBit (w : Word) (i : Nat) (b : Bool) : Word := setFld w i 1 b.toNat

/-- The word with only bit `i` set. -/
def bitMask (i : Nat) : Word := fieldMask i 1

/-- Adds `n` to a field and holds it at its largest value (a saturating counter). -/
def satAdd (w : Word) (lo len n : Nat) : Word :=
  setFld w lo len (min (fld w lo len + n) (2 ^ len - 1))

/-- Adds `n` to a field modulo its width (a wrapping counter). -/
def wrapAdd (w : Word) (lo len n : Nat) : Word := setFld w lo len ((fld w lo len + n) % 2 ^ len)

/-- A natural number as a register word. -/
def wd (n : Nat) : Word := BitVec.ofNat 32 n

/-- `n` held inside `[lo, hi]`: the nearer end for a value outside (R149 and many field rules). -/
def clampNat (lo hi n : Nat) : Nat := max lo (min hi n)

/-- The signed reading of the low `len` bits of `n`. -/
def toSigned (len n : Nat) : Int :=
  if n % 2 ^ len < 2 ^ (len - 1) then (n % 2 ^ len : Nat) else ((n % 2 ^ len : Nat) : Int) - (2 ^ len : Nat)

/-- A signed value as a `len`-bit two's complement number. -/
def ofSigned (len : Nat) (x : Int) : Nat := (x % ((2 ^ len : Nat) : Int)).toNat

/-- Byte `k` of a word; byte 0 is the least significant, at the lowest address. -/
def byteOf (w : Word) (k : Nat) : Byte := BitVec.ofNat 8 (w.toNat >>> (8 * k))

/-- A word from four bytes, least significant first. -/
def ofBytes (b0 b1 b2 b3 : Byte) : Word :=
  BitVec.ofNat 32 (b0.toNat + 256 * b1.toNat + 65536 * b2.toNat + 16777216 * b3.toNat)

/-- The byte-lane mask of a `size`-byte access whose address has the low bits `lane` (R99: byte and
halfword writes change the addressed bytes). -/
def laneMask (lane size : Nat) : Word := fieldMask (8 * lane) (8 * size)

/-- `old` with the bytes that a `size`-byte write of `v` at byte lane `lane` addresses. -/
def mergeLanes (old : Word) (lane size : Nat) (v : Word) : Word :=
  setFld old (8 * lane) (8 * size) v.toNat

/-- The addressed bytes of a read of any width (R100). -/
def readLanes (w : Word) (lane size : Nat) : Word := wd (fld w (8 * lane) (8 * size))

end Sys2Proof.Machine
end

