-- ==== Sys2Proof/Machine/RegNames.lean ====
section
/-! DEFINITION. The address of every register of the part, by its name in the spec's register tables. -/
namespace Sys2Proof.Machine.A

/-- LML_STAT (Table ARC-14). -/
abbrev LML_STAT : Nat := 0x40003200
/-- LML_ERR (Table ARC-14). -/
abbrev LML_ERR : Nat := 0x40003204
/-- LML_CNT (Table ARC-14). -/
abbrev LML_CNT : Nat := 0x40003208
/-- LML_FAIL_ADDR (Table ARC-14). -/
abbrev LML_FAIL_ADDR : Nat := 0x4000320C
/-- LML_CTL (Table ARC-14). -/
abbrev LML_CTL : Nat := 0x40003210
/-- FAB_DENY_ADDR (Table ARC-14). -/
abbrev FAB_DENY_ADDR : Nat := 0x40003220
/-- FAB_DENY_INFO (Table ARC-14). -/
abbrev FAB_DENY_INFO : Nat := 0x40003224
/-- FAB_DENY_CNT (Table ARC-14). -/
abbrev FAB_DENY_CNT : Nat := 0x40003228
/-- FAB_STAT (Table ARC-14). -/
abbrev FAB_STAT : Nat := 0x4000322C
/-- CFC_CTL (Table RING-16). -/
abbrev CFC_CTL : Nat := 0x40006000
/-- CFC_ARM (Table RING-16). -/
abbrev CFC_ARM : Nat := 0x40006004
/-- CFC_ACT (Table RING-16). -/
abbrev CFC_ACT : Nat := 0x40006008
/-- CFC_CMD (Table RING-16). -/
abbrev CFC_CMD : Nat := 0x4000600C
/-- CFC_STAT (Table RING-16). -/
abbrev CFC_STAT : Nat := 0x40006010
/-- CFC_SAFE (Table RING-16). -/
abbrev CFC_SAFE : Nat := 0x40006014
/-- CFC_PASS (Table RING-16). -/
abbrev CFC_PASS : Nat := 0x40006018
/-- CFC_PAIR_ADDR (Table RING-16). -/
abbrev CFC_PAIR_ADDR : Nat := 0x4000601C
/-- CFC_PAIR_INFO (Table RING-16). -/
abbrev CFC_PAIR_INFO : Nat := 0x40006020
/-- CFC_LOCK_ADDR (Table RING-16). -/
abbrev CFC_LOCK_ADDR : Nat := 0x40006024
/-- CFC_MMCNT (Table RING-16). -/
abbrev CFC_MMCNT : Nat := 0x40006028
/-- CFC_CRC, element n of 8 (Table RING-16). -/
abbrev CFC_CRC (n : Nat) : Nat := 0x40006040 + 0x4 * n
/-- CFC_REF, element n of 8 (Table RING-16). -/
abbrev CFC_REF (n : Nat) : Nat := 0x40006060 + 0x4 * n
/-- EVR_CTL (Table EVL-9). -/
abbrev EVR_CTL : Nat := 0x40004000
/-- EVR_RT_IDX (Table EVL-9). -/
abbrev EVR_RT_IDX : Nat := 0x40004004
/-- EVR_RT_DATA (Table EVL-9). -/
abbrev EVR_RT_DATA : Nat := 0x40004008
/-- EVR_VIEW (Table EVL-9). -/
abbrev EVR_VIEW : Nat := 0x4000400C
/-- EVR_SWEV (Table EVL-9). -/
abbrev EVR_SWEV : Nat := 0x40004010
/-- EVR_STAT (Table EVL-9). -/
abbrev EVR_STAT : Nat := 0x40004014
/-- EVR_THRESH (Table EVL-9). -/
abbrev EVR_THRESH : Nat := 0x40004020
/-- EVR_TOP (Table EVL-9). -/
abbrev EVR_TOP : Nat := 0x40004024
/-- EVR_ACK (Table EVL-9). -/
abbrev EVR_ACK : Nat := 0x40004028
/-- EVR_MISS (Table EVL-9). -/
abbrev EVR_MISS : Nat := 0x4000402C
/-- EVR_PEND, element n of 38 (Table EVL-9). -/
abbrev EVR_PEND (n : Nat) : Nat := 0x40004040 + 0x4 * n
/-- EVR_RWIN, element n of 8 (Table EVL-9). -/
abbrev EVR_RWIN (n : Nat) : Nat := 0x40004100 + 0x4 * n
/-- SEM, element n of 64 (Table EVL-11). -/
abbrev SEM (n : Nat) : Nat := 0x40005000 + 0x4 * n
/-- SEM_ORPH0 (Table EVL-11). -/
abbrev SEM_ORPH0 : Nat := 0x40005100
/-- SEM_ORPH1 (Table EVL-11). -/
abbrev SEM_ORPH1 : Nat := 0x40005104
/-- SEM_STAT (Table EVL-11). -/
abbrev SEM_STAT : Nat := 0x40005108
/-- SEM_ERR_INFO (Table EVL-11). -/
abbrev SEM_ERR_INFO : Nat := 0x4000510C
/-- MBX_CFG, element n of 8 (Table EVL-11). -/
abbrev MBX_CFG (n : Nat) : Nat := 0x40005200 + 0x10 * n
/-- MBX_DATA, element n of 8 (Table EVL-11). -/
abbrev MBX_DATA (n : Nat) : Nat := 0x40005204 + 0x10 * n
/-- MBX_STAT, element n of 8 (Table EVL-11). -/
abbrev MBX_STAT (n : Nat) : Nat := 0x40005208 + 0x10 * n
/-- SCR_CTL (Table CTR-21). -/
abbrev SCR_CTL : Nat := 0x40007000
/-- SCR_STAT (Table CTR-21). -/
abbrev SCR_STAT : Nat := 0x40007004
/-- SCR_ERR (Table CTR-21). -/
abbrev SCR_ERR : Nat := 0x40007008
/-- SCR_CNT (Table CTR-21). -/
abbrev SCR_CNT : Nat := 0x4000700C
/-- SCR_LAST (Table CTR-21). -/
abbrev SCR_LAST : Nat := 0x40007010
/-- FLC_CTL (Table CTR-22). -/
abbrev FLC_CTL : Nat := 0x40008000
/-- FLC_STAT (Table CTR-22). -/
abbrev FLC_STAT : Nat := 0x40008004
/-- FLC_ERR (Table CTR-22). -/
abbrev FLC_ERR : Nat := 0x40008008
/-- FLC_ERRADDR (Table CTR-22). -/
abbrev FLC_ERRADDR : Nat := 0x4000800C
/-- FLC_CNT (Table CTR-22). -/
abbrev FLC_CNT : Nat := 0x40008010
/-- FLC_WEARLIM (Table CTR-22). -/
abbrev FLC_WEARLIM : Nat := 0x40008014
/-- TLM_CTL (Table CTR-23). -/
abbrev TLM_CTL : Nat := 0x40009000
/-- TLM_ERR (Table CTR-23). -/
abbrev TLM_ERR : Nat := 0x40009004
/-- TLM_CNT (Table CTR-23). -/
abbrev TLM_CNT : Nat := 0x40009008
/-- TLM_VAL, element n of 16 (Table CTR-23). -/
abbrev TLM_VAL (n : Nat) : Nat := 0x40009080 + 0x4 * n
/-- CLK_CTL (Table TIM-10). -/
abbrev CLK_CTL : Nat := 0x40001000
/-- CLK_STAT (Table TIM-10). -/
abbrev CLK_STAT : Nat := 0x40001004
/-- CLK_ERR (Table TIM-10). -/
abbrev CLK_ERR : Nat := 0x40001008
/-- SSC_CFG (Table TIM-10). -/
abbrev SSC_CFG : Nat := 0x40001010
/-- SSC_STAT (Table TIM-10). -/
abbrev SSC_STAT : Nat := 0x40001014
/-- CLK_DOM, element n of 28 (Table TIM-10). -/
abbrev CLK_DOM (n : Nat) : Nat := 0x40001100 + 0x4 * n
/-- MON_CFG5 (Table TIM-10). -/
abbrev MON_CFG5 : Nat := 0x40001250
/-- MON_CFG6 (Table TIM-10). -/
abbrev MON_CFG6 : Nat := 0x40001260
/-- MON_CNT, element n of 7 (Table TIM-10). -/
abbrev MON_CNT (n : Nat) : Nat := 0x40001204 + 0x10 * n
/-- PAD_IDX (Table TIM-10). -/
abbrev PAD_IDX : Nat := 0x40001380
/-- PAD_CFG (Table TIM-10). -/
abbrev PAD_CFG : Nat := 0x40001384
/-- TB_CTL (Table TIM-12). -/
abbrev TB_CTL : Nat := 0x40002000
/-- TB_STAT (Table TIM-12). -/
abbrev TB_STAT : Nat := 0x40002004
/-- TB_LO (Table TIM-12). -/
abbrev TB_LO : Nat := 0x40002008
/-- TB_HI (Table TIM-12). -/
abbrev TB_HI : Nat := 0x4000200C
/-- TB_AUX (Table TIM-12). -/
abbrev TB_AUX : Nat := 0x40002010
/-- LF_PERIOD (Table TIM-12). -/
abbrev LF_PERIOD : Nat := 0x40002014
/-- CORR_CNT (Table TIM-12). -/
abbrev CORR_CNT : Nat := 0x40002018
/-- TB_CMP_OWN (Table TIM-12). -/
abbrev TB_CMP_OWN : Nat := 0x40002020
/-- TB_CMP_LO, element n of 8 (Table TIM-12). -/
abbrev TB_CMP_LO (n : Nat) : Nat := 0x40002100 + 0x10 * n
/-- TB_CMP_HI, element n of 8 (Table TIM-12). -/
abbrev TB_CMP_HI (n : Nat) : Nat := 0x40002104 + 0x10 * n
/-- TB_CMP_CTL, element n of 8 (Table TIM-12). -/
abbrev TB_CMP_CTL (n : Nat) : Nat := 0x40002108 + 0x10 * n
/-- TB_CMP_RELOAD, element n of 8 (Table TIM-12). -/
abbrev TB_CMP_RELOAD (n : Nat) : Nat := 0x4000210C + 0x10 * n
/-- PMU_CTL (Table PMU-12). -/
abbrev PMU_CTL : Nat := 0x40000000
/-- PMU_MODE (Table PMU-12). -/
abbrev PMU_MODE : Nat := 0x40000004
/-- PMU_STAT (Table PMU-12). -/
abbrev PMU_STAT : Nat := 0x40000008
/-- PMU_ERR (Table PMU-12). -/
abbrev PMU_ERR : Nat := 0x4000000C
/-- PWR_REQ (Table PMU-12). -/
abbrev PWR_REQ : Nat := 0x40000010
/-- PWR_STAT (Table PMU-12). -/
abbrev PWR_STAT : Nat := 0x40000014
/-- PWR_ERRDOM (Table PMU-12). -/
abbrev PWR_ERRDOM : Nat := 0x40000018
/-- SRAM_RET (Table PMU-12). -/
abbrev SRAM_RET : Nat := 0x40000020
/-- WAKE_EN (Table PMU-12). -/
abbrev WAKE_EN : Nat := 0x40000024
/-- WAKE_CAUSE (Table PMU-12). -/
abbrev WAKE_CAUSE : Nat := 0x40000028
/-- PF_CFG (Table PMU-12). -/
abbrev PF_CFG : Nat := 0x40000030
/-- TEMP_CFG (Table PMU-12). -/
abbrev TEMP_CFG : Nat := 0x40000034
/-- SUP_VIN (PD) (Table PMU-12). -/
abbrev SUP_VIN : Nat := 0x40000040
/-- SUP_VIO (PD) (Table PMU-12). -/
abbrev SUP_VIO : Nat := 0x40000044
/-- SUP_VCORE (Table PMU-12). -/
abbrev SUP_VCORE : Nat := 0x40000048
/-- SUP_VBAT (Table PMU-12). -/
abbrev SUP_VBAT : Nat := 0x4000004C
/-- TEMP_CD (Table PMU-12). -/
abbrev TEMP_CD : Nat := 0x40000050
/-- TEMP_PD (PD) (Table PMU-12). -/
abbrev TEMP_PD : Nat := 0x40000054
/-- AVS_MARGIN (Table PMU-12). -/
abbrev AVS_MARGIN : Nat := 0x40000060
/-- SYS_ID (Table PMU-14). -/
abbrev SYS_ID : Nat := 0x40003000
/-- RST_CAUSE (Table PMU-14). -/
abbrev RST_CAUSE : Nat := 0x40003004
/-- SYS_RST_CTL (Table PMU-14). -/
abbrev SYS_RST_CTL : Nat := 0x40003008
/-- CORE_CTL (Table PMU-14). -/
abbrev CORE_CTL : Nat := 0x40003010
/-- CORE_STAT (Table PMU-14). -/
abbrev CORE_STAT : Nat := 0x40003014
/-- H1_START (Table PMU-14). -/
abbrev H1_START : Nat := 0x40003018
/-- CORE_RDY (Table PMU-14). -/
abbrev CORE_RDY : Nat := 0x4000301C
/-- BOOT_STAT (Table PMU-14). -/
abbrev BOOT_STAT : Nat := 0x40003020
/-- BOOT_T_SAFE (Table PMU-14). -/
abbrev BOOT_T_SAFE : Nat := 0x40003024
/-- BOOT_T_ENG (Table PMU-14). -/
abbrev BOOT_T_ENG : Nat := 0x40003028
/-- BOOT_T_HOST (Table PMU-14). -/
abbrev BOOT_T_HOST : Nat := 0x4000302C
/-- WDT_CFG, element n of 5 (Table PMU-14). -/
abbrev WDT_CFG (n : Nat) : Nat := 0x40003040 + 0x10 * n
/-- WDT_KICK, element n of 5 (Table PMU-14). -/
abbrev WDT_KICK (n : Nat) : Nat := 0x40003044 + 0x10 * n
/-- WDT_STAT, element n of 5 (Table PMU-14). -/
abbrev WDT_STAT (n : Nat) : Nat := 0x40003048 + 0x10 * n
/-- WDT_LEFT, element n of 5 (Table PMU-14). -/
abbrev WDT_LEFT (n : Nat) : Nat := 0x4000304C + 0x10 * n
/-- ANG_CTL (Table SYN-7). -/
abbrev ANG_CTL : Nat := 0x40010000
/-- ANG_STAT (Table SYN-7). -/
abbrev ANG_STAT : Nat := 0x40010004
/-- ANG_ERR (Table SYN-7). -/
abbrev ANG_ERR : Nat := 0x40010008
/-- ANG_ERRINFO (Table SYN-7). -/
abbrev ANG_ERRINFO : Nat := 0x4001000C
/-- CRK_CFG (Table SYN-7). -/
abbrev CRK_CFG : Nat := 0x40010020
/-- CRK_WIN (Table SYN-7). -/
abbrev CRK_WIN : Nat := 0x40010024
/-- CRK_LOCK (Table SYN-7). -/
abbrev CRK_LOCK : Nat := 0x40010028
/-- CRK_REF (Table SYN-7). -/
abbrev CRK_REF : Nat := 0x4001002C
/-- CRK_MASK, element n of 5 (Table SYN-7). -/
abbrev CRK_MASK (n : Nat) : Nat := 0x40010030 + 0x4 * n
/-- CAM_CFG (Table SYN-7). -/
abbrev CAM_CFG : Nat := 0x40010048
/-- CAM_WIN_LO (Table SYN-7). -/
abbrev CAM_WIN_LO : Nat := 0x4001004C
/-- CAM_WIN_HI (Table SYN-7). -/
abbrev CAM_WIN_HI : Nat := 0x40010050
/-- CRK_CMD (Table SYN-7). -/
abbrev CRK_CMD : Nat := 0x40010054
/-- CRK_ANGLE (Table SYN-7). -/
abbrev CRK_ANGLE : Nat := 0x40010058
/-- CRK_PERIOD (Table SYN-7). -/
abbrev CRK_PERIOD : Nat := 0x4001005C
/-- CRK_RPM (Table SYN-7). -/
abbrev CRK_RPM : Nat := 0x40010060
/-- CRK_POS (Table SYN-7). -/
abbrev CRK_POS : Nat := 0x40010064
/-- CRK_CNT (Table SYN-7). -/
abbrev CRK_CNT : Nat := 0x40010068
/-- CRK_CNT2 (Table SYN-7). -/
abbrev CRK_CNT2 : Nat := 0x4001006C
/-- CRK_SUSPECT (Table SYN-7). -/
abbrev CRK_SUSPECT : Nat := 0x40010070
/-- CAM_POS (Table SYN-7). -/
abbrev CAM_POS : Nat := 0x40010074
/-- SHAPE_CFG (Table SYN-7). -/
abbrev SHAPE_CFG : Nat := 0x40010078
/-- SHAPE_STAT (Table SYN-7). -/
abbrev SHAPE_STAT : Nat := 0x4001007C
/-- PART_CFG (Table SYN-7). -/
abbrev PART_CFG : Nat := 0x40010080
/-- PART_WIN (Table SYN-7). -/
abbrev PART_WIN : Nat := 0x40010084
/-- PART_OFFSET (Table SYN-7). -/
abbrev PART_OFFSET : Nat := 0x40010088
/-- PART_STAT (Table SYN-7). -/
abbrev PART_STAT : Nat := 0x4001008C
/-- PART_ERR (Table SYN-7). -/
abbrev PART_ERR : Nat := 0x40010090
/-- ALT_CFG (Table SYN-7). -/
abbrev ALT_CFG : Nat := 0x400100A0
/-- ALT_WIN (Table SYN-7). -/
abbrev ALT_WIN : Nat := 0x400100A4
/-- ALT_OFFSET (Table SYN-7). -/
abbrev ALT_OFFSET : Nat := 0x400100A8
/-- ALT_ANGLE (Table SYN-7). -/
abbrev ALT_ANGLE : Nat := 0x400100AC
/-- ALT_FREQ (Table SYN-7). -/
abbrev ALT_FREQ : Nat := 0x400100B0
/-- ALT_CNT (Table SYN-7). -/
abbrev ALT_CNT : Nat := 0x400100B4
/-- GRD_CFG (Table SYN-7). -/
abbrev GRD_CFG : Nat := 0x400100C0
/-- GRD_LIM (Table SYN-7). -/
abbrev GRD_LIM : Nat := 0x400100C4
/-- GRD_VNOM (Table SYN-7). -/
abbrev GRD_VNOM : Nat := 0x400100C8
/-- GRD_OFFSET (Table SYN-7). -/
abbrev GRD_OFFSET : Nat := 0x400100CC
/-- GRD_ANGLE (Table SYN-7). -/
abbrev GRD_ANGLE : Nat := 0x400100D0
/-- GRD_FREQ (Table SYN-7). -/
abbrev GRD_FREQ : Nat := 0x400100D4
/-- GRD_AMPL (Table SYN-7). -/
abbrev GRD_AMPL : Nat := 0x400100D8
/-- GRD_PHERR (Table SYN-7). -/
abbrev GRD_PHERR : Nat := 0x400100DC
/-- INV_CFG (Table SYN-7). -/
abbrev INV_CFG : Nat := 0x400100E0
/-- INV_FREQ (Table SYN-7). -/
abbrev INV_FREQ : Nat := 0x400100E4
/-- INV_PHOFS (Table SYN-7). -/
abbrev INV_PHOFS : Nat := 0x400100E8
/-- INV_ANGLE (Table SYN-7). -/
abbrev INV_ANGLE : Nat := 0x400100EC
/-- INV_STAT (Table SYN-7). -/
abbrev INV_STAT : Nat := 0x400100F0
/-- CPL_ANGLE (Table SYN-7). -/
abbrev CPL_ANGLE : Nat := 0x40010100
/-- SLOT_IDX (Table EVT-11). -/
abbrev SLOT_IDX : Nat := 0x40010140
/-- SLOT_STAT (Table EVT-11). -/
abbrev SLOT_STAT : Nat := 0x40010144
/-- SLOT_TIME (Table EVT-11). -/
abbrev SLOT_TIME : Nat := 0x40010148
/-- SLOT_OWN (Table EVT-11). -/
abbrev SLOT_OWN : Nat := 0x4001014C
/-- LATE_WIN, element n of 5 (Table EVT-11). -/
abbrev LATE_WIN (n : Nat) : Nat := 0x40010150 + 0x4 * n
/-- DWA_HOLD (Table EVT-11). -/
abbrev DWA_HOLD : Nat := 0x40010164
/-- EVT_ERR (Table EVT-11). -/
abbrev EVT_ERR : Nat := 0x40010168
/-- EVT_CNT (Table EVT-11). -/
abbrev EVT_CNT : Nat := 0x4001016C
/-- EVT_CNT2 (Table EVT-11). -/
abbrev EVT_CNT2 : Nat := 0x40010170
/-- AO_ROUTE, element n of 32 (Table EVT-11). -/
abbrev AO_ROUTE (n : Nat) : Nat := 0x40010180 + 0x4 * n
/-- AO_LEVEL (Table EVT-11). -/
abbrev AO_LEVEL : Nat := 0x40010200
/-- INJ_STG, element n of 4 (Table EVT-11). -/
abbrev INJ_STG (n : Nat) : Nat := 0x40010210 + 0x4 * n
/-- IGN_STG, element n of 4 (Table EVT-11). -/
abbrev IGN_STG (n : Nat) : Nat := 0x40010220 + 0x4 * n
/-- IGN_DWL, element n of 4 (Table EVT-11). -/
abbrev IGN_DWL (n : Nat) : Nat := 0x40010230 + 0x4 * n
/-- IGN_TDC, element n of 4 (Table EVT-11). -/
abbrev IGN_TDC (n : Nat) : Nat := 0x40010240 + 0x4 * n
/-- IGN_DWLIM, element n of 4 (Table EVT-11). -/
abbrev IGN_DWLIM (n : Nat) : Nat := 0x40010250 + 0x4 * n
/-- IGN_CLAMP, element n of 4 (Table EVT-11). -/
abbrev IGN_CLAMP (n : Nat) : Nat := 0x40010260 + 0x4 * n
/-- SUSPECT, element n of 8 (Table EVT-11). -/
abbrev SUSPECT (n : Nat) : Nat := 0x40010280 + 0x4 * n
/-- ENG_CTL (Table ENG-7). -/
abbrev ENG_CTL : Nat := 0x40011000
/-- ENG_STAT (Table ENG-7). -/
abbrev ENG_STAT : Nat := 0x40011004
/-- ENG_ERR (Table ENG-7). -/
abbrev ENG_ERR : Nat := 0x40011008
/-- VR_CFG (PD), element n of 2 (Table ENG-7). -/
abbrev VR_CFG (n : Nat) : Nat := 0x40011010 + 0x4 * n
/-- VR_PEAK (PD), element n of 2 (Table ENG-7). -/
abbrev VR_PEAK (n : Nat) : Nat := 0x40011018 + 0x4 * n
/-- HALL_CFG (PD) (Table ENG-7). -/
abbrev HALL_CFG : Nat := 0x40011020
/-- SENS_DIAG (PD) (Table ENG-7). -/
abbrev SENS_DIAG : Nat := 0x40011024
/-- SAR_LIST, element n of 8 (Table ENG-7). -/
abbrev SAR_LIST (n : Nat) : Nat := 0x40011040 + 0x8 * n
/-- SAR_SEQC, element n of 8 (Table ENG-7). -/
abbrev SAR_SEQC (n : Nat) : Nat := 0x40011044 + 0x8 * n
/-- SAR_PER (Table ENG-7). -/
abbrev SAR_PER : Nat := 0x40011080
/-- SAR_SWTRIG (Table ENG-7). -/
abbrev SAR_SWTRIG : Nat := 0x40011084
/-- SAR_LAST, element n of 16 (Table ENG-7). -/
abbrev SAR_LAST (n : Nat) : Nat := 0x400110C0 + 0x4 * n
/-- KNK_CFG (Table ENG-7). -/
abbrev KNK_CFG : Nat := 0x40011100
/-- KNK_BbA, element n of 2 (Table ENG-7). -/
abbrev KNK_BbA (n : Nat) : Nat := 0x40011104 + 0xC * n
/-- KNK_BbB, element n of 2 (Table ENG-7). -/
abbrev KNK_BbB (n : Nat) : Nat := 0x40011108 + 0xC * n
/-- KNK_BbC, element n of 2 (Table ENG-7). -/
abbrev KNK_BbC (n : Nat) : Nat := 0x4001110C + 0xC * n
/-- KNK_STAT (Table ENG-7). -/
abbrev KNK_STAT : Nat := 0x40011120
/-- FUEL_FLOW, element n of 4 (Table ENG-7). -/
abbrev FUEL_FLOW (n : Nat) : Nat := 0x40011140 + 0x4 * n
/-- FUEL_CD, element n of 4 (Table ENG-7). -/
abbrev FUEL_CD (n : Nat) : Nat := 0x40011150 + 0x4 * n
/-- FUEL_OD, element n of 4 (Table ENG-7). -/
abbrev FUEL_OD (n : Nat) : Nat := 0x40011160 + 0x4 * n
/-- FUEL_CYC (Table ENG-7). -/
abbrev FUEL_CYC : Nat := 0x40011170
/-- FUEL_SEQ (Table ENG-7). -/
abbrev FUEL_SEQ : Nat := 0x40011174
/-- FUEL_TOT (Table ENG-7). -/
abbrev FUEL_TOT : Nat := 0x40011178
/-- EDR_CTL (PD) (Table ENG-9). -/
abbrev EDR_CTL : Nat := 0x40012000
/-- EDR_ERR (Table ENG-9). -/
abbrev EDR_ERR : Nat := 0x40012008
/-- INJ_CFG (PD), element n of 4 (Table ENG-9). -/
abbrev INJ_CFG (n : Nat) : Nat := 0x40012010 + 0x4 * n
/-- INJ_OPD (PD), element n of 4 (Table ENG-9). -/
abbrev INJ_OPD (n : Nat) : Nat := 0x40012020 + 0x4 * n
/-- INJ_DIAG (PD), element n of 4 (Table ENG-9). -/
abbrev INJ_DIAG (n : Nat) : Nat := 0x40012030 + 0x4 * n
/-- IGN_CFG (PD), element n of 4 (Table ENG-9). -/
abbrev IGN_CFG (n : Nat) : Nat := 0x40012040 + 0x4 * n
/-- IGN_DIAG (PD), element n of 4 (Table ENG-9). -/
abbrev IGN_DIAG (n : Nat) : Nat := 0x40012050 + 0x4 * n
/-- INJ_LAST, element n of 4 (Table ENG-9). -/
abbrev INJ_LAST (n : Nat) : Nat := 0x40012060 + 0x4 * n
/-- IGN_LAST, element n of 4 (Table ENG-9). -/
abbrev IGN_LAST (n : Nat) : Nat := 0x40012070 + 0x4 * n
/-- LAM_CTL (Table ENG-11). -/
abbrev LAM_CTL : Nat := 0x40013000
/-- LAM_ERR (Table ENG-11). -/
abbrev LAM_ERR : Nat := 0x40013008
/-- LAM_PUMP_STG (Table ENG-11). -/
abbrev LAM_PUMP_STG : Nat := 0x40013010
/-- LAM_PUMP (Table ENG-11). -/
abbrev LAM_PUMP : Nat := 0x40013014
/-- LAM_NERNST (Table ENG-11). -/
abbrev LAM_NERNST : Nat := 0x40013018
/-- LAM_NERR (Table ENG-11). -/
abbrev LAM_NERR : Nat := 0x4001301C
/-- LAM_RI (Table ENG-11). -/
abbrev LAM_RI : Nat := 0x40013020
/-- LAM_NB (Table ENG-11). -/
abbrev LAM_NB : Nat := 0x40013024
/-- LAM_REF (Table ENG-11). -/
abbrev LAM_REF : Nat := 0x40013028
/-- LAM_RICFG (Table ENG-11). -/
abbrev LAM_RICFG : Nat := 0x4001302C
/-- HB_CTL (Table ENG-12). -/
abbrev HB_CTL : Nat := 0x40014000
/-- HB_ERR (Table ENG-12). -/
abbrev HB_ERR : Nat := 0x40014008
/-- HB_CFG (PD), element n of 4 (Table ENG-12). -/
abbrev HB_CFG (n : Nat) : Nat := 0x40014010 + 0x4 * n
/-- HB_STG, element n of 4 (Table ENG-12). -/
abbrev HB_STG (n : Nat) : Nat := 0x40014020 + 0x4 * n
/-- HB_DUTY, element n of 4 (Table ENG-12). -/
abbrev HB_DUTY (n : Nat) : Nat := 0x40014030 + 0x4 * n
/-- HB_CUR (PD), element n of 4 (Table ENG-12). -/
abbrev HB_CUR (n : Nat) : Nat := 0x40014040 + 0x4 * n
/-- HB_STEP (Table ENG-12). -/
abbrev HB_STEP : Nat := 0x40014050
/-- HB_STEPCFG (Table ENG-12). -/
abbrev HB_STEPCFG : Nat := 0x40014054
/-- PWM_CTL (Table PST-11). -/
abbrev PWM_CTL : Nat := 0x40020000
/-- PWM_STAT (Table PST-11). -/
abbrev PWM_STAT : Nat := 0x40020004
/-- PWM_ERR (Table PST-11). -/
abbrev PWM_ERR : Nat := 0x40020008
/-- GRP_CFG, element n of 3 (Table PST-11). -/
abbrev GRP_CFG (n : Nat) : Nat := 0x40020010 + 0x10 * n
/-- CAR_PER, element n of 3 (Table PST-11). -/
abbrev CAR_PER (n : Nat) : Nat := 0x40020014 + 0x10 * n
/-- GRP_LIM, element n of 3 (Table PST-11). -/
abbrev GRP_LIM (n : Nat) : Nat := 0x40020018 + 0x10 * n
/-- RSYNC_OFS, element n of 3 (Table PST-11). -/
abbrev RSYNC_OFS (n : Nat) : Nat := 0x4002001C + 0x10 * n
/-- CH_CFG, element n of 16 (Table PST-11). -/
abbrev CH_CFG (n : Nat) : Nat := 0x40020040 + 0x4 * n
/-- DUTY_STG, element n of 8 (Table PST-11). -/
abbrev DUTY_STG (n : Nat) : Nat := 0x40020080 + 0x4 * n
/-- DUTY_APP, element n of 8 (Table PST-11). -/
abbrev DUTY_APP (n : Nat) : Nat := 0x400200A0 + 0x4 * n
/-- TRIP_CFG, element n of 8 (Table PST-11). -/
abbrev TRIP_CFG (n : Nat) : Nat := 0x400200C0 + 0x4 * n
/-- DESAT_CFG, element n of 6 (Table PST-11). -/
abbrev DESAT_CFG (n : Nat) : Nat := 0x400200E0 + 0x4 * n
/-- TRIP_STAT (Table PST-11). -/
abbrev TRIP_STAT : Nat := 0x40020100
/-- TRIP_LATCH (Table PST-11). -/
abbrev TRIP_LATCH : Nat := 0x40020104
/-- TRIP_FIRST (Table PST-11). -/
abbrev TRIP_FIRST : Nat := 0x40020108
/-- TRIP_TICK (Table PST-11). -/
abbrev TRIP_TICK : Nat := 0x4002010C
/-- HR_STAT (Table PST-11). -/
abbrev HR_STAT : Nat := 0x40020110
/-- DT_MEAS, element n of 8 (Table PST-11). -/
abbrev DT_MEAS (n : Nat) : Nat := 0x40020120 + 0x4 * n
/-- DT_CFG (Table PST-11). -/
abbrev DT_CFG : Nat := 0x40020140
/-- CRANK_CFG (Table PST-11). -/
abbrev CRANK_CFG : Nat := 0x40020144
/-- PSC_CTL (Table PST-13). -/
abbrev PSC_CTL : Nat := 0x40021000
/-- PSC_STAT (Table PST-13). -/
abbrev PSC_STAT : Nat := 0x40021004
/-- PSC_ERR (Table PST-13). -/
abbrev PSC_ERR : Nat := 0x40021008
/-- SD_CFG, element n of 12 (Table PST-13). -/
abbrev SD_CFG (n : Nat) : Nat := 0x40021010 + 0x4 * n
/-- SD_PREC, element n of 12 (Table PST-13). -/
abbrev SD_PREC (n : Nat) : Nat := 0x40021040 + 0x4 * n
/-- SD_TS, element n of 12 (Table PST-13). -/
abbrev SD_TS (n : Nat) : Nat := 0x40021070 + 0x4 * n
/-- FC_THR, element n of 12 (Table PST-13). -/
abbrev FC_THR (n : Nat) : Nat := 0x400210A0 + 0x4 * n
/-- FC_ACT (Table PST-13). -/
abbrev FC_ACT : Nat := 0x400210D0
/-- SET_CFG, element n of 3 (Table PST-13). -/
abbrev SET_CFG (n : Nat) : Nat := 0x400210E0 + 0x4 * n
/-- SD_SCALE, element n of 3 (Table PST-13). -/
abbrev SD_SCALE (n : Nat) : Nat := 0x400210F0 + 0x4 * n
/-- RATED, element n of 3 (Table PST-13). -/
abbrev RATED (n : Nat) : Nat := 0x40021100 + 0x4 * n
/-- PLAUS_CFG, element n of 3 (Table PST-13). -/
abbrev PLAUS_CFG (n : Nat) : Nat := 0x40021110 + 0x4 * n
/-- PLAUS_STAT, element n of 3 (Table PST-13). -/
abbrev PLAUS_STAT (n : Nat) : Nat := 0x40021120 + 0x4 * n
/-- OPEN_CFG (Table PST-13). -/
abbrev OPEN_CFG : Nat := 0x40021130
/-- INVF_CFG (Table PST-13). -/
abbrev INVF_CFG : Nat := 0x40021134
/-- INVF_VEH (Table PST-13). -/
abbrev INVF_VEH : Nat := 0x40021138
/-- INVF_STAT (Table PST-13). -/
abbrev INVF_STAT : Nat := 0x4002113C
/-- XFER_CFG (Table PST-13). -/
abbrev XFER_CFG : Nat := 0x40021140
/-- XFER_STAT (Table PST-13). -/
abbrev XFER_STAT : Nat := 0x40021144
/-- DCE_ACC (Table PST-13). -/
abbrev DCE_ACC : Nat := 0x40021150
/-- DCP (Table PST-13). -/
abbrev DCP : Nat := 0x40021154
/-- EGV_CFG (Table PST-14). -/
abbrev EGV_CFG : Nat := 0x40022000
/-- EGV_GAIN (Table PST-14). -/
abbrev EGV_GAIN : Nat := 0x40022004
/-- EGV_EMIN (Table PST-14). -/
abbrev EGV_EMIN : Nat := 0x40022008
/-- EGV_SET (Table PST-14). -/
abbrev EGV_SET : Nat := 0x40022010
/-- EGV_JHI (Table PST-14). -/
abbrev EGV_JHI : Nat := 0x40022014
/-- EGV_JLO (Table PST-14). -/
abbrev EGV_JLO : Nat := 0x40022018
/-- EGV_STEP (Table PST-14). -/
abbrev EGV_STEP : Nat := 0x4002201C
/-- EGV_CNT (Table PST-14). -/
abbrev EGV_CNT : Nat := 0x40022020
/-- EGV_ERR (Table PST-14). -/
abbrev EGV_ERR : Nat := 0x40022024
/-- CHG_CTL (Table CHG-11). -/
abbrev CHG_CTL : Nat := 0x40030000
/-- CHG_STAT (Table CHG-11). -/
abbrev CHG_STAT : Nat := 0x40030004
/-- CHG_ERR (Table CHG-11). -/
abbrev CHG_ERR : Nat := 0x40030008
/-- CHG_CMD (Table CHG-11). -/
abbrev CHG_CMD : Nat := 0x4003000C
/-- CP_SET (Table CHG-11). -/
abbrev CP_SET : Nat := 0x40030010
/-- CP_DUTY_APP (Table CHG-11). -/
abbrev CP_DUTY_APP : Nat := 0x40030014
/-- CP_PER (Table CHG-11). -/
abbrev CP_PER : Nat := 0x40030018
/-- CP_SMPCFG (Table CHG-11). -/
abbrev CP_SMPCFG : Nat := 0x4003001C
/-- CP_VHI (Table CHG-11). -/
abbrev CP_VHI : Nat := 0x40030020
/-- CP_VLO (Table CHG-11). -/
abbrev CP_VLO : Nat := 0x40030024
/-- CP_CNT (Table CHG-11). -/
abbrev CP_CNT : Nat := 0x40030028
/-- FAULT_DUTY (Table CHG-11). -/
abbrev FAULT_DUTY : Nat := 0x4003002C
/-- DIODE_LIM (Table CHG-11). -/
abbrev DIODE_LIM : Nat := 0x40030030
/-- CP_DRV (PD) (Table CHG-11). -/
abbrev CP_DRV : Nat := 0x40030034
/-- PP_CFG (Table CHG-11). -/
abbrev PP_CFG : Nat := 0x40030040
/-- PP_RES (Table CHG-11). -/
abbrev PP_RES : Nat := 0x40030044
/-- OC_CFG (Table CHG-11). -/
abbrev OC_CFG : Nat := 0x40030050
/-- LOCK_CFG (Table CHG-11). -/
abbrev LOCK_CFG : Nat := 0x40030060
/-- ILK_STAT (Table CHG-11). -/
abbrev ILK_STAT : Nat := 0x40030070
/-- OPEN_CAUSE (Table CHG-11). -/
abbrev OPEN_CAUSE : Nat := 0x40030074
/-- RCM_CTL (Table CHG-12). -/
abbrev RCM_CTL : Nat := 0x40031000
/-- RCM_STAT (Table CHG-12). -/
abbrev RCM_STAT : Nat := 0x40031004
/-- RCM_ERR (Table CHG-12). -/
abbrev RCM_ERR : Nat := 0x40031008
/-- RDC_DC (Table CHG-12). -/
abbrev RDC_DC : Nat := 0x40031020
/-- RDC_AC (Table CHG-12). -/
abbrev RDC_AC : Nat := 0x40031024
/-- ST_CFG (Table CHG-12). -/
abbrev ST_CFG : Nat := 0x40031028
/-- ST_AGE (Table CHG-12). -/
abbrev ST_AGE : Nat := 0x4003102C
/-- IMD_CFG (Table CHG-12). -/
abbrev IMD_CFG : Nat := 0x40031040
/-- IMD_LIM (Table CHG-12). -/
abbrev IMD_LIM : Nat := 0x40031044
/-- IMD_RES (Table CHG-12). -/
abbrev IMD_RES : Nat := 0x40031048
/-- IMD_AMPL (PD) (Table CHG-12). -/
abbrev IMD_AMPL : Nat := 0x4003104C
/-- PLM_CTL (Table CHG-13). -/
abbrev PLM_CTL : Nat := 0x40032000
/-- PLM_STAT (Table CHG-13). -/
abbrev PLM_STAT : Nat := 0x40032004
/-- PLM_ERR (Table CHG-13). -/
abbrev PLM_ERR : Nat := 0x40032008
/-- PLM_MAC_LO (Table CHG-13). -/
abbrev PLM_MAC_LO : Nat := 0x40032010
/-- PLM_MAC_HI (Table CHG-13). -/
abbrev PLM_MAC_HI : Nat := 0x40032014
/-- PLM_NID_LO (Table CHG-13). -/
abbrev PLM_NID_LO : Nat := 0x40032018
/-- PLM_NID_HI (Table CHG-13). -/
abbrev PLM_NID_HI : Nat := 0x4003201C
/-- NEK_SLOT (Table CHG-13). -/
abbrev NEK_SLOT : Nat := 0x40032020
/-- PLM_TXATT (Table CHG-13). -/
abbrev PLM_TXATT : Nat := 0x40032024
/-- BCN_PER (Table CHG-13). -/
abbrev BCN_PER : Nat := 0x40032028
/-- PLM_CNT (Table CHG-13). -/
abbrev PLM_CNT : Nat := 0x40032030
/-- TMASK, element n of 37 (Table CHG-13). -/
abbrev TMASK (n : Nat) : Nat := 0x40032100 + 0x4 * n
/-- MET_STAT (Table MET-12). -/
abbrev MET_STAT : Nat := 0x40040000
/-- MET_SEAL (Table MET-12). -/
abbrev MET_SEAL : Nat := 0x40040008
/-- MET_LOG (Table MET-12). -/
abbrev MET_LOG : Nat := 0x4004000C
/-- MET_SLREJ (Table MET-12). -/
abbrev MET_SLREJ : Nat := 0x40040010
/-- MET_PARAM_IDX (Table MET-12). -/
abbrev MET_PARAM_IDX : Nat := 0x40040014
/-- MET_PARAM_DATA (Table MET-12). -/
abbrev MET_PARAM_DATA : Nat := 0x40040018
/-- MET_CAL_SEQ (Table MET-12). -/
abbrev MET_CAL_SEQ : Nat := 0x4004001C
/-- MET_SNAP_SEQ (Table MET-12). -/
abbrev MET_SNAP_SEQ : Nat := 0x40040020
/-- MET_WIN_TICK (Table MET-12). -/
abbrev MET_WIN_TICK : Nat := 0x40040024
/-- MET_FREQ (Table MET-12). -/
abbrev MET_FREQ : Nat := 0x40040028
/-- MET_VRMS, element n of 3 (Table MET-12). -/
abbrev MET_VRMS (n : Nat) : Nat := 0x40040030 + 0x4 * n
/-- MET_IRMS, element n of 3 (Table MET-12). -/
abbrev MET_IRMS (n : Nat) : Nat := 0x4004003C + 0x4 * n
/-- MET_P, element n of 3 (Table MET-12). -/
abbrev MET_P (n : Nat) : Nat := 0x40040048 + 0x4 * n
/-- MET_Q, element n of 3 (Table MET-12). -/
abbrev MET_Q (n : Nat) : Nat := 0x40040054 + 0x4 * n
/-- MET_S, element n of 3 (Table MET-12). -/
abbrev MET_S (n : Nat) : Nat := 0x40040060 + 0x4 * n
/-- MET_PF, element n of 3 (Table MET-12). -/
abbrev MET_PF (n : Nat) : Nat := 0x4004006C + 0x4 * n
/-- MET_PTOT (Table MET-12). -/
abbrev MET_PTOT : Nat := 0x40040078
/-- E_IMP_LO (Table MET-12). -/
abbrev E_IMP_LO : Nat := 0x40040080
/-- E_IMP_HI (Table MET-12). -/
abbrev E_IMP_HI : Nat := 0x40040084
/-- E_EXP_LO (Table MET-12). -/
abbrev E_EXP_LO : Nat := 0x40040088
/-- E_EXP_HI (Table MET-12). -/
abbrev E_EXP_HI : Nat := 0x4004008C
/-- E_IMP_GRID_LO (Table MET-12). -/
abbrev E_IMP_GRID_LO : Nat := 0x40040090
/-- E_IMP_GRID_HI (Table MET-12). -/
abbrev E_IMP_GRID_HI : Nat := 0x40040094
/-- E_IMP_GEN_LO (Table MET-12). -/
abbrev E_IMP_GEN_LO : Nat := 0x40040098
/-- E_IMP_GEN_HI (Table MET-12). -/
abbrev E_IMP_GEN_HI : Nat := 0x4004009C
/-- E_EXP_GRID_LO (Table MET-12). -/
abbrev E_EXP_GRID_LO : Nat := 0x400400A0
/-- E_EXP_GRID_HI (Table MET-12). -/
abbrev E_EXP_GRID_HI : Nat := 0x400400A4
/-- E_EXP_GEN_LO (Table MET-12). -/
abbrev E_EXP_GEN_LO : Nat := 0x400400A8
/-- E_EXP_GEN_HI (Table MET-12). -/
abbrev E_EXP_GEN_HI : Nat := 0x400400AC
/-- MET_SRC (Table MET-12). -/
abbrev MET_SRC : Nat := 0x400400B0
/-- REEL_STAT (Table MET-12). -/
abbrev REEL_STAT : Nat := 0x400400C0
/-- REEL_MAP (Table MET-12). -/
abbrev REEL_MAP : Nat := 0x400400C4
/-- REEL_LAST (Table MET-12). -/
abbrev REEL_LAST : Nat := 0x400400C8
/-- REEL_CNT (Table MET-12). -/
abbrev REEL_CNT : Nat := 0x400400CC
/-- BIL_STAT (Table BIL-12). -/
abbrev BIL_STAT : Nat := 0x40041000
/-- BIL_CALID (Table BIL-12). -/
abbrev BIL_CALID : Nat := 0x40041004
/-- BIL_CALPEND (Table BIL-12). -/
abbrev BIL_CALPEND : Nat := 0x40041008
/-- BIL_CALACT (Table BIL-12). -/
abbrev BIL_CALACT : Nat := 0x4004100C
/-- BIL_SNAP_SEQ (Table BIL-12). -/
abbrev BIL_SNAP_SEQ : Nat := 0x40041010
/-- BIL_CNT (Table BIL-12). -/
abbrev BIL_CNT : Nat := 0x40041014
/-- REC_NEXT (Table BIL-12). -/
abbrev REC_NEXT : Nat := 0x40041018
/-- REC_OLDEST (Table BIL-12). -/
abbrev REC_OLDEST : Nat := 0x4004101C
/-- REG_LO, element n of 16 (Table BIL-12). -/
abbrev REG_LO (n : Nat) : Nat := 0x40041020 + 0x8 * n
/-- REG_HI, element n of 16 (Table BIL-12). -/
abbrev REG_HI (n : Nat) : Nat := 0x40041024 + 0x8 * n
/-- TOTAL_LO (Table BIL-12). -/
abbrev TOTAL_LO : Nat := 0x400410A0
/-- TOTAL_HI (Table BIL-12). -/
abbrev TOTAL_HI : Nat := 0x400410A4
/-- MD_CUR (Table BIL-12). -/
abbrev MD_CUR : Nat := 0x400410A8
/-- MD_CUR_START (Table BIL-12). -/
abbrev MD_CUR_START : Nat := 0x400410AC
/-- MD, element n of 8 (Table BIL-12). -/
abbrev MD (n : Nat) : Nat := 0x400410B0 + 0x8 * n
/-- MD_TIME, element n of 8 (Table BIL-12). -/
abbrev MD_TIME (n : Nat) : Nat := 0x400410B4 + 0x8 * n
/-- SES_ID_LO (Table BIL-12). -/
abbrev SES_ID_LO : Nat := 0x400410F0
/-- SES_ID_HI (Table BIL-12). -/
abbrev SES_ID_HI : Nat := 0x400410F4
/-- SES_T_START (Table BIL-12). -/
abbrev SES_T_START : Nat := 0x400410F8
/-- SES_GRID (Table BIL-12). -/
abbrev SES_GRID : Nat := 0x400410FC
/-- SES_GEN (Table BIL-12). -/
abbrev SES_GEN : Nat := 0x40041100
/-- SES_START_LO (Table BIL-12). -/
abbrev SES_START_LO : Nat := 0x40041104
/-- SES_START_HI (Table BIL-12). -/
abbrev SES_START_HI : Nat := 0x40041108
/-- DISP_ITEM (Table BIL-12). -/
abbrev DISP_ITEM : Nat := 0x4004110C
/-- LCD_CTL (Table BIL-12). -/
abbrev LCD_CTL : Nat := 0x40041200
/-- KEY_CTL (Table KEY-17). -/
abbrev KEY_CTL : Nat := 0x40050000
/-- KEY_STAT (Table KEY-17). -/
abbrev KEY_STAT : Nat := 0x40050004
/-- KEY_ERR (Table KEY-17). -/
abbrev KEY_ERR : Nat := 0x40050008
/-- KEY_DEVID, element n of 4 (Table KEY-17). -/
abbrev KEY_DEVID (n : Nat) : Nat := 0x40050010 + 0x4 * n
/-- KU_CNT (Table KEY-17). -/
abbrev KU_CNT : Nat := 0x40050020
/-- KU_FLOOR (Table KEY-17). -/
abbrev KU_FLOOR : Nat := 0x40050024
/-- SLOT_IDX (Table KEY-17). -/
abbrev KEY_SLOT_IDX : Nat := 0x40050030
/-- SLOT_INFO (Table KEY-17). -/
abbrev SLOT_INFO : Nat := 0x40050034
/-- SLOT_META (Table KEY-17). -/
abbrev SLOT_META : Nat := 0x40050038
/-- SLOT_CNT (Table KEY-17). -/
abbrev SLOT_CNT : Nat := 0x4005003C
/-- SLOT_IV_LO (Table KEY-17). -/
abbrev SLOT_IV_LO : Nat := 0x40050040
/-- SLOT_IV_HI (Table KEY-17). -/
abbrev SLOT_IV_HI : Nat := 0x40050044
/-- SLOT_WCNT (Table KEY-17). -/
abbrev SLOT_WCNT : Nat := 0x40050048
/-- SLOT_BAD0 (Table KEY-17). -/
abbrev SLOT_BAD0 : Nat := 0x40050050
/-- SLOT_BAD1 (Table KEY-17). -/
abbrev SLOT_BAD1 : Nat := 0x40050054
/-- SLOT_LOST0 (Table KEY-17). -/
abbrev SLOT_LOST0 : Nat := 0x40050058
/-- SLOT_LOST1 (Table KEY-17). -/
abbrev SLOT_LOST1 : Nat := 0x4005005C
/-- VLT_STAT (Table KEY-18). -/
abbrev VLT_STAT : Nat := 0x40054000
/-- VLT_ERR (Table KEY-18). -/
abbrev VLT_ERR : Nat := 0x40054004
/-- TAMP_EN (Table KEY-18). -/
abbrev TAMP_EN : Nat := 0x40054010
/-- TAMP_ACT (Table KEY-18). -/
abbrev TAMP_ACT : Nat := 0x40054014
/-- TAMP_BALL (Table KEY-18). -/
abbrev TAMP_BALL : Nat := 0x40054018
/-- MESH_CFG (Table KEY-18). -/
abbrev MESH_CFG : Nat := 0x4005401C
/-- TAMP_LAST (Table KEY-18). -/
abbrev TAMP_LAST : Nat := 0x40054020
/-- TAMP_TIME (Table KEY-18). -/
abbrev TAMP_TIME : Nat := 0x40054024
/-- CAL_TRIM (Table KEY-18). -/
abbrev CAL_TRIM : Nat := 0x40054030
/-- CAL_ALARM (Table KEY-18). -/
abbrev CAL_ALARM : Nat := 0x40054034
/-- CAL_ALARM_CTL (Table KEY-18). -/
abbrev CAL_ALARM_CTL : Nat := 0x40054038
/-- LOG_NEXT (Table KEY-18). -/
abbrev LOG_NEXT : Nat := 0x40054040
/-- CRY_CTL (Table CRY-11). -/
abbrev CRY_CTL : Nat := 0x40051000
/-- CRY_STAT (Table CRY-11). -/
abbrev CRY_STAT : Nat := 0x40051004
/-- CRY_ERR (Table CRY-11). -/
abbrev CRY_ERR : Nat := 0x40051008
/-- CRY_BYTES (Table CRY-11). -/
abbrev CRY_BYTES : Nat := 0x40051010
/-- CRY_AUTHCNT (Table CRY-11). -/
abbrev CRY_AUTHCNT : Nat := 0x40051014
/-- PKE_CTL (Table CRY-12). -/
abbrev PKE_CTL : Nat := 0x40052000
/-- PKE_STAT (Table CRY-12). -/
abbrev PKE_STAT : Nat := 0x40052004
/-- PKE_ERR (Table CRY-12). -/
abbrev PKE_ERR : Nat := 0x40052008
/-- PKE_CNT (Table CRY-12). -/
abbrev PKE_CNT : Nat := 0x4005200C
/-- TRNG_CTL (Table CRY-13). -/
abbrev TRNG_CTL : Nat := 0x40053000
/-- TRNG_STAT (Table CRY-13). -/
abbrev TRNG_STAT : Nat := 0x40053004
/-- TRNG_ERR (Table CRY-13). -/
abbrev TRNG_ERR : Nat := 0x40053008
/-- TRNG_CMD (Table CRY-13). -/
abbrev TRNG_CMD : Nat := 0x4005300C
/-- TRNG_HT (Table CRY-13). -/
abbrev TRNG_HT : Nat := 0x40053010
/-- TRNG_RESEEDS (Table CRY-13). -/
abbrev TRNG_RESEEDS : Nat := 0x40053014
/-- TRNG_REQS (Table CRY-13). -/
abbrev TRNG_REQS : Nat := 0x40053018
/-- UPD_CTL (Table UPD-14). -/
abbrev UPD_CTL : Nat := 0x40060000
/-- UPD_STAT (Table UPD-14). -/
abbrev UPD_STAT : Nat := 0x40060004
/-- UPD_ERR (Table UPD-14). -/
abbrev UPD_ERR : Nat := 0x40060008
/-- UPD_OWN (Table UPD-14). -/
abbrev UPD_OWN : Nat := 0x4006000C
/-- UPD_OWNINFO (Table UPD-14). -/
abbrev UPD_OWNINFO : Nat := 0x40060010
/-- UPD_HEALTH (Table UPD-14). -/
abbrev UPD_HEALTH : Nat := 0x40060014
/-- UPD_REVACK (Table UPD-14). -/
abbrev UPD_REVACK : Nat := 0x40060018
/-- UPD_HCFG (Table UPD-14). -/
abbrev UPD_HCFG : Nat := 0x40060020
/-- UPD_RCFG (Table UPD-14). -/
abbrev UPD_RCFG : Nat := 0x40060024
/-- UPD_HLEFT (Table UPD-14). -/
abbrev UPD_HLEFT : Nat := 0x40060028
/-- UPD_RUNBANK (Table UPD-14). -/
abbrev UPD_RUNBANK : Nat := 0x40060030
/-- UPD_VSVN (Table UPD-14). -/
abbrev UPD_VSVN : Nat := 0x40060034
/-- UPD_GEN_A (Table UPD-14). -/
abbrev UPD_GEN_A : Nat := 0x40060040
/-- UPD_GEN_B (Table UPD-14). -/
abbrev UPD_GEN_B : Nat := 0x40060044
/-- UPD_CNT (Table UPD-14). -/
abbrev UPD_CNT : Nat := 0x40060050
/-- SAF_STAT (Table SAF-15). -/
abbrev SAF_STAT : Nat := 0x40070000
/-- SAF_ERR (Table SAF-15). -/
abbrev SAF_ERR : Nat := 0x40070004
/-- SAF_PCRC (Table SAF-15). -/
abbrev SAF_PCRC : Nat := 0x40070008
/-- SAF_CCRC (Table SAF-15). -/
abbrev SAF_CCRC : Nat := 0x4007000C
/-- SAF_COMM (Table SAF-15). -/
abbrev SAF_COMM : Nat := 0x40070010
/-- SAF_CMD (Table SAF-15). -/
abbrev SAF_CMD : Nat := 0x40070014
/-- SAF_HALT (Table SAF-15). -/
abbrev SAF_HALT : Nat := 0x40070018
/-- SAF_IN (Table SAF-15). -/
abbrev SAF_IN : Nat := 0x40070020
/-- SAF_INFLT (Table SAF-15). -/
abbrev SAF_INFLT : Nat := 0x40070024
/-- SAF_SO (Table SAF-15). -/
abbrev SAF_SO : Nat := 0x40070028
/-- SAF_LINES (Table SAF-15). -/
abbrev SAF_LINES : Nat := 0x4007002C
/-- SAF_FN, element n of 8 (Table SAF-15). -/
abbrev SAF_FN (n : Nat) : Nat := 0x40070030 + 0x4 * n
/-- SAF_CNT (Table SAF-15). -/
abbrev SAF_CNT : Nat := 0x40070050
/-- SAF_WDGA (Table SAF-15). -/
abbrev SAF_WDGA : Nat := 0x40070140
/-- SAF_WDGB (Table SAF-15). -/
abbrev SAF_WDGB : Nat := 0x40070144
/-- COMM_REQA (Table SAF-15). -/
abbrev COMM_REQA : Nat := 0x40070148
/-- COMM_REQB (Table SAF-15). -/
abbrev COMM_REQB : Nat := 0x4007014C
/-- SAF_CTLA (Table SAF-15). -/
abbrev SAF_CTLA : Nat := 0x40070150
/-- SAF_CTLB (Table SAF-15). -/
abbrev SAF_CTLB : Nat := 0x40070154
/-- LS_MODE (Table LSW-6). -/
abbrev LS_MODE : Nat := 0x40080000
/-- LS_OWN (Table LSW-6). -/
abbrev LS_OWN : Nat := 0x40080004
/-- LS_SET (Table LSW-6). -/
abbrev LS_SET : Nat := 0x40080008
/-- LS_CLR (Table LSW-6). -/
abbrev LS_CLR : Nat := 0x4008000C
/-- LS_CMD (Table LSW-6). -/
abbrev LS_CMD : Nat := 0x40080010
/-- LS_STAT (Table LSW-6). -/
abbrev LS_STAT : Nat := 0x40080014
/-- LS_ERR (Table LSW-6). -/
abbrev LS_ERR : Nat := 0x40080018
/-- LS_LCLR (Table LSW-6). -/
abbrev LS_LCLR : Nat := 0x4008001C
/-- LS_CUR, element n of 16 (Table LSW-6). -/
abbrev LS_CUR (n : Nat) : Nat := 0x40080040 + 0x4 * n
/-- LS_CFG (PD), element n of 16 (Table LSW-6). -/
abbrev LS_CFG (n : Nat) : Nat := 0x40080080 + 0x4 * n
/-- LS_DIAG (PD), element n of 16 (Table LSW-6). -/
abbrev LS_DIAG (n : Nat) : Nat := 0x400800C0 + 0x4 * n
/-- Offset of U_CTL (SER-10). -/
abbrev U_CTL : Nat := 0x000
/-- Offset of U_FRAME (SER-10). -/
abbrev U_FRAME : Nat := 0x004
/-- Offset of U_BAUD (SER-10). -/
abbrev U_BAUD : Nat := 0x008
/-- Offset of U_STAT (SER-10). -/
abbrev U_STAT : Nat := 0x00C
/-- Offset of U_DATA (SER-10). -/
abbrev U_DATA : Nat := 0x010
/-- Offset of U_ERR (SER-10). -/
abbrev U_ERR : Nat := 0x014
/-- Offset of U_FLOW (SER-10). -/
abbrev U_FLOW : Nat := 0x018
/-- Offset of U_ADDR (SER-10). -/
abbrev U_ADDR : Nat := 0x01C
/-- Offset of U_RS485 (SER-10). -/
abbrev U_RS485 : Nat := 0x020
/-- Offset of U_KLINE (SER-10). -/
abbrev U_KLINE : Nat := 0x024
/-- Offset of U_IDLE (SER-10). -/
abbrev U_IDLE : Nat := 0x028
/-- Offset of U_XOFF_T (SER-10). -/
abbrev U_XOFF_T : Nat := 0x02C
/-- Offset of U_CNT (SER-10). -/
abbrev U_CNT : Nat := 0x030
/-- Offset of CAN_CTL (SER-11). -/
abbrev CAN_CTL : Nat := 0x000
/-- Offset of CAN_NBT (SER-11). -/
abbrev CAN_NBT : Nat := 0x004
/-- Offset of CAN_DBT (SER-11). -/
abbrev CAN_DBT : Nat := 0x008
/-- Offset of CAN_STAT (SER-11). -/
abbrev CAN_STAT : Nat := 0x00C
/-- Offset of CAN_ERR (SER-11). -/
abbrev CAN_ERR : Nat := 0x010
/-- Offset of CAN_CMD (SER-11). -/
abbrev CAN_CMD : Nat := 0x014
/-- Offset of CAN_CNT (SER-11). -/
abbrev CAN_CNT : Nat := 0x018
/-- Offset of CAN_FID, element n (SER-11). -/
abbrev CAN_FID (n : Nat) : Nat := 0x100 + 0x8 * n
/-- Offset of CAN_FMASK, element n (SER-11). -/
abbrev CAN_FMASK (n : Nat) : Nat := 0x104 + 0x8 * n
/-- RDC_LVL1 (Table CHG-12). -/
abbrev RDC_LVL1 : Nat := 0x40031010
/-- RDC_LVL2 (Table CHG-12). -/
abbrev RDC_LVL2 : Nat := 0x40031014
/-- RDC_LVL3 (Table CHG-12). -/
abbrev RDC_LVL3 : Nat := 0x40031018
/-- MON_CFG0 (Table TIM-10). -/
abbrev MON_CFG0 : Nat := 0x40001200
/-- MON_CFG1 (Table TIM-10). -/
abbrev MON_CFG1 : Nat := 0x40001210
/-- MON_CFG2 (Table TIM-10). -/
abbrev MON_CFG2 : Nat := 0x40001220
/-- MON_CFG3 (Table TIM-10). -/
abbrev MON_CFG3 : Nat := 0x40001230
/-- MON_CFG4 (Table TIM-10). -/
abbrev MON_CFG4 : Nat := 0x40001240
/-- TLM_CH0 (Table CTR-23). -/
abbrev TLM_CH0 : Nat := 0x40009010
/-- TLM_CH1 (Table CTR-23). -/
abbrev TLM_CH1 : Nat := 0x40009014
/-- TLM_CH2 (Table CTR-23). -/
abbrev TLM_CH2 : Nat := 0x40009018
/-- TLM_CH3 (Table CTR-23). -/
abbrev TLM_CH3 : Nat := 0x4000901C
/-- TLM_CH4 (Table CTR-23). -/
abbrev TLM_CH4 : Nat := 0x40009020
/-- TLM_CH5 (Table CTR-23). -/
abbrev TLM_CH5 : Nat := 0x40009024
/-- TLM_CH6 (Table CTR-23). -/
abbrev TLM_CH6 : Nat := 0x40009028
/-- TLM_CH7 (Table CTR-23). -/
abbrev TLM_CH7 : Nat := 0x4000902C
/-- TLM_CH8 (Table CTR-23). -/
abbrev TLM_CH8 : Nat := 0x40009030
/-- TLM_CH9 (Table CTR-23). -/
abbrev TLM_CH9 : Nat := 0x40009034
/-- TLM_CH10 (Table CTR-23). -/
abbrev TLM_CH10 : Nat := 0x40009038
/-- TLM_CH11 (Table CTR-23). -/
abbrev TLM_CH11 : Nat := 0x4000903C
/-- TLM_CH12 (Table CTR-23). -/
abbrev TLM_CH12 : Nat := 0x40009040
/-- TLM_CH13 (Table CTR-23). -/
abbrev TLM_CH13 : Nat := 0x40009044
/-- TLM_CH14 (Table CTR-23). -/
abbrev TLM_CH14 : Nat := 0x40009048
/-- TLM_CH15 (Table CTR-23). -/
abbrev TLM_CH15 : Nat := 0x4000904C
/-- XC_A, element n of 8 (Table SAF-15). -/
abbrev XC_A (n : Nat) : Nat := 0x40070100 + 0x4 * n
/-- XC_B, element n of 8 (Table SAF-15). -/
abbrev XC_B (n : Nat) : Nat := 0x40070120 + 0x4 * n
/-- ETH_CTL (Table SER-12). -/
abbrev ETH_CTL : Nat := 0x400A2000
/-- ETH_ERR (Table SER-12). -/
abbrev ETH_ERR : Nat := 0x400A2004
/-- ETH_MAC_LO (Table SER-12). -/
abbrev ETH_MAC_LO : Nat := 0x400A2010
/-- ETH_MAC_HI (Table SER-12). -/
abbrev ETH_MAC_HI : Nat := 0x400A2014
/-- ETH_HASH_LO (Table SER-12). -/
abbrev ETH_HASH_LO : Nat := 0x400A2018
/-- ETH_HASH_HI (Table SER-12). -/
abbrev ETH_HASH_HI : Nat := 0x400A201C
/-- ETH_MDC (Table SER-12). -/
abbrev ETH_MDC : Nat := 0x400A2020
/-- ETH_CNT (Table SER-12). -/
abbrev ETH_CNT : Nat := 0x400A2030
/-- Offset of SPI_CTL (SER-12). -/
abbrev SPI_CTL : Nat := 0x000
/-- Offset of SPI_CS (SER-12). -/
abbrev SPI_CS : Nat := 0x004
/-- Offset of SPI_ERR (SER-12). -/
abbrev SPI_ERR : Nat := 0x008
/-- Offset of SPI_FILL (SER-12). -/
abbrev SPI_FILL : Nat := 0x00C
/-- Offset of I2C_CTL (SER-12). -/
abbrev I2C_CTL : Nat := 0x000
/-- Offset of I2C_OWN (SER-12). -/
abbrev I2C_OWN : Nat := 0x004
/-- Offset of I2C_TMO (SER-12). -/
abbrev I2C_TMO : Nat := 0x008
/-- Offset of I2C_STAT (SER-12). -/
abbrev I2C_STAT : Nat := 0x00C
/-- Offset of I2C_ERR (SER-12). -/
abbrev I2C_ERR : Nat := 0x010
/-- USB_CTL (Table SER-12). -/
abbrev USB_CTL : Nat := 0x400A8000
/-- USB_STAT (Table SER-12). -/
abbrev USB_STAT : Nat := 0x400A8004
/-- USB_ERR (Table SER-12). -/
abbrev USB_ERR : Nat := 0x400A8008
/-- USB_ADDR (Table SER-12). -/
abbrev USB_ADDR : Nat := 0x400A800C
/-- USB_CMD (Table SER-12). -/
abbrev USB_CMD : Nat := 0x400A8010
/-- USB_EP0 (Table SER-12). -/
abbrev USB_EP0 : Nat := 0x400A8020
/-- USB_EP, element n of 7 (Table SER-12). -/
abbrev USB_EP (n : Nat) : Nat := 0x400A8024 + 0x4 * n
/-- DBG_STAT (Table SER-12). -/
abbrev DBG_STAT : Nat := 0x400F0000

end Sys2Proof.Machine.A
end

