-- ==== Sys2Proof/Config.lean ====
section
/-! DEFINITION. What the spec leaves open: values with no body, so that no proof can see what they are. -/
namespace Sys2Proof.Config

/-- A free 32-bit value: the `n`-th value the machine produced where the spec states none. -/
opaque freeWord : Nat → Word

/-- A free number: the `n`-th choice the machine made where the spec states no choice. -/
opaque freeNat : Nat → Nat

/-- The bytes of the boot ROM, which the spec does not print. -/
opaque bootRomByte : Nat → Byte

/-- The fuse root of the key store (R592): no access returns it. -/
opaque fuseRoot : BitVec 256

/-- DEVICE_ID, the fused identifier of the part; the first byte is the most significant. -/
opaque deviceId : BitVec 128

/-- The fused hash of the metrology section (R271). -/
opaque metHash : BitVec 384

/-- The fused hash of the image signing key (Table UPD-6). -/
opaque signKeyHash : BitVec 384

/-- The fused hash of the debug key (R832). -/
opaque debugKeyHash : BitVec 384

end Sys2Proof.Config
end

