-- ==== Sys2Proof/Machine/RegTable.lean ====
section
/-! DEFINITION. The register tables of the spec as data: offset, access type, reset value, check, writable bits and the
value that each illegal field value stores (R99, R100, Table RING-12 and every chapter's register table). -/
namespace Sys2Proof.Machine

/-- Access types of Table RING-12 (LK is carried beside them). -/
inductive Acc where
  | rw | ro | w1c | wp | sl
  deriving DecidableEq, Repr

/-- What an illegal field value stores (R100). -/
inductive Fix where
  /-- Values of the field from `first` up store `store`. -/
  | illegal (lo len first store : Nat)
  /-- Values outside `[a, b]` store the nearer end. -/
  | clamp (lo len a b : Nat)
  /-- The signed field stores the nearer end of `[a, b]`. -/
  | clampS (lo len : Nat) (a b : Int)
  /-- These bits always read 1. -/
  | ones (m : Nat)
  /-- The field value 0 stores `store`. -/
  | zero (lo len store : Nat)
  /-- A field below the field at `ref` stores that one. -/
  | notBelow (lo ref len : Nat)
  deriving DecidableEq, Repr

/-- One row of a register table: `cnt` registers, `st` bytes apart, from window offset `off`. -/
structure RegInfo where
  name : String
  off : Nat
  cnt : Nat
  st : Nat
  acc : Acc
  lk : Bool
  pd : Bool
  reset : Nat
  chk : Bool
  mask : Nat
  fix : List Fix
  deriving DecidableEq, Repr

/-- Register rows of window PMU, part 0. -/
def regs_pmu_0 : List RegInfo :=
  [⟨"PMU_CTL", 0x000, 1, 0x4, .wp, true, false, 0x00000000, true, 0x00000003, []⟩,
   ⟨"PMU_MODE", 0x004, 1, 0x4, .wp, false, false, 0x00000000, false, 0x00000003, []⟩,
   ⟨"PMU_STAT", 0x008, 1, 0x4, .ro, false, false, 0x0000003C, false, 0x000000FC, []⟩,
   ⟨"PMU_ERR", 0x00C, 1, 0x4, .w1c, false, false, 0x00000000, false, 0x0000007F, []⟩,
   ⟨"PWR_REQ", 0x010, 1, 0x4, .wp, false, false, 0x007FFFFF, false, 0x00FFFFFF, []⟩,
   ⟨"PWR_STAT", 0x014, 1, 0x4, .ro, false, false, 0x007FFFFF, false, 0x00FFFFFF, []⟩,
   ⟨"PWR_ERRDOM", 0x018, 1, 0x4, .ro, false, false, 0x00000000, false, 0x0000071F, []⟩,
   ⟨"SRAM_RET", 0x020, 1, 0x4, .wp, false, false, 0x00000000, false, 0x0000000F, []⟩,
   ⟨"WAKE_EN", 0x024, 1, 0x4, .wp, true, false, 0x0000600F, true, 0x00007FFF, [.ones 0x6000]⟩,
   ⟨"WAKE_CAUSE", 0x028, 1, 0x4, .w1c, false, false, 0x00000000, false, 0x00007FFF, []⟩,
   ⟨"PF_CFG", 0x030, 1, 0x4, .wp, false, false, 0x00000037, true, 0x0000007F, [.clamp 0 7 50 90]⟩,
   ⟨"TEMP_CFG", 0x034, 1, 0x4, .wp, false, false, 0x0000007D, true, 0x000000FF, [.clamp 0 8 100 135]⟩,
   ⟨"SUP_VIN", 0x040, 1, 0x4, .ro, false, true, 0x00000000, false, 0xFFFFFFFF, []⟩,
   ⟨"SUP_VIO", 0x044, 1, 0x4, .ro, false, true, 0x00000000, false, 0xFFFFFFFF, []⟩,
   ⟨"SUP_VCORE", 0x048, 1, 0x4, .ro, false, false, 0x00000000, false, 0xFFFFFFFF, []⟩,
   ⟨"SUP_VBAT", 0x04C, 1, 0x4, .ro, false, false, 0x00000000, false, 0xFFFFFFFF, []⟩,
   ⟨"TEMP_CD", 0x050, 1, 0x4, .ro, false, false, 0x00000000, false, 0x0000FFFF, []⟩,
   ⟨"TEMP_PD", 0x054, 1, 0x4, .ro, false, true, 0x00000000, false, 0x0000FFFF, []⟩,
   ⟨"AVS_MARGIN", 0x060, 1, 0x4, .ro, false, false, 0x00000000, false, 0x0000007F, []⟩]

/-- Register rows of window CLK, part 0. -/
def regs_clk_0 : List RegInfo :=
  [⟨"CLK_CTL", 0x000, 1, 0x4, .wp, true, false, 0x00000000, true, 0x0000003F, []⟩,
   ⟨"CLK_STAT", 0x004, 1, 0x4, .ro, false, false, 0x00000020, false, 0x0000077F, []⟩,
   ⟨"CLK_ERR", 0x008, 1, 0x4, .w1c, false, false, 0x00000000, false, 0x00007F3F, []⟩,
   ⟨"SSC_CFG", 0x010, 1, 0x4, .wp, true, false, 0x00010010, true, 0x7FFF0013, [.clamp 16 15 1 32767]⟩,
   ⟨"SSC_STAT", 0x014, 1, 0x4, .ro, false, false, 0x00000000, false, 0x003FFFFF, []⟩,
   ⟨"CLK_DOM", 0x100, 28, 0x4, .rw, false, false, 0x00000001, true, 0x00000001, []⟩,
   ⟨"MON_CFG0", 0x200, 1, 0x4, .wp, false, false, 0x0A280960, true, 0xFFFFFFFF, []⟩,
   ⟨"MON_CNT", 0x204, 7, 0x10, .ro, false, false, 0x00000000, false, 0x0000FFFF, []⟩,
   ⟨"MON_CFG1", 0x210, 1, 0x4, .wp, false, false, 0x002A0018, true, 0xFFFFFFFF, []⟩,
   ⟨"MON_CFG2", 0x220, 1, 0x4, .wp, false, false, 0x9DD09600, true, 0xFFFFFFFF, []⟩,
   ⟨"MON_CFG3", 0x230, 1, 0x4, .wp, false, false, 0x26C92604, true, 0xFFFFFFFF, []⟩,
   ⟨"MON_CFG4", 0x240, 1, 0x4, .wp, false, false, 0x1F681F18, true, 0xFFFFFFFF, []⟩,
   ⟨"MON_CFG5", 0x250, 1, 0x4, .ro, false, false, 0x44C03840, false, 0xFFFFFFFF, []⟩,
   ⟨"MON_CFG6", 0x260, 1, 0x4, .ro, false, false, 0x407434BC, false, 0xFFFFFFFF, []⟩,
   ⟨"PAD_IDX", 0x380, 1, 0x4, .rw, false, false, 0x00000000, false, 0x000001FF, []⟩,
   ⟨"PAD_CFG", 0x384, 1, 0x4, .wp, false, false, 0x00000010, false, 0x00007313, []⟩]

/-- Register rows of window TMB, part 0. -/
def regs_tmb_0 : List RegInfo :=
  [⟨"TB_CTL", 0x000, 1, 0x4, .wp, true, false, 0x00000001, true, 0x00000001, []⟩,
   ⟨"TB_STAT", 0x004, 1, 0x4, .w1c, false, false, 0x00000000, false, 0x0000000F, []⟩,
   ⟨"TB_LO", 0x008, 1, 0x4, .ro, false, false, 0x00000000, false, 0xFFFFFFFF, []⟩,
   ⟨"TB_HI", 0x00C, 1, 0x4, .ro, false, false, 0x00000000, false, 0xFFFFFFFF, []⟩,
   ⟨"TB_AUX", 0x010, 1, 0x4, .ro, false, false, 0x00000400, false, 0x0000071F, []⟩,
   ⟨"LF_PERIOD", 0x014, 1, 0x4, .wp, false, false, 0x2FAF0800, false, 0xFFFFFFFF, []⟩,
   ⟨"CORR_CNT", 0x018, 1, 0x4, .ro, false, false, 0x00000000, false, 0xFFFFFFFF, []⟩,
   ⟨"TB_CMP_OWN", 0x020, 1, 0x4, .wp, true, false, 0xFFFFFFFF, true, 0xFFFFFFFF, []⟩,
   ⟨"TB_CMP_LO", 0x100, 8, 0x10, .rw, false, false, 0x00000000, false, 0xFFFFFFFF, []⟩,
   ⟨"TB_CMP_HI", 0x104, 8, 0x10, .rw, false, false, 0x00000000, false, 0xFFFFFFFF, []⟩,
   ⟨"TB_CMP_CTL", 0x108, 8, 0x10, .rw, false, false, 0x00000000, false, 0x00000001, []⟩,
   ⟨"TB_CMP_RELOAD", 0x10C, 8, 0x10, .rw, false, false, 0x00000000, false, 0xFFFFFFFF, []⟩]

/-- Register rows of window SYS, part 0. -/
def regs_sys_0 : List RegInfo :=
  [⟨"SYS_ID", 0x000, 1, 0x4, .ro, false, false, 0x94201100, false, 0xFFFFFF0F, []⟩,
   ⟨"RST_CAUSE", 0x004, 1, 0x4, .w1c, false, false, 0x00000000, false, 0x0000FFFF, []⟩,
   ⟨"SYS_RST_CTL", 0x008, 1, 0x4, .wp, false, false, 0x00000000, false, 0x00000000, []⟩,
   ⟨"CORE_CTL", 0x010, 1, 0x4, .wp, false, false, 0x00000000, false, 0x0000000E, []⟩,
   ⟨"CORE_STAT", 0x014, 1, 0x4, .ro, false, false, 0x00000000, false, 0x00000000, []⟩,
   ⟨"H1_START", 0x018, 1, 0x4, .rw, true, false, 0x08000000, true, 0xFFFFFFFE, []⟩,
   ⟨"CORE_RDY", 0x01C, 1, 0x4, .rw, false, false, 0x00000000, false, 0x0000007F, []⟩,
   ⟨"BOOT_STAT", 0x020, 1, 0x4, .ro, false, false, 0x00000000, false, 0xFFFF7F1F, []⟩,
   ⟨"BOOT_T_SAFE", 0x024, 1, 0x4, .ro, false, false, 0x00000000, false, 0xFFFFFFFF, []⟩,
   ⟨"BOOT_T_ENG", 0x028, 1, 0x4, .ro, false, false, 0x00000000, false, 0xFFFFFFFF, []⟩,
   ⟨"BOOT_T_HOST", 0x02C, 1, 0x4, .ro, false, false, 0x00000000, false, 0xFFFFFFFF, []⟩,
   ⟨"WDT_CFG", 0x040, 5, 0x10, .wp, false, false, 0x000003E8, true, 0x0001FFFF, [.clamp 0 16 1 65535]⟩,
   ⟨"WDT_KICK", 0x044, 5, 0x10, .rw, false, false, 0x00000000, false, 0x00000000, []⟩,
   ⟨"WDT_STAT", 0x048, 5, 0x10, .w1c, false, false, 0x00000000, false, 0x00000003, []⟩,
   ⟨"WDT_LEFT", 0x04C, 5, 0x10, .ro, false, false, 0x000003E8, false, 0x0000FFFF, []⟩,
   ⟨"LML_STAT", 0x200, 1, 0x4, .ro, false, false, 0x00000004, false, 0x0000FF07, []⟩,
   ⟨"LML_ERR", 0x204, 1, 0x4, .w1c, false, false, 0x00000000, false, 0x0000007F, []⟩,
   ⟨"LML_CNT", 0x208, 1, 0x4, .ro, false, false, 0x00000000, false, 0xFFFFFFFF, []⟩,
   ⟨"LML_FAIL_ADDR", 0x20C, 1, 0x4, .ro, false, false, 0x00000000, false, 0xFFFFFFFF, []⟩,
   ⟨"LML_CTL", 0x210, 1, 0x4, .wp, false, false, 0x00036400, true, 0x000FFF00, [.clamp 8 8 1 255, .clamp 16 4 0 3]⟩,
   ⟨"FAB_DENY_ADDR", 0x220, 1, 0x4, .ro, false, false, 0x00000000, false, 0xFFFFFFFF, []⟩,
   ⟨"FAB_DENY_INFO", 0x224, 1, 0x4, .ro, false, false, 0x00000000, false, 0x0000FF3F, []⟩,
   ⟨"FAB_DENY_CNT", 0x228, 1, 0x4, .ro, false, false, 0x00000000, false, 0xFFFFFFFF, []⟩,
   ⟨"FAB_STAT", 0x22C, 1, 0x4, .w1c, false, false, 0x00000000, false, 0x00000001, []⟩]

/-- Register rows of window EVR, part 0. -/
def regs_evr_0 : List RegInfo :=
  [⟨"EVR_CTL", 0x000, 1, 0x4, .wp, true, false, 0x00000001, true, 0x00000001, []⟩,
   ⟨"EVR_RT_IDX", 0x004, 1, 0x4, .rw, false, false, 0x00000000, false, 0x000007FF, []⟩,
   ⟨"EVR_RT_DATA", 0x008, 1, 0x4, .wp, false, false, 0x00000000, false, 0x00000F7F, []⟩,
   ⟨"EVR_VIEW", 0x00C, 1, 0x4, .rw, false, false, 0x00000000, false, 0x0000001F, [.illegal 0 4 7 0]⟩,
   ⟨"EVR_SWEV", 0x010, 1, 0x4, .rw, false, false, 0x00000000, false, 0x00000000, []⟩,
   ⟨"EVR_STAT", 0x014, 1, 0x4, .w1c, false, false, 0x00000000, false, 0x00000003, []⟩,
   ⟨"EVR_THRESH", 0x020, 1, 0x4, .rw, false, false, 0x00000000, false, 0x0000000F, []⟩,
   ⟨"EVR_TOP", 0x024, 1, 0x4, .ro, false, false, 0x00000000, false, 0x000F87FF, []⟩,
   ⟨"EVR_ACK", 0x028, 1, 0x4, .rw, false, false, 0x00000000, false, 0x00000000, []⟩,
   ⟨"EVR_MISS", 0x02C, 1, 0x4, .ro, false, false, 0x00000000, false, 0x0000FFFF, []⟩,
   ⟨"EVR_PEND", 0x040, 38, 0x4, .w1c, false, false, 0x00000000, false, 0xFFFFFFFF, []⟩,
   ⟨"EVR_RWIN", 0x100, 8, 0x4, .w1c, false, false, 0x00000000, false, 0xFFFFFFFF, []⟩]

/-- Register rows of window SEM, part 0. -/
def regs_sem_0 : List RegInfo :=
  [⟨"SEM", 0x000, 64, 0x4, .rw, false, false, 0x00000FF0, false, 0x00000000, []⟩,
   ⟨"SEM_ORPH0", 0x100, 1, 0x4, .ro, false, false, 0x00000000, false, 0xFFFFFFFF, []⟩,
   ⟨"SEM_ORPH1", 0x104, 1, 0x4, .ro, false, false, 0x00000000, false, 0xFFFFFFFF, []⟩,
   ⟨"SEM_STAT", 0x108, 1, 0x4, .w1c, false, false, 0x00000000, false, 0x00000003, []⟩,
   ⟨"SEM_ERR_INFO", 0x10C, 1, 0x4, .ro, false, false, 0x00000000, false, 0x00007F7F, []⟩,
   ⟨"MBX_CFG", 0x200, 8, 0x10, .rw, true, false, 0x000000FF, true, 0x000000FF, [.illegal 0 4 4 15, .illegal 4 4 4 15]⟩,
   ⟨"MBX_DATA", 0x204, 8, 0x10, .rw, false, false, 0x00000000, false, 0xFFFFFFFF, []⟩,
   ⟨"MBX_STAT", 0x208, 8, 0x10, .w1c, false, false, 0x00000000, false, 0x00000007, []⟩]

/-- Register rows of window CFC, part 0. -/
def regs_cfc_0 : List RegInfo :=
  [⟨"CFC_CTL", 0x000, 1, 0x4, .wp, true, false, 0x00000001, false, 0x00000031, [.illegal 4 2 3 0]⟩,
   ⟨"CFC_ARM", 0x004, 1, 0x4, .wp, false, false, 0x00000000, false, 0x000000FF, []⟩,
   ⟨"CFC_ACT", 0x008, 1, 0x4, .wp, true, false, 0x00005555, false, 0x0000FFFF, [.illegal 0 2 3 2, .illegal 2 2 3 2, .illegal 4 2 3 2, .illegal 6 2 3 2, .illegal 8 2 3 2, .illegal 10 2 3 2, .illegal 12 2 3 2, .illegal 14 2 3 2]⟩,
   ⟨"CFC_CMD", 0x00C, 1, 0x4, .wp, false, false, 0x00000000, false, 0x000000FF, []⟩,
   ⟨"CFC_STAT", 0x010, 1, 0x4, .w1c, false, false, 0x00000000, false, 0x000007FF, []⟩,
   ⟨"CFC_SAFE", 0x014, 1, 0x4, .ro, false, false, 0x00000000, false, 0x000000FF, []⟩,
   ⟨"CFC_PASS", 0x018, 1, 0x4, .ro, false, false, 0x00000000, false, 0xFFFFFFFF, []⟩,
   ⟨"CFC_PAIR_ADDR", 0x01C, 1, 0x4, .ro, false, false, 0x00000000, false, 0xFFFFFFFF, []⟩,
   ⟨"CFC_PAIR_INFO", 0x020, 1, 0x4, .ro, false, false, 0x00000000, false, 0xFFFF00FF, []⟩,
   ⟨"CFC_LOCK_ADDR", 0x024, 1, 0x4, .ro, false, false, 0x00000000, false, 0xFFFFFFFF, []⟩,
   ⟨"CFC_MMCNT", 0x028, 1, 0x4, .ro, false, false, 0x00000000, false, 0x00000000, []⟩,
   ⟨"CFC_CRC", 0x040, 8, 0x4, .ro, false, false, 0x00000000, false, 0xFFFFFFFF, []⟩,
   ⟨"CFC_REF", 0x060, 8, 0x4, .wp, false, false, 0x00000000, false, 0xFFFFFFFF, []⟩]

/-- Register rows of window SCR, part 0. -/
def regs_scr_0 : List RegInfo :=
  [⟨"SCR_CTL", 0x000, 1, 0x4, .wp, true, false, 0x00000201, true, 0x0000FF01, [.clamp 8 8 1 60]⟩,
   ⟨"SCR_STAT", 0x004, 1, 0x4, .ro, false, false, 0x00000000, false, 0xFFFF001F, []⟩,
   ⟨"SCR_ERR", 0x008, 1, 0x4, .w1c, false, false, 0x00000000, false, 0x00000007, []⟩,
   ⟨"SCR_CNT", 0x00C, 1, 0x4, .ro, false, false, 0x00000000, false, 0xFFFFFFFF, []⟩,
   ⟨"SCR_LAST", 0x010, 1, 0x4, .ro, false, false, 0x00000000, false, 0xFFFF001F, []⟩]

/-- Register rows of window FLC, part 0. -/
def regs_flc_0 : List RegInfo :=
  [⟨"FLC_CTL", 0x000, 1, 0x4, .wp, true, false, 0x00000A01, true, 0x0000FF01, [.clamp 8 8 1 255]⟩,
   ⟨"FLC_STAT", 0x004, 1, 0x4, .ro, false, false, 0x00000000, false, 0xFFFF071F, []⟩,
   ⟨"FLC_ERR", 0x008, 1, 0x4, .w1c, false, false, 0x00000000, false, 0x0000000F, []⟩,
   ⟨"FLC_ERRADDR", 0x00C, 1, 0x4, .ro, false, false, 0x00000000, false, 0xFFFFFFFF, []⟩,
   ⟨"FLC_CNT", 0x010, 1, 0x4, .ro, false, false, 0x00000000, false, 0xFFFFFFFF, []⟩,
   ⟨"FLC_WEARLIM", 0x014, 1, 0x4, .wp, false, false, 0x23282328, true, 0xFFFFFFFF, []⟩]

/-- Register rows of window TLM, part 0. -/
def regs_tlm_0 : List RegInfo :=
  [⟨"TLM_CTL", 0x000, 1, 0x4, .wp, true, false, 0x00000001, true, 0x00000001, []⟩,
   ⟨"TLM_ERR", 0x004, 1, 0x4, .w1c, false, false, 0x00000000, false, 0x0000FFFF, []⟩,
   ⟨"TLM_CNT", 0x008, 1, 0x4, .ro, false, false, 0x00000000, false, 0xFFFFFFFF, []⟩,
   ⟨"TLM_CH0", 0x010, 1, 0x4, .wp, false, false, 0x000A0000, true, 0x00FF00FF, [.illegal 0 8 14 255, .clamp 16 8 1 255]⟩,
   ⟨"TLM_CH1", 0x014, 1, 0x4, .wp, false, false, 0x000A0001, true, 0x00FF00FF, [.illegal 0 8 14 255, .clamp 16 8 1 255]⟩,
   ⟨"TLM_CH2", 0x018, 1, 0x4, .wp, false, false, 0x00640008, true, 0x00FF00FF, [.illegal 0 8 14 255, .clamp 16 8 1 255]⟩,
   ⟨"TLM_CH3", 0x01C, 1, 0x4, .wp, false, false, 0x000000FF, true, 0x00FF00FF, [.illegal 0 8 14 255, .clamp 16 8 1 255]⟩,
   ⟨"TLM_CH4", 0x020, 1, 0x4, .wp, false, false, 0x000000FF, true, 0x00FF00FF, [.illegal 0 8 14 255, .clamp 16 8 1 255]⟩,
   ⟨"TLM_CH5", 0x024, 1, 0x4, .wp, false, false, 0x000000FF, true, 0x00FF00FF, [.illegal 0 8 14 255, .clamp 16 8 1 255]⟩,
   ⟨"TLM_CH6", 0x028, 1, 0x4, .wp, false, false, 0x000000FF, true, 0x00FF00FF, [.illegal 0 8 14 255, .clamp 16 8 1 255]⟩,
   ⟨"TLM_CH7", 0x02C, 1, 0x4, .wp, false, false, 0x000000FF, true, 0x00FF00FF, [.illegal 0 8 14 255, .clamp 16 8 1 255]⟩,
   ⟨"TLM_CH8", 0x030, 1, 0x4, .wp, false, false, 0x000000FF, true, 0x00FF00FF, [.illegal 0 8 14 255, .clamp 16 8 1 255]⟩,
   ⟨"TLM_CH9", 0x034, 1, 0x4, .wp, false, false, 0x000000FF, true, 0x00FF00FF, [.illegal 0 8 14 255, .clamp 16 8 1 255]⟩,
   ⟨"TLM_CH10", 0x038, 1, 0x4, .wp, false, false, 0x000000FF, true, 0x00FF00FF, [.illegal 0 8 14 255, .clamp 16 8 1 255]⟩,
   ⟨"TLM_CH11", 0x03C, 1, 0x4, .wp, false, false, 0x000000FF, true, 0x00FF00FF, [.illegal 0 8 14 255, .clamp 16 8 1 255]⟩,
   ⟨"TLM_CH12", 0x040, 1, 0x4, .wp, false, false, 0x000000FF, true, 0x00FF00FF, [.illegal 0 8 14 255, .clamp 16 8 1 255]⟩,
   ⟨"TLM_CH13", 0x044, 1, 0x4, .wp, false, false, 0x000000FF, true, 0x00FF00FF, [.illegal 0 8 14 255, .clamp 16 8 1 255]⟩,
   ⟨"TLM_CH14", 0x048, 1, 0x4, .wp, false, false, 0x000000FF, true, 0x00FF00FF, [.illegal 0 8 14 255, .clamp 16 8 1 255]⟩,
   ⟨"TLM_CH15", 0x04C, 1, 0x4, .wp, false, false, 0x000000FF, true, 0x00FF00FF, [.illegal 0 8 14 255, .clamp 16 8 1 255]⟩,
   ⟨"TLM_VAL", 0x080, 16, 0x4, .ro, false, false, 0x00000000, false, 0x80FFFFFF, []⟩]

/-- Register rows of window ANG, part 0. -/
def regs_ang_0 : List RegInfo :=
  [⟨"ANG_CTL", 0x000, 1, 0x4, .wp, false, false, 0x00000000, true, 0x0000001F, []⟩,
   ⟨"ANG_STAT", 0x004, 1, 0x4, .ro, false, false, 0x00000000, false, 0x00077777, []⟩,
   ⟨"ANG_ERR", 0x008, 1, 0x4, .w1c, false, false, 0x00000000, false, 0x000001FF, []⟩,
   ⟨"ANG_ERRINFO", 0x00C, 1, 0x4, .ro, false, false, 0x00000000, false, 0x0000000F, []⟩,
   ⟨"CRK_CFG", 0x020, 1, 0x4, .wp, true, false, 0x00000201, true, 0x00FF03FF, [.illegal 0 4 8 0, .illegal 5 3 6 0, .clamp 16 8 1 255]⟩,
   ⟨"CRK_WIN", 0x024, 1, 0x4, .wp, false, false, 0x66662333, true, 0xFFFFFFFF, [.clamp 0 16 2048 16383, .clamp 16 16 16385 49152]⟩,
   ⟨"CRK_LOCK", 0x028, 1, 0x4, .wp, false, false, 0x05DC0342, true, 0xFFFF0FFF, [.clamp 0 4 1 15, .clamp 4 4 1 15, .clamp 8 4 2 15, .clamp 16 16 1 65535]⟩,
   ⟨"CRK_REF", 0x02C, 1, 0x4, .wp, true, false, 0x00000000, true, 0x000FFFFF, []⟩,
   ⟨"CRK_MASK", 0x030, 5, 0x4, .wp, true, false, 0x00000000, true, 0xFFFFFFFF, []⟩,
   ⟨"CAM_CFG", 0x048, 1, 0x4, .wp, true, false, 0x00000000, true, 0x0000003F, [.illegal 0 2 3 0, .illegal 2 3 6 0]⟩,
   ⟨"CAM_WIN_LO", 0x04C, 1, 0x4, .wp, false, false, 0x00000000, true, 0x000FFFFF, []⟩,
   ⟨"CAM_WIN_HI", 0x050, 1, 0x4, .wp, false, false, 0x00000000, true, 0x000FFFFF, []⟩,
   ⟨"CRK_CMD", 0x054, 1, 0x4, .rw, false, false, 0x00000000, false, 0x00000000, []⟩,
   ⟨"CRK_ANGLE", 0x058, 1, 0x4, .ro, false, false, 0x00000000, false, 0x8FFFFFFF, []⟩,
   ⟨"CRK_PERIOD", 0x05C, 1, 0x4, .ro, false, false, 0x00000000, false, 0xFFFFFFFF, []⟩,
   ⟨"CRK_RPM", 0x060, 1, 0x4, .ro, false, false, 0x00000000, false, 0x0003FFFF, []⟩,
   ⟨"CRK_POS", 0x064, 1, 0x4, .ro, false, false, 0x00000000, false, 0x00003FFF, []⟩,
   ⟨"CRK_CNT", 0x068, 1, 0x4, .ro, false, false, 0x00000000, false, 0xFFFFFFFF, []⟩,
   ⟨"CRK_CNT2", 0x06C, 1, 0x4, .ro, false, false, 0x00000000, false, 0x00FFFFFF, []⟩,
   ⟨"CRK_SUSPECT", 0x070, 1, 0x4, .ro, false, false, 0x00000000, false, 0xFFFFFFFF, []⟩,
   ⟨"CAM_POS", 0x074, 1, 0x4, .ro, false, false, 0x00000000, false, 0x800FFFFF, []⟩,
   ⟨"SHAPE_CFG", 0x078, 1, 0x4, .wp, false, false, 0x00000003, true, 0x0000000F, [.illegal 0 4 9 3, .zero 0 4 3]⟩,
   ⟨"SHAPE_STAT", 0x07C, 1, 0x4, .ro, false, false, 0x00000000, false, 0xFFFFFFFF, []⟩,
   ⟨"PART_CFG", 0x080, 1, 0x4, .wp, true, false, 0x00030300, true, 0x000F1F01, [.clamp 16 4 1 15]⟩]

/-- Register rows of window ANG, part 1. -/
def regs_ang_1 : List RegInfo :=
  [⟨"PART_WIN", 0x084, 1, 0x4, .wp, false, false, 0x599A2CCD, true, 0xFFFFFFFF, [.clamp 0 16 2048 16383, .clamp 16 16 16385 49152]⟩,
   ⟨"PART_OFFSET", 0x088, 1, 0x4, .wp, false, false, 0x00000000, true, 0x000FFFFF, []⟩,
   ⟨"PART_STAT", 0x08C, 1, 0x4, .ro, false, false, 0x00000000, false, 0x00000001, []⟩,
   ⟨"PART_ERR", 0x090, 1, 0x4, .ro, false, false, 0x00000000, false, 0xFFFFFFFF, []⟩,
   ⟨"ALT_CFG", 0x0A0, 1, 0x4, .wp, true, false, 0x00000002, true, 0x00000003, []⟩,
   ⟨"ALT_WIN", 0x0A4, 1, 0x4, .wp, false, false, 0x73332000, true, 0xFFFFFFFF, [.clamp 0 16 2048 16383, .clamp 16 16 16385 49152]⟩,
   ⟨"ALT_OFFSET", 0x0A8, 1, 0x4, .wp, false, false, 0x00000000, true, 0x000FFFFF, []⟩,
   ⟨"ALT_ANGLE", 0x0AC, 1, 0x4, .ro, false, false, 0x00000000, false, 0x8FFFFFFF, []⟩,
   ⟨"ALT_FREQ", 0x0B0, 1, 0x4, .ro, false, false, 0x00000000, false, 0x00FFFFFF, []⟩,
   ⟨"ALT_CNT", 0x0B4, 1, 0x4, .ro, false, false, 0x00000000, false, 0xFFFFFFFF, []⟩,
   ⟨"GRD_CFG", 0x0C0, 1, 0x4, .wp, true, false, 0x00000010, true, 0x000FFF33, [.illegal 8 4 12 0, .illegal 12 4 12 0, .illegal 16 4 12 0]⟩,
   ⟨"GRD_LIM", 0x0C4, 1, 0x4, .wp, false, false, 0x0000C832, true, 0x00FFFFFF, [.clamp 0 8 10 90, .clamp 8 16 1 65535]⟩,
   ⟨"GRD_VNOM", 0x0C8, 1, 0x4, .wp, false, false, 0x00000000, true, 0x00FFFFFF, []⟩,
   ⟨"GRD_OFFSET", 0x0CC, 1, 0x4, .wp, false, false, 0x00000000, true, 0x000FFFFF, []⟩,
   ⟨"GRD_ANGLE", 0x0D0, 1, 0x4, .ro, false, false, 0x00000000, false, 0x8FFFFFFF, []⟩,
   ⟨"GRD_FREQ", 0x0D4, 1, 0x4, .ro, false, false, 0x00000000, false, 0x00FFFFFF, []⟩,
   ⟨"GRD_AMPL", 0x0D8, 1, 0x4, .ro, false, false, 0x00000000, false, 0x00FFFFFF, []⟩,
   ⟨"GRD_PHERR", 0x0DC, 1, 0x4, .ro, false, false, 0x00000000, false, 0xFFFFFFFF, []⟩,
   ⟨"INV_CFG", 0x0E0, 1, 0x4, .wp, false, false, 0x05B03200, true, 0xFFFFFF01, [.clamp 8 8 1 255]⟩,
   ⟨"INV_FREQ", 0x0E4, 1, 0x4, .wp, false, false, 0x218DEF41, true, 0xFFFFFFFF, []⟩,
   ⟨"INV_PHOFS", 0x0E8, 1, 0x4, .wp, false, false, 0x00000000, true, 0x000FFFFF, []⟩,
   ⟨"INV_ANGLE", 0x0EC, 1, 0x4, .ro, false, false, 0x00000000, false, 0x8FFFFFFF, []⟩,
   ⟨"INV_STAT", 0x0F0, 1, 0x4, .ro, false, false, 0x00000000, false, 0xFFFFF001, []⟩,
   ⟨"CPL_ANGLE", 0x100, 1, 0x4, .ro, false, false, 0x00000000, false, 0x8FFFFFFF, []⟩]

/-- Register rows of window ANG, part 2. -/
def regs_ang_2 : List RegInfo :=
  [⟨"SLOT_IDX", 0x140, 1, 0x4, .rw, false, false, 0x00000000, false, 0x000000FF, []⟩,
   ⟨"SLOT_STAT", 0x144, 1, 0x4, .ro, false, false, 0x00000000, false, 0xFF0FFF07, []⟩,
   ⟨"SLOT_TIME", 0x148, 1, 0x4, .ro, false, false, 0x00000000, false, 0xFFFFFFFF, []⟩,
   ⟨"SLOT_OWN", 0x14C, 1, 0x4, .wp, true, false, 0x22222222, true, 0xFFFFFFFF, [.illegal 0 4 4 0, .illegal 4 4 4 0, .illegal 8 4 4 0, .illegal 12 4 4 0, .illegal 16 4 4 0, .illegal 20 4 4 0, .illegal 24 4 4 0, .illegal 28 4 4 0]⟩,
   ⟨"LATE_WIN", 0x150, 5, 0x4, .wp, false, false, 0x000005B0, true, 0x000FFFFF, [.clamp 0 20 0 524288]⟩,
   ⟨"DWA_HOLD", 0x164, 1, 0x4, .wp, false, false, 0x00001388, true, 0x0000FFFF, [.clamp 0 16 2000 10000]⟩,
   ⟨"EVT_ERR", 0x168, 1, 0x4, .w1c, false, false, 0x00000000, false, 0x00000007, []⟩,
   ⟨"EVT_CNT", 0x16C, 1, 0x4, .ro, false, false, 0x00000000, false, 0xFFFFFFFF, []⟩,
   ⟨"EVT_CNT2", 0x170, 1, 0x4, .ro, false, false, 0x00000000, false, 0xFFFFFFFF, []⟩,
   ⟨"AO_ROUTE", 0x180, 32, 0x4, .wp, true, false, 0x00000000, true, 0x0000003F, [.illegal 0 6 29 0]⟩,
   ⟨"AO_LEVEL", 0x200, 1, 0x4, .ro, false, false, 0x00000000, false, 0xFFFFFFFF, []⟩,
   ⟨"INJ_STG", 0x210, 4, 0x4, .rw, false, false, 0x00000000, false, 0x00FFFFFF, []⟩,
   ⟨"IGN_STG", 0x220, 4, 0x4, .rw, false, false, 0x00000000, false, 0x000FFFFF, []⟩,
   ⟨"IGN_DWL", 0x230, 4, 0x4, .rw, false, false, 0x00000000, false, 0x0000FFFF, []⟩,
   ⟨"IGN_TDC", 0x240, 4, 0x4, .wp, false, false, 0x00000000, true, 0x000FFFFF, []⟩,
   ⟨"IGN_DWLIM", 0x250, 4, 0x4, .wp, false, false, 0x1F4005DC, true, 0xFFFFFFFF, [.notBelow 16 0 16]⟩,
   ⟨"IGN_CLAMP", 0x260, 4, 0x4, .wp, false, false, 0x00000000, true, 0x000FFFFF, []⟩,
   ⟨"SUSPECT", 0x280, 8, 0x4, .w1c, false, false, 0x00000000, false, 0xFFFFFFFF, []⟩]

/-- Register rows of window ENG, part 0. -/
def regs_eng_0 : List RegInfo :=
  [⟨"ENG_CTL", 0x000, 1, 0x4, .wp, false, false, 0x00000008, true, 0x0000003F, []⟩,
   ⟨"ENG_STAT", 0x004, 1, 0x4, .ro, false, false, 0x00000000, false, 0x00000001, []⟩,
   ⟨"ENG_ERR", 0x008, 1, 0x4, .w1c, false, false, 0x00000000, false, 0x00000007, []⟩,
   ⟨"VR_CFG", 0x010, 2, 0x4, .wp, false, true, 0x00014064, true, 0x000357FF, [.clamp 0 11 20 2000]⟩,
   ⟨"VR_PEAK", 0x018, 2, 0x4, .ro, false, true, 0x00000000, false, 0xFFFFFFFF, []⟩,
   ⟨"HALL_CFG", 0x020, 1, 0x4, .wp, false, true, 0x00000000, true, 0x0000FFFF, []⟩,
   ⟨"SENS_DIAG", 0x024, 1, 0x4, .ro, false, true, 0x00000000, false, 0x00000F0F, []⟩,
   ⟨"SAR_LIST", 0x040, 8, 0x8, .wp, false, false, 0x00000000, true, 0xFFFFFFFF, []⟩,
   ⟨"SAR_SEQC", 0x044, 8, 0x8, .wp, false, false, 0x00000000, true, 0x0000017F, [.illegal 0 4 9 8, .illegal 4 3 7 0]⟩,
   ⟨"SAR_PER", 0x080, 1, 0x4, .wp, false, false, 0x000003E8, true, 0x000FFFFF, [.clamp 0 20 10 1000000]⟩,
   ⟨"SAR_SWTRIG", 0x084, 1, 0x4, .rw, false, false, 0x00000000, false, 0x00000000, []⟩,
   ⟨"SAR_LAST", 0x0C0, 16, 0x4, .ro, false, false, 0x00000000, false, 0x00080FFF, []⟩,
   ⟨"KNK_CFG", 0x100, 1, 0x4, .wp, false, false, 0x00000000, true, 0x000000F7, [.illegal 0 3 5 4]⟩,
   ⟨"KNK_BbA", 0x104, 2, 0xC, .wp, false, false, 0x00000000, true, 0xFFFFFFFF, []⟩,
   ⟨"KNK_BbB", 0x108, 2, 0xC, .wp, false, false, 0x00000000, true, 0xFFFFFFFF, []⟩,
   ⟨"KNK_BbC", 0x10C, 2, 0xC, .wp, false, false, 0x00000000, true, 0x0000FFFF, []⟩,
   ⟨"KNK_STAT", 0x120, 1, 0x4, .ro, false, false, 0x00000000, false, 0xFFFFFFFF, []⟩,
   ⟨"FUEL_FLOW", 0x140, 4, 0x4, .wp, false, false, 0x00000000, true, 0x0000FFFF, []⟩,
   ⟨"FUEL_CD", 0x150, 4, 0x4, .wp, false, false, 0x00000000, true, 0x0000FFFF, []⟩,
   ⟨"FUEL_OD", 0x160, 4, 0x4, .ro, false, false, 0x00000BB8, false, 0x0000FFFF, []⟩,
   ⟨"FUEL_CYC", 0x170, 1, 0x4, .ro, false, false, 0x00000000, false, 0x00FFFFFF, []⟩,
   ⟨"FUEL_SEQ", 0x174, 1, 0x4, .ro, false, false, 0x00000000, false, 0x0000FFFF, []⟩,
   ⟨"FUEL_TOT", 0x178, 1, 0x4, .ro, false, false, 0x00000000, false, 0xFFFFFFFF, []⟩]

/-- Register rows of window EDR, part 0. -/
def regs_edr_0 : List RegInfo :=
  [⟨"EDR_CTL", 0x000, 1, 0x4, .wp, false, true, 0x00000000, true, 0x000000FF, []⟩,
   ⟨"EDR_ERR", 0x008, 1, 0x4, .w1c, false, false, 0x00000000, false, 0x000000FF, []⟩,
   ⟨"INJ_CFG", 0x010, 4, 0x4, .wp, false, true, 0x0083212C, true, 0x00FF23FF, [.clamp 0 10 50 300, .illegal 16 4 9 3, .zero 16 4 3, .zero 20 4 1]⟩,
   ⟨"INJ_OPD", 0x020, 4, 0x4, .wp, false, true, 0x05DC0032, true, 0xFFFFFFFF, [.notBelow 16 0 16]⟩,
   ⟨"INJ_DIAG", 0x030, 4, 0x4, .ro, false, true, 0x00000000, false, 0x0000FF07, []⟩,
   ⟨"IGN_CFG", 0x040, 4, 0x4, .wp, false, true, 0x0C1E0320, true, 0xFFFF07FF, [.clamp 0 11 100 1500, .clamp 16 8 20 50, .clamp 24 8 1 50]⟩,
   ⟨"IGN_DIAG", 0x050, 4, 0x4, .ro, false, true, 0x00000000, false, 0x0000FF07, []⟩,
   ⟨"INJ_LAST", 0x060, 4, 0x4, .ro, false, false, 0x00000000, false, 0x0003FFFF, []⟩,
   ⟨"IGN_LAST", 0x070, 4, 0x4, .ro, false, false, 0x00000000, false, 0x00FFCFFF, []⟩]

/-- Register rows of window LAM, part 0. -/
def regs_lam_0 : List RegInfo :=
  [⟨"LAM_CTL", 0x000, 1, 0x4, .wp, false, false, 0x00000A00, true, 0x0000FF07, [.clamp 8 8 5 100]⟩,
   ⟨"LAM_ERR", 0x008, 1, 0x4, .w1c, false, false, 0x00000000, false, 0x0000000F, []⟩,
   ⟨"LAM_PUMP_STG", 0x010, 1, 0x4, .rw, false, false, 0x00000000, false, 0x0000FFFF, [.clampS 0 16 (-20000) (20000)]⟩,
   ⟨"LAM_PUMP", 0x014, 1, 0x4, .ro, false, false, 0x00000000, false, 0x0000FFFF, []⟩,
   ⟨"LAM_NERNST", 0x018, 1, 0x4, .ro, false, false, 0x00000000, false, 0x0000FFFF, []⟩,
   ⟨"LAM_NERR", 0x01C, 1, 0x4, .ro, false, false, 0x00000000, false, 0x0000FFFF, []⟩,
   ⟨"LAM_RI", 0x020, 1, 0x4, .ro, false, false, 0x00000000, false, 0x0000FFFF, []⟩,
   ⟨"LAM_NB", 0x024, 1, 0x4, .ro, false, false, 0x00000000, false, 0x0000FFFF, []⟩,
   ⟨"LAM_REF", 0x028, 1, 0x4, .wp, false, false, 0x00004650, true, 0x0000FFFF, []⟩,
   ⟨"LAM_RICFG", 0x02C, 1, 0x4, .wp, false, false, 0x00000032, true, 0x000000FF, [.clamp 0 8 5 100]⟩]

/-- Register rows of window HBR, part 0. -/
def regs_hbr_0 : List RegInfo :=
  [⟨"HB_CTL", 0x000, 1, 0x4, .wp, false, false, 0x00000000, true, 0x000000FF, []⟩,
   ⟨"HB_ERR", 0x008, 1, 0x4, .w1c, false, false, 0x00000000, false, 0x00001FFF, []⟩,
   ⟨"HB_CFG", 0x010, 4, 0x4, .wp, false, true, 0x320007D0, true, 0xFF01FFFF, [.clamp 0 16 250 10000, .clamp 24 8 10 55]⟩,
   ⟨"HB_STG", 0x020, 4, 0x4, .rw, false, false, 0x00000000, false, 0x0000FFFF, [.clampS 0 16 (-32767) (32767)]⟩,
   ⟨"HB_DUTY", 0x030, 4, 0x4, .ro, false, false, 0x00000000, false, 0x0000FFFF, []⟩,
   ⟨"HB_CUR", 0x040, 4, 0x4, .ro, false, true, 0x00000000, false, 0x0000FFFF, []⟩,
   ⟨"HB_STEP", 0x050, 1, 0x4, .ro, false, false, 0x00000000, false, 0xFFFFFFFF, []⟩,
   ⟨"HB_STEPCFG", 0x054, 1, 0x4, .wp, false, false, 0x00001E00, true, 0x0000FF01, [.clamp 8 8 0 100]⟩]

/-- Register rows of window PWM, part 0. -/
def regs_pwm_0 : List RegInfo :=
  [⟨"PWM_CTL", 0x000, 1, 0x4, .wp, false, false, 0x00000020, true, 0x000000F7, []⟩,
   ⟨"PWM_STAT", 0x004, 1, 0x4, .ro, false, false, 0x00000000, false, 0x0000013F, []⟩,
   ⟨"PWM_ERR", 0x008, 1, 0x4, .w1c, false, false, 0x00000000, false, 0x00000007, []⟩,
   ⟨"GRP_CFG", 0x010, 3, 0x10, .wp, true, false, 0x00000000, true, 0x00000007, []⟩,
   ⟨"CAR_PER", 0x014, 3, 0x10, .wp, false, false, 0x00004E20, true, 0x0003FFFF, [.clamp 0 18 4000 200000]⟩,
   ⟨"GRP_LIM", 0x018, 3, 0x10, .wp, false, false, 0x01900028, true, 0xFFFFFFFF, [.clamp 0 16 0 4000]⟩,
   ⟨"RSYNC_OFS", 0x01C, 3, 0x10, .wp, false, false, 0x00000000, true, 0x007FFFFF, []⟩,
   ⟨"CH_CFG", 0x040, 16, 0x4, .wp, true, false, 0x00000000, true, 0x00000003, []⟩,
   ⟨"DUTY_STG", 0x080, 8, 0x4, .rw, false, false, 0x00800000, false, 0x01FFFFFF, [.clamp 0 25 0 16777216]⟩,
   ⟨"DUTY_APP", 0x0A0, 8, 0x4, .ro, false, false, 0x00000000, false, 0x01FFFFFF, []⟩,
   ⟨"TRIP_CFG", 0x0C0, 8, 0x4, .wp, true, false, 0x00008027, true, 0x0000FFFF, [.illegal 5 3 5 4, .clamp 8 8 24 255]⟩,
   ⟨"DESAT_CFG", 0x0E0, 6, 0x4, .wp, true, false, 0x00000027, true, 0x000000E7, [.illegal 5 3 5 4]⟩,
   ⟨"TRIP_STAT", 0x100, 1, 0x4, .ro, false, false, 0x00000000, false, 0x00003FFF, []⟩,
   ⟨"TRIP_LATCH", 0x104, 1, 0x4, .w1c, false, false, 0x00000000, false, 0x0007FFFF, []⟩,
   ⟨"TRIP_FIRST", 0x108, 1, 0x4, .ro, false, false, 0x00000000, false, 0x0000001F, []⟩,
   ⟨"TRIP_TICK", 0x10C, 1, 0x4, .ro, false, false, 0x00000000, false, 0xFFFFFFFF, []⟩,
   ⟨"HR_STAT", 0x110, 1, 0x4, .ro, false, false, 0x00000000, false, 0xFFFFFFFF, []⟩,
   ⟨"DT_MEAS", 0x120, 8, 0x4, .ro, false, false, 0x00000000, false, 0x0000FFFF, []⟩,
   ⟨"DT_CFG", 0x140, 1, 0x4, .wp, false, false, 0x00030280, true, 0x000FFFFF, [.illegal 16 4 9 3, .zero 16 4 3]⟩,
   ⟨"CRANK_CFG", 0x144, 1, 0x4, .wp, false, false, 0x00002710, true, 0x0000FFFF, [.zero 0 16 1]⟩]

/-- Register rows of window PSC, part 0. -/
def regs_psc_0 : List RegInfo :=
  [⟨"PSC_CTL", 0x000, 1, 0x4, .wp, false, false, 0x00000000, true, 0x00003FFF, []⟩,
   ⟨"PSC_STAT", 0x004, 1, 0x4, .ro, false, false, 0x00000000, false, 0x00003FFF, []⟩,
   ⟨"PSC_ERR", 0x008, 1, 0x4, .w1c, false, false, 0x00000000, false, 0x0000001F, []⟩,
   ⟨"SD_CFG", 0x010, 12, 0x4, .wp, true, false, 0x00000001, true, 0x000000F7, [.illegal 0 2 3 2]⟩,
   ⟨"SD_PREC", 0x040, 12, 0x4, .ro, false, false, 0x00000000, false, 0x00FFFFFF, []⟩,
   ⟨"SD_TS", 0x070, 12, 0x4, .ro, false, false, 0x00000000, false, 0xFFFFFFFF, []⟩,
   ⟨"FC_THR", 0x0A0, 12, 0x4, .wp, false, false, 0x80007FFF, true, 0xFFFFFFFF, []⟩,
   ⟨"FC_ACT", 0x0D0, 1, 0x4, .wp, false, false, 0x00000000, true, 0x00FFFFFF, []⟩,
   ⟨"SET_CFG", 0x0E0, 3, 0x4, .wp, true, false, 0x0FFFFFFF, true, 0x0FFFFFFF, [.illegal 0 4 12 15, .illegal 4 4 12 15, .illegal 8 4 12 15, .illegal 12 4 12 15, .illegal 16 4 12 15, .illegal 20 4 12 15, .illegal 24 4 12 15]⟩,
   ⟨"SD_SCALE", 0x0F0, 3, 0x4, .wp, false, false, 0x00000000, true, 0xFFFFFFFF, []⟩,
   ⟨"RATED", 0x100, 3, 0x4, .wp, false, false, 0x00000000, true, 0x0000FFFF, []⟩,
   ⟨"PLAUS_CFG", 0x110, 3, 0x4, .wp, false, false, 0x00040A05, true, 0x000FFFFF, [.clamp 16 4 1 15]⟩,
   ⟨"PLAUS_STAT", 0x120, 3, 0x4, .ro, false, false, 0x00000000, false, 0x000003FF, []⟩,
   ⟨"OPEN_CFG", 0x130, 1, 0x4, .wp, false, false, 0x00041E03, true, 0x000FFFFF, []⟩,
   ⟨"INVF_CFG", 0x134, 1, 0x4, .wp, false, false, 0x320207D0, true, 0xFFFFFFFF, []⟩,
   ⟨"INVF_VEH", 0x138, 1, 0x4, .wp, false, false, 0x00001388, true, 0x0000FFFF, []⟩,
   ⟨"INVF_STAT", 0x13C, 1, 0x4, .ro, false, false, 0x00000000, false, 0x00000103, []⟩,
   ⟨"XFER_CFG", 0x140, 1, 0x4, .wp, false, false, 0x03E80014, true, 0xFFFF00FF, []⟩,
   ⟨"XFER_STAT", 0x144, 1, 0x4, .ro, false, false, 0x00000000, false, 0xFFFF0003, []⟩,
   ⟨"DCE_ACC", 0x150, 1, 0x4, .ro, false, false, 0x00000000, false, 0xFFFFFFFF, []⟩,
   ⟨"DCP", 0x154, 1, 0x4, .ro, false, false, 0x00000000, false, 0xFFFFFFFF, []⟩]

/-- Register rows of window EGV, part 0. -/
def regs_egv_0 : List RegInfo :=
  [⟨"EGV_CFG", 0x000, 1, 0x4, .wp, false, false, 0x0A195032, true, 0xFFFFFFFF, [.clamp 0 8 20 200, .clamp 8 8 20 200, .clamp 16 8 0 50, .clamp 24 8 1 50]⟩,
   ⟨"EGV_GAIN", 0x004, 1, 0x4, .wp, false, false, 0x00320014, true, 0xFFFFFFFF, []⟩,
   ⟨"EGV_EMIN", 0x008, 1, 0x4, .wp, false, false, 0x00002710, true, 0xFFFFFFFF, []⟩,
   ⟨"EGV_SET", 0x010, 1, 0x4, .ro, false, false, 0x00000BB8, false, 0xFF01FFFF, []⟩,
   ⟨"EGV_JHI", 0x014, 1, 0x4, .ro, false, false, 0x00000000, false, 0xFFFFFFFF, []⟩,
   ⟨"EGV_JLO", 0x018, 1, 0x4, .ro, false, false, 0x00000000, false, 0xFFFFFFFF, []⟩,
   ⟨"EGV_STEP", 0x01C, 1, 0x4, .ro, false, false, 0x00000000, false, 0x0000FFFF, []⟩,
   ⟨"EGV_CNT", 0x020, 1, 0x4, .ro, false, false, 0x00000000, false, 0xFFFFFFFF, []⟩,
   ⟨"EGV_ERR", 0x024, 1, 0x4, .w1c, false, false, 0x00000000, false, 0x0000000F, []⟩]

/-- Register rows of window CHG, part 0. -/
def regs_chg_0 : List RegInfo :=
  [⟨"CHG_CTL", 0x000, 1, 0x4, .wp, false, false, 0x00000000, true, 0x000003FF, [.illegal 1 2 3 0, .illegal 5 2 3 1]⟩,
   ⟨"CHG_STAT", 0x004, 1, 0x4, .ro, false, false, 0x00000006, false, 0x000003FF, []⟩,
   ⟨"CHG_ERR", 0x008, 1, 0x4, .w1c, false, false, 0x00000000, false, 0x0000001F, []⟩,
   ⟨"CHG_CMD", 0x00C, 1, 0x4, .rw, false, false, 0x00000000, false, 0x00000000, []⟩,
   ⟨"CP_SET", 0x010, 1, 0x4, .rw, false, false, 0x000186A0, false, 0x0001FFFF, [.clamp 0 17 0 100000]⟩,
   ⟨"CP_DUTY_APP", 0x014, 1, 0x4, .ro, false, false, 0x00000000, false, 0x0001FFFF, []⟩,
   ⟨"CP_PER", 0x018, 1, 0x4, .wp, false, false, 0x00061A80, true, 0x0007FFFF, [.clamp 0 19 392000 408000]⟩,
   ⟨"CP_SMPCFG", 0x01C, 1, 0x4, .wp, false, false, 0x14140F03, true, 0xFFFFFF0F, [.clamp 0 4 1 15, .clamp 8 8 5 100, .clamp 16 8 2 255]⟩,
   ⟨"CP_VHI", 0x020, 1, 0x4, .ro, false, false, 0x00000000, false, 0x0000FFFF, []⟩,
   ⟨"CP_VLO", 0x024, 1, 0x4, .ro, false, false, 0x00000000, false, 0x0000FFFF, []⟩,
   ⟨"CP_CNT", 0x028, 1, 0x4, .ro, false, false, 0x00000000, false, 0xFFFFFFFF, []⟩,
   ⟨"FAULT_DUTY", 0x02C, 1, 0x4, .wp, false, false, 0x00002710, true, 0x0001FFFF, [.clamp 0 17 10000 96000]⟩,
   ⟨"DIODE_LIM", 0x030, 1, 0x4, .wp, false, false, 0x0000FBE6, true, 0x0000FFFF, [.clampS 0 16 (-1150) (-900)]⟩,
   ⟨"CP_DRV", 0x034, 1, 0x4, .wp, false, true, 0x00000000, true, 0x00000001, []⟩,
   ⟨"PP_CFG", 0x040, 1, 0x4, .wp, false, false, 0x001003E8, true, 0x00FFFFFF, [.clamp 0 16 100 10000, .clamp 16 8 6 80]⟩,
   ⟨"PP_RES", 0x044, 1, 0x4, .ro, false, false, 0x0000FFFF, false, 0x0000FFFF, []⟩,
   ⟨"OC_CFG", 0x050, 1, 0x4, .wp, false, false, 0x000A0000, true, 0x00FF001F, [.clamp 16 8 2 50]⟩,
   ⟨"LOCK_CFG", 0x060, 1, 0x4, .wp, false, false, 0x003C6000, true, 0x01FFFFFF, [.clamp 16 8 5 200]⟩,
   ⟨"ILK_STAT", 0x070, 1, 0x4, .ro, false, false, 0x00000000, false, 0x00000000, []⟩,
   ⟨"OPEN_CAUSE", 0x074, 1, 0x4, .ro, false, false, 0x00000000, false, 0x0000FFFF, []⟩]

/-- Register rows of window RCM, part 0. -/
def regs_rcm_0 : List RegInfo :=
  [⟨"RCM_CTL", 0x000, 1, 0x4, .wp, false, false, 0x00000000, true, 0x00000037, [.illegal 4 2 3 2]⟩,
   ⟨"RCM_STAT", 0x004, 1, 0x4, .ro, false, false, 0x00000000, false, 0x000003FF, []⟩,
   ⟨"RCM_ERR", 0x008, 1, 0x4, .w1c, false, false, 0x00000000, false, 0x0000000F, []⟩,
   ⟨"RDC_LVL1", 0x010, 1, 0x4, .wp, false, false, 0x032001F4, true, 0xFFFFFFFF, [.clamp 0 16 0 550, .clamp 16 16 0 900]⟩,
   ⟨"RDC_LVL2", 0x014, 1, 0x4, .wp, false, false, 0x00141388, true, 0xFFFFFFFF, [.clamp 0 16 0 5500, .clamp 16 16 0 24]⟩,
   ⟨"RDC_LVL3", 0x018, 1, 0x4, .wp, false, false, 0x00043A98, true, 0xFFFFFFFF, [.clamp 0 16 0 18000, .clamp 16 16 0 4]⟩,
   ⟨"RDC_DC", 0x020, 1, 0x4, .ro, false, false, 0x00000000, false, 0x0000FFFF, []⟩,
   ⟨"RDC_AC", 0x024, 1, 0x4, .ro, false, false, 0x00000000, false, 0x0000FFFF, []⟩,
   ⟨"ST_CFG", 0x028, 1, 0x4, .wp, false, false, 0x0000003C, true, 0x000007FF, [.clamp 0 11 1 1440]⟩,
   ⟨"ST_AGE", 0x02C, 1, 0x4, .ro, false, false, 0xFFFFFFFF, false, 0xFFFFFFFF, []⟩,
   ⟨"IMD_CFG", 0x040, 1, 0x4, .wp, false, false, 0x03E803E8, true, 0xFFFFFFFF, []⟩,
   ⟨"IMD_LIM", 0x044, 1, 0x4, .wp, false, false, 0x00170073, true, 0xFFFFFFFF, []⟩,
   ⟨"IMD_RES", 0x048, 1, 0x4, .ro, false, false, 0x00FFFFFF, false, 0x00FFFFFF, []⟩,
   ⟨"IMD_AMPL", 0x04C, 1, 0x4, .ro, false, true, 0x00000000, false, 0x0000FFFF, []⟩]

/-- Register rows of window PLM, part 0. -/
def regs_plm_0 : List RegInfo :=
  [⟨"PLM_CTL", 0x000, 1, 0x4, .wp, false, false, 0x00000000, true, 0x00000003, []⟩,
   ⟨"PLM_STAT", 0x004, 1, 0x4, .ro, false, false, 0x00000000, false, 0x00000003, []⟩,
   ⟨"PLM_ERR", 0x008, 1, 0x4, .w1c, false, false, 0x00000000, false, 0x00000007, []⟩,
   ⟨"PLM_MAC_LO", 0x010, 1, 0x4, .wp, true, false, 0x00000000, true, 0xFFFFFFFF, []⟩,
   ⟨"PLM_MAC_HI", 0x014, 1, 0x4, .wp, true, false, 0x00000000, true, 0x0000FFFF, []⟩,
   ⟨"PLM_NID_LO", 0x018, 1, 0x4, .wp, false, false, 0x00000000, true, 0xFFFFFFFF, []⟩,
   ⟨"PLM_NID_HI", 0x01C, 1, 0x4, .wp, false, false, 0x00000000, true, 0x003FFFFF, []⟩,
   ⟨"NEK_SLOT", 0x020, 1, 0x4, .wp, false, false, 0x00000000, true, 0x0000003F, []⟩,
   ⟨"PLM_TXATT", 0x024, 1, 0x4, .wp, false, false, 0x00000000, true, 0x0000001F, []⟩,
   ⟨"BCN_PER", 0x028, 1, 0x4, .wp, false, false, 0x00000190, true, 0x0000FFFF, []⟩,
   ⟨"PLM_CNT", 0x030, 1, 0x4, .ro, false, false, 0x00000000, false, 0xFFFFFFFF, []⟩,
   ⟨"TMASK", 0x100, 37, 0x4, .wp, false, false, 0x00000000, true, 0xFFFFFFFF, []⟩]

/-- Register rows of window MET, part 0. -/
def regs_met_0 : List RegInfo :=
  [⟨"MET_STAT", 0x000, 1, 0x4, .ro, false, false, 0x00000000, false, 0x003FFFFF, []⟩,
   ⟨"MET_SEAL", 0x008, 1, 0x4, .ro, false, false, 0x00000002, false, 0xFFFF003F, []⟩,
   ⟨"MET_LOG", 0x00C, 1, 0x4, .ro, false, false, 0x00000000, false, 0xFFFFFFFF, []⟩,
   ⟨"MET_SLREJ", 0x010, 1, 0x4, .ro, false, false, 0x00000000, false, 0x0000FFFF, []⟩,
   ⟨"MET_PARAM_IDX", 0x014, 1, 0x4, .rw, false, false, 0x00000000, false, 0x0000001F, [.illegal 0 5 21 0]⟩,
   ⟨"MET_PARAM_DATA", 0x018, 1, 0x4, .sl, false, false, 0x00000000, false, 0xFFFFFFFF, []⟩,
   ⟨"MET_CAL_SEQ", 0x01C, 1, 0x4, .ro, false, false, 0x00000000, false, 0xFFFFFFFF, []⟩,
   ⟨"MET_SNAP_SEQ", 0x020, 1, 0x4, .ro, false, false, 0x00000000, false, 0xFFFFFFFF, []⟩,
   ⟨"MET_WIN_TICK", 0x024, 1, 0x4, .ro, false, false, 0x00000000, false, 0xFFFFFFFF, []⟩,
   ⟨"MET_FREQ", 0x028, 1, 0x4, .ro, false, false, 0x00000000, false, 0x00FFFFFF, []⟩,
   ⟨"MET_VRMS", 0x030, 3, 0x4, .ro, false, false, 0x00000000, false, 0x00FFFFFF, []⟩,
   ⟨"MET_IRMS", 0x03C, 3, 0x4, .ro, false, false, 0x00000000, false, 0x00FFFFFF, []⟩,
   ⟨"MET_P", 0x048, 3, 0x4, .ro, false, false, 0x00000000, false, 0xFFFFFFFF, []⟩,
   ⟨"MET_Q", 0x054, 3, 0x4, .ro, false, false, 0x00000000, false, 0xFFFFFFFF, []⟩,
   ⟨"MET_S", 0x060, 3, 0x4, .ro, false, false, 0x00000000, false, 0xFFFFFFFF, []⟩,
   ⟨"MET_PF", 0x06C, 3, 0x4, .ro, false, false, 0x00000000, false, 0x0000FFFF, []⟩,
   ⟨"MET_PTOT", 0x078, 1, 0x4, .ro, false, false, 0x00000000, false, 0xFFFFFFFF, []⟩,
   ⟨"E_IMP_LO", 0x080, 1, 0x4, .ro, false, false, 0x00000000, false, 0xFFFFFFFF, []⟩,
   ⟨"E_IMP_HI", 0x084, 1, 0x4, .ro, false, false, 0x00000000, false, 0xFFFFFFFF, []⟩,
   ⟨"E_EXP_LO", 0x088, 1, 0x4, .ro, false, false, 0x00000000, false, 0xFFFFFFFF, []⟩,
   ⟨"E_EXP_HI", 0x08C, 1, 0x4, .ro, false, false, 0x00000000, false, 0xFFFFFFFF, []⟩,
   ⟨"E_IMP_GRID_LO", 0x090, 1, 0x4, .ro, false, false, 0x00000000, false, 0xFFFFFFFF, []⟩,
   ⟨"E_IMP_GRID_HI", 0x094, 1, 0x4, .ro, false, false, 0x00000000, false, 0xFFFFFFFF, []⟩,
   ⟨"E_IMP_GEN_LO", 0x098, 1, 0x4, .ro, false, false, 0x00000000, false, 0xFFFFFFFF, []⟩]

/-- Register rows of window MET, part 1. -/
def regs_met_1 : List RegInfo :=
  [⟨"E_IMP_GEN_HI", 0x09C, 1, 0x4, .ro, false, false, 0x00000000, false, 0xFFFFFFFF, []⟩,
   ⟨"E_EXP_GRID_LO", 0x0A0, 1, 0x4, .ro, false, false, 0x00000000, false, 0xFFFFFFFF, []⟩,
   ⟨"E_EXP_GRID_HI", 0x0A4, 1, 0x4, .ro, false, false, 0x00000000, false, 0xFFFFFFFF, []⟩,
   ⟨"E_EXP_GEN_LO", 0x0A8, 1, 0x4, .ro, false, false, 0x00000000, false, 0xFFFFFFFF, []⟩,
   ⟨"E_EXP_GEN_HI", 0x0AC, 1, 0x4, .ro, false, false, 0x00000000, false, 0xFFFFFFFF, []⟩,
   ⟨"MET_SRC", 0x0B0, 1, 0x4, .ro, false, false, 0x00000000, false, 0xFFFF0001, []⟩,
   ⟨"REEL_STAT", 0x0C0, 1, 0x4, .ro, false, false, 0x00000007, false, 0xFFFF0177, []⟩,
   ⟨"REEL_MAP", 0x0C4, 1, 0x4, .ro, false, false, 0x001FFFFF, false, 0x001FFFFF, []⟩,
   ⟨"REEL_LAST", 0x0C8, 1, 0x4, .ro, false, false, 0x00000000, false, 0xFFFFFFFF, []⟩,
   ⟨"REEL_CNT", 0x0CC, 1, 0x4, .ro, false, false, 0x00000000, false, 0xFFFFFFFF, []⟩]

/-- Register rows of window BIL, part 0. -/
def regs_bil_0 : List RegInfo :=
  [⟨"BIL_STAT", 0x000, 1, 0x4, .ro, false, false, 0x00000000, false, 0x7F3FF7FF, []⟩,
   ⟨"BIL_CALID", 0x004, 1, 0x4, .ro, false, false, 0x00000000, false, 0xFFFFFFFF, []⟩,
   ⟨"BIL_CALPEND", 0x008, 1, 0x4, .ro, false, false, 0x00000000, false, 0xFFFFFFFF, []⟩,
   ⟨"BIL_CALACT", 0x00C, 1, 0x4, .ro, false, false, 0x00000000, false, 0xFFFFFFFF, []⟩,
   ⟨"BIL_SNAP_SEQ", 0x010, 1, 0x4, .ro, false, false, 0x00000000, false, 0xFFFFFFFF, []⟩,
   ⟨"BIL_CNT", 0x014, 1, 0x4, .ro, false, false, 0x00000000, false, 0xFFFFFFFF, []⟩,
   ⟨"REC_NEXT", 0x018, 1, 0x4, .ro, false, false, 0x00000000, false, 0xFFFFFFFF, []⟩,
   ⟨"REC_OLDEST", 0x01C, 1, 0x4, .ro, false, false, 0x00000000, false, 0xFFFFFFFF, []⟩,
   ⟨"REG_LO", 0x020, 16, 0x8, .ro, false, false, 0x00000000, false, 0xFFFFFFFF, []⟩,
   ⟨"REG_HI", 0x024, 16, 0x8, .ro, false, false, 0x00000000, false, 0xFFFFFFFF, []⟩,
   ⟨"TOTAL_LO", 0x0A0, 1, 0x4, .ro, false, false, 0x00000000, false, 0xFFFFFFFF, []⟩,
   ⟨"TOTAL_HI", 0x0A4, 1, 0x4, .ro, false, false, 0x00000000, false, 0xFFFFFFFF, []⟩,
   ⟨"MD_CUR", 0x0A8, 1, 0x4, .ro, false, false, 0x00000000, false, 0xFFFFFFFF, []⟩,
   ⟨"MD_CUR_START", 0x0AC, 1, 0x4, .ro, false, false, 0x00000000, false, 0xFFFFFFFF, []⟩,
   ⟨"MD", 0x0B0, 8, 0x8, .ro, false, false, 0x00000000, false, 0xFFFFFFFF, []⟩,
   ⟨"MD_TIME", 0x0B4, 8, 0x8, .ro, false, false, 0x00000000, false, 0xFFFFFFFF, []⟩,
   ⟨"SES_ID_LO", 0x0F0, 1, 0x4, .ro, false, false, 0x00000000, false, 0xFFFFFFFF, []⟩,
   ⟨"SES_ID_HI", 0x0F4, 1, 0x4, .ro, false, false, 0x00000000, false, 0xFFFFFFFF, []⟩,
   ⟨"SES_T_START", 0x0F8, 1, 0x4, .ro, false, false, 0x00000000, false, 0xFFFFFFFF, []⟩,
   ⟨"SES_GRID", 0x0FC, 1, 0x4, .ro, false, false, 0x00000000, false, 0xFFFFFFFF, []⟩,
   ⟨"SES_GEN", 0x100, 1, 0x4, .ro, false, false, 0x00000000, false, 0xFFFFFFFF, []⟩,
   ⟨"SES_START_LO", 0x104, 1, 0x4, .ro, false, false, 0x00000000, false, 0xFFFFFFFF, []⟩,
   ⟨"SES_START_HI", 0x108, 1, 0x4, .ro, false, false, 0x00000000, false, 0xFFFFFFFF, []⟩,
   ⟨"DISP_ITEM", 0x10C, 1, 0x4, .ro, false, false, 0x00000000, false, 0x00FFFF1F, []⟩]

/-- Register rows of window BIL, part 1. -/
def regs_bil_1 : List RegInfo :=
  [⟨"LCD_CTL", 0x200, 1, 0x4, .rw, false, false, 0x00000008, false, 0x0000000F, []⟩]

/-- Register rows of window KEY, part 0. -/
def regs_key_0 : List RegInfo :=
  [⟨"KEY_CTL", 0x000, 1, 0x4, .wp, true, false, 0x00000A01, true, 0x0000FF01, [.clamp 8 8 1 255]⟩,
   ⟨"KEY_STAT", 0x004, 1, 0x4, .ro, false, false, 0x00000000, false, 0xFFFFFF0F, []⟩,
   ⟨"KEY_ERR", 0x008, 1, 0x4, .w1c, false, false, 0x00000000, false, 0x0000000F, []⟩,
   ⟨"KEY_DEVID", 0x010, 4, 0x4, .ro, false, false, 0x00000000, false, 0xFFFFFFFF, []⟩,
   ⟨"KU_CNT", 0x020, 1, 0x4, .ro, false, false, 0x00000000, false, 0xFFFFFFFF, []⟩,
   ⟨"KU_FLOOR", 0x024, 1, 0x4, .ro, false, false, 0x00000000, false, 0x0000001F, []⟩,
   ⟨"SLOT_IDX", 0x030, 1, 0x4, .rw, false, false, 0x00000000, false, 0x000000FF, [.illegal 0 8 242 0]⟩,
   ⟨"SLOT_INFO", 0x034, 1, 0x4, .ro, false, false, 0x00000000, false, 0x0001FF03, []⟩,
   ⟨"SLOT_META", 0x038, 1, 0x4, .ro, false, false, 0x00000000, false, 0xFFFFFFFF, []⟩,
   ⟨"SLOT_CNT", 0x03C, 1, 0x4, .ro, false, false, 0x00000000, false, 0xFFFFFFFF, []⟩,
   ⟨"SLOT_IV_LO", 0x040, 1, 0x4, .ro, false, false, 0x00000000, false, 0xFFFFFFFF, []⟩,
   ⟨"SLOT_IV_HI", 0x044, 1, 0x4, .ro, false, false, 0x00000000, false, 0xFFFFFFFF, []⟩,
   ⟨"SLOT_WCNT", 0x048, 1, 0x4, .ro, false, false, 0x00000000, false, 0xFFFFFFFF, []⟩,
   ⟨"SLOT_BAD0", 0x050, 1, 0x4, .ro, false, false, 0x00000000, false, 0xFFFFFFFF, []⟩,
   ⟨"SLOT_BAD1", 0x054, 1, 0x4, .ro, false, false, 0x00000000, false, 0xFFFFFFFF, []⟩,
   ⟨"SLOT_LOST0", 0x058, 1, 0x4, .ro, false, false, 0x00000000, false, 0xFFFFFFFF, []⟩,
   ⟨"SLOT_LOST1", 0x05C, 1, 0x4, .ro, false, false, 0x00000000, false, 0xFFFFFFFF, []⟩]

/-- Register rows of window CRY, part 0. -/
def regs_cry_0 : List RegInfo :=
  [⟨"CRY_CTL", 0x000, 1, 0x4, .wp, true, false, 0x00000001, true, 0x00000001, []⟩,
   ⟨"CRY_STAT", 0x004, 1, 0x4, .ro, false, false, 0x00000000, false, 0x0000FF07, []⟩,
   ⟨"CRY_ERR", 0x008, 1, 0x4, .w1c, false, false, 0x00000000, false, 0x00000007, []⟩,
   ⟨"CRY_BYTES", 0x010, 1, 0x4, .ro, false, false, 0x00000000, false, 0xFFFFFFFF, []⟩,
   ⟨"CRY_AUTHCNT", 0x014, 1, 0x4, .ro, false, false, 0x00000000, false, 0x0000FFFF, []⟩]

/-- Register rows of window PKE, part 0. -/
def regs_pke_0 : List RegInfo :=
  [⟨"PKE_CTL", 0x000, 1, 0x4, .wp, true, false, 0x00000001, true, 0x00000001, []⟩,
   ⟨"PKE_STAT", 0x004, 1, 0x4, .ro, false, false, 0x00000000, false, 0x00000F0F, []⟩,
   ⟨"PKE_ERR", 0x008, 1, 0x4, .w1c, false, false, 0x00000000, false, 0x00000007, []⟩,
   ⟨"PKE_CNT", 0x00C, 1, 0x4, .ro, false, false, 0x00000000, false, 0xFFFFFFFF, []⟩]

/-- Register rows of window TRNG, part 0. -/
def regs_trng_0 : List RegInfo :=
  [⟨"TRNG_CTL", 0x000, 1, 0x4, .wp, true, false, 0x00000100, true, 0x0000FF01, [.clamp 8 8 1 255]⟩,
   ⟨"TRNG_STAT", 0x004, 1, 0x4, .ro, false, false, 0x00000000, false, 0x0000FF03, []⟩,
   ⟨"TRNG_ERR", 0x008, 1, 0x4, .w1c, false, false, 0x00000000, false, 0x0000000F, []⟩,
   ⟨"TRNG_CMD", 0x00C, 1, 0x4, .rw, false, false, 0x00000000, false, 0x00000000, []⟩,
   ⟨"TRNG_HT", 0x010, 1, 0x4, .wp, true, false, 0x02AC0027, true, 0x03FF00FF, [.clamp 0 8 0 39, .clamp 16 10 0 684]⟩,
   ⟨"TRNG_RESEEDS", 0x014, 1, 0x4, .ro, false, false, 0x00000000, false, 0xFFFFFFFF, []⟩,
   ⟨"TRNG_REQS", 0x018, 1, 0x4, .ro, false, false, 0x00000000, false, 0x0001FFFF, []⟩]

/-- Register rows of window VLT, part 0. -/
def regs_vlt_0 : List RegInfo :=
  [⟨"VLT_STAT", 0x000, 1, 0x4, .ro, false, false, 0x00000000, false, 0x0000FF07, []⟩,
   ⟨"VLT_ERR", 0x004, 1, 0x4, .w1c, false, false, 0x00000000, false, 0x000003FF, []⟩,
   ⟨"TAMP_EN", 0x010, 1, 0x4, .wp, true, false, 0x000000E0, true, 0x000000FF, []⟩,
   ⟨"TAMP_ACT", 0x014, 1, 0x4, .wp, true, false, 0x000000E0, true, 0x000000FF, []⟩,
   ⟨"TAMP_BALL", 0x018, 1, 0x4, .wp, true, false, 0x00000000, true, 0x000000FF, []⟩,
   ⟨"MESH_CFG", 0x01C, 1, 0x4, .wp, true, false, 0x0000ACE1, true, 0x0000FFFF, [.clamp 0 16 1 65535]⟩,
   ⟨"TAMP_LAST", 0x020, 1, 0x4, .ro, false, false, 0x00000000, false, 0x0000FFFF, []⟩,
   ⟨"TAMP_TIME", 0x024, 1, 0x4, .ro, false, false, 0x00000000, false, 0xFFFFFFFF, []⟩,
   ⟨"CAL_TRIM", 0x030, 1, 0x4, .wp, false, false, 0x00000000, true, 0x0000FFFF, [.clampS 0 16 (-2000) (2000)]⟩,
   ⟨"CAL_ALARM", 0x034, 1, 0x4, .rw, false, false, 0x00000000, false, 0xFFFFFFFF, []⟩,
   ⟨"CAL_ALARM_CTL", 0x038, 1, 0x4, .rw, false, false, 0x00000000, false, 0x00000001, []⟩,
   ⟨"LOG_NEXT", 0x040, 1, 0x4, .ro, false, false, 0x00000000, false, 0xFFFFFFFF, []⟩]

/-- Register rows of window UPD, part 0. -/
def regs_upd_0 : List RegInfo :=
  [⟨"UPD_CTL", 0x000, 1, 0x4, .wp, true, false, 0x00000000, true, 0x0000003F, []⟩,
   ⟨"UPD_STAT", 0x004, 1, 0x4, .ro, false, false, 0x00000000, false, 0x0003077F, []⟩,
   ⟨"UPD_ERR", 0x008, 1, 0x4, .w1c, false, false, 0x00000000, false, 0x0000001F, []⟩,
   ⟨"UPD_OWN", 0x00C, 1, 0x4, .wp, false, false, 0x00000000, false, 0x00000001, []⟩,
   ⟨"UPD_OWNINFO", 0x010, 1, 0x4, .ro, false, false, 0x00000000, false, 0x0000000F, []⟩,
   ⟨"UPD_HEALTH", 0x014, 1, 0x4, .rw, false, false, 0x00000000, false, 0x00000000, []⟩,
   ⟨"UPD_REVACK", 0x018, 1, 0x4, .rw, false, false, 0x00000000, false, 0x00000000, []⟩,
   ⟨"UPD_HCFG", 0x020, 1, 0x4, .wp, false, false, 0x00C8001E, true, 0xFFFFFFFF, [.clamp 0 16 1 3600]⟩,
   ⟨"UPD_RCFG", 0x024, 1, 0x4, .wp, false, false, 0x0BB80064, true, 0xFFFFFFFF, [.clamp 0 16 10 10000, .clamp 16 16 100 10000]⟩,
   ⟨"UPD_HLEFT", 0x028, 1, 0x4, .ro, false, false, 0x00000000, false, 0x0000FFFF, []⟩,
   ⟨"UPD_RUNBANK", 0x030, 1, 0x4, .ro, false, false, 0x00000000, false, 0x00000111, []⟩,
   ⟨"UPD_VSVN", 0x034, 1, 0x4, .ro, false, false, 0x00000000, false, 0x00007F7F, []⟩,
   ⟨"UPD_GEN_A", 0x040, 1, 0x4, .ro, false, false, 0x00000000, false, 0xFFFFFFFF, []⟩,
   ⟨"UPD_GEN_B", 0x044, 1, 0x4, .ro, false, false, 0x00000000, false, 0xFFFFFFFF, []⟩,
   ⟨"UPD_CNT", 0x050, 1, 0x4, .ro, false, false, 0x00000000, false, 0xFFFFFFFF, []⟩]

/-- Register rows of window SAF, part 0. -/
def regs_saf_0 : List RegInfo :=
  [⟨"SAF_STAT", 0x000, 1, 0x4, .ro, false, false, 0x00000000, false, 0x000003FF, []⟩,
   ⟨"SAF_ERR", 0x004, 1, 0x4, .w1c, false, false, 0x00000000, false, 0x000001FF, []⟩,
   ⟨"SAF_PCRC", 0x008, 1, 0x4, .ro, false, false, 0x00000000, false, 0xFFFFFFFF, []⟩,
   ⟨"SAF_CCRC", 0x00C, 1, 0x4, .ro, false, false, 0x00000000, false, 0xFFFFFFFF, []⟩,
   ⟨"SAF_COMM", 0x010, 1, 0x4, .wp, false, false, 0x00000000, false, 0xFFFFFFFF, []⟩,
   ⟨"SAF_CMD", 0x014, 1, 0x4, .rw, false, false, 0x00000000, false, 0x000000FF, []⟩,
   ⟨"SAF_HALT", 0x018, 1, 0x4, .ro, false, false, 0x00000000, false, 0x0000FFFF, []⟩,
   ⟨"SAF_IN", 0x020, 1, 0x4, .ro, false, false, 0x00000000, false, 0xFFFFFFFF, []⟩,
   ⟨"SAF_INFLT", 0x024, 1, 0x4, .ro, false, false, 0x00000000, false, 0x0000FFFF, []⟩,
   ⟨"SAF_SO", 0x028, 1, 0x4, .ro, false, false, 0x00000000, false, 0x0FFFFFFF, []⟩,
   ⟨"SAF_LINES", 0x02C, 1, 0x4, .ro, false, false, 0x00000000, false, 0x0000000F, []⟩,
   ⟨"SAF_FN", 0x030, 8, 0x4, .ro, false, false, 0x00000000, false, 0x000000F7, []⟩,
   ⟨"SAF_CNT", 0x050, 1, 0x4, .ro, false, false, 0x00000000, false, 0xFFFFFFFF, []⟩,
   ⟨"XC_A", 0x100, 8, 0x4, .rw, false, false, 0x00000000, false, 0xFFFFFFFF, []⟩,
   ⟨"XC_B", 0x120, 8, 0x4, .rw, false, false, 0x00000000, false, 0xFFFFFFFF, []⟩,
   ⟨"SAF_WDGA", 0x140, 1, 0x4, .rw, false, false, 0x00000000, false, 0x00000000, []⟩,
   ⟨"SAF_WDGB", 0x144, 1, 0x4, .rw, false, false, 0x00000000, false, 0x00000000, []⟩,
   ⟨"COMM_REQA", 0x148, 1, 0x4, .rw, false, false, 0x00000000, false, 0xFFFFFFFF, []⟩,
   ⟨"COMM_REQB", 0x14C, 1, 0x4, .rw, false, false, 0x00000000, false, 0xFFFFFFFF, []⟩,
   ⟨"SAF_CTLA", 0x150, 1, 0x4, .rw, false, false, 0x00000000, false, 0x0000007F, []⟩,
   ⟨"SAF_CTLB", 0x154, 1, 0x4, .rw, false, false, 0x00000000, false, 0x0000007F, []⟩]

/-- Register rows of window LSW, part 0. -/
def regs_lsw_0 : List RegInfo :=
  [⟨"LS_MODE", 0x000, 1, 0x4, .wp, true, false, 0x00000000, true, 0xFFFFFFFF, [.illegal 0 2 3 0, .illegal 2 2 3 0, .illegal 4 2 3 0, .illegal 6 2 3 0, .illegal 8 2 3 0, .illegal 10 2 3 0, .illegal 12 2 3 0, .illegal 14 2 3 0, .illegal 16 2 3 0, .illegal 18 2 3 0, .illegal 20 2 3 0, .illegal 22 2 3 0, .illegal 24 2 3 0, .illegal 26 2 3 0, .illegal 28 2 3 0, .illegal 30 2 3 0]⟩,
   ⟨"LS_OWN", 0x004, 1, 0x4, .wp, true, false, 0x00000000, true, 0xFFFFFFFF, []⟩,
   ⟨"LS_SET", 0x008, 1, 0x4, .rw, false, false, 0x00000000, false, 0x00000000, []⟩,
   ⟨"LS_CLR", 0x00C, 1, 0x4, .rw, false, false, 0x00000000, false, 0x00000000, []⟩,
   ⟨"LS_CMD", 0x010, 1, 0x4, .ro, false, false, 0x00000000, false, 0x0000FFFF, []⟩,
   ⟨"LS_STAT", 0x014, 1, 0x4, .ro, false, false, 0x00000000, false, 0xFFFFFFFF, []⟩,
   ⟨"LS_ERR", 0x018, 1, 0x4, .w1c, false, false, 0x00000000, false, 0xFFFF0003, []⟩,
   ⟨"LS_LCLR", 0x01C, 1, 0x4, .rw, false, false, 0x00000000, false, 0x00000000, []⟩,
   ⟨"LS_CUR", 0x040, 16, 0x4, .ro, false, false, 0x00000000, false, 0x0FFF0FFF, []⟩,
   ⟨"LS_CFG", 0x080, 16, 0x4, .wp, false, true, 0x0A7D0A85, true, 0xFFFFFFF7, [.clamp 8 8 1 255, .clamp 16 8 100 150, .clamp 24 8 1 255]⟩,
   ⟨"LS_DIAG", 0x0C0, 16, 0x4, .ro, false, true, 0x00000000, false, 0xFFFF0F37, []⟩]

/-- Register rows of window UL0, part 0. -/
def regs_ul0_0 : List RegInfo :=
  [⟨"U_CTL", 0x000, 1, 0x4, .wp, true, false, 0x00000000, true, 0x000001F3, []⟩,
   ⟨"U_FRAME", 0x004, 1, 0x4, .wp, false, false, 0x00000001, true, 0x0000003F, [.illegal 0 2 3 1, .illegal 2 2 3 0]⟩,
   ⟨"U_BAUD", 0x008, 1, 0x4, .wp, false, false, 0x000008AE, true, 0x000FFFFF, []⟩,
   ⟨"U_STAT", 0x00C, 1, 0x4, .ro, false, false, 0x00000002, false, 0x007F7FFF, []⟩,
   ⟨"U_DATA", 0x010, 1, 0x4, .rw, false, false, 0x00000000, false, 0x000001FF, []⟩,
   ⟨"U_ERR", 0x014, 1, 0x4, .w1c, false, false, 0x00000000, false, 0x0000000F, []⟩,
   ⟨"U_FLOW", 0x018, 1, 0x4, .wp, false, false, 0x30101311, true, 0x3F3FFFFF, []⟩,
   ⟨"U_ADDR", 0x01C, 1, 0x4, .wp, false, false, 0x00000000, true, 0x000001FF, []⟩,
   ⟨"U_RS485", 0x020, 1, 0x4, .wp, false, false, 0x00001010, true, 0x0001FFFF, [.clamp 0 32 0 0]⟩,
   ⟨"U_KLINE", 0x024, 1, 0x4, .wp, false, false, 0x00321900, true, 0x00FFFFFF, [.clamp 0 32 0 0]⟩,
   ⟨"U_IDLE", 0x028, 1, 0x4, .wp, false, false, 0x00000000, true, 0x000000FF, []⟩,
   ⟨"U_XOFF_T", 0x02C, 1, 0x4, .wp, false, false, 0x00000000, true, 0x0000FFFF, []⟩,
   ⟨"U_CNT", 0x030, 1, 0x4, .ro, false, false, 0x00000000, false, 0xFFFFFFFF, []⟩]

/-- Register rows of window UL1, part 0. -/
def regs_ul1_0 : List RegInfo :=
  [⟨"U_CTL", 0x000, 1, 0x4, .wp, true, false, 0x00000000, true, 0x000001F3, []⟩,
   ⟨"U_FRAME", 0x004, 1, 0x4, .wp, false, false, 0x00000001, true, 0x0000003F, [.illegal 0 2 3 1, .illegal 2 2 3 0]⟩,
   ⟨"U_BAUD", 0x008, 1, 0x4, .wp, false, false, 0x000008AE, true, 0x000FFFFF, []⟩,
   ⟨"U_STAT", 0x00C, 1, 0x4, .ro, false, false, 0x00000002, false, 0x007F7FFF, []⟩,
   ⟨"U_DATA", 0x010, 1, 0x4, .rw, false, false, 0x00000000, false, 0x000001FF, []⟩,
   ⟨"U_ERR", 0x014, 1, 0x4, .w1c, false, false, 0x00000000, false, 0x0000000F, []⟩,
   ⟨"U_FLOW", 0x018, 1, 0x4, .wp, false, false, 0x30101311, true, 0x3F3FFFFF, []⟩,
   ⟨"U_ADDR", 0x01C, 1, 0x4, .wp, false, false, 0x00000000, true, 0x000001FF, []⟩,
   ⟨"U_RS485", 0x020, 1, 0x4, .wp, false, false, 0x00001010, true, 0x0001FFFF, [.clamp 0 32 0 0]⟩,
   ⟨"U_KLINE", 0x024, 1, 0x4, .wp, false, false, 0x00321900, true, 0x00FFFFFF, [.clamp 0 32 0 0]⟩,
   ⟨"U_IDLE", 0x028, 1, 0x4, .wp, false, false, 0x00000000, true, 0x000000FF, []⟩,
   ⟨"U_XOFF_T", 0x02C, 1, 0x4, .wp, false, false, 0x00000000, true, 0x0000FFFF, []⟩,
   ⟨"U_CNT", 0x030, 1, 0x4, .ro, false, false, 0x00000000, false, 0xFFFFFFFF, []⟩]

/-- Register rows of window UQ0, part 0. -/
def regs_uq0_0 : List RegInfo :=
  [⟨"U_CTL", 0x000, 1, 0x4, .wp, true, false, 0x00000002, true, 0x000007ED, [.illegal 2 2 3 0]⟩,
   ⟨"U_FRAME", 0x004, 1, 0x4, .wp, false, false, 0x00000001, true, 0x0000003F, [.illegal 0 2 3 1, .illegal 2 2 3 0]⟩,
   ⟨"U_BAUD", 0x008, 1, 0x4, .wp, false, false, 0x00344000, true, 0xFFFFFFFF, [.clamp 0 32 8192 4294967295]⟩,
   ⟨"U_STAT", 0x00C, 1, 0x4, .ro, false, false, 0x00000002, false, 0x007F7FFF, []⟩,
   ⟨"U_DATA", 0x010, 1, 0x4, .rw, false, false, 0x00000000, false, 0x00000000, []⟩,
   ⟨"U_ERR", 0x014, 1, 0x4, .w1c, false, false, 0x00000000, false, 0x0000000F, []⟩,
   ⟨"U_FLOW", 0x018, 1, 0x4, .wp, false, false, 0x30101311, true, 0x3F3FFFFF, []⟩,
   ⟨"U_ADDR", 0x01C, 1, 0x4, .wp, false, false, 0x00000000, true, 0x000001FF, []⟩,
   ⟨"U_RS485", 0x020, 1, 0x4, .wp, false, false, 0x00001010, true, 0x0001FFFF, []⟩,
   ⟨"U_KLINE", 0x024, 1, 0x4, .wp, false, false, 0x00321900, true, 0x00FFFFFF, []⟩,
   ⟨"U_IDLE", 0x028, 1, 0x4, .wp, false, false, 0x00000000, true, 0x000000FF, []⟩,
   ⟨"U_XOFF_T", 0x02C, 1, 0x4, .wp, false, false, 0x00000000, true, 0x0000FFFF, []⟩,
   ⟨"U_CNT", 0x030, 1, 0x4, .ro, false, false, 0x00000000, false, 0xFFFFFFFF, []⟩]

/-- Register rows of window UQ1, part 0. -/
def regs_uq1_0 : List RegInfo :=
  [⟨"U_CTL", 0x000, 1, 0x4, .wp, true, false, 0x00000002, true, 0x000007ED, [.illegal 2 2 3 0]⟩,
   ⟨"U_FRAME", 0x004, 1, 0x4, .wp, false, false, 0x00000001, true, 0x0000003F, [.illegal 0 2 3 1, .illegal 2 2 3 0]⟩,
   ⟨"U_BAUD", 0x008, 1, 0x4, .wp, false, false, 0x00344000, true, 0xFFFFFFFF, [.clamp 0 32 8192 4294967295]⟩,
   ⟨"U_STAT", 0x00C, 1, 0x4, .ro, false, false, 0x00000002, false, 0x007F7FFF, []⟩,
   ⟨"U_DATA", 0x010, 1, 0x4, .rw, false, false, 0x00000000, false, 0x00000000, []⟩,
   ⟨"U_ERR", 0x014, 1, 0x4, .w1c, false, false, 0x00000000, false, 0x0000000F, []⟩,
   ⟨"U_FLOW", 0x018, 1, 0x4, .wp, false, false, 0x30101311, true, 0x3F3FFFFF, []⟩,
   ⟨"U_ADDR", 0x01C, 1, 0x4, .wp, false, false, 0x00000000, true, 0x000001FF, []⟩,
   ⟨"U_RS485", 0x020, 1, 0x4, .wp, false, false, 0x00001010, true, 0x0001FFFF, []⟩,
   ⟨"U_KLINE", 0x024, 1, 0x4, .wp, false, false, 0x00321900, true, 0x00FFFFFF, []⟩,
   ⟨"U_IDLE", 0x028, 1, 0x4, .wp, false, false, 0x00000000, true, 0x000000FF, []⟩,
   ⟨"U_XOFF_T", 0x02C, 1, 0x4, .wp, false, false, 0x00000000, true, 0x0000FFFF, []⟩,
   ⟨"U_CNT", 0x030, 1, 0x4, .ro, false, false, 0x00000000, false, 0xFFFFFFFF, []⟩]

/-- Register rows of window UQ2, part 0. -/
def regs_uq2_0 : List RegInfo :=
  [⟨"U_CTL", 0x000, 1, 0x4, .wp, true, false, 0x00000002, true, 0x000007ED, [.illegal 2 2 3 0]⟩,
   ⟨"U_FRAME", 0x004, 1, 0x4, .wp, false, false, 0x00000001, true, 0x0000003F, [.illegal 0 2 3 1, .illegal 2 2 3 0]⟩,
   ⟨"U_BAUD", 0x008, 1, 0x4, .wp, false, false, 0x00344000, true, 0xFFFFFFFF, [.clamp 0 32 8192 4294967295]⟩,
   ⟨"U_STAT", 0x00C, 1, 0x4, .ro, false, false, 0x00000002, false, 0x007F7FFF, []⟩,
   ⟨"U_DATA", 0x010, 1, 0x4, .rw, false, false, 0x00000000, false, 0x00000000, []⟩,
   ⟨"U_ERR", 0x014, 1, 0x4, .w1c, false, false, 0x00000000, false, 0x0000000F, []⟩,
   ⟨"U_FLOW", 0x018, 1, 0x4, .wp, false, false, 0x30101311, true, 0x3F3FFFFF, []⟩,
   ⟨"U_ADDR", 0x01C, 1, 0x4, .wp, false, false, 0x00000000, true, 0x000001FF, []⟩,
   ⟨"U_RS485", 0x020, 1, 0x4, .wp, false, false, 0x00001010, true, 0x0001FFFF, []⟩,
   ⟨"U_KLINE", 0x024, 1, 0x4, .wp, false, false, 0x00321900, true, 0x00FFFFFF, []⟩,
   ⟨"U_IDLE", 0x028, 1, 0x4, .wp, false, false, 0x00000000, true, 0x000000FF, []⟩,
   ⟨"U_XOFF_T", 0x02C, 1, 0x4, .wp, false, false, 0x00000000, true, 0x0000FFFF, []⟩,
   ⟨"U_CNT", 0x030, 1, 0x4, .ro, false, false, 0x00000000, false, 0xFFFFFFFF, []⟩]

/-- Register rows of window UQ3, part 0. -/
def regs_uq3_0 : List RegInfo :=
  [⟨"U_CTL", 0x000, 1, 0x4, .wp, true, false, 0x00000002, true, 0x000007ED, [.illegal 2 2 3 0]⟩,
   ⟨"U_FRAME", 0x004, 1, 0x4, .wp, false, false, 0x00000001, true, 0x0000003F, [.illegal 0 2 3 1, .illegal 2 2 3 0]⟩,
   ⟨"U_BAUD", 0x008, 1, 0x4, .wp, false, false, 0x00344000, true, 0xFFFFFFFF, [.clamp 0 32 8192 4294967295]⟩,
   ⟨"U_STAT", 0x00C, 1, 0x4, .ro, false, false, 0x00000002, false, 0x007F7FFF, []⟩,
   ⟨"U_DATA", 0x010, 1, 0x4, .rw, false, false, 0x00000000, false, 0x00000000, []⟩,
   ⟨"U_ERR", 0x014, 1, 0x4, .w1c, false, false, 0x00000000, false, 0x0000000F, []⟩,
   ⟨"U_FLOW", 0x018, 1, 0x4, .wp, false, false, 0x30101311, true, 0x3F3FFFFF, []⟩,
   ⟨"U_ADDR", 0x01C, 1, 0x4, .wp, false, false, 0x00000000, true, 0x000001FF, []⟩,
   ⟨"U_RS485", 0x020, 1, 0x4, .wp, false, false, 0x00001010, true, 0x0001FFFF, []⟩,
   ⟨"U_KLINE", 0x024, 1, 0x4, .wp, false, false, 0x00321900, true, 0x00FFFFFF, []⟩,
   ⟨"U_IDLE", 0x028, 1, 0x4, .wp, false, false, 0x00000000, true, 0x000000FF, []⟩,
   ⟨"U_XOFF_T", 0x02C, 1, 0x4, .wp, false, false, 0x00000000, true, 0x0000FFFF, []⟩,
   ⟨"U_CNT", 0x030, 1, 0x4, .ro, false, false, 0x00000000, false, 0xFFFFFFFF, []⟩]

/-- Register rows of window CAN0, part 0. -/
def regs_can0_0 : List RegInfo :=
  [⟨"CAN_CTL", 0x000, 1, 0x4, .wp, true, false, 0x00000020, true, 0x000000FF, []⟩,
   ⟨"CAN_NBT", 0x004, 1, 0x4, .wp, false, false, 0x00F1E7C3, true, 0x07FFFFFF, [.clamp 5 8 1 255]⟩,
   ⟨"CAN_DBT", 0x008, 1, 0x4, .wp, false, false, 0x00001DE0, true, 0x03FFFFFF, []⟩,
   ⟨"CAN_STAT", 0x00C, 1, 0x4, .ro, false, false, 0x00000003, false, 0x00FFFF03, []⟩,
   ⟨"CAN_ERR", 0x010, 1, 0x4, .w1c, false, false, 0x00000000, false, 0x000000FF, []⟩,
   ⟨"CAN_CMD", 0x014, 1, 0x4, .rw, false, false, 0x00000000, false, 0x00000000, []⟩,
   ⟨"CAN_CNT", 0x018, 1, 0x4, .ro, false, false, 0x00000000, false, 0xFFFFFFFF, []⟩,
   ⟨"CAN_FID", 0x100, 32, 0x8, .wp, false, false, 0x00000000, true, 0xFFFFFFFF, []⟩,
   ⟨"CAN_FMASK", 0x104, 32, 0x8, .wp, false, false, 0x00000000, true, 0x1FFFFFFF, []⟩]

/-- Register rows of window CAN1, part 0. -/
def regs_can1_0 : List RegInfo :=
  [⟨"CAN_CTL", 0x000, 1, 0x4, .wp, true, false, 0x00000020, true, 0x000000FF, []⟩,
   ⟨"CAN_NBT", 0x004, 1, 0x4, .wp, false, false, 0x00F1E7C3, true, 0x07FFFFFF, [.clamp 5 8 1 255]⟩,
   ⟨"CAN_DBT", 0x008, 1, 0x4, .wp, false, false, 0x00001DE0, true, 0x03FFFFFF, []⟩,
   ⟨"CAN_STAT", 0x00C, 1, 0x4, .ro, false, false, 0x00000003, false, 0x00FFFF03, []⟩,
   ⟨"CAN_ERR", 0x010, 1, 0x4, .w1c, false, false, 0x00000000, false, 0x000000FF, []⟩,
   ⟨"CAN_CMD", 0x014, 1, 0x4, .rw, false, false, 0x00000000, false, 0x00000000, []⟩,
   ⟨"CAN_CNT", 0x018, 1, 0x4, .ro, false, false, 0x00000000, false, 0xFFFFFFFF, []⟩,
   ⟨"CAN_FID", 0x100, 32, 0x8, .wp, false, false, 0x00000000, true, 0xFFFFFFFF, []⟩,
   ⟨"CAN_FMASK", 0x104, 32, 0x8, .wp, false, false, 0x00000000, true, 0x1FFFFFFF, []⟩]

/-- Register rows of window ETH, part 0. -/
def regs_eth_0 : List RegInfo :=
  [⟨"ETH_CTL", 0x000, 1, 0x4, .wp, true, false, 0x00000016, true, 0x0000007F, []⟩,
   ⟨"ETH_ERR", 0x004, 1, 0x4, .w1c, false, false, 0x00000000, false, 0x0000003F, []⟩,
   ⟨"ETH_MAC_LO", 0x010, 1, 0x4, .wp, true, false, 0x00000000, true, 0xFFFFFFFF, []⟩,
   ⟨"ETH_MAC_HI", 0x014, 1, 0x4, .wp, true, false, 0x00000000, true, 0x0000FFFF, []⟩,
   ⟨"ETH_HASH_LO", 0x018, 1, 0x4, .wp, false, false, 0x00000000, true, 0xFFFFFFFF, []⟩,
   ⟨"ETH_HASH_HI", 0x01C, 1, 0x4, .wp, false, false, 0x00000000, true, 0xFFFFFFFF, []⟩,
   ⟨"ETH_MDC", 0x020, 1, 0x4, .wp, false, false, 0x00000013, true, 0x000000FF, []⟩,
   ⟨"ETH_CNT", 0x030, 1, 0x4, .ro, false, false, 0x00000000, false, 0xFFFFFFFF, []⟩]

/-- Register rows of window SPI0, part 0. -/
def regs_spi0_0 : List RegInfo :=
  [⟨"SPI_CTL", 0x000, 1, 0x4, .wp, true, false, 0x000000E0, true, 0x000FF3FF, [.clamp 5 5 3 31]⟩,
   ⟨"SPI_CS", 0x004, 1, 0x4, .wp, false, false, 0x00202020, true, 0x0FFFFFFF, []⟩,
   ⟨"SPI_ERR", 0x008, 1, 0x4, .w1c, false, false, 0x00000000, false, 0x00000003, []⟩,
   ⟨"SPI_FILL", 0x00C, 1, 0x4, .wp, false, false, 0x00000000, true, 0xFFFFFFFF, []⟩]

/-- Register rows of window SPI1, part 0. -/
def regs_spi1_0 : List RegInfo :=
  [⟨"SPI_CTL", 0x000, 1, 0x4, .wp, true, false, 0x000000E0, true, 0x000FF3FF, [.clamp 5 5 3 31]⟩,
   ⟨"SPI_CS", 0x004, 1, 0x4, .wp, false, false, 0x00202020, true, 0x0FFFFFFF, []⟩,
   ⟨"SPI_ERR", 0x008, 1, 0x4, .w1c, false, false, 0x00000000, false, 0x00000003, []⟩,
   ⟨"SPI_FILL", 0x00C, 1, 0x4, .wp, false, false, 0x00000000, true, 0xFFFFFFFF, []⟩]

/-- Register rows of window SPI2, part 0. -/
def regs_spi2_0 : List RegInfo :=
  [⟨"SPI_CTL", 0x000, 1, 0x4, .wp, true, false, 0x000000E0, true, 0x000FF3FF, [.clamp 5 5 3 31]⟩,
   ⟨"SPI_CS", 0x004, 1, 0x4, .wp, false, false, 0x00202020, true, 0x0FFFFFFF, []⟩,
   ⟨"SPI_ERR", 0x008, 1, 0x4, .w1c, false, false, 0x00000000, false, 0x00000003, []⟩,
   ⟨"SPI_FILL", 0x00C, 1, 0x4, .wp, false, false, 0x00000000, true, 0xFFFFFFFF, []⟩]

/-- Register rows of window I2C0, part 0. -/
def regs_i2c0_0 : List RegInfo :=
  [⟨"I2C_CTL", 0x000, 1, 0x4, .wp, true, false, 0x00000000, true, 0x0000003F, [.illegal 2 2 3 2]⟩,
   ⟨"I2C_OWN", 0x004, 1, 0x4, .wp, false, false, 0x00000000, true, 0x000003FF, []⟩,
   ⟨"I2C_TMO", 0x008, 1, 0x4, .wp, false, false, 0x00000019, true, 0x000000FF, []⟩,
   ⟨"I2C_STAT", 0x00C, 1, 0x4, .ro, false, false, 0x00000000, false, 0x00000007, []⟩,
   ⟨"I2C_ERR", 0x010, 1, 0x4, .w1c, false, false, 0x00000000, false, 0x0000000F, []⟩]

/-- Register rows of window I2C1, part 0. -/
def regs_i2c1_0 : List RegInfo :=
  [⟨"I2C_CTL", 0x000, 1, 0x4, .wp, true, false, 0x00000000, true, 0x0000003F, [.illegal 2 2 3 2]⟩,
   ⟨"I2C_OWN", 0x004, 1, 0x4, .wp, false, false, 0x00000000, true, 0x000003FF, []⟩,
   ⟨"I2C_TMO", 0x008, 1, 0x4, .wp, false, false, 0x00000019, true, 0x000000FF, []⟩,
   ⟨"I2C_STAT", 0x00C, 1, 0x4, .ro, false, false, 0x00000000, false, 0x00000007, []⟩,
   ⟨"I2C_ERR", 0x010, 1, 0x4, .w1c, false, false, 0x00000000, false, 0x0000000F, []⟩]

/-- Register rows of window USB, part 0. -/
def regs_usb_0 : List RegInfo :=
  [⟨"USB_CTL", 0x000, 1, 0x4, .wp, true, false, 0x00000000, true, 0x00000003, []⟩,
   ⟨"USB_STAT", 0x004, 1, 0x4, .ro, false, false, 0x00000000, false, 0x07FF7F07, []⟩,
   ⟨"USB_ERR", 0x008, 1, 0x4, .w1c, false, false, 0x00000000, false, 0x0000000F, []⟩,
   ⟨"USB_ADDR", 0x00C, 1, 0x4, .rw, false, false, 0x00000000, false, 0x000000FF, []⟩,
   ⟨"USB_CMD", 0x010, 1, 0x4, .rw, false, false, 0x00000000, false, 0x00000000, []⟩,
   ⟨"USB_EP0", 0x020, 1, 0x4, .rw, false, false, 0x00000340, true, 0x00000800, []⟩,
   ⟨"USB_EP", 0x024, 7, 0x4, .rw, false, false, 0x00000040, true, 0x00001F7F, [.clamp 0 7 8 64]⟩]

/-- Register rows of window DBG, part 0. -/
def regs_dbg_0 : List RegInfo :=
  [⟨"DBG_STAT", 0x000, 1, 0x4, .ro, false, false, 0x00000000, false, 0x00007FFF, []⟩]

/-- The register rows of a window, its common registers apart. -/
def Win.rows : Win → List RegInfo
  | .pmu => regs_pmu_0
  | .clk => regs_clk_0
  | .tmb => regs_tmb_0
  | .sys => regs_sys_0
  | .evr => regs_evr_0
  | .sem => regs_sem_0
  | .cfc => regs_cfc_0
  | .scr => regs_scr_0
  | .flc => regs_flc_0
  | .tlm => regs_tlm_0
  | .ang => regs_ang_0 ++ regs_ang_1 ++ regs_ang_2
  | .eng => regs_eng_0
  | .edr => regs_edr_0
  | .lam => regs_lam_0
  | .hbr => regs_hbr_0
  | .pwm => regs_pwm_0
  | .psc => regs_psc_0
  | .egv => regs_egv_0
  | .chg => regs_chg_0
  | .rcm => regs_rcm_0
  | .plm => regs_plm_0
  | .met => regs_met_0 ++ regs_met_1
  | .bil => regs_bil_0 ++ regs_bil_1
  | .key => regs_key_0
  | .cry => regs_cry_0
  | .pke => regs_pke_0
  | .trng => regs_trng_0
  | .vlt => regs_vlt_0
  | .upd => regs_upd_0
  | .saf => regs_saf_0
  | .lsw => regs_lsw_0
  | .ul0 => regs_ul0_0
  | .ul1 => regs_ul1_0
  | .uq0 => regs_uq0_0
  | .uq1 => regs_uq1_0
  | .uq2 => regs_uq2_0
  | .uq3 => regs_uq3_0
  | .can0 => regs_can0_0
  | .can1 => regs_can1_0
  | .eth => regs_eth_0
  | .spi0 => regs_spi0_0
  | .spi1 => regs_spi1_0
  | .spi2 => regs_spi2_0
  | .i2c0 => regs_i2c0_0
  | .i2c1 => regs_i2c1_0
  | .usb => regs_usb_0
  | .dbg => regs_dbg_0

end Sys2Proof.Machine
end

