-- ==== Sys2Proof/Machine/Tab.lean ====
section
/-! DEFINITION. Sparse tables: plain data that gives every key a value. A table is a list of (key, value) pairs in one
canonical form: keys strictly rising, and no entry equal to what an unlisted key reads as. -/
namespace Sys2Proof.Machine

/-- A sparse table from numbers to values. What an unlisted key reads as is the argument `d` of the operations. -/
abbrev Tab (α : Type) := List (Nat × α)

/-- The value of key `k`. -/
def Tab.get {α : Type} (d : Nat → α) : Tab α → Nat → α
  | [], k => d k
  | (j, v) :: t, k => if j = k then v else Tab.get d t k

/-- The table without key `k`. -/
def Tab.del {α : Type} : Tab α → Nat → Tab α
  | [], _ => []
  | (j, v) :: t, k => if j = k then Tab.del t k else (j, v) :: Tab.del t k

/-- The table with an entry put at its place in the order of the keys. -/
def Tab.put {α : Type} : Tab α → Nat → α → Tab α
  | [], k, v => [(k, v)]
  | (j, w) :: t, k, v => if k < j then (k, v) :: (j, w) :: t else (j, w) :: Tab.put t k v

/-- Writes key `k`; writing the value an unlisted key reads as removes the entry. -/
def Tab.set {α : Type} [DecidableEq α] (d : Nat → α) (t : Tab α) (k : Nat) (v : α) : Tab α :=
  if v = d k then t.del k else (t.del k).put k v

/-- Forgets every key that `p` holds for, so that those keys read their reset values. -/
def Tab.resetWhere {α : Type} (t : Tab α) (p : Nat → Bool) : Tab α := t.filter (fun e => ! p e.1)

/-- The entries of consecutive keys from `a` with these values; a value that its key reads as unlisted has none. -/
def Tab.seg {α : Type} [DecidableEq α] (d : Nat → α) : Nat → List α → Tab α
  | _, [] => []
  | a, v :: vs => if v = d a then Tab.seg d (a + 1) vs else (a, v) :: Tab.seg d (a + 1) vs

/-- Writes consecutive keys from `a`. -/
def Tab.splice {α : Type} [DecidableEq α] (d : Nat → α) (t : Tab α) (a : Nat) (vs : List α) : Tab α :=
  t.filter (fun e => decide (e.1 < a)) ++ (Tab.seg d a vs ++ t.filter (fun e => decide (a + vs.length ≤ e.1)))

/-- Keys strictly rising from above `lo`, and no entry equal to the unlisted value. -/
def Tab.wfFrom {α : Type} [DecidableEq α] (d : Nat → α) : Nat → Tab α → Bool
  | _, [] => true
  | lo, (j, v) :: t => decide (lo ≤ j) && decide (v ≠ d j) && Tab.wfFrom d (j + 1) t

/-- The canonical form. -/
def Tab.wf {α : Type} [DecidableEq α] (d : Nat → α) (t : Tab α) : Bool := Tab.wfFrom d 0 t

end Sys2Proof.Machine
end

