-- ==== Sys2Proof/Machine/StateBase.lean ====
section
/-! DEFINITION. The hidden state (what no register shows) of the architecture, ring, event, contract, clock and power
chapters (01 to 06). Registers themselves live in `State.regs`. -/
namespace Sys2Proof.Machine

/-- How the last access of a bus master ended. -/
inductive Exc where
  /-- It completed. -/
  | ok
  /-- A load access fault (R53, R182). -/
  | loadFault
  /-- A store/AMO access fault (R47, R53, R182). -/
  | storeFault
  /-- An instruction access fault (R53, R182). -/
  | fetchFault
  /-- An address-misaligned exception of a load (R46). -/
  | loadMisaligned
  /-- An address-misaligned exception of a store (R46). -/
  | storeMisaligned
  /-- An illegal-instruction exception (R48). -/
  | illegal
  deriving DecidableEq, Repr

/-- What a bus master has received: the data of its last read and how its last access ended. -/
structure Port where
  rdata : Word := 0#32
  exc : Exc := .ok
  deriving DecidableEq, Repr

/-- Modes a PMP region accepts (R45: NA4 stores OFF). -/
inductive PmpMode where
  | off | tor | napot
  deriving DecidableEq, Repr

/-- One of the 16 PMP regions of H0 or H1 (Table ARC-7, R45); `addr` is the pmpaddr value. -/
structure Pmp where
  mode : PmpMode := .off
  addr : Word := 0#32
  r : Bool := false
  w : Bool := false
  x : Bool := false
  locked : Bool := false
  deriving DecidableEq, Repr

/-- One register transaction of the Lameo link (R28 to R30): a read that stalls its master, or a posted write. -/
structure LinkReq where
  master : Nat
  addr : Nat
  isRead : Bool
  lane : Nat
  size : Nat
  data : Word
  /-- the transaction that carries RESUME (R40) -/
  isResume : Bool
  deriving DecidableEq, Repr

/-- The request in flight: its transaction, tag and the retries made (R26, R27). -/
structure Flight where
  req : LinkReq
  tag : Nat
  retries : Nat
  deriving DecidableEq, Repr

/-- Both ends of the Lameo link. -/
structure Link where
  /-- transactions issued and not yet sent, oldest first (R29, R30) -/
  queue : List LinkReq := []
  /-- the request in flight (R26) -/
  flight : Option Flight := none
  /-- the tag of the next new request -/
  tag : Nat := 0
  /-- consecutive failed transactions (R35) -/
  fails : Nat := 0
  /-- tag and answer data of the request the power die executed last (R27) -/
  pdTag : Option Nat := none
  pdData : Word := 0#32
  /-- the power die has declared link loss; its grace period runs (R35, R38) -/
  pdLoss : Bool := false
  /-- the power die is in the autonomous state (R39, R41); out of its own reset it is -/
  pdAuton : Bool := true
  /-- the power die has passed through its own reset and the control die has not reported it (R41) -/
  pdResetToReport : Bool := false
  /-- keepalive sequence numbers, 12 bits, of the two lanes (Table ARC-3) -/
  seqCd : Nat := 0
  seqPd : Nat := 0
  /-- ticks of the last valid frame that reached the control die and the power die (R35) -/
  validCd : Nat := 0
  validPd : Nat := 0
  deriving DecidableEq, Repr

/-- A completion decided and not yet written: STATUS, WARN, RESULT and the unit flags (Table RING-5). -/
structure Cpl where
  status : Nat
  warn : Nat := 0
  result : Word := 0#32
  uflags : Nat := 0
  last : Bool := false
  eccFixed : Bool := false
  deriving DecidableEq, Repr

/-- A completion the fabric denied, kept whole (R85). -/
structure Held where
  idx : Nat
  cpl : Cpl
  tag : Nat
  irq : Bool
  resumed : Bool
  deriving DecidableEq, Repr

/-- What a ring does when its descriptor in hand has completed (R83, R97). -/
inductive RingWish where
  | none | pause | abort | reclaim
  deriving DecidableEq, Repr

/-- A key delivered over the key bus (R604, R606): the slot code, its TYPE, key bytes, FIXED_IV (big-endian) and the
invocation counter value. -/
structure KeyGot where
  slot : Nat
  typ : Nat
  key : List Byte
  iv : List Byte
  cnt : Nat
  deriving DecidableEq, Repr

/-- The hidden state of one ring: the set-up taken at its last START (R87), the descriptor in hand, its decided
completion, the completion and shadow write a denial kept (R85), and the progress of a long descriptor. -/
structure Ring where
  /-- RING_BASE, CPL_BASE, SHADOW_ADDR and RING_CFG as the last START took them (R81, R87) -/
  base : Word := 0#32
  cpl : Word := 0#32
  shadow : Word := 0#32
  cfg : Word := 3#32
  /-- the eight words of the descriptor in hand; empty when none is -/
  desc : List Word := []
  /-- the completion that has been decided for it and waits to be written (R74) -/
  done : Option Cpl := none
  /-- the PAUSE, ABORT or RECLAIM that waits for its completion (R83, R97) -/
  wish : RingWish := .none
  /-- the descriptor in hand was preempted at least once (R77) -/
  resumed : Bool := false
  /-- a completion the fabric denied (R85) -/
  held : Option Held := none
  /-- a shadow write the fabric denied (R85) -/
  shadowDue : Bool := false
  /-- bytes or entries written so far by the descriptor in hand -/
  count : Nat := 0
  /-- unit-specific progress of the descriptor in hand -/
  aux : Nat := 0
  /-- tick count at which the descriptor in hand started -/
  t0 : Nat := 0
  /-- the key delivered for the descriptor in hand -/
  key : Option KeyGot := none
  deriving DecidableEq, Repr

/-- One adaptive loop beyond its window registers (R146 to R160). -/
structure LoopSt where
  /-- the mode in force: 0 PARK, 1 RUN, 2 FREEZE (R158) -/
  mode : Nat := 0
  /-- pinned elements: 1 at LO, 2 at HI (R152) -/
  pins : Tab Nat := []
  /-- the next pin is the first since the loop entered RUN (R153) -/
  first : Bool := true
  /-- tick at which PINNED last went to 0 (R153) -/
  clearedAt : Nat := 0
  /-- updates gathered in the loop's statistics (R158) -/
  stats : Nat := 0
  deriving DecidableEq, Repr

/-- One commit gate beyond its registers (R170 to R177). -/
structure GateSt where
  /-- values of this period's on-time commit -/
  commit : Option (List Nat) := none
  /-- values last released from an on-time commit (R174) -/
  applied : List Nat := []
  /-- the value a DECAY started from (R174) -/
  start : List Nat := []
  /-- the gate applies its SAFE value (R174, R176) -/
  safe : Bool := false
  /-- the most recent deadline found an on-time commit (R177) -/
  lastOk : Bool := false
  /-- deadlines in a row that found one (R690), and the tick of the last escalation (R707) -/
  okRun : Nat := 0
  escAt : Nat := 0
  deriving DecidableEq, Repr

/-- A waiting or running FLC request: who asks (the code of FLC_STAT.REQ) and the ring it serves. -/
structure FlcReq where
  req : Nat
  win : Nat := 0
  ring : Nat := 0
  addr : Nat := 0
  erase : Bool := false
  /-- FIDX of the ring when its descriptor posted the request -/
  idx : Nat := 0
  deriving DecidableEq, Repr

/-- The clock unit's hidden state (05). -/
structure ClkSt where
  /-- SSC_CFG as it is in force; a write waits for the boundary (R209) -/
  sscAct : Word := 0x00010010#32
  /-- the spreading LFSR, and a seed that waits for the boundary (R208, R209) -/
  lfsr : Nat := 1
  seedDue : Bool := false
  /-- failing gates in a row of monitor 2 (R222) -/
  mon2Fails : Nat := 0
  /-- passing gates in a row of monitors 0 and 4 (R223, R225) -/
  mon0Passes : Nat := 0
  mon4Passes : Nat := 0
  /-- the last gate of monitor 3 failed (R533) -/
  mon3Bad : Bool := false
  /-- XO_READOPT waits for the monitor (R225) -/
  readopt : Bool := false
  /-- LCDCLK runs from LPRC/4 (R224) -/
  lcdOnLprc : Bool := false
  /-- the fraction of a tick carried in STANDBY, in 2^-16 tick (R217) -/
  lfFrac : Nat := 0
  deriving DecidableEq, Repr

/-- Operating mode (Table PMU-3) and STANDBY entry (Table PMU-4). -/
inductive PowerMode where
  | run | doze
  /-- STANDBY accepted; waiting for M's save -/
  | entrySave
  /-- save done; domains going off -/
  | entryOff
  | standby | off
  deriving DecidableEq, Repr

/-- The PMU's and SYS's hidden state (06). -/
structure PmuSt where
  /-- the power mode in force: RUN, DOZE, STANDBY, or without power (Table PMU-3) -/
  mode : PowerMode := .run
  /-- tick of the accepted STANDBY request (Table PMU-4) -/
  entryAt : Nat := 0
  /-- a wake event arrived during STANDBY entry (R253) -/
  wakeDue : Bool := false
  /-- an over-temperature warning has been raised and not re-armed (R260) -/
  tempWarned : Bool := false
  /-- tick of the last AVS alarm (R248) -/
  avsAt : Option Nat := none
  /-- a SW (1) or DBG (2) reset is due (R265) -/
  rstDue : Nat := 0
  /-- a reset that starts from T0 holds: RESET_N low, or supplies below threshold -/
  inReset : Bool := false
  /-- T0 has come and the boot ROM has not run -/
  t0Due : Bool := true
  /-- level of RSTOUT_N (R264) -/
  rstoutN : Bool := false
  /-- the start sequence waits for the cores (step 14), the tick count at T0, and the tick of the releases -/
  booting : Bool := false
  t0 : Nat := 0
  relAt : Nat := 0
  /-- H0 is in a HOST reset and has not re-entered (R275) -/
  hostRst : Bool := false
  /-- stopped in the boot ROM on an option that is not issued (R14); reports sent on UL0 -/
  optionStop : Bool := false
  optionReports : Nat := 0
  /-- the recovery state (R276) -/
  recovery : Bool := false
  /-- watchdogs: tick of the last restart of the count, and tick since which it is suspended (R268, R703, R833) -/
  wdtAt : Tab Nat := []
  wdtHold : Tab (Option Nat) := []
  deriving DecidableEq, Repr

/-- The configuration check unit's hidden state (R109 to R113). -/
structure CfcSt where
  /-- a pass is in progress -/
  passOn : Bool := false
  /-- CFC_CTL.PERIOD in force (R109) -/
  period : Nat := 0
  /-- each domain's CRC at the start of the pass in progress -/
  startCrc : List Nat := []
  /-- domain 7's CRC at the start of the latest completed pass -/
  start7 : Nat := 0
  /-- CAPTURE bits bound to the pass in progress (R113) -/
  bound : Nat := 0
  /-- passes in a row without a timely domain 7 result (R112) -/
  stale : Nat := 0
  /-- domains whose latest completed pass matched the reference (R111) -/
  matched : Nat := 0
  deriving DecidableEq, Repr

/-- The dedicated inter-die wires (Table ARC-6) and what the power-die drivers do with them (R19 to R21, Table ARC-5). -/
structure Wires where
  /-- levels of XW_INJ, XW_IGN, XW_DWA, XW_VR, XW_HALL, XW_HB_IN, XW_HB_EN, XW_SIA, XW_SIB, XW_TP, XW_SOA, XW_SOB and
  XW_SOFB (Table ARC-6) -/
  inj : BitVec 4 := 0
  ign : BitVec 4 := 0
  dwa : BitVec 4 := 0
  vr : BitVec 2 := 0
  hall : BitVec 4 := 0
  hbIn : BitVec 8 := 0
  hbEn : BitVec 4 := 0
  sia : BitVec 16 := 0
  sib : BitVec 16 := 0
  tp : BitVec 4 := 0
  soa : BitVec 4 := 0
  sob : BitVec 4 := 0
  sofb : BitVec 8 := 0
  /-- XW_STA and XW_STB, asserted (R716, R722) -/
  sta : Bool := true
  stb : Bool := true
  /-- scaled pilot voltage, analog -/
  cpv : Int := 0
  /-- level of XW_FGX -/
  fgx : Bool := false
  /-- fluxgate sensor return, analog -/
  fgs : Int := 0
  /-- XW_PDFLT_N asserted (low) -/
  pdflt : Bool := false
  /-- XW_PDRST_N asserted (low) -/
  pdrst : Bool := false
  /-- injector outputs that are on -/
  injOut : BitVec 4 := 0
  /-- coils that are charging -/
  coil : BitVec 4 := 0
  /-- soft-abort ramps that run -/
  ramp : BitVec 4 := 0
  /-- pre-drivers that ignore XW_IGN until it has been seen low (R396) -/
  ignBlock : BitVec 4 := 0
  /-- bridges that may conduct -/
  hbOut : BitVec 4 := 0
  /-- the power die's thermal shutdown holds (R870) -/
  hot : Bool := false
  /-- safe-output elements that their own sensors hold off, bit 2n + c (R871) -/
  soHot : Nat := 0
  /-- VSAFE and VHB are high enough for conduction (R847) -/
  vsafeOk : Bool := true
  vhbOk : Bool := true
  deriving DecidableEq, Repr

end Sys2Proof.Machine
end

