-- ==== Sys2Proof/Machine/StateAngle.lean ====
section
/-! DEFINITION. The hidden state of the angle engine (07, 08): domains, the tooth track, partnering, event slots and
angle outputs. -/
namespace Sys2Proof.Machine

/-- An exact positive ratio, for times the spec states as real numbers (R289, R290). -/
structure Frac where
  num : Nat := 0
  den : Nat := 1
  deriving DecidableEq, Repr

/-- The CRK domain beyond its registers (R284 to R312). The first group is taken when CRK passes from OFF to LOST. -/
structure Crk where
  /-- presence of each position of one revolution, position 0 first (R285, R288) -/
  pat : List Bool := []
  /-- a four-stroke cycle of two revolutions (R285) -/
  four : Bool := false
  /-- CRK_REF, the count of position 0 (R287) -/
  ref : Nat := 0
  /-- the prediction over a gap is scaled by its span (CRK_CFG) -/
  gapScale : Bool := false
  /-- how the cam gives the phase, its input, and its active edge (R288) -/
  camMode : Nat := 0
  camSrc : Nat := 0
  camPol : Bool := false
  /-- partnering with ALT: enabled, its factor, and the missing edges it bears (R308) -/
  partEn : Bool := false
  partK : Nat := 0
  partMiss : Nat := 0
  /-- cam window in force, taken at position 0 (R288) -/
  camLo : Nat := 0
  camHi : Nat := 0
  /-- position of the last tooth, once a gap (or the first edge of a single pulser) has given it -/
  pos : Option Nat := none
  /-- time stamp of the last accepted or virtual tooth -/
  tooth : Frac := {}
  /-- duration and angle of the interval just ended (R289); an angle of 0: none yet -/
  tPrev : Frac := {}
  aPrev : Nat := 0
  /-- what the angle runs from: time stamp, count, and whether it is a partner edge (R293, R310) -/
  anchorT : Frac := {}
  anchorC : Nat := 0
  cyc : Nat := 0
  /-- cycles ended while the domain was VALID (R706), and the tick at which it last entered OFF or LOST (R693) -/
  ended : Nat := 0
  stopAt : Nat := 0
  /-- the anchor is a virtual tooth (R340) -/
  virtAnchor : Bool := false
  /-- time stamp of the last accepted crank edge, and the interval and angle that ended there -/
  lastReal : Option Nat := none
  realIv : Nat := 0
  realA : Nat := 0
  realPos : Option Nat := none
  /-- crank edges accepted since LOST (R295) -/
  edges : Nat := 0
  /-- span of the last interval while the position is unknown (R296) -/
  spanPrev : Nat := 1
  /-- first positions after a gap that fit the gaps detected so far, and teeth since the last one (R296) -/
  cand : List Nat := []
  since : Nat := 0
  /-- consecutive accepted edges (R297) -/
  run : Nat := 0
  /-- a gap check has passed since the detection (R297) -/
  passed : Bool := false
  /-- virtual teeth since the last position 0 (R294) and since the last real tooth (R302) -/
  virtRev : Nat := 0
  virtSeen : Nat := 0
  /-- time stamp of the first tooth accepted after the last passed gap check (R303) -/
  suspect : Option Nat := none
  /-- start of the cycle in progress, duration of the one before, whether it may teach (R307), and its ratios in 2.30 -/
  cycT0 : Option Nat := none
  cycPrev : Option Nat := none
  cycOk : Bool := false
  ratios : List (Nat × Nat) := []
  /-- the statistics s[j] of the shape loop, 2.30 (R306) -/
  shape : Tab Nat := []
  /-- cam: an edge was seen in this cycle; a whole cycle is being watched; contradicted cycles in a row (R299) -/
  camSeen : Bool := false
  camArmed : Bool := false
  camBad : Nat := 0
  camBadNow : Bool := false
  /-- the next tooth is the first after the cam edge, on a wheel with no missing position (R288) -/
  camFirst : Bool := false
  /-- partnering: next index, last partner edge, its interval, missing edges in a row, error sum and count -/
  partIdx : Nat := 0
  partT : Nat := 0
  partIv : Frac := {}
  partRun : Nat := 0
  partSum : Int := 0
  partCnt : Nat := 0
  /-- predicted partner interval and its angle step (R337) -/
  partTP : Frac := {}
  partA : Nat := 0
  /-- a partner edge is the anchor -/
  partAnchor : Bool := false
  deriving DecidableEq, Repr

/-- The ALT domain (R313, R314). -/
structure Alt where
  /-- index of the last edge of the sequence -/
  idx : Option Nat := none
  /-- index of the last edge seen, accepted or not -/
  raw : Option Nat := none
  /-- time stamp of the last accepted or virtual edge, and the interval that ended there -/
  tooth : Frac := {}
  tPrev : Frac := {}
  /-- edges accepted since LOST, and runs of forward, reverse and virtual edges (R313, R314) -/
  edges : Nat := 0
  fwd : Nat := 0
  rev : Nat := 0
  virtRun : Nat := 0
  /-- cycle number -/
  cyc : Nat := 0
  /-- time stamp of the last accepted edge, and whether the anchor is a virtual one -/
  lastReal : Option Nat := none
  virtAnchor : Bool := false
  deriving DecidableEq, Repr

/-- The GRD domain (R315, R316): where its oscillator stood at the last update, and timers. -/
structure Grd where
  /-- tick, count and cycle number of the oscillator at its last update -/
  t : Nat := 0
  angle : Nat := 0
  cyc : Nat := 0
  /-- oscillator frequency in mHz -/
  mhz : Nat := 50000
  /-- tick at which the phase error last entered the 2 degree band (LOCKING), left the 10 degree band (LOCKED), or the
  amplitude fell (COASTING) -/
  since : Option Nat := none
  deriving DecidableEq, Repr

/-- The INV domain (R317, R318): an oscillator of 52 bits. -/
structure Inv where
  /-- tick, 52-bit phase, phase step and cycle number of the oscillator at its last update -/
  t : Nat := 0
  phase : Nat := 0
  rate : Nat := 0x218DEF41
  cyc : Nat := 0
  /-- MODE 1 and GRD has been LOCKED or COASTING since: INV follows GRD -/
  follow : Bool := false
  /-- cycles in a row with the phase difference within LOCK_TOL (R318) -/
  okCycles : Nat := 0
  deriving DecidableEq, Repr

/-- The CPL domain (R319): the pilot cycle in progress. -/
structure CplDom where
  /-- a pilot cycle is in progress; its start, its length in ticks and the cycle number (R319) -/
  running : Bool := false
  t : Nat := 0
  period : Nat := 400000
  cyc : Nat := 0
  deriving DecidableEq, Repr

/-- One event slot (Tables EVT-2, EVT-4). -/
structure Slot where
  /-- the eight words of its record -/
  record : List Word := []
  /-- a record that waits for the action in progress, and the ring whose SLOT_SET brought it (R329) -/
  next : Option (List Word × Nat) := none
  /-- its state (Table EVT-4), STATUS of its last outcome and the unit flags of it -/
  st : Nat := 0
  last : Nat := 0
  unit : Nat := 0
  /-- the last outcome is in doubt (R303); outcomes counted modulo 256 -/
  suspect : Bool := false
  firings : Nat := 0
  /-- instant of the last outcome, and whether that outcome was a firing -/
  lastAt : Nat := 0
  fired : Bool := false
  /-- tick at which it last became ARMED: an arming point passed before that is not its own (R329, R330) -/
  since : Nat := 0
  /-- the arming point has been reached and the gate's values taken (R333) -/
  armed : Bool := false
  /-- the gate applied its SAFE value at the arming point -/
  gateSafe : Bool := false
  /-- the applied pulse width in ticks and the applied advance in counts (R333) -/
  pw : Nat := 0
  adv : Int := 0
  /-- applied dwell in ticks -/
  dwell : Nat := 0
  /-- extrapolated instant, and the time stamp of its anchor -/
  instant : Option Nat := none
  anchor : Nat := 0
  /-- flags of the outcome to come: uncertain, guarded, late, dwell extended (Table EVT-5) -/
  uncertain : Bool := false
  guarded : Bool := false
  late : Bool := false
  ext : Bool := false
  /-- XW_IGN rose at this tick and the coil charges -/
  dwellAt : Option Nat := none
  /-- the slot holds its AO high, until this tick -/
  high : Bool := false
  endAt : Nat := 0
  deriving DecidableEq, Repr

/-- The angle engine. -/
structure AngSt where
  /-- the five domains: CRK, ALT, GRD, INV, CPL (R282) -/
  crk : Crk := {}
  alt : Alt := {}
  grd : Grd := {}
  inv : Inv := {}
  cpl : CplDom := {}
  /-- the 256 event slots (R326) -/
  slots : Tab Slot := []
  /-- the SET/CLEAR latch of each AO, and the tick and sense of its last change (R354) -/
  latch : Word := 0#32
  latchAt : Tab (Nat × Bool) := []
  /-- ticks at which XW_DWA was asserted, by channel (R346) -/
  dwaAt : Tab Nat := []
  deriving DecidableEq, Repr

end Sys2Proof.Machine
end

