-- ==== Sys2Proof/Machine/StateCharge.lean ====
section
/-! DEFINITION. The hidden state of the charging interface, the residual-current and insulation monitor and the modem (11). -/
namespace Sys2Proof.Machine

/-- The charge interface beyond its registers. -/
structure ChgSt where
  /-- start of the cycle in progress, its length and on-time in ticks (R457, R459) -/
  t0 : Nat := 0
  per : Nat := 400000
  high : Nat := 0
  /-- number of the cycle, and the output in force: 0 F, 1 constant +12 V, 2 PWM (R458) -/
  cycle : Nat := 0
  out : Nat := 0
  /-- band of the last decoded HI sample: 0 OVER, 1 A, 2 B, 3 C, 4 D, 5 E (R465) -/
  band : Option Nat := none
  /-- the state the last HI samples decoded to, and how many in a row (R467) -/
  cand : Nat := 6
  candN : Nat := 0
  /-- last valid LO sample and its cycle (R466) -/
  lo : Option (Int × Nat) := none
  /-- cycles in a row that ended without a valid HI sample, and CP_STALE has been raised since the last one (R468) -/
  stale : Nat := 0
  staleTold : Bool := false
  /-- this cycle's samples for CP_LOG -/
  hiNow : Option Int := none
  loNow : Option Int := none
  /-- rating of the last proximity measurements and how many agree (R469) -/
  ppCand : Nat := 0
  ppN : Nat := 0
  /-- tick from which MIRROR_T runs after assertion or withdrawal (R476, R477) -/
  mirrorT : Nat := 0
  /-- FAULT_DUTY latched at INV_FAULT (R463) -/
  faultDuty : Option Nat := none
  /-- level of the LOCK_FB ball -/
  lockFb : Bool := false
  /-- the interlocks watch the mirror after a change of the request (R476, R477) -/
  mirrorDue : Bool := false
  deriving DecidableEq, Repr

/-- The residual-current and insulation monitor beyond its registers. -/
structure RcmSt where
  /-- tick of the first of the updates at or above each level, in a row (R481) -/
  above : Tab (Option Nat) := []
  /-- the self-test: sum and number of the baseline updates, the baseline, the step; the comparator has asserted; RDC_DC has
  returned (R486) -/
  stSum : Int := 0
  stN : Nat := 0
  stBase : Int := 0
  stStep : Int := 0
  stCmp : Bool := false
  stBack : Bool := false
  /-- tick of the last self-test pass (ST_AGE) -/
  stPass : Option Nat := none
  /-- results in a row below ALARM, and above 1.25 times WARN and ALARM (R494) -/
  low : Nat := 0
  okWarn : Nat := 0
  okAlarm : Nat := 0
  /-- tick of the last settled result (R496) -/
  imdAt : Option Nat := none
  /-- tick at which IMD_SETTLING set (R497) -/
  settleAt : Nat := 0
  deriving DecidableEq, Repr

/-- The modem beyond its registers. -/
structure PlmSt where
  /-- sums of the 58 group attenuations of each SOUND_CAPTURE, by ring (R501) -/
  sums : Tab (List Nat) := []
  /-- beacons sent -/
  beacons : Nat := 0
  deriving DecidableEq, Repr

end Sys2Proof.Machine
end

