-- ==== Sys2Proof/Machine/StateEngine.lean ====
section
/-! DEFINITION. The hidden state of the engine front end, drivers, lambda and bridges (09). -/
namespace Sys2Proof.Machine

/-- A running SAR sequence (R369 to R373): its number, the channels still to convert and whether the next sample is late. -/
structure SarRun where
  seq : Nat
  list : List Nat
  late : Bool
  deriving DecidableEq, Repr

/-- An open knock window (R375, R378): tick of its first and last sample, samples taken, clip, largest absolute sample,
energy sums before the shift, and the raw samples, oldest first. -/
structure KnkWin where
  first : Nat := 0
  last : Nat := 0
  n : Nat := 0
  clip : Bool := false
  peak : Nat := 0
  e0 : Nat := 0
  e1 : Nat := 0
  raw : Nat := 0
  data : List Int := []
  deriving DecidableEq, Repr

/-- What the fuel estimator follows of one injector (R390): XW_INJ high, ticks counted and the tick from which it counts,
the opening delay at the rising edge, the rising edge's tick, and a limit under R385. -/
structure InjTrack where
  high : Bool := false
  acc : Nat := 0
  since : Option Nat := none
  od : Nat := 0
  rise : Nat := 0
  limited : Bool := false
  deriving DecidableEq, Repr

/-- An injection that has ended and has not been added to the cycle sum: channel, ticks, opening delay, limited. -/
structure InjDone where
  ch : Nat
  t : Nat
  od : Nat
  limited : Bool
  deriving DecidableEq, Repr

/-- The engine units' hidden state. -/
structure EngSt where
  /-- tick of the last edge of each VR input since VR_EN was set (R366) -/
  vrLast : Tab (Option Nat) := []
  /-- the running sequence of each converter (R369) -/
  sarRun : Tab (Option SarRun) := []
  /-- the one pending start of each converter: its sequence and a late sample instant (R371) -/
  sarPend : Tab (Option (Nat × Bool)) := []
  /-- sequence start counts modulo 256 -/
  sarCnt : Tab Nat := []
  /-- level of KNOCK_WIN, and the open window (R375) -/
  knkHigh : Bool := false
  knk : Option KnkWin := none
  /-- what the fuel estimator follows of each injector (R390) -/
  inj : Tab InjTrack := []
  /-- injections that have ended and are not yet in the cycle sum (R390) -/
  injDone : List InjDone := []
  /-- the cycle sum and what FUEL_TOT has not yet counted, in 0.1 µg -/
  fuelSum : Nat := 0
  fuelRem : Nat := 0
  /-- the cycle sum is in doubt (R392) -/
  fuelDoubt : Bool := false
  /-- injectors turned off for the rest of the pulse (R385) -/
  injOff : BitVec 4 := 0
  /-- the opening delay measured for the pulse whose frame is due (R387) -/
  odMeas : Tab (Option Nat) := []
  /-- XW_IGN has been seen low since the soft abort started (R396) -/
  ignLow : BitVec 4 := 0
  /-- LAM_CTL.PERIOD in force (R379) -/
  lamPer : Nat := 10
  /-- on-time of each bridge's period, in ticks (R399) -/
  hbOn : Tab Nat := []
  /-- the THR gate applies its SAFE value: bridge off -/
  thrOff : Bool := false
  /-- the move in hand has been paused (R403) -/
  stepPaused : Bool := false
  deriving DecidableEq, Repr

end Sys2Proof.Machine
end

