-- ==== Sys2Proof/Machine/StateKeys.lean ====
section
/-! DEFINITION. The hidden state of the key store, the vault and tamper unit and the cipher, public-key and random engines
(14, 15). KSlot rows, the vault root, the calendar, the counters and the tamper log live in memory, where the spec puts
them. -/
namespace Sys2Proof.Machine

/-- KEY's copy of a slot: its state (0 EMPTY, 1 VALID, 2 BAD, 3 LOST), row bytes 0 to 23, the plaintext KEY field and the
tag (R596, R600 to R603). -/
structure KSlot where
  /-- 0 EMPTY, 1 VALID, 2 BAD, 3 LOST; row bytes 0 to 23, the unwrapped key, the row's tag (R596, R609) -/
  st : Nat := 0
  head : List Byte := []
  key : List Byte := []
  tag : List Byte := []
  deriving DecidableEq, Repr

/-- The key store beyond its registers. -/
structure KeySt where
  /-- the slots as KEY holds them (R609) -/
  slots : Tab KSlot := []
  /-- positions blown in the KU_FLOOR thermometer (R617) -/
  floorP : Nat := 0
  /-- symmetric slots for which CNT_LOW has been raised (R604) -/
  lowTold : Nat := 0
  /-- the key update in hand: its operation entries, counter and ring (R615) -/
  kuOps : List (List Byte) := []
  kuCounter : Nat := 0
  kuRing : Nat := 0
  /-- the slot the patrol checks next (R609) -/
  patrol : Nat := 0
  deriving DecidableEq, Repr

/-- The vault and tamper unit beyond its registers and its memory. -/
structure VltSt where
  /-- sources whose last sample differed (R618) -/
  differ : Nat := 0
  /-- the mesh's shift register -/
  lfsr : Nat := 0xACE1
  /-- sources whose event has been raised and not re-armed; ticks at which their condition went (R619) -/
  armedOff : Nat := 0
  absentAt : Tab Nat := []
  /-- steps of an ERASE response left for the next start (R622) -/
  eraseDue : Bool := false
  /-- LF32K cycles into the trim period (R624) -/
  trimCnt : Nat := 0
  /-- a VLT_POR has happened since the last start (R605) -/
  por : Bool := true
  /-- the calendar as each master latched it (R625) -/
  calLatch : Tab (Option (List Word)) := []
  deriving DecidableEq, Repr

/-- The message context of a CRY ring (R642 to R645). -/
structure CryCtx where
  /-- a message is open -/
  live : Bool := false
  /-- it ended through its slot or tamper, and CRY_CTX_LOST has told -/
  lost : Bool := false
  told : Bool := false
  /-- opcode, slot (0x100 without one) and key of the message -/
  op : Nat := 0
  slot : Nat := 0x100
  key : List Byte := []
  /-- GCM IV or CCM nonce (12 bytes) or CTR counter block (16 bytes) -/
  iv : List Byte := []
  /-- its additional authenticated data -/
  aad : List Byte := []
  /-- bytes so far: ciphertext (GCM), plaintext (CCM), message (CMAC, SHA, HMAC) -/
  msg : List Byte := []
  /-- data bytes so far -/
  pos : Nat := 0
  /-- CCM: total message bytes; DEC: the expected tag -/
  total : Nat := 0
  tag : List Byte := []
  deriving DecidableEq, Repr

/-- CRY, PKE and TRNG beyond their registers. -/
structure CrySt where
  /-- the message context of each CRY ring (R642) -/
  ctx : Tab CryCtx := []
  /-- ephemeral keys of the PKE rings: curve code and private key (R655) -/
  eph : Tab (Option (Nat × List Byte)) := []
  /-- the DRBG, once instantiated (R660, R661) -/
  drbg : Option Drbg := none
  /-- tick of the last seed (R662) -/
  seedAt : Nat := 0
  /-- ticks of the health failures (R658) -/
  fails : List Nat := []
  deriving DecidableEq, Repr

end Sys2Proof.Machine
end

