-- ==== Sys2Proof/Machine/StateLoad.lean ====
section
/-! DEFINITION. The hidden state of the load switches (18): what the power die was told last, each channel's times and
counts, and the samples behind MEAN. -/
namespace Sys2Proof.Machine

/-- One load-switch channel on the power die. -/
structure LsCh where
  /-- tick of its last turn-on or turn-off -/
  since : Nat := 0
  /-- ticks conducted since the last turn-off under R766, before the present on-time (R768) -/
  acc : Nat := 0
  /-- tick since which it has limited without a break (R766) -/
  limAt : Option Nat := none
  /-- tick of the turn-off that RETRY_T counts from (R767) -/
  offAt : Nat := 0
  /-- consecutive conducting samples below the open-load threshold (R773) -/
  low : Nat := 0
  /-- the on-state diagnosis stands: OPEN_ON -/
  openOn : Bool := false
  /-- the off-state diagnosis that stands: 0 none, 3 OPEN_OFF, 4 SHORT_BAT -/
  offDiag : Nat := 0
  /-- comparisons in a row with MEAN above I_DR (R771) -/
  overs : Nat := 0
  /-- the last sequence number that arrived (R777) -/
  seq : Option Nat := none
  /-- its last samples, newest first, at most 100 (R777) -/
  samples : List Nat := []
  deriving DecidableEq, Repr

/-- The load switches. -/
structure LswSt where
  /-- LS_MODE and the commands as the control die forwarded them last; none when they are due again (R765, R778) -/
  fwd : Option (Word × Word) := none
  /-- LS_MODE and the commands that the power die holds -/
  mode : Word := 0#32
  cmd : Word := 0#32
  /-- the power-die regulators are in low-power mode or below the start level (R781) -/
  lowPower : Bool := false
  /-- the sixteen channels (R760) -/
  ch : Tab LsCh := []
  /-- CUR_STREAM: samples counted towards DECIM, and the GAP mark due, by ring * 16 + channel (R777, R783) -/
  dec : Tab Nat := []
  gap : Tab Bool := []
  deriving DecidableEq, Repr

end Sys2Proof.Machine
end

