-- ==== Sys2Proof/Machine/StateMetro.lean ====
section
/-! DEFINITION. The hidden state of the metrology domain (12) and of billing and the legal display (13). The published
registers live in `State.regs`, the log, the calibration copies, the journal and the vault's billing area in memory. -/
namespace Sys2Proof.Machine

/-- One metrology sample as M keeps it: the six corrected inputs in 2^-60 LSB, the three products v * i * K_V * K_I, and
their sum over the running phases (R525 to R528). -/
structure MetSmp where
  xs : List Int := []
  ys : List Int := []
  p : Int := 0
  deriving DecidableEq, Repr

/-- Sums of the publication window in progress (R526). -/
structure MetWin where
  n : Nat := 0
  sq : List Int := [0, 0, 0, 0, 0, 0]
  p : List Int := [0, 0, 0]
  deriving DecidableEq, Repr

/-- M's metrology beyond its published registers. -/
structure MetSt where
  /-- SEAL_FUSE is intact -/
  fuse : Bool := true
  /-- measurement has stopped until the next start (R507) -/
  dead : Bool := false
  /-- the working and the committed parameters, Table MET-6, as 32-bit values (R544) -/
  work : List Nat := [0, 2300, 1000, 8000, 1000000, 266667] ++ List.replicate 6 0x40000000 ++
    [0, 0, 0, 0, 1, 460, 20, 500, 5000]
  params : List Nat := [0, 2300, 1000, 8000, 1000000, 266667] ++ List.replicate 6 0x40000000 ++
    [0, 0, 0, 0, 1, 460, 20, 500, 5000]
  /-- tick of the last accepted write of MET_PARAM_DATA -/
  paramAt : Option Nat := none
  /-- offset (codes) and gain (2^-30) of C0 to C6 (R512, R525) -/
  offs : List Int := [0, 0, 0, 0, 0, 0, 0]
  gain : List Nat := List.replicate 7 0x40000000
  /-- samples since MEAS_RUN set -/
  n : Nat := 0
  /-- the sample at which each input's live converter took over (R514) -/
  since : List Nat := [0, 0, 0, 0, 0, 0]
  /-- the spare's phase (Table MET-3): 0 offset, 1 positive gain, 2 negative gain, 3 parked, 4 settling, 5 overlap -/
  phase : Nat := 0
  /-- the rotation due next, counted on the grid of R513 -/
  due : Nat := 1
  /-- readings of the calibration in progress: offset and positive gain (R512) -/
  calOff : Int := 0
  calPos : Int := 0
  /-- deferrals of the overlap due (R518) -/
  defers : Nat := 0
  /-- pairs of the overlap, and the sums of squares of the live converter and the spare (R515) -/
  ovN : Nat := 0
  ovLive : Int := 0
  ovSpare : Int := 0
  /-- the last 180 samples, newest first (R522, R527, R528) -/
  hist : List MetSmp := []
  /-- sums of the publication window in progress (R526) -/
  win : MetWin := {}
  /-- pending energy in 2^-32 mWh: import, export, import grid, import genset, export grid, export genset (R529) -/
  pend : List Int := [0, 0, 0, 0, 0, 0]
  /-- samples still to substitute, per input (R522) -/
  subst : List Nat := [0, 0, 0, 0, 0, 0]
  /-- source readback: the state seen (0 open, 1 closed, 2 differing), its run in samples, and the confirmed state (R532) -/
  srcSeen : Nat := 0
  srcRun : Nat := 0
  srcConf : Nat := 0
  /-- tick from which no condition of CLK_DOUBT holds (R533) -/
  doubtOk : Option Nat := none
  /-- a write refused since the last closing has been logged (R540) -/
  slTold : Bool := false
  /-- calibration commits of the opening in progress (Table MET-9) -/
  commits : Nat := 0
  /-- the copy that a CAL_COMMIT in hand writes, and its ring (R546, R548) -/
  commitTo : Option (Nat × Nat) := none
  /-- types appended in the limit interval, set and clear apart, and the interval (R551) -/
  logged : List (Nat × Bool) := []
  logIv : Option Nat := none
  /-- the mirror as each master latched it (R552) -/
  snap : Tab (Option (List Word)) := []
  /-- tick of the first set of each WAVE_CAPTURE, by ring (R554) -/
  waveAt : Tab Word := []
  deriving DecidableEq, Repr

/-- Billing, calendar and display beyond their registers. -/
structure BilSt where
  /-- state restored since the start (R579) -/
  restored : Bool := false
  /-- the pending calendar (R565) -/
  calPend : Option (List Byte) := none
  /-- the second, the validity and the daylight saving of the last look at the calendar -/
  lastSec : Nat := 0
  dst : Bool := false
  /-- the demand period in progress: tariff at its start, incomplete, and its quarter of calendar time (R566, R567) -/
  mdTariff : Nat := 0
  mdBad : Bool := true
  mdQ : Nat := 0
  /-- the session block: flags of Table BIL-4, tariff and source at the start (R569, R570) -/
  sesFlags : Nat := 0
  sesTariff : Nat := 0
  sesSrc : Nat := 0
  /-- the session has ended and its record is not stored: end time, tariff and source at the end, cause (R571, R580) -/
  ended : Option (Nat × Nat × Nat × Nat) := none
  /-- the record is being signed: the ring that waits, if any, and the tick of the start of signing (R573) -/
  signing : Option (Option Nat × Nat) := none
  /-- live copy written last, sequence number (R576) -/
  live : Nat := 1
  seq : Nat := 0
  /-- journal entries owed, the next entry to write, a billing register has changed, tick of the last 10-minute entry (R577) -/
  jDue : Nat := 0
  jNext : Nat := 0
  jDirty : Bool := false
  jAt : Nat := 0
  /-- PMU_PF_WARN has been raised, and answered (R578): tick of the last live copy -/
  pfWarn : Bool := false
  pf : Option Nat := none
  /-- the restored copy's calendar time, while a restored session waits to be ended (R580) -/
  resTime : Option Nat := none
  /-- information pages (R585) -/
  pages : Tab (Option (List Nat)) := []
  /-- tick at which the item shown started, and whether one shows -/
  dispAt : Nat := 0
  showing : Bool := false
  /-- segment driver: 0 off, 1 frame, 2 dashes with FAULT (R586); eight digits (bit 7 the decimal point), 24 icons -/
  lcd : Nat := 0
  digits : List Nat := []
  icons : Nat := 0
  /-- the mirror as each master latched it (R590) -/
  snap : Tab (Option (List Word)) := []
  deriving DecidableEq, Repr

end Sys2Proof.Machine
end

