-- ==== Sys2Proof/Machine/StatePower.lean ====
section
/-! DEFINITION. The hidden state of the power stage (10): PWM groups, trips, sense plausibility and the governor. -/
namespace Sys2Proof.Machine

/-- The edges of one leg in the period in force, in 1/32 tick from the period start (R415, R416, R420): the high channel is
on in [hiOn, hiOff), the low channel outside [loOff, loOn). -/
structure LegEdges where
  hi : Bool := false
  lo : Bool := false
  hiOn : Nat := 0
  hiOff : Nat := 0
  loOff : Nat := 0
  loOn : Nat := 0
  /-- cycle-by-cycle limits of the period: the channel (`true` the high one) is off from the first instant to the second,
  and its complement on from a dead time after the first (R429) -/
  cuts : List (Bool × Nat × Nat) := []
  deriving DecidableEq, Repr

/-- One PWM group beyond its registers. -/
structure PwmGrp where
  /-- instant of the last period start and length of the period in progress, in 1/32 tick (R413, R414) -/
  start : Nat := 0
  len : Nat := 640000
  /-- CAR_PER as the period in progress took it, in 1/32 tick (R413, R414) -/
  nom : Nat := 640000
  /-- change of period length still to apply, in 1/32 tick (R414) -/
  remainder : Int := 0
  /-- what the deadline released for the boundary to come; `true` from an on-time commit (R418, R435) -/
  released : Option (List Nat × Bool) := none
  /-- the deadline released the SAFE value -/
  relSafe : Bool := false
  /-- SAFE was entered by the gate (R435) -/
  gateSafe : Bool := false
  /-- legs limited in the period in progress, and periods in a row with a limited leg (R429, R441) -/
  limited : Nat := 0
  limitRun : Nat := 0
  /-- tick at which the group took its state (R446) -/
  stateAt : Nat := 0
  deriving DecidableEq, Repr

/-- One sense channel's work beyond its registers. -/
structure SdChan where
  /-- sum and number of the precise outputs of the carrier period in progress (R436) -/
  sum : Int := 0
  n : Nat := 0
  deriving DecidableEq, Repr

/-- The power stage's hidden state. -/
structure PwrSt where
  /-- the groups REC, INV and AUX (R412) -/
  grp : Tab PwmGrp := []
  /-- the edges of each leg (R415) -/
  legs : Tab LegEdges := []
  /-- groups that a latched SENSE or FC trip forces (R432, R435) -/
  senseGroups : Nat := 0
  fcGroups : Nat := 0
  /-- lines calibrated: bit 2k + line (R423) -/
  hrCal : Nat := 0
  /-- the sense channels (R424) -/
  sd : Tab SdChan := []
  /-- tick of the last FC limit (R429) -/
  lastLimit : Option Nat := none
  /-- consecutive failing periods of each set (R437) -/
  chkFails : Tab Nat := []
  /-- FC thresholds scaled to LIM_FAULT (R441, R443) -/
  limFault : Bool := false
  /-- tick at which INV_FAULT was raised (VEH_T, Table PST-6) -/
  invfAt : Nat := 0
  /-- what DCE_ACC has not yet counted, in units of 0.1 J / (2^46 * 4 * 10^10) (R449) -/
  dceRem : Int := 0
  /-- peaks of each REC leg's current and duty deviation in the ALT cycle, and failing cycles in a row (R440) -/
  openI : Tab Nat := []
  openD : Tab Nat := []
  openRun : Tab Nat := []
  /-- largest V_OUT magnitude of the INV cycle in progress and of the last one (R444) -/
  voutPeak : Nat := 0
  voutAmpl : Nat := 0
  /-- tick at which the transfer contactor's readback last turned on (R446) -/
  transAt : Nat := 0
  /-- tick at which REC_MOTOR was set (R448) -/
  motorSince : Option Nat := none
  deriving DecidableEq, Repr

/-- The efficiency governor's hidden state (R450). `phase`: 0 settling high, 1 measuring high, 2 settling low, 3 measuring
low. -/
structure EgvSt where
  /-- 0 settling high, 1 measuring high, 2 settling low, 3 measuring low (R450) -/
  phase : Nat := 0
  /-- fuel in 0.1 µg and energy in 0.1 J of each half (R450) -/
  fuel : Tab Nat := []
  energy : Tab Int := []
  /-- DCE_ACC at the start of the span -/
  e0 : Nat := 0
  /-- fuel or energy of the period is in doubt (R450) -/
  doubt : Bool := false
  deriving DecidableEq, Repr

end Sys2Proof.Machine
end

