-- ==== Sys2Proof/Machine/StateSafety.lean ====
section
/-! DEFINITION. The hidden state of the two safety channels (17). Channel 0 is A (SA), channel 1 is B (SB). -/
namespace Sys2Proof.Machine

/-- One function instance in one channel (R740 to R748). -/
structure SafFn where
  /-- state of Table SAF-6, without jog substitution -/
  st : Nat := 0
  /-- 0 none, 1 discrepancy, 2 input fault, 3 two-hand contact -/
  cause : Nat := 0
  /-- tick at which STOPPING began (R748) -/
  since : Nat := 0
  /-- tick since which a pair disagrees, or a button's contacts do (R744, R746) -/
  disc0 : Option Nat := none
  disc1 : Option Nat := none
  /-- TWO_HAND: both buttons at rest together since it was last OK; ticks of the present actuations (R744) -/
  rested : Bool := false
  act0 : Option Nat := none
  act1 : Option Nat := none
  /-- tick since which everything that depends on the guard has been off (R743) -/
  offSince : Option Nat := none
  deriving DecidableEq, Repr

/-- One channel. -/
structure SafChan where
  /-- past steps 1 to 3 of its start, and past its first cross-compare (R752) -/
  started : Bool := false
  compared : Bool := false
  /-- COMMISSIONED (R753) -/
  comm : Bool := false
  /-- its computed check value -/
  crc : Word := 0#32
  /-- debounced inputs, the last regular samples, and samples in a row at another level (R725, R729) -/
  deb : Nat := 0
  raw : Nat := 0
  cnt : Tab Nat := []
  /-- inputs faulted by a pulse test, and tests passed in a row (R728) -/
  tpFault : Nat := 0
  tpPass : Tab Nat := []
  /-- the eight function instances (R740) -/
  fn : Tab SafFn := []
  /-- levels of its element lines, ticks of their last changes, its transfer latch (R731, R733) -/
  cmd : Nat := 0
  cmdAt : Tab Nat := []
  latch : Bool := false
  /-- outputs this channel found stuck on (R735) -/
  stuck : Nat := 0
  /-- last evaluation cycle in ms of the time base, its number, and the last watchdog kick (R717, R719, R723) -/
  lastMs : Option Nat := none
  cycle : Nat := 0
  kickAt : Nat := 0
  /-- the partner's last cycle number, and cycles in a row with it lost or with a difference (R720) -/
  seen : Nat := 0
  lost : Nat := 0
  differ : Nat := 0
  /-- tick at which RESET_IN rose, and a valid falling edge not yet used (R747) -/
  rise : Option Nat := none
  reset : Bool := false
  deriving DecidableEq, Repr

/-- Both channels and what they share. -/
structure SafSt where
  /-- the channels SA and SB (R716) -/
  ch : Tab SafChan := []
  /-- outputs latched off by a drop-out, and those whose switch-on condition has since been false (R735) -/
  drop : Nat := 0
  dropOff : Nat := 0
  /-- EDM faults; tick of each output's last change (R738) -/
  edm : Nat := 0
  edmAt : Tab Nat := []
  /-- tick since which the channels' debounced levels differ, and the inputs faulted by it (R726) -/
  diff : Tab (Option Nat) := []
  diffFault : Nat := 0
  /-- tick of the SAF_COMM write (R755) -/
  commAt : Nat := 0
  /-- the PWM trip lines, asserted (R716, R722) -/
  pta : Bool := true
  ptb : Bool := true
  deriving DecidableEq, Repr

end Sys2Proof.Machine
end

