-- ==== Sys2Proof/Machine/StateSerial.lean ====
section
/-! DEFINITION. The hidden state of the serial ports, the communication interfaces and debug (19): shifters, holding registers
and queues, frames waiting, transfers in progress, and the debug session. -/
namespace Sys2Proof.Machine

/-- What a UART transmitter shifts out. -/
inductive TxItem where
  /-- a character of U_DATA or of the TX descriptor in hand -/
  | data (ch : Nat)
  /-- a flow character: XOFF or XON (R800) -/
  | flow (ch : Nat)
  /-- the low level of BREAK -/
  | brk
  deriving DecidableEq, Repr

/-- One UART (R785 to R807). -/
structure Uart where
  /-- the item in the shifter -/
  shift : Option TxItem := none
  /-- characters behind the shifter, oldest first: at most one for UART-L, 64 for UART-Q (R790, R794) -/
  tx : List Nat := []
  /-- flow characters due, oldest first (R800) -/
  flow : List Nat := []
  /-- received entries (Table SER-3), oldest first: at most one for UART-L, 64 for UART-Q -/
  rx : List Nat := []
  /-- flags of the character held and the losses: PE, FE, OE, BRK as bits 2 to 5 (R792), and those the last U_STAT read showed -/
  flags : Nat := 0
  shown : Nat := 0
  /-- UART-L: characters were lost since the last entry (Table SER-3) -/
  lost : Bool := false
  /-- MATCH: the last address character matched (R796) -/
  chosen : Bool := false
  /-- tick since which a received XOFF pauses the transmitter (R799) -/
  paused : Option Nat := none
  /-- the last flow character sent was XOFF (R800) -/
  xoffSent : Bool := false
  /-- tick of the last character received (R807) -/
  rxAt : Nat := 0
  /-- K-line: the character whose echo is awaited, and the tick at which it was sent (R803) -/
  echo : Option Nat := none
  echoAt : Nat := 0
  /-- bytes of the TX descriptor in hand that are sent but whose echo is awaited -/
  owed : Nat := 0
  /-- characters of the TX descriptor in hand taken from memory -/
  taken : Nat := 0
  /-- RS-485: DE is active, and the tick at which it returns (R802) -/
  de : Bool := false
  deOff : Option Nat := none
  deriving DecidableEq, Repr

/-- A CAN frame (Table SER-4): words 0 and 1, the tick count of its start, its data. -/
structure CanFrame where
  w0 : Word
  w1 : Word
  sof : Nat
  data : List Byte
  deriving DecidableEq, Repr

/-- One CAN controller. -/
structure Can where
  /-- received frames, oldest first: at most 8 (R812) -/
  queue : List CanFrame := []
  /-- bus-off recovery runs (R814) -/
  recovering : Bool := false
  /-- the frame it sends or sent last -/
  sent : Option CanFrame := none
  deriving DecidableEq, Repr

/-- A received Ethernet frame without its FCS, its flags word (R818) and the tick count of its start. -/
structure EthFrame where
  frame : List Byte
  flags : Nat
  sfd : Nat
  deriving DecidableEq, Repr

/-- The Ethernet MAC. -/
structure Eth where
  /-- received frames, oldest first: at most 4 KiB (R818) -/
  queue : List EthFrame := []
  /-- tick until which a PAUSE frame holds transmission (R817) -/
  pauseTo : Nat := 0
  /-- the frame sent last, padded and with its FCS (R816) -/
  sent : List Byte := []
  deriving DecidableEq, Repr

/-- One SPI port. -/
structure Spi where
  /-- the chip select that LINK keeps asserted (R821) -/
  cs : Option Nat := none
  /-- the bytes it sent last -/
  sent : List Byte := []
  /-- the running XFER had to send FILL (R822) -/
  filled : Bool := false
  deriving DecidableEq, Repr

/-- One I2C port. -/
structure I2c where
  /-- a controller transfer that LINK left open (R824) -/
  opened : Bool := false
  /-- a transfer addressed to the port as target: true when the bus controller reads (R825) -/
  target : Option Bool := none
  /-- the bytes it sent last, as controller or target -/
  sent : List Byte := []
  deriving DecidableEq, Repr

/-- The USB port. -/
structure Usb where
  /-- a SETUP packet that no SETUP_WAIT has taken -/
  setup : Option (List Byte) := none
  /-- tick until which the pull-up is disconnected (R836) -/
  detachTo : Nat := 0
  /-- tick until which resume signalling is driven (R827) -/
  resumeTo : Nat := 0
  /-- the bytes of the last IN packet -/
  sent : List Byte := []
  deriving DecidableEq, Repr

/-- The serial ports and interfaces. -/
structure SerSt where
  /-- UL0, UL1, UQ0 to UQ3 (R785) -/
  uart : Tab Uart := []
  /-- CAN0 and CAN1 (R808) -/
  can : Tab Can := []
  /-- the Ethernet MAC (R815) -/
  eth : Eth := {}
  /-- SPI0 to SPI2 (R820) -/
  spi : Tab Spi := []
  /-- I2C0 and I2C1 (R823) -/
  i2c : Tab I2c := []
  /-- USB (R826) -/
  usb : Usb := {}
  /-- ports that have reported CLK_LOST and not resumed, by window code (R836) -/
  clkLost : Tab Bool := []
  deriving DecidableEq, Repr

/-- Debug (R830 to R835). -/
structure DbgSt where
  /-- the challenge read last (R832) -/
  challenge : List Byte := []
  /-- failed responses since T0 -/
  fails : Nat := 0
  /-- boundary-scan test is entered (R834) -/
  bscan : Bool := false
  /-- the fused DBG_MODE: 0 OPEN, 1 AUTH, 2 CLOSED (R831) -/
  mode : Nat := 1
  deriving DecidableEq, Repr

end Sys2Proof.Machine
end

