-- ==== Sys2Proof/Machine/StateUpdate.lean ====
section
/-! DEFINITION. The hidden state of the update unit (16): running sections, armed cut-ins, switches in progress, health
windows, the write contexts, the move set, the reset path and the recovery state. The bank records and the anti-rollback
words live in memory. -/
namespace Sys2Proof.Machine

/-- One section of a verified image (Table UPD-3) and the bank it lies in. -/
structure Sect where
  /-- the bank it lies in; STATE_ID, offset, length, entry, ACCEPTS and hash of the section (Table UPD-3) -/
  bank : Nat := 0
  stateId : Nat := 0
  off : Nat := 0
  len : Nat := 0
  entry : Nat := 0
  accepts : List Nat := []
  hash : List Byte := []
  deriving DecidableEq, Repr

/-- A cut-in that waits for its switch (Table UPD-8, R688, R693, R696). -/
structure Cutin where
  /-- the UPD ring whose CUTIN_ARM is in hand; a cold switch has none -/
  ring : Option Nat := none
  /-- CRK counts for E; the PWM group for P -/
  winLo : Nat := 0
  winHi : Nat := 0
  /-- the declared regions: offset and length (Table UPD-8) -/
  regions : List (Nat × Nat) := []
  /-- it waits for a stop, and copies nothing (R693) -/
  cold : Bool := false
  /-- the section that it brings -/
  sect : Sect := {}
  deriving DecidableEq, Repr

/-- A switch in progress (R691): the core is stopped. -/
structure Switching where
  /-- the cut-in that it carries out -/
  cut : Cutin := {}
  /-- KIND of the cut-in block: 1 cut-in, 2 reverse, 3 stop switch -/
  kind : Nat := 1
  /-- tick and CRK_ANGLE at its start -/
  at_ : Nat := 0
  angle : Word := 0#32
  deriving DecidableEq, Repr

/-- The health window of a core, and what a fallback of that core needs (R706 to R709). -/
structure Health where
  /-- the window is open -/
  isOpen : Bool := false
  /-- it was opened by a start that booted a TRYING bank -/
  fromStart : Bool := false
  /-- tick of its opening -/
  openAt : Nat := 0
  /-- CRK cycles ended at its opening -/
  cyc0 : Nat := 0
  /-- it has been confirmed -/
  confirmed : Bool := false
  /-- the bank under trial, and the cut-in that brought it -/
  bank : Nat := 0
  cut : Cutin := {}
  /-- the section that ran before -/
  old : Sect := {}
  /-- 0 no fallback, 1 revert requested, 2 acknowledged; the tick of that -/
  revert : Nat := 0
  revAt : Nat := 0
  deriving DecidableEq, Repr

/-- A write of an image in progress (R684). -/
structure WriteCtx where
  /-- the bank written, the header read, the image length and the bytes written so far -/
  bank : Nat := 0
  header : List Byte := []
  total : Nat := 0
  pos : Nat := 0
  /-- ciphertext so far -/
  msg : List Byte := []
  deriving DecidableEq, Repr

/-- An entry of the move set (R700) and what it held before the move. -/
inductive MoveEnt where
  | ring (win n : Nat)
  /-- `hadH1`: the H1 bit was set before the move -/
  | route (src : Nat) (hadH1 : Bool)
  /-- `snd` and `rcv`: the fields rewritten -/
  | mbx (k : Nat) (snd rcv : Bool)
  | cmp (c : Nat)
  | slotOwn (b : Nat)
  deriving DecidableEq, Repr

/-- The update unit beyond its registers. -/
structure UpdSt where
  /-- running sections, by type: 1 H, 2 E, 3 P, 5 SA, 6 SB -/
  run : Tab (Option Sect) := []
  /-- by master ID: 0 H, 2 E, 3 P -/
  cuts : Tab (Option Cutin) := []
  /-- the switch in progress of each core (R691) -/
  sw : Tab (Option Switching) := []
  /-- the health window of each core (R706) -/
  health : Tab Health := []
  /-- write contexts, by ring -/
  wr : Tab (Option WriteCtx) := []
  /-- the bank that H1 was started in -/
  h1Bank : Option Nat := none
  /-- STATE_SEND and STATE_RECV descriptors started -/
  started : Nat := 0
  /-- the reset path: its start, the bank it rejects, the actions done (Table UPD-11) -/
  resetAt : Option Nat := none
  resetStage : Nat := 0
  /-- the entries moved to the other host, to be moved back (R700) -/
  moveSet : List MoveEnt := []
  /-- positions blown in the anti-rollback thermometer (R680) -/
  fuseSvn : Nat := 0
  /-- the failure code that a start takes over from the one before it (R705) -/
  carry : Nat := 0
  /-- tick of the release of SA and SB at a start that waits for SAFE_RUN (R705) -/
  safeAt : Option Nat := none
  /-- recovery: transit bytes received; the bytes the boot ROM sent last on UL0 (R14, R713) -/
  recBuf : List Byte := []
  recOpen : Bool := false
  recAns : List Byte := []
  deriving DecidableEq, Repr

end Sys2Proof.Machine
end

