-- ==== Sys2Proof/Machine/State.lean ====
section
/-! DEFINITION. The state of the part: plain data. -/
namespace Sys2Proof.Machine

/-- Why the machine would stop with a fault. No command of the spec stops the part: an access the fabric or a core denies is
an exception of that core (R53), and every error a unit finds is a status of its own. So nothing raises one, which is safe. -/
inductive Fault where
  deriving DecidableEq, Repr

/-- Why a command would have no meaning. -/
inductive Refusal where
  /-- Raised by an arm of `exec` whose command has no meaning in this model; no arm does so. Safe: nothing is claimed of such a
  command. -/
  | notModelled (mnemonic : String)
  deriving DecidableEq, Repr

/-- The state: every register by address, what no register shows, memory, the wires between the dies, and the queue of commands
that wait. -/
structure State where
  /-- the ordering option of the fuses (Table SCO-7) -/
  opt : Nat := 1
  /-- the time base tick counter (R212) -/
  tb : BitVec 64 := 0
  /-- the model's own counter of free values -/
  free : Nat := 0
  /-- every register that software reads as one value, by address -/
  regs : Tab Word := []
  /-- banked copies, by core * 2^32 + address -/
  bank : Tab Word := []
  /-- the 1,216 route entries (R119) -/
  routes : Tab Word := []
  /-- the pad table (R230) -/
  pads : Tab Word := []
  /-- the pending complement of a window (R103): master, register address, complement word -/
  comp : Tab (Option (Nat × Nat × Word)) := []
  /-- memory, by physical address -/
  mem : List Host.Cell := []
  /-- ECC words in error, by word address / 4: 1 correctable, 2 not (R181) -/
  ramEcc : Tab Nat := []
  /-- flash lines in error, by address / 16: 1 correctable, 2 not (R191), 3 left not erased by an erase that ended early (R195) -/
  flashEcc : Tab Nat := []
  /-- what each bus master has received, by master number -/
  ports : Tab Port := []
  /-- load reservations (R47) -/
  lr : Tab (Option Nat) := []
  /-- instruction-cache contents of H0 and H1, by core * 2^32 + address (R49) -/
  icache : Tab (Option Byte) := []
  /-- the PMP regions of H0 and H1, by core * 16 + region (R45) -/
  pmp : Tab Pmp := []
  /-- open load windows of M, SA and SB (R52) -/
  loadOpen : Tab Bool := []
  /-- what a ring has taken at START and the descriptor it has in hand, by window code * 8 + ring (R71, R81) -/
  rings : Tab Ring := []
  /-- tick of the first assertion a WAIT in hand has seen (R131) -/
  waitHits : Tab (Option Nat) := []
  /-- RESULT of each master's last command on each semaphore, by 16 * semaphore + master (R137) -/
  semRes : Tab Nat := []
  /-- positions of the loops' elements, by 256 * loop window + element (R148) -/
  elems : Tab Nat := []
  /-- mode in force and pins of each loop, by its window's address (R152, R158) -/
  loops : Tab LoopSt := []
  /-- sequence, commit and decay of each gate, by its registers' address (R169 to R178) -/
  gates : Tab GateSt := []
  /-- erase counts of the erase units, by base address (R192) -/
  erases : Tab Nat := []
  /-- erase units whose wear has been reported (R192) -/
  wearTold : Tab Bool := []
  /-- a scrub pass is in progress; the next word it reads; arrays SCR_CORR was raised for -/
  scrOn : Bool := false
  scrNext : Nat := 0
  scrCorrTold : Nat := 0
  /-- the flash request that runs, and those that wait (R187, R188) -/
  flcRun : Option FlcReq := none
  flcWait : List FlcReq := []
  /-- the telemetry channel list has reached the power die (R196) -/
  tlmListed : Bool := false
  /-- channels whose TLM_OVERRUN has been raised since their last value (R197) -/
  tlmTold : Nat := 0
  /-- telemetry frames on the response lane: code and value (R196) -/
  tlmOut : List (Nat × Nat) := []
  /-- the configuration check (R106 to R113) -/
  cfc : CfcSt := {}
  /-- the Lameo link and the power die behind it (R22 to R41) -/
  link : Link := {}
  /-- clocks, monitors and spread spectrum (R201 to R239) -/
  clk : ClkSt := {}
  /-- power modes, resets, the start sequence and the watchdogs (R240 to R281) -/
  pmu : PmuSt := {}
  /-- the wires between the dies, what the power die drives, and input levels (R16 to R21) -/
  wires : Wires := {}
  /-- the angle domains and the slots (R282 to R362) -/
  ang : AngSt := {}
  /-- tooth positions of the CRK pattern, taken at the last CRK enable (R148) -/
  crkPositions : Nat := 0
  /-- the engine units (R363 to R411) -/
  eng : EngSt := {}
  /-- the PWM unit and the power-stage measurement (R412 to R448) -/
  pwr : PwrSt := {}
  /-- the efficiency governor (R449 to R456) -/
  egv : EgvSt := {}
  /-- the charging interface (R457 to R478) -/
  chg : ChgSt := {}
  /-- residual current and insulation (R479 to R498) -/
  rcm : RcmSt := {}
  /-- the power-line modem (R499 to R504) -/
  plm : PlmSt := {}
  /-- the two safety channels (R716 to R759) -/
  saf : SafSt := {}
  /-- the key store (R592 to R617) -/
  key : KeySt := {}
  /-- tamper sources and the calendar clock (R618 to R634) -/
  vlt : VltSt := {}
  /-- the cipher engines, public-key unit and random generator (R635 to R669) -/
  cry : CrySt := {}
  /-- metrology (R505 to R555) -/
  met : MetSt := {}
  /-- billing and display (R556 to R591) -/
  bil : BilSt := {}
  /-- update and handover (R670 to R715) -/
  upd : UpdSt := {}
  /-- the load switches (R760 to R784) -/
  lsw : LswSt := {}
  /-- the serial ports (R785 to R839) -/
  ser : SerSt := {}
  /-- the test access port (R830 to R835) -/
  dbg : DbgSt := {}
  /-- the commands that wait, first in, first out -/
  pending : List Instr := []
  deriving DecidableEq, Repr

/-- The machine at T0 after power has first come (R261, R270): RST_CAUSE shows VLT_POR and POR (Table PMU-15), the load windows
of M, SA and SB are open (R52), the boot ROM is about to run. Every register is at its reset value, and nothing in memory is
listed. -/
def State.reset : State :=
  { regs := [(0x40003004, 3#32)], loadOpen := [(4, true), (5, true), (6, true)] }

end Sys2Proof.Machine
end

