-- ==== Sys2Proof/Machine/Ops.lean ====
section
/-! DEFINITION. The named operations that every command's meaning is written over: registers, memory, presence and power,
the fabric's reach, events, free values, rings. -/
namespace Sys2Proof.Machine

/-- What a command answers. -/
abbrev Res := Host.Outcome State Fault Refusal

/-! ## Reset values of registers -/

/-- A window of an adaptive loop (Table CTR-2). -/
structure LoopDef where
  win : Win
  n : Nat
  elems : Nat
  lo : Nat
  hi : Nat
  rLo : Nat
  rHi : Nat
  dflt : Nat
  pd : Bool
  pin : Nat
  deriving DecidableEq, Repr

/-- Table CTR-2: the 28 adaptive loops, with the pin event each chapter numbers. -/
def loopDefs : List LoopDef :=
  [⟨.pmu, 0, 1, 650, 900, 900, 900, 900, false, 2⟩,
   ⟨.ang, 0, 144, 0x1000, 0xC000, 0x2000, 0x8000, 0x4000, false, 396⟩,
   ⟨.eng, 0, 1, 0x400, 0xE000, 0x1000, 0x8000, 0x4000, true, 420⟩,
   ⟨.eng, 1, 1, 0x400, 0xE000, 0x1000, 0x8000, 0x4000, true, 421⟩,
   ⟨.edr, 0, 1, 0, 20000, 100, 10000, 3000, true, 452⟩,
   ⟨.edr, 1, 1, 0, 20000, 100, 10000, 3000, true, 453⟩,
   ⟨.edr, 2, 1, 0, 20000, 100, 10000, 3000, true, 454⟩,
   ⟨.edr, 3, 1, 0, 20000, 100, 10000, 3000, true, 455⟩,
   ⟨.pwm, 0, 3, 0x40, 0x6400, 0x100, 0x1900, 0xC80, false, 531⟩,
   ⟨.pwm, 1, 4, 0x40, 0x6400, 0x100, 0x1900, 0xC80, false, 532⟩,
   ⟨.pwm, 2, 1, 0x40, 0x6400, 0x100, 0x1900, 0xC80, false, 533⟩,
   ⟨.egv, 0, 1, 0, 20000, 1500, 3600, 3000, false, 643⟩] ++
  (List.range 16).map (fun n => ⟨.lsw, n, 1, 100, 1000, 250, 1000, 1000, true, 976 + n⟩)

/-- A commit gate (Table CTR-4). -/
structure GateDef where
  win : Win
  g : Nat
  host : Nat
  reset : Nat
  decays : Bool
  ovr : Nat
  deriving DecidableEq, Repr

/-- Table CTR-4: the seven commit gates; `ovr` is the overrun source, the escalation source follows it. -/
def gateDefs : List GateDef :=
  [⟨.ang, 0, 2, 0x00030100, false, 409⟩, ⟨.ang, 1, 2, 0x00030104, false, 411⟩, ⟨.lam, 0, 2, 0x00030100, false, 483⟩,
   ⟨.hbr, 0, 2, 0x000A0A01, true, 498⟩, ⟨.pwm, 0, 3, 0x00030102, false, 525⟩, ⟨.pwm, 1, 3, 0x00080801, true, 527⟩,
   ⟨.pwm, 2, 3, 0x00030102, false, 529⟩]

/-- Windows whose registers the configuration check does not cover (R107). -/
def Win.unchecked : Win → Bool
  | .cfc | .saf | .met | .bil | .dbg => true
  | _ => false

/-- The registers every window holds: identity, lock and the eight ring slots (Tables RING-13 and RING-8). -/
def commonRows (w : Win) : List RegInfo :=
  let c := ! w.unchecked
  [⟨"BLK_ID", 0x3F8, 1, 4, .ro, false, false, 0x100 + w.code, false, 0xFFFF, []⟩,
   ⟨"BLK_LOCK", 0x3FC, 1, 4, .wp, false, false, 0, c, 1, []⟩,
   ⟨"RING_BASE", 0x400, 8, 0x40, .rw, true, false, 0, c, 0xFFFFFFFF, []⟩,
   ⟨"CPL_BASE", 0x404, 8, 0x40, .rw, true, false, 0, c, 0xFFFFFFFF, []⟩,
   ⟨"SHADOW_ADDR", 0x408, 8, 0x40, .rw, true, false, 0, c, 0xFFFFFFFF, []⟩,
   ⟨"RING_CFG", 0x40C, 8, 0x40, .rw, true, false, 3, c, 0x1FFF, [.illegal 10 2 3 2]⟩,
   ⟨"RING_CTL", 0x410, 8, 0x40, .rw, false, false, 0, false, 0, []⟩,
   ⟨"RING_STAT", 0x414, 8, 0x40, .ro, false, false, 0, false, 0x1FF07, []⟩,
   ⟨"RING_ERR", 0x418, 8, 0x40, .w1c, false, false, 0, false, 0x1F, []⟩,
   ⟨"RING_PIDX", 0x41C, 8, 0x40, .ro, false, false, 0, false, 0xFFFF, []⟩,
   ⟨"RING_CIDX", 0x420, 8, 0x40, .ro, false, false, 0, false, 0xFFFFFFFF, []⟩]

/-- BG_STAT (Table CTR-9) in the windows that run a background activity (R167). -/
def bgRows : Win → List RegInfo
  | .scr | .flc | .met | .eng | .pwm | .key | .tlm =>
    [⟨"BG_STAT", 0x3F0, 1, 4, .ro, false, false, 0, false, 0xFFFF00FF, []⟩]
  | _ => []

/-- The four registers of one loop window (Table CTR-5). -/
def LoopDef.rows (l : LoopDef) : List RegInfo :=
  let o := 0x700 + 0x10 * l.n
  [⟨"LOOP_CTL", o, 1, 4, .rw, false, l.pd, if l.win = .pmu then 1 else 0, false, 0xFF03, [.illegal 0 2 3 2]⟩,
   ⟨"LOOP_LO", o + 4, 1, 4, .wp, false, l.pd, l.rLo, true, 0xFFFF, [.clamp 0 16 l.lo l.hi]⟩,
   ⟨"LOOP_HI", o + 8, 1, 4, .wp, false, l.pd, l.rHi, true, 0xFFFF, [.clamp 0 16 l.lo l.hi]⟩,
   ⟨"LOOP_POS", o + 12, 1, 4, .rw, false, l.pd, l.dflt, false, 0, []⟩]

/-- The four registers of one commit gate (Table CTR-7). -/
def GateDef.rows (d : GateDef) : List RegInfo :=
  let o := 0x300 + 0x10 * d.g
  let fb := if d.decays then [Fix.illegal 0 2 3 2] else [Fix.illegal 0 2 3 2, Fix.illegal 0 2 1 2]
  [⟨"GATE_CFG", o, 1, 4, .wp, false, false, d.reset, true, 0xFFFF0F, fb ++ [.clamp 8 8 1 255, .clamp 16 8 1 255]⟩,
   ⟨"GATE_STAT", o + 4, 1, 4, .w1c, false, false, 0, false, 0xF, []⟩,
   ⟨"GATE_CMT", o + 8, 1, 4, .rw, false, false, 0, false, 0, []⟩,
   ⟨"GATE_CNT", o + 12, 1, 4, .ro, false, false, 0, false, 0xFFFFFFFF, []⟩]

/-- Every register row of a window, its own and the common ones. -/
def Win.allRows (w : Win) : List RegInfo :=
  w.rows ++ commonRows w ++ bgRows w ++ (loopDefs.filter (fun l => l.win = w)).flatMap LoopDef.rows ++
    (gateDefs.filter (fun d => d.win = w)).flatMap GateDef.rows

/-- Does this row hold the register at window offset `o`? -/
def RegInfo.holds (r : RegInfo) (o : Nat) : Bool :=
  decide (r.off ≤ o) && decide ((o - r.off) % r.st = 0) && decide ((o - r.off) / r.st < r.cnt)

/-- The table row of the register at address `a`, if the spec puts one there. -/
def regInfo (a : Nat) : Option RegInfo :=
  match winOf a with
  | none => none
  | some w => w.allRows.find? (fun r => r.holds (a % 0x1000))

/-- The domains PWR_REQ asks for at reset: all but DBG, present ones only (Table PMU-12). -/
def domainsAtReset (opt : Nat) : Word :=
  (List.range 23).foldl (fun w n => if domainPresent opt n then setBit w n true else w) 0#32

/-- CORE_STAT at T0: H0 running in the boot ROM, every other present core in reset (Table PMU-15, R272). -/
def coresAtReset (opt : Nat) : Word :=
  (List.range 7).foldl (fun w c => setFld w (2 * c) 2 (if c = 0 then 2 else if corePresent opt c then 1 else 0)) 0#32

/-- The clock domains that serve only absent blocks are absent (05): MCLK, MADC and PLMCLK on an EC, ECLK, ENGADC and
LAMCLK on a CP (DEDUCED from Tables SCO-2 and TIM-3). -/
def clockPresent (opt n : Nat) : Bool :=
  if opt = optEC then !(n == 13 || n == 14 || n == 17)
  else if opt = optCP then !(n == 5 || n == 23 || n == 24)
  else true

/-- The balls that are digital control-die balls, as spans of the index of R230 (Tables PKG-3 and PKG-4: types DI, DO,
DIO and OD on the CD). -/
def digitalBalls : List (Nat × Nat) :=
  [(48, 48), (50, 69), (71, 80), (82, 99), (102, 108), (112, 116), (118, 141), (144, 165), (181, 186), (192, 196),
   (202, 202), (208, 214), (226, 226)]

/-- Is the ball of this index a digital control-die ball (R230)? -/
def padDigital (i : Nat) : Bool := digitalBalls.any (fun p => decide (p.1 ≤ i) && decide (i ≤ p.2))

/-- The digital balls that are outputs only: RSTOUT_N, TDO, AO_PIN, PWM, SD_CLK, MESH_OUT. -/
def padOutputOnly (i : Nat) : Bool :=
  i == 115 || (118 ≤ i && i ≤ 141) || i == 152 || i == 153 || i == 202 || i == 212

/-- The reset contents of a pad entry: GLITCH_EN 1 on a ball with an input (R228), class 0 (R226); 0 elsewhere (R230). -/
def padReset (i : Nat) : Word := if padDigital i && !padOutputOnly i then 0x10#32 else 0#32

/-- The reset value of the register at address `a` for the ordering option. -/
def regReset (opt a : Nat) : Word :=
  if a = A.SYS_ID then setFld 0x94201100#32 0 4 opt
  else if a = A.PWR_REQ ∨ a = A.PWR_STAT then domainsAtReset opt
  else if a = A.CORE_STAT then coresAtReset opt
  else if A.CLK_DOM 0 ≤ a ∧ a ≤ A.CLK_DOM 27 ∧ clockPresent opt ((a - A.CLK_DOM 0) / 4) = false then 0#32
  else if a = A.SLOT_OWN then (if opt = optCP then 0#32 else 0x22222222#32)
  else match regInfo a with
    | some r => wd r.reset
    | none => 0#32

/-! ## Registers -/

/-- The value a register holds. -/
def State.reg (s : State) (a : Nat) : Word := s.regs.get (regReset s.opt) a

/-- Writes a register; every change of a register goes through here. -/
def State.setReg (s : State) (a : Nat) (v : Word) : State :=
  { s with regs := s.regs.set (regReset s.opt) a v }

/-- Changes a register by a function of its value. -/
def State.modReg (s : State) (a : Nat) (f : Word → Word) : State := s.setReg a (f (s.reg a))

/-- Sets status bits: the hardware's own update (R880 step 4). -/
def State.orReg (s : State) (a : Nat) (m : Word) : State := s.modReg a (· ||| m)

/-- Sets one status bit. -/
def State.setBitReg (s : State) (a i : Nat) : State := s.orReg a (bitMask i)

/-- Clears one bit. -/
def State.clrBitReg (s : State) (a i : Nat) : State := s.modReg a (fun w => w &&& ~~~ (bitMask i))

/-- Sets a field of a register. -/
def State.setField (s : State) (a lo len v : Nat) : State := s.modReg a (fun w => setFld w lo len v)

/-- A field of a register. -/
def State.field (s : State) (a lo len : Nat) : Nat := fld (s.reg a) lo len

/-- A bit of a register. -/
def State.flag (s : State) (a i : Nat) : Bool := bit (s.reg a) i

/-- Every register of a window returns to its reset value. -/
def State.resetWindow (s : State) (w : Win) : State :=
  { s with regs := s.regs.resetWhere (fun a => decide (winOf a = some w)) }

/-- The key of core `c`'s own copy of a banked register. -/
def bankKey (c a : Nat) : Nat := c * 0x100000000 + a

/-- Core `c`'s copy of a banked register (Table EVL-9, "banked"). -/
def State.banked (s : State) (c a : Nat) : Word := s.bank.get (fun _ => 0#32) (bankKey c a)

/-- Writes core `c`'s copy of a banked register. -/
def State.setBanked (s : State) (c a : Nat) (v : Word) : State :=
  { s with bank := s.bank.set (fun _ => 0#32) (bankKey c a) v }

/-- The field laws of a write: reserved bits are ignored and illegal values store what the table says (R100). -/
def Fix.apply (w : Word) : Fix → Word
  | .illegal lo len first store => if first ≤ fld w lo len then setFld w lo len store else w
  | .clamp lo len a b => setFld w lo len (clampNat a b (fld w lo len))
  | .clampS lo len a b =>
    setFld w lo len (ofSigned len (max a (min b (toSigned len (fld w lo len)))))
  | .ones m => w ||| wd m
  | .zero lo len store => if fld w lo len = 0 then setFld w lo len store else w
  | .notBelow lo ref len => if fld w lo len < fld w ref len then setFld w lo len (fld w ref len) else w

/-- What a register of this row holds after a write of `v` over `old`: the writable bits, then the field laws. -/
def RegInfo.stored (r : RegInfo) (old v : Word) : Word :=
  r.fix.foldl Fix.apply ((old &&& ~~~ (wd r.mask)) ||| (v &&& wd r.mask))

/-- The register write proper, past every check of access type: stores what the field laws allow. -/
def State.store (s : State) (a : Nat) (v : Word) : State :=
  match regInfo a with
  | some r => s.modReg a (fun old => r.stored old v)
  | none => s

/-! ## Time and free values -/

/-- Bits [31:0] of the time base tick counter. -/
def State.tick (s : State) : Word := s.tb.setWidth 32

/-- The tick count as a number. -/
def State.now (s : State) : Nat := s.tb.toNat

/-- The free value the machine produces next. -/
def State.freeWord (s : State) : Word := Config.freeWord s.free

/-- The free choice the machine makes next. -/
def State.freeNat (s : State) : Nat := Config.freeNat s.free

/-- The free value has been used. -/
def State.useFree (s : State) : State := { s with free := s.free + 1 }

/-- Bytes that nothing determines: each word of four comes from one free value. -/
def State.freeBytes : Nat → State → List Byte × State
  | 0, s => ([], s)
  | k + 1, s =>
    let w := s.freeWord
    let r := State.freeBytes k s.useFree
    ([byteOf w 0, byteOf w 1, byteOf w 2, byteOf w 3] ++ r.1, r.2)

/-! ## Presence, power and cores -/

/-- Power domain `n` is on (PWR_STAT, Table PMU-13). -/
def State.domOn (s : State) (n : Nat) : Bool := s.flag A.PWR_STAT n

/-- The window's block is carried by the option (R1). -/
def State.present (s : State) (w : Win) : Bool := w.present s.opt

/-- The window's block is present and its power domain is on. -/
def State.live (s : State) (w : Win) : Bool := s.present w && s.domOn w.domain

/-- CORE_STAT.STATEc: 0 domain off, 1 reset, 2 running, 3 halted. -/
def State.coreState (s : State) (c : Nat) : Nat := s.field A.CORE_STAT (2 * c) 2

/-- Core `c` runs. -/
def State.coreRuns (s : State) (c : Nat) : Bool := s.coreState c == 2

/-- The primary host core: H0, or H1 while UPD_STAT.PRIMARY reads 1 (R40). -/
def State.primaryHost (s : State) : Nat := if s.flag A.UPD_STAT 0 then mH1 else mH0

/-- R702: the master in whose place `m` stands: while PRIMARY reads 1, H1 has H0's rights and H0 has H1's. -/
def State.standsFor (s : State) (m : Nat) : Nat :=
  if s.flag A.UPD_STAT 0 then (if m = mH0 then mH1 else if m = mH1 then mH0 else m) else m

/-- The SAFE action of check domain `d` holds (R111); domain 0's action is those of domains 1, 2 and 3 (Table RING-15). -/
def State.safeHolds (s : State) (d : Nat) : Bool :=
  s.flag A.CFC_SAFE d || (s.flag A.CFC_SAFE 0 && 1 ≤ d && d ≤ 3)

/-- Domain 1's SAFE action holds. -/
def State.safe1 (s : State) : Bool := s.safeHolds 1
/-- Domain 2's SAFE action holds. -/
def State.safe2 (s : State) : Bool := s.safeHolds 2
/-- Domain 3's SAFE action holds. -/
def State.safe3 (s : State) : Bool := s.safeHolds 3

/-- R700: entries that firmware rewrites leave the move set. -/
def State.leaveMove (s : State) (p : MoveEnt → Bool) : State :=
  { s with upd := { s.upd with moveSet := s.upd.moveSet.filter (fun e => !p e) } }

/-! ## Events -/

/-- May this source assert at all (R6, R115, R245)? Group 36 belongs to no block. -/
def State.sourceLive (s : State) (src : Nat) : Bool :=
  match ownerOf src with
  | some w => s.live w
  | none => decide (1152 ≤ src ∧ src ≤ 1155)

/-- The route entry of a source (R119). -/
def State.route (s : State) (src : Nat) : Word := s.routes.get (fun _ => 0#32) src

/-- The address of the pending register that holds a source (R114). -/
def pendAddr (src : Nat) : Nat := A.EVR_PEND (src / 32)

/-- R124, R125: one bank records an assertion; a bit already set counts a miss. A bank in reset records nothing
(Table EVL-8). -/
def State.bankAssert (s : State) (src : Nat) (bank : Tab Word) (c : Nat) : Tab Word :=
  let d : Nat → Word := fun _ => 0#32
  if bit (s.route src) c && decide (2 ≤ s.coreState c) then
    let k := bankKey c (pendAddr src)
    let p := bank.get d k
    if bit p (src % 32) then
      let m := bankKey c A.EVR_MISS
      bank.set d m (satAdd (bank.get d m) 0 16 1)
    else bank.set d k (p ||| bitMask (src % 32))
  else bank

/-- A WAIT in hand on EVR ring `n` that listens to `src` (R131, R132). -/
def State.ringDesc (s : State) (w : Win) (n : Nat) : List Word := (s.rings.get (fun _ => {}) (w.code * 8 + n)).desc

/-- R131: the waits in hand note the first assertion of their source. -/
def State.noteWait (s : State) (src : Nat) (hits : Tab (Option Nat)) (n : Nat) : Tab (Option Nat) :=
  match s.ringDesc .evr n with
  | d :: rest =>
    if fld d 0 8 = 0x10 ∧ fld (rest.getD 3 0#32) 0 11 = src ∧ hits.get (fun _ => none) n = none then
      hits.set (fun _ => none) n (some s.now)
    else hits
  | [] => hits

/-- R124: a source asserts in every bank its route names, and every WAIT in hand on it hears it. -/
def State.raise (s : State) (src : Nat) : State :=
  if s.sourceLive src then
    { s with
      bank := (List.range 7).foldl (s.bankAssert src) s.bank
      waitHits := (List.range 8).foldl (s.noteWait src) s.waitHits }
  else s

/-- R118: a ring-level event also sets the bit of the window's code in EVR_RWIN. -/
def State.raiseRing (s : State) (w : Win) (src : Nat) : State :=
  (s.raise src).setBitReg (A.EVR_RWIN (w.code / 32)) (w.code % 32)

/-- Raises each source of a list, in order. -/
def State.raiseAll (s : State) (l : List Nat) : State := l.foldl State.raise s

/-! ## Memory -/

/-- What a byte that nothing has written reads as: the boot ROM's contents, erased flash, zeroed RAM (R183, R191). -/
def memReset (a : Nat) : Byte :=
  if a < 0x18000 then Config.bootRomByte a
  else if 0x08000000 ≤ a ∧ a < 0x08810000 then 0xFF#8
  else 0#8

/-- Memory's canonical form: addresses strictly rising, and no entry equal to what its address reads as unlisted. -/
def Memory.wf (m : List Host.Cell) : Bool := Tab.wf memReset m

/-- One byte of memory at a physical address. -/
def State.byte (s : State) (a : Nat) : Byte := Tab.get memReset s.mem a

/-- Writes one byte at a physical address. -/
def State.setByte (s : State) (a : Nat) (b : Byte) : State := { s with mem := Tab.set memReset s.mem a b }

/-- Writes consecutive bytes. -/
def State.setBytes (s : State) (a : Nat) (bs : List Byte) : State := { s with mem := Tab.splice memReset s.mem a bs }

/-- Reads `n` consecutive bytes. -/
def State.bytes (s : State) (a n : Nat) : List Byte := (List.range n).map (fun i => s.byte (a + i))

/-- A word of memory, least significant byte first. -/
def State.word (s : State) (a : Nat) : Word := ofBytes (s.byte a) (s.byte (a + 1)) (s.byte (a + 2)) (s.byte (a + 3))

/-- Writes a word, least significant byte first. -/
def State.setWord (s : State) (a : Nat) (v : Word) : State :=
  s.setBytes a [byteOf v 0, byteOf v 1, byteOf v 2, byteOf v 3]

/-- Writes words at consecutive addresses. -/
def State.setWords (s : State) : Nat → List Word → State
  | _, [] => s
  | a, w :: ws => (s.setWord a w).setWords (a + 4) ws

/-- The regions of Tables ARC-10 and ARC-12. -/
inductive Region where
  | bootRom | flashA | flashB | info | hostSram (bank : Nat) | aonSram | engRam | pwrRam | metRam | safA | safB
  | window (w : Win)
  | keyVault | calendar | counters | billing | tamperLog
  | hole
  deriving DecidableEq, Repr

/-- R62, Tables ARC-10 to ARC-12: the region that covers an address. -/
def regionOf (a : Nat) : Region :=
  if a < 0x18000 then .bootRom
  else if 0x08000000 ≤ a ∧ a < 0x08400000 then .flashA
  else if 0x08400000 ≤ a ∧ a < 0x08800000 then .flashB
  else if 0x08800000 ≤ a ∧ a < 0x08810000 then .info
  else if 0x20000000 ≤ a ∧ a < 0x20100000 then .hostSram ((a - 0x20000000) / 0x40000)
  else if 0x20100000 ≤ a ∧ a < 0x20104000 then .aonSram
  else if 0x30000000 ≤ a ∧ a < 0x30020000 then .engRam
  else if 0x30200000 ≤ a ∧ a < 0x30220000 then .pwrRam
  else if 0x30400000 ≤ a ∧ a < 0x30410000 then .metRam
  else if 0x30600000 ≤ a ∧ a < 0x3060C000 then .safA
  else if 0x30800000 ≤ a ∧ a < 0x3080C000 then .safB
  else if 0x50000000 ≤ a ∧ a < 0x50000200 then .keyVault
  else if 0x50000200 ≤ a ∧ a < 0x50000300 then .calendar
  else if 0x50000300 ≤ a ∧ a < 0x50000400 then .counters
  else if 0x50000400 ≤ a ∧ a < 0x50001000 then .billing
  else if 0x50001000 ≤ a ∧ a < 0x50002000 then .tamperLog
  else match winOf a with
    | some w => .window w
    | none => .hole

/-- R60, R61: the physical address of an address in a core's view. -/
def State.phys (s : State) (core a : Nat) : Nat :=
  if core = mE ∧ 0x30000000 ≤ a ∧ a < 0x30020000 ∧ s.flag A.UPD_STAT 16 then
    (if a < 0x30010000 then a + 0x10000 else a - 0x10000)
  else if core = mP ∧ 0x30200000 ≤ a ∧ a < 0x30220000 ∧ s.flag A.UPD_STAT 17 then
    (if a < 0x30210000 then a + 0x10000 else a - 0x10000)
  else a

/-- The windows a core reaches (Table ARC-9, peripheral row). -/
def windowReach (core : Nat) (w : Win) : Bool :=
  match core with
  | 0 | 1 | 7 => true
  | 2 => [Win.ang, .eng, .edr, .lam, .hbr, .egv, .sys, .upd, .cry, .lsw, .uq0, .uq1, .uq2, .uq3, .can0, .can1,
          .spi0, .spi1, .spi2, .i2c0, .i2c1, .tmb, .evr, .sem].contains w
  | 3 => [Win.ang, .pwm, .psc, .egv, .sys, .upd, .cry, .lsw, .tmb, .evr, .sem].contains w
  | 4 => [Win.met, .bil, .sys, .cry, .pke, .flc, .clk, .tmb, .evr].contains w
  | 5 | 6 => [Win.saf, .sys, .tmb, .evr].contains w
  | _ => false

/-- R51, Tables ARC-9 and ARC-12: does a core (or DBG) reach the region with this kind of access? -/
def State.coreReach (s : State) (m : Nat) (k : AccKind) (r : Region) : Bool :=
  let h := m = mH0 ∨ m = mH1 ∨ m = mDBG
  let p := s.standsFor m
  match r with
  | .bootRom => (h ∧ k = .load) ∨ (m = mH0 ∧ k = .fetch)
  | .flashA | .flashB => h ∧ (k = .load ∨ (k = .fetch ∧ m ≠ mDBG))
  | .info => h ∧ k = .load
  | .hostSram _ | .aonSram => (h ∧ (k ≠ .fetch ∨ m ≠ mDBG)) ∨ ((m = mE ∨ m = mP) ∧ k ≠ .fetch)
  | .engRam => (h ∧ k ≠ .fetch) ∨ m = mE
  | .pwrRam => (h ∧ k ≠ .fetch) ∨ m = mP
  | .metRam => m = mM ∨ (p = mH0 ∧ k = .store ∧ s.loadOpen.get (fun _ => false) mM)
  | .safA => m = mSA ∨ (p = mH0 ∧ k = .store ∧ s.loadOpen.get (fun _ => false) mSA)
  | .safB => m = mSB ∨ (p = mH0 ∧ k = .store ∧ s.loadOpen.get (fun _ => false) mSB)
  | .window w => k ≠ .fetch ∧ windowReach m w ∧ (w = .clk → m = mM → k = .load)
  | .keyVault => false
  | .calendar => (h ∨ m = mM) ∧ p ≠ mH1 ∧ k = .load
  | .counters | .tamperLog => h ∧ p ≠ mH1 ∧ k = .load
  | .billing => m = mM ∧ k ≠ .fetch
  | .hole => false

/-- Is the region's memory powered (R245)? A region that is off because its core is absent reads 0 instead (R7). -/
def State.regionOn (s : State) : Region → Bool
  | .bootRom => s.domOn 19
  | .flashA | .info => s.domOn 17
  | .flashB => s.domOn 18
  | .hostSram b => s.domOn (4 + b)
  | .engRam => s.domOn 8 || !corePresent s.opt mE
  | .pwrRam => s.domOn 9
  | .metRam => s.domOn 10 || !corePresent s.opt mM
  | .safA => s.domOn 11
  | .safB => s.domOn 12
  | _ => true

/-- R7: the region is the RAM of an absent core. -/
def State.regionAbsent (s : State) : Region → Bool
  | .engRam => !corePresent s.opt mE
  | .metRam => !corePresent s.opt mM
  | _ => false

/-- R51, R61: does a unit, working for host core `host`, reach a physical address with this kind of access? -/
def State.unitReach (s : State) (w : Win) (host : Nat) (k : AccKind) (a : Nat) : Bool :=
  let r := regionOf a
  s.regionOn r && !s.regionAbsent r &&
  (match r with
   | .flashA | .flashB => k = .load
   | .info => k = .load ∧ w.dmaPort = 10
   | .hostSram _ | .aonSram | .engRam | .pwrRam => true
   | .metRam => w.dmaPort = 10 ∧ host = mM
   | .window v => v = w
   | _ => false)

/-- May both the host core and the unit reach every byte of a range (Table RING-4 step 5, R82)? The ends of a range
lie in one region of consecutive addresses, so each 64-byte step and the last byte are judged. -/
def State.rangeReach (s : State) (w : Win) (host : Nat) (k : AccKind) (a len : Nat) : Bool :=
  len = 0 || ((List.range ((len + 63) / 64)).all (fun i =>
      s.unitReach w host k (s.phys host (a + 64 * i)) && s.coreReach host k (regionOf (s.phys host (a + 64 * i)))) &&
    s.unitReach w host k (s.phys host (a + len - 1)) && s.coreReach host k (regionOf (s.phys host (a + len - 1))))

/-- R53, R54: a denial is counted, and the first one since FAB_STAT.DENY was cleared is captured. -/
def State.fabDeny (s : State) (m a : Nat) (write fetch : Bool) (window : Nat) : State :=
  let s1 := s.modReg A.FAB_DENY_CNT (fun w => satAdd w 0 32 1)
  let s2 := if s.flag A.FAB_STAT 0 then s1 else
    ((s1.setReg A.FAB_DENY_ADDR (wd a)).setReg A.FAB_DENY_INFO
      (setFld (setBit (setBit (setFld 0#32 0 4 m) 4 write) 5 fetch) 8 8 window)).setBitReg A.FAB_STAT 0
  s2.raise 30

/-- Bytes read in a host's view, one by one. -/
def State.viewBytes (s : State) (host a n : Nat) : List Byte :=
  (List.range n).map (fun i => s.byte (s.phys host (a + i)))

/-- A word read in a host's view (aligned, so one region). -/
def State.viewWord (s : State) (host a : Nat) : Word := s.word (s.phys host a)

/-- Words read in a host's view. -/
def State.viewWords (s : State) (host a n : Nat) : List Word :=
  (List.range n).map (fun i => s.viewWord host (a + 4 * i))

/-- A unit has written a range of a host's view: words written whole lose their ECC error (R182), and reservations on words it
touched end (PRESUMED, RISC-V). -/
def State.written (s : State) (host a len : Nat) : State :=
  let meets (p : Nat) : Bool := decide (s.phys host p < a + len) && decide (a < s.phys host p + 4)
  { s with
    ramEcc := s.ramEcc.resetWhere (fun k => decide (a ≤ s.phys host (4 * k)) && decide (s.phys host (4 * k) + 4 ≤ a + len))
    lr := (List.range 4).foldl (fun t c => match t.get (fun _ => none) c with
      | some p => if meets p then t.set (fun _ => none) c none else t
      | none => t) s.lr }

/-- Bytes stored in a host's view. -/
def State.storeBytes (s : State) (host : Nat) : Nat → List Byte → State
  | _, [] => s
  | a, b :: bs => (s.setByte (s.phys host a) b).storeBytes host (a + 1) bs

/-- Words stored in a host's view. -/
def State.storeWords (s : State) (host : Nat) : Nat → List Word → State
  | _, [] => s
  | a, w :: ws => (s.setWord (s.phys host a) w).storeWords host (a + 4) ws

/-- Bytes that a unit writes in a host's view. -/
def State.putBytes (s : State) (host a : Nat) (bs : List Byte) : State := (s.storeBytes host a bs).written host a bs.length

/-- Words that a unit writes in a host's view. -/
def State.putWords (s : State) (host a : Nat) (ws : List Word) : State := (s.storeWords host a ws).written host a (4 * ws.length)

/-! ## Bus ports -/

/-- What a master's port shows. -/
def State.port (s : State) (m : Nat) : Port := s.ports.get (fun _ => {}) m

/-- A master's access ended with data and an outcome. -/
def State.answer (s : State) (m : Nat) (v : Word) (e : Exc) : State :=
  { s with ports := s.ports.set (fun _ => {}) m ⟨v, e⟩ }

/-! ## Rings -/

/-- The key of ring `n` of a window. -/
def ringKey (w : Win) (n : Nat) : Nat := w.code * 8 + n

/-- The hidden state of a ring. -/
def State.ring (s : State) (w : Win) (n : Nat) : Ring := s.rings.get (fun _ => {}) (ringKey w n)

/-- Writes the hidden state of a ring. -/
def State.setRing (s : State) (w : Win) (n : Nat) (r : Ring) : State :=
  { s with rings := s.rings.set (fun _ => {}) (ringKey w n) r }

/-- Changes the hidden state of a ring. -/
def State.modRing (s : State) (w : Win) (n : Nat) (f : Ring → Ring) : State := s.setRing w n (f (s.ring w n))

/-- A register of a ring's set-up slot (Table RING-8). -/
def slotReg (w : Win) (n off : Nat) : Nat := w.base + 0x400 + 0x40 * n + off

/-- RING_STAT of a ring. -/
def ringStatA (w : Win) (n : Nat) : Nat := slotReg w n 0x14
/-- RING_ERR of a ring. -/
def ringErrA (w : Win) (n : Nat) : Nat := slotReg w n 0x18
/-- RING_PIDX of a ring. -/
def ringPidxA (w : Win) (n : Nat) : Nat := slotReg w n 0x1C
/-- RING_CIDX of a ring: CIDX and FIDX. -/
def ringCidxA (w : Win) (n : Nat) : Nat := slotReg w n 0x20

/-- STATE of a ring: 0 OFF, 1 RUN, 2 PAUSED, 3 STALLED, 4 DRAINING. -/
def State.ringState (s : State) (w : Win) (n : Nat) : Nat := s.field (ringStatA w n) 0 3
/-- Producer index. -/
def State.pidx (s : State) (w : Win) (n : Nat) : Nat := s.field (ringPidxA w n) 0 16
/-- Consumer index. -/
def State.cidx (s : State) (w : Win) (n : Nat) : Nat := s.field (ringCidxA w n) 0 16
/-- Fetch index. -/
def State.fidx (s : State) (w : Win) (n : Nat) : Nat := s.field (ringCidxA w n) 16 16
/-- Moves a ring to a state. -/
def State.setRingState (s : State) (w : Win) (n st : Nat) : State := s.setField (ringStatA w n) 0 3 st

/-- R87: the ring's host is the HOST taken at its last START, or RING_CFG.HOST while it is OFF. -/
def State.ringHost (s : State) (w : Win) (n : Nat) : Nat :=
  if s.ringState w n = 0 then s.field (slotReg w n 0xC) 4 4 else fld (s.ring w n).cfg 4 4

/-- A word of the descriptor in hand. -/
def State.dw (s : State) (w : Win) (n i : Nat) : Word := (s.ring w n).desc.getD i 0#32

/-- The opcode of the descriptor in hand, if one is in hand and nothing has decided its completion. -/
def State.inHand (s : State) (w : Win) (n : Nat) : Option Nat :=
  let r := s.ring w n
  if r.desc.isEmpty || r.done.isSome then none else some (fld (r.desc.getD 0 0#32) 0 8)

/-- The completion of the descriptor in hand is decided; DESCRIPTOR_COMPLETE writes it. -/
def State.finish (s : State) (w : Win) (n : Nat) (c : Cpl) : State :=
  s.modRing w n (fun r => { r with done := some c })

/-- Completes the descriptor in hand DONE with a result. -/
def State.finishDone (s : State) (w : Win) (n : Nat) (result : Word) : State := s.finish w n { status := 0, result := result }

/-- Completes the descriptor in hand with a status and RESULT 0. -/
def State.finishBad (s : State) (w : Win) (n status : Nat) : State := s.finish w n { status := status }

/-- Completes the descriptor in hand DONE_FLAGGED with a warning. -/
def State.finishWarn (s : State) (w : Win) (n warn : Nat) (result : Word) : State :=
  s.finish w n { status := 1, warn := warn, result := result }

/-- Runs `f` when the ring's descriptor in hand has opcode `op`; without one the command changes nothing. -/
def State.whenHand (s : State) (w : Win) (n op : Nat) (f : State → State) : State :=
  if s.inHand w n = some op then f s else s

end Sys2Proof.Machine
end

