-- ==== Sys2Proof/Machine/Access.lean ====
section
/-! DEFINITION. The register discipline: access types, complement pairs, locks, absent blocks and off domains
(R3 to R5, R99 to R105, R245, R881), and the posting of a power-die access (R18, R28, R29). -/
namespace Sys2Proof.Machine

/-- R245: an access to a window whose domain is off. -/
def State.offAccess (s : State) : State := (s.setBitReg A.PMU_ERR 2).raise 5

/-- The pending complement of a window (R103). -/
def State.pendingComp (s : State) (w : Win) : Option (Nat × Nat × Word) := s.comp.get (fun _ => none) w.code

/-- Sets or discards the pending complement of a window. -/
def State.setComp (s : State) (w : Win) (c : Option (Nat × Nat × Word)) : State :=
  { s with comp := s.comp.set (fun _ => none) w.code c }

/-- R103: a pair fails; both writes are discarded, the failure is captured and CFC_PAIR_FAULT raised. -/
def State.pairFail (s : State) (w : Win) (m a reason : Nat) : State :=
  (((s.setComp w none).setReg A.CFC_PAIR_ADDR (wd a)).modReg A.CFC_PAIR_INFO
    (fun i => satAdd (setFld (setFld i 0 4 m) 4 4 reason) 16 16 1)).setBitReg A.CFC_STAT 8 |>.raise 120

/-- LK: a write after LOCK is ignored, captured and reported (Table RING-12). -/
def State.lockReject (s : State) (a : Nat) : State :=
  ((s.setReg A.CFC_LOCK_ADDR (wd a)).setBitReg A.CFC_STAT 9).raise 122

/-- BLK_LOCK.LOCK of a window (Table RING-13). -/
def State.locked (s : State) (w : Win) : Bool := s.flag (w.base + 0x3FC) 0

/-- Is the register at this address a WP register? -/
def isWp (a : Nat) : Bool :=
  match regInfo a with
  | some r => r.acc == .wp
  | none => false

/-- Does the register at this address carry LK beside its type? -/
def isLk (a : Nat) : Bool :=
  match regInfo a with
  | some r => r.lk
  | none => false

/-- Does the register at this address reside on the power die (R18)? -/
def isPd (a : Nat) : Bool :=
  match regInfo a with
  | some r => r.pd
  | none => false

/-- R102, R103, Table RING-14: judges a write of `v` to a WP register. `true` when the pair passes; the complement is
consumed either way. -/
def State.judgePair (s : State) (w : Win) (m a size : Nat) (v : Word) : State × Bool :=
  if size ≠ 4 then (s.pairFail w m a 5, false)
  else match s.pendingComp w with
    | none => (s.pairFail w m a 1, false)
    | some (m', a', c) =>
      if m' ≠ m then (s.pairFail w m a 7, false)
      else if a' ≠ a then (s.pairFail w m a 4, false)
      else if v ≠ ~~~ c then (s.pairFail w m a 2, false)
      else (s.setComp w none, true)

/-- The masters the link stalls (R28, R29): those with a read outstanding or a write beyond the sixteenth. -/
def State.stalled (s : State) (m : Nat) : Bool :=
  let inFl := match s.link.flight with | some f => [f.req] | none => []
  let all := inFl ++ s.link.queue
  all.any (fun r => r.isRead && r.master == m) ||
    ((all.filter (fun r => ! r.isRead)).drop 16).any (fun r => r.master == m)

/-- May this master issue an access now? A core must run (Table PMU-15), H0 and H1 are clock-gated in DOZE (R250), and a
stalled master waits (R28, R29). -/
def State.mayIssue (s : State) (m : Nat) : Bool :=
  (m == mDBG || (decide (m ≤ 6) && s.coreRuns m && !(decide (m ≤ 1) && decide (s.pmu.mode = .doze)))) && !s.stalled m

/-- R51, Table ARC-9: may this master write registers of the window? M only reads CLK. -/
def windowWrites (m : Nat) (w : Win) : Bool := windowReach m w && !(m == mM && decide (w = .clk))

/-- R697: a write by the shadowed or parked H core that is to be ignored. -/
def State.shadowed (s : State) (m : Nat) (w : Win) : Bool :=
  ((s.flag A.UPD_STAT 1 && m == mH1) || (s.flag A.UPD_STAT 2 && s.standsFor m == mH1 && m ≤ 1)) &&
    !([Win.upd, .sem, .evr, .tmb, .cry, .pke, .trng].contains w)

/-- R697: such a write is counted. -/
def State.shadowNote (s : State) : State :=
  ((s.modReg A.UPD_CNT (fun w => satAdd w 24 8 1)).setBitReg A.UPD_ERR 1).raise 909

/-- R3, R51, R53, R245, R634, R697: a write reaches a window only from a master that may issue it and reaches it, while the block is present
and its domain on; an absent block's window takes writes only in its ring slots and doorbell (R5), and the VLT window only H0's. -/
def State.atWindow (s : State) (w : Win) (m a : Nat) (eff : State → State) : State :=
  if !s.mayIssue m then s
  else if !windowWrites m w then (s.fabDeny m a true false 0).answer m 0#32 .storeFault
  else if s.shadowed m w then s.shadowNote
  else if w = .vlt ∧ s.standsFor m ≠ mH0 then s
  else if !s.present w then
    (if 0x400 ≤ a % 0x1000 ∧ a % 0x1000 ≤ 0x600 then eff s else s)
  else if !s.domOn w.domain then s.offAccess
  else eff s

/-- A write by the WP procedure: `eff` is what the register's write does once the pair has passed and no lock stands
(R102, R881). -/
def State.wpWrite (s : State) (w : Win) (m a size : Nat) (v : Word) (eff : State → State) : State :=
  s.atWindow w m a (fun s =>
    match s.judgePair w m a size v with
    | (s1, false) => s1
    | (s1, true) => if isLk a && s1.locked w then s1.lockReject a else eff s1)

/-- R104: any other write to a window whose complement is pending fails that pair and itself takes effect. -/
def State.disturb (s : State) (w : Win) (m a : Nat) : State :=
  match s.pendingComp w with
  | some _ => s.pairFail w m a 4
  | none => s

/-- A write to a register that is not WP: `eff` is its effect. -/
def State.plainWrite (s : State) (w : Win) (m a : Nat) (eff : State → State) : State :=
  s.atWindow w m a (fun s =>
    let s1 := s.disturb w m a
    if isLk a && s1.locked w then s1.lockReject a else eff s1)

/-- COMPLEMENT_WRITE (R102 to R105): stores a pending complement or fails a pair. -/
def State.compWrite (s : State) (w : Win) (m a size : Nat) (v : Word) : State :=
  s.atWindow w m a (fun s =>
    if size ≠ 4 then s.pairFail w m a 5
    else if !isWp (a - 0x800) then s.pairFail w m a 6
    else match s.pendingComp w with
      | some _ => s.pairFail w m a 4
      | none => s.setComp w (some (m, a - 0x800, v)))

/-- RW: byte and halfword writes change the addressed bytes; then the field laws. -/
def State.rwStore (s : State) (a size : Nat) (v : Word) : State :=
  let b := a - a % 4
  s.store b (mergeLanes (s.reg b) (a % 4) size v)

/-- W1C: a 1 clears the bit, within the addressed bytes. -/
def State.w1cStore (s : State) (a size : Nat) (v : Word) : State :=
  let b := a - a % 4
  s.modReg b (fun old => old &&& ~~~ (mergeLanes 0#32 (a % 4) size v))

/-- The bits a W1C write names, within the addressed bytes. -/
def w1cBits (a size : Nat) (v : Word) : Word := mergeLanes 0#32 (a % 4) size v

/-! ## Words in error -/

/-- A line of flash is erased: all 0xFF, and no erase that ended early has left it otherwise; it is not checked (R191, R195). -/
def State.lineErased (s : State) (a : Nat) : Bool :=
  s.flashEcc.get (fun _ => 0) (a / 16) != 3 && (s.bytes (a - a % 16) 16).all (· == 0xFF#8)

/-- Table CTR-14: the array code and the word offset of a RAM address. -/
def ramArray (a : Nat) : Option (Nat × Nat) :=
  match regionOf a with
  | .hostSram b => some (b, (a - 0x20000000 - b * 0x40000) / 4)
  | .aonSram => some (4, (a - 0x20100000) / 4)
  | .engRam => some (5, (a - 0x30000000) / 4)
  | .pwrRam => some (6, (a - 0x30200000) / 4)
  | .metRam => some (7, (a - 0x30400000) / 4)
  | .safA => some (8, (a - 0x30600000) / 4)
  | .safB => some (9, (a - 0x30800000) / 4)
  | _ => none

/-- R181, R182: an uncorrectable word is captured in SCR_LAST and raises SCR_UNCORR. -/
def State.scrUncorr (s : State) (arr word : Nat) (fromRead : Bool) : State :=
  ((s.setBitReg A.SCR_ERR 1).setReg A.SCR_LAST
    (setFld (setBit (setFld 0#32 0 4 arr) 4 fromRead) 16 16 word)).raise 1194

/-- R191: an uncorrectable flash line is reported. -/
def State.flcUncorr (s : State) (a : Nat) : State :=
  ((s.setBitReg A.FLC_ERR 2).setReg A.FLC_ERRADDR (wd a)).raise 1203

/-- ECC state of the RAM word at a physical address: 0 good, 1 correctable, 2 not. -/
def State.ecc (s : State) (a : Nat) : Nat := s.ramEcc.get (fun _ => 0) (a / 4)

/-- Sets the ECC state of the RAM word at a physical address. -/
def State.setEcc (s : State) (a v : Nat) : State := { s with ramEcc := s.ramEcc.set (fun _ => 0) (a / 4) v }

/-- A read of the flash line at this address meets an uncorrectable error (R191). -/
def State.lineBad (s : State) (a : Nat) : Bool := s.flashEcc.get (fun _ => 0) (a / 16) == 2 && !s.lineErased a

/-- The first RAM word or flash line in a range of a host's view whose error is uncorrectable, by physical address (R182, R191).
A view only swaps the halves of a RAM, so the view of a physical address is its address in the view. -/
def State.badRead (s : State) (host a len : Nat) : Option Nat :=
  let meets (p n : Nat) : Bool := decide (s.phys host p < a + len) && decide (a < s.phys host p + n)
  match s.ramEcc.find? (fun e => s.ecc (4 * e.1) == 2 && meets (4 * e.1) 4) with
  | some e => some (4 * e.1)
  | none => match s.flashEcc.find? (fun e => s.lineBad (16 * e.1) && meets (16 * e.1) 16) with
    | some e => some (16 * e.1)
    | none => none

/-- R182, R191: a unit has read a word or line whose error is uncorrectable. -/
def State.unitUncorr (s : State) (pa : Nat) : State :=
  match ramArray pa with
  | some (arr, off) => s.scrUncorr arr off true
  | none => s.flcUncorr pa

/-! ## Posting to the power die -/

/-- A transaction is issued on the link (R29, R30). -/
def State.linkPush (s : State) (r : LinkReq) : State := { s with link := { s.link with queue := s.link.queue ++ [r] } }

/-- Posted writes that hold an entry of the 16-entry queue (R29). -/
def State.linkHeld (s : State) : Nat :=
  (s.link.queue.filter (fun r => ! r.isRead)).length +
    (match s.link.flight with | some f => if f.req.isRead then 0 else 1 | none => 0)

/-- LML_STAT.QUEUE follows the entries held, 0 to 16 (R29). -/
def State.syncQueue (s : State) : State := s.setField A.LML_STAT 8 8 (min 16 s.linkHeld)

/-- The link is trained and passing frames (LML_STAT.UP). -/
def State.linkUp (s : State) : Bool := s.flag A.LML_STAT 0

/-- R34, R37: a lost write is reported. -/
def State.writeLost (s : State) (a : Nat) : State :=
  ((s.setBitReg A.LML_ERR 2).setReg A.LML_FAIL_ADDR (wd a)).raise 25

/-- R33, R37: a failed read returns 0 and is reported. -/
def State.readFail (s : State) (m a : Nat) : State :=
  (((s.setBitReg A.LML_ERR 3).setReg A.LML_FAIL_ADDR (wd a)).raise 24).answer m 0#32 .ok

/-- R29, R37: a write to a power-die register. -/
def State.pdWrite (s : State) (m a size : Nat) (v : Word) : State :=
  if s.linkUp then (s.linkPush ⟨m, a - a % 4, false, a % 4, size, v, false⟩).syncQueue else s.writeLost a

/-- R28, R37: a read of a power-die register. -/
def State.pdRead (s : State) (m a size : Nat) : State :=
  if s.linkUp then s.linkPush ⟨m, a - a % 4, true, a % 4, size, 0#32, false⟩ else s.readFail m a

end Sys2Proof.Machine
end

