-- ==== Sys2Proof/Machine/Contracts.lean ====
section
/-! DEFINITION. Adaptive loops, fairness slots and commit gates (04, R146 to R179). -/
namespace Sys2Proof.Machine

/-! ## Adaptive loops -/

/-- LOOP_CTL of loop `n` of a window (Table CTR-5). -/
def loopA (w : Win) (n : Nat) : Nat := w.base + 0x700 + 0x10 * n
/-- LOOP_LO. -/
def loopLoA (w : Win) (n : Nat) : Nat := loopA w n + 4
/-- LOOP_HI. -/
def loopHiA (w : Win) (n : Nat) : Nat := loopA w n + 8

/-- The row of Table CTR-2. -/
def loopDef (w : Win) (n : Nat) : Option LoopDef := loopDefs.find? (fun l => l.win = w && l.n == n)

/-- What an element that nothing has moved holds: the loop's default (Table CTR-2). -/
def elemReset (k : Nat) : Nat :=
  match winOf (k / 256) with
  | some w => match loopDef w ((k / 256 - (w.base + 0x700)) / 0x10) with
    | some l => l.dflt
    | none => 0
  | none => 0

/-- Element `e` of a loop. -/
def State.elem (s : State) (w : Win) (n e : Nat) : Nat := s.elems.get elemReset (loopA w n * 256 + e)

/-- Sets an element. -/
def State.setElem (s : State) (w : Win) (n e v : Nat) : State :=
  { s with elems := s.elems.set elemReset (loopA w n * 256 + e) v }

/-- Hidden state of a loop that nothing has changed: PARK, the core voltage loop in RUN (R147). -/
def loopReset (k : Nat) : LoopSt := if k = 0x40000700 then { mode := 1 } else {}

/-- The hidden state of a loop. -/
def State.loop (s : State) (w : Win) (n : Nat) : LoopSt := s.loops.get loopReset (loopA w n)

/-- Sets the hidden state of a loop. -/
def State.setLoop (s : State) (w : Win) (n : Nat) (x : LoopSt) : State :=
  { s with loops := s.loops.set loopReset (loopA w n) x }

/-- LOOP_LO.LO. -/
def State.loopLo (s : State) (w : Win) (n : Nat) : Nat := s.field (loopLoA w n) 0 16
/-- LOOP_HI.HI. -/
def State.loopHi (s : State) (w : Win) (n : Nat) : Nat := s.field (loopHiA w n) 0 16

/-- Number of elements of a loop now: the tooth positions of the CRK pattern for ANG loop 0 (R148). -/
def State.loopElems (s : State) (w : Win) (n : Nat) : Nat :=
  match loopDef w n with
  | some l => if w = .ang then max 1 (min 144 s.crkPositions) else l.elems
  | none => 0

/-- The pin state of an element: 0 not pinned, 1 at LO, 2 at HI. -/
def LoopSt.pin (x : LoopSt) (e : Nat) : Nat := x.pins.get (fun _ => 0) e

/-- Sets the pin state of an element. -/
def LoopSt.setPin (x : LoopSt) (e v : Nat) : LoopSt := { x with pins := x.pins.set (fun _ => 0) e v }

/-- R152, R153: the status bits of LOOP_CTL follow the pinned elements and the bounds; the pin event is raised when
PINNED goes from 0 to 1 after 1 s unpinned or for the first time since RUN. -/
def State.syncLoop (s : State) (w : Win) (n : Nat) : State :=
  let x := s.loop w n
  let was := s.flag (loopA w n) 16
  let now := x.pins.head?
  let err := decide (s.loopHi w n < s.loopLo w n)
  let s1 := s.modReg (loopA w n) (fun c =>
    let c := setBit (setBit c 16 now.isSome) 18 err
    match now with
    | some (e, v) => setFld (setBit c 17 (v == 2)) 24 8 e
    | none => setFld (setBit c 17 false) 24 8 0)
  match now, was with
  | none, true => s1.setLoop w n { x with clearedAt := s.now }
  | some _, false =>
    let tells := x.first || decide (x.clearedAt + 400000000 ≤ s.now)
    let s2 := s1.setLoop w n { x with first := false }
    if tells then (match loopDef w n with | some l => s2.raise l.pin | none => s2) else s2
  | _, _ => s1

/-- R151, R152: one step carries element `e` to `want`, an integer that may lie beyond the bounds. -/
def State.stepElem (s : State) (w : Win) (n e : Nat) (want : Int) : State :=
  let lo := s.loopLo w n
  let hi := s.loopHi w n
  let x := s.loop w n
  let pos := (max (lo : Int) (min (hi : Int) want)).toNat
  let pin := if lo = hi then 0 else if want < lo then 1 else if (hi : Int) < want then 2
             else if pos = lo ∧ x.pin e = 1 then 1 else if pos = hi ∧ x.pin e = 2 then 2 else 0
  (s.setElem w n e pos).setLoop w n (x.setPin e pin)

/-- R155: an element outside the bounds moves to the nearer one; that does not pin it. -/
def State.clampElem (w : Win) (n : Nat) (s : State) (e : Nat) : State :=
  let p := s.elem w n e
  let q := clampNat (s.loopLo w n) (s.loopHi w n) p
  if p = q then s else (s.setElem w n e q).setLoop w n ((s.loop w n).setPin e 0)

/-- R158: the mode written to LOOP_CTL takes effect. Entering RUN makes the next pin the first; PARK discards the
statistics and returns every element to the default. -/
def State.applyMode (s : State) (w : Win) (n : Nat) : State :=
  let x := s.loop w n
  let m := s.field (loopA w n) 0 2
  if m = 1 then s.setLoop w n { x with mode := 1, first := x.first || x.mode != 1 }
  else if m = 2 then s.setLoop w n { x with mode := 2 }
  else s.setLoop w n { x with mode := 0, pins := [], stats := 0 }

/-- PARK: every element rests at the default, clamped into the bounds (R158). -/
def State.parkElems (s : State) (w : Win) (n : Nat) : State :=
  match loopDef w n with
  | some l => (List.range (s.loopElems w n)).foldl (fun s e =>
      s.setElem w n e (clampNat (s.loopLo w n) (s.loopHi w n) l.dflt)) s
  | none => s

/-- One loop step (R151 to R158): the pending mode takes effect, elements outside the bounds move to them, and in RUN
element `e` steps to `want` for each pair of the list. In FREEZE only the statistics grow. While LO is greater than HI
nothing moves and nothing is pinned (R156). -/
def State.loopStep (s : State) (w : Win) (n : Nat) (wants : List (Nat × Int)) : State :=
  let s1 := s.applyMode w n
  if s1.loopHi w n < s1.loopLo w n then
    (s1.setLoop w n { (s1.loop w n) with pins := [] }).syncLoop w n
  else match (s1.loop w n).mode with
    | 0 => (s1.parkElems w n).syncLoop w n
    | m =>
      let s2 := (List.range (s1.loopElems w n)).foldl (State.clampElem w n) s1
      let s3 := if m = 1 then wants.foldl (fun s p => if p.1 < s.loopElems w n then s.stepElem w n p.1 p.2 else s) s2 else s2
      (s3.setLoop w n { (s3.loop w n) with stats := (s3.loop w n).stats + 1 }).syncLoop w n

/-- R149, R152, R154 to R156: the effect of a bound write that has passed its pair: the value is clamped into the legal
range, an element off the bounds stops counting as pinned, and equal bounds unpin all. -/
def State.boundEffect (s : State) (w : Win) (n : Nat) (hi : Bool) (v : Word) : State :=
  let s1 := s.store (if hi then loopHiA w n else loopLoA w n) v
  let lo' := s1.loopLo w n
  let hi' := s1.loopHi w n
  let x := s1.loop w n
  let keep := x.pins.filter (fun p =>
    decide (lo' < hi') && ((p.2 == 1 && s1.elem w n p.1 == lo') || (p.2 == 2 && s1.elem w n p.1 == hi')))
  (s1.setLoop w n { x with pins := keep }).syncLoop w n

/-- R157: a write of LOOP_POS, judged by the mode in force. -/
def State.posEffect (s : State) (w : Win) (n : Nat) (v : Nat) : State :=
  let x := s.loop w n
  if x.mode = 0 ∨ s.loopHi w n < s.loopLo w n then s.setBitReg (loopA w n) 19
  else
    let e := s.field (loopA w n) 8 8
    let p := clampNat (s.loopLo w n) (s.loopHi w n) v
    let keep := if x.pin e = 1 ∧ p = s.loopLo w n then 1 else if x.pin e = 2 ∧ p = s.loopHi w n then 2 else 0
    (((s.clrBitReg (loopA w n) 19).setElem w n e p).setLoop w n (x.setPin e keep)).syncLoop w n

/-- A write of LOOP_CTL: MODE (3 stores 2) waits for the next step; ELEM at or above the count stores 0 (Table CTR-6);
the status fields ignore writes (R200). -/
def State.loopCtlEffect (s : State) (w : Win) (n size lane : Nat) (v : Word) : State :=
  let a := loopA w n
  let s1 := s.store a (mergeLanes (s.reg a) lane size v)
  if s1.loopElems w n ≤ s1.field a 8 8 then s1.setField a 8 8 0 else s1

/-- R160: only a reset of the block's power domain returns a loop to its reset state. -/
def State.resetLoops (s : State) (w : Win) : State :=
  { s with
    elems := s.elems.resetWhere (fun k => decide (winOf (k / 256) = some w))
    loops := s.loops.resetWhere (fun k => decide (winOf k = some w)) }

/-! ## Fairness slots -/

/-- R163: the step in hand of a background activity is preempted once more; at 64 a fairness slot starts. -/
def State.bgPreempt (s : State) (w : Win) : State :=
  let a := w.base + 0x3F0
  s.modReg a (fun b => if 63 ≤ fld b 0 7 then satAdd (setBit (setFld b 0 7 0) 7 true) 16 16 1 else satAdd b 0 7 1)

/-- R163: a background step completes: the count returns to 0 and a running slot ends. -/
def State.bgStepDone (s : State) (w : Win) : State := s.modReg (w.base + 0x3F0) (fun b => setFld b 0 8 0)

/-- The windows that run a background activity (Table CTR-3). -/
def Win.background : Win → Bool
  | .scr | .flc | .met | .eng | .pwm | .key | .tlm => true
  | _ => false

/-! ## Commit gates -/

/-- GATE_CFG of gate `g` of a window. -/
def gateA (w : Win) (g : Nat) : Nat := w.base + 0x300 + 0x10 * g

/-- The row of Table CTR-4. -/
def gateDef (w : Win) (g : Nat) : Option GateDef := gateDefs.find? (fun d => d.win = w && d.g == g)

/-- The hidden state of a gate. -/
def State.gate (s : State) (w : Win) (g : Nat) : GateSt := s.gates.get (fun _ => {}) (gateA w g)

/-- Sets the hidden state of a gate. -/
def State.setGate (s : State) (w : Win) (g : Nat) (x : GateSt) : State :=
  { s with gates := s.gates.set (fun _ => {}) (gateA w g) x }

/-- GATE_CNT.SEQ. -/
def State.gateSeq (s : State) (w : Win) (g : Nat) : Nat := s.field (gateA w g + 12) 0 8

/-- The host core of a gate: its row's host; on a part without E, the primary host core (R2, R170, R702). -/
def State.gateHost (s : State) (w : Win) (g : Nat) : Nat :=
  match gateDef w g with
  | some d => if d.host = mE ∧ ! corePresent s.opt mE then s.primaryHost else d.host
  | none => 0xF

/-- R170 to R172: a write of GATE_CMT; `staged` are the values staged at that moment. -/
def State.gateCommit (s : State) (w : Win) (g m size : Nat) (v : Word) (staged : List Nat) : State :=
  let seq := s.gateSeq w g
  if m ≠ s.gateHost w g ∨ size ≠ 4 then s.setBitReg (gateA w g + 4) 2
  else if fld v 0 8 = seq then s.setGate w g { (s.gate w g) with commit := some staged }
  else if fld v 0 8 = (seq + 255) % 256 then s.setBitReg (gateA w g + 4) 1
  else s.setBitReg (gateA w g + 4) 2

/-- DECAY at the k-th overrun of `n`: start + (target - start) * k / n, to the nearest step, a tie toward the target
(R174). -/
def decayStep (start target k n : Nat) : Nat :=
  if n ≤ k then target
  else
    let d : Int := (target : Int) - start
    let a := d.natAbs * k
    let q := a / n
    let r := a % n
    let m := if n ≤ 2 * r then q + 1 else q
    if 0 ≤ d then start + m else start - m

/-- What a gate hands its unit at a deadline. -/
inductive GateOut where
  /-- the values of an on-time commit -/
  | fresh (vs : List Nat)
  /-- HOLD: the last applied values, limited to the clamp value when the flag is set -/
  | hold (vs : List Nat) (clamp : Bool)
  /-- DECAY: these values -/
  | decay (vs : List Nat)
  /-- the SAFE value -/
  | safe
  deriving DecidableEq, Repr

/-- R173 to R178: one deadline of a gate: the values to apply, and the state after counting and escalating. `target` is
the DECAY target of each value. -/
def State.gateDeadline (s : State) (w : Win) (g : Nat) (target : Nat) : State × GateOut :=
  let x := s.gate w g
  let cfg := s.reg (gateA w g)
  let esc := s.flag (gateA w g + 4) 3
  let s1 := s.modReg (gateA w g + 12) (fun c => wrapAdd c 0 8 1)
  match x.commit with
  | some vs =>
    let s2 := s1.setField (gateA w g + 12) 8 8 0
    if esc then (s2.setGate w g { x with commit := none, safe := true, lastOk := true, okRun := x.okRun + 1 }, .safe)
    else (s2.setGate w g { x with commit := none, applied := vs, safe := false, lastOk := true, okRun := x.okRun + 1 }, .fresh vs)
  | none =>
    let s2 := (s1.setBitReg (gateA w g + 4) 0).modReg (gateA w g + 12) (fun c => satAdd (satAdd c 8 8 1) 16 16 1)
    let consec := s2.field (gateA w g + 12) 8 8
    let s3 := if bit cfg 3 then (match gateDef w g with | some d => s2.raise d.ovr | none => s2) else s2
    let first := s.field (gateA w g + 12) 8 8 = 0
    let start := if first then x.applied else x.start
    if !esc && decide (fld cfg 16 8 ≤ consec) then
      let s4 := (s3.setBitReg (gateA w g + 4) 3).setGate w g { x with commit := none, start := start, safe := true, lastOk := false, okRun := 0, escAt := s.now }
      ((match gateDef w g with | some d => s4.raise (d.ovr + 1) | none => s4), .safe)
    else if esc || x.safe then (s3.setGate w g { x with commit := none, start := start, safe := true, lastOk := false, okRun := 0 }, .safe)
    else match fld cfg 0 2 with
      | 0 => (s3.setGate w g { x with commit := none, start := start, lastOk := false, okRun := 0 }, .hold x.applied (bit cfg 2))
      | 1 => (s3.setGate w g { x with commit := none, start := start, lastOk := false, okRun := 0 },
              .decay (start.map (fun v => decayStep v target consec (fld cfg 8 8))))
      | _ => (s3.setGate w g { x with commit := none, start := start, safe := true, lastOk := false, okRun := 0 }, .safe)

/-- R177: the W1C write of GATE_STAT; ESCALATED clears only if the most recent deadline found an on-time commit. -/
def State.gateStatClear (s : State) (w : Win) (g : Nat) (bits : Word) : State :=
  let m := if (s.gate w g).lastOk then bits else bits &&& ~~~ (bitMask 3)
  s.modReg (gateA w g + 4) (fun old => old &&& ~~~ m)

end Sys2Proof.Machine
end

