-- ==== Sys2Proof/Machine/Fabric.lean ====
section
/-! DEFINITION. Core accesses: reach, protection, caches, ECC, reservations and access faults (01, R44 to R55; 04, R182, R191). -/
namespace Sys2Proof.Machine

/-- The access fault of a kind of access (R53). -/
def AccKind.fault : AccKind → Exc
  | .load => .loadFault
  | .store => .storeFault
  | .fetch => .fetchFault

/-- The bytes a PMP region matches: the region's index `i`, by mode (RISC-V; granularity 32 bytes, R45). -/
def State.pmpMatch (s : State) (core i a : Nat) : Bool :=
  let p := s.pmp.get (fun _ => {}) (core * 16 + i)
  let top := p.addr.toNat / 8 * 8 * 4
  match p.mode with
  | .off => false
  | .tor =>
    let bot := if i = 0 then 0 else (s.pmp.get (fun _ => {}) (core * 16 + i - 1)).addr.toNat / 8 * 8 * 4
    decide (bot ≤ a ∧ a < top)
  | .napot =>
    let ones := ((List.range 32).takeWhile (fun k => p.addr.getLsbD k)).length
    let size := 2 ^ (max 5 (ones + 3))
    decide (a / size = p.addr.toNat * 4 / size)

/-- Does physical memory protection of H0 or H1 allow an access? Machine mode passes unless a locked region refuses. -/
def State.pmpAllows (s : State) (core : Nat) (user : Bool) (k : AccKind) (a : Nat) : Bool :=
  if core = mH0 ∨ core = mH1 then
    match (List.range 16).find? (fun i => s.pmpMatch core i a) with
    | some i =>
      let p := s.pmp.get (fun _ => {}) (core * 16 + i)
      let ok := match k with | .load => p.r | .store => p.w | .fetch => p.x
      ok || (!user && !p.locked)
    | none => !user
  else true

/-- R45: a write of a PMP region; NA4 (2) stores OFF; a locked region keeps its contents. -/
def State.pmpWrite (s : State) (core i mode : Nat) (addr : Word) (r w x l : Bool) : State :=
  let old := s.pmp.get (fun _ => {}) (core * 16 + i)
  if (core = mH0 ∨ core = mH1) ∧ i < 16 ∧ !old.locked then
    let md : PmpMode := if mode = 1 then .tor else if mode = 3 then .napot else .off
    { s with pmp := s.pmp.set (fun _ => {}) (core * 16 + i) ⟨md, addr, r, w, x, l⟩ }
  else s

/-- A memory read of `size` bytes at a physical address; `k` is load or fetch. -/
def State.memRead (s : State) (m : Nat) (k : AccKind) (pa size : Nat) : State :=
  let w := s.word (pa - pa % 4)
  let v := readLanes w (pa % 4) size
  match regionOf pa with
  | .flashA | .flashB | .info =>
    if s.lineBad pa then (s.flcUncorr (pa - pa % 16)).answer m 0#32 k.fault
    else if s.flashEcc.get (fun _ => 0) (pa / 16) = 1 then (s.modReg A.FLC_CNT (fun c => satAdd c 0 16 1)).answer m v .ok
    else s.answer m v .ok
  | _ =>
    match ramArray pa, s.ecc pa with
    | some (arr, off), 2 => (s.scrUncorr arr off true).answer m 0#32 k.fault
    | _, _ => s.answer m v .ok

/-- A memory write of `size` bytes at a physical address (R182); it ends other cores' reservations on the word. -/
def State.memWrite (s : State) (m pa size : Nat) (v : Word) : State :=
  if s.ecc pa = 2 ∧ size ≠ 4 then s.answer m 0#32 .storeFault
  else
    let a := pa - pa % 4
    let s1 := (s.setWord a (mergeLanes (s.word a) (pa % 4) size v)).setEcc a 0
    let s2 := { s1 with lr := (List.range 4).foldl (fun t c =>
      if t.get (fun _ => none) c = some a then t.set (fun _ => none) c none else t) s1.lr }
    s2.answer m 0#32 .ok

/-- The cached bytes of a fetch by H0 or H1, when all of them are in the cache and the line has been kept (R49, R50).
Which lines a full cache drops the spec does not say: a free choice. -/
def State.icacheHit (s : State) (m a size : Nat) : Option Word :=
  let bs := (List.range size).map (fun i => s.icache.get (fun _ => none) (m * 0x100000000 + a + i))
  if bs.all Option.isSome ∧ s.freeNat % 2 = 0 then
    some (bs.reverse.foldl (fun (acc : Word) b => (acc <<< 8) ||| ((b.getD 0#8).setWidth 32)) 0#32)
  else none

/-- Fills the cache with the bytes just fetched. -/
def State.icacheFill (s : State) (m a size : Nat) : State :=
  { s with icache := (List.range size).foldl (fun t i =>
      t.set (fun _ => none) (m * 0x100000000 + a + i) (some (s.byte (a + i)))) s.icache }

/-- Is this address cached for instruction fetches of H0 and H1 (R49)? -/
def cachedRegion : Region → Bool
  | .bootRom | .flashA | .flashB => true
  | _ => false

/-- R53: a denied core access. -/
def State.denyCore (s : State) (m : Nat) (k : AccKind) (a : Nat) : State :=
  (s.fabDeny m a (k == .store) (k == .fetch) 0).answer m 0#32 k.fault

/-- CORE_MEMORY_ACCESS (R45 to R53, R55, R60, R64, R182, R191, R245). `winRead` and `winWrite` are the accesses to a
peripheral window, `vaultRead` the read of the calendar state. -/
def coreAccess (winRead : Nat → Nat → Nat → State → State) (winWrite : Nat → Nat → Nat → Word → State → State)
    (vaultRead : Nat → Nat → Nat → State → State)
    (m : Nat) (k : AccKind) (user : Bool) (a size : Nat) (v : Word) (s : State) : State :=
  if !s.mayIssue m then s
  else if a % size ≠ 0 ∧ k ≠ .fetch then s.answer m 0#32 (if k = .load then .loadMisaligned else .storeMisaligned)
  else if !s.pmpAllows m user k a then s.answer m 0#32 k.fault
  else
    let pa := s.phys m a
    let r := regionOf pa
    let isCached := k = .fetch ∧ (m = mH0 ∨ m = mH1) ∧ cachedRegion r ∧ s.coreReach m k r
    match (if isCached then s.icacheHit m pa size else none) with
    | some w => s.useFree.answer m w .ok
    | none =>
      if !s.coreReach m k r || !s.regionOn r then s.denyCore m k a
      else if s.regionAbsent r then s.answer m 0#32 .ok
      else match r, k with
        | .window _, .store => (winWrite m pa size v s).answer m 0#32 .ok
        | .window _, _ => winRead m pa size s
        | .calendar, _ => vaultRead m pa size s
        | _, .store => s.memWrite m pa size v
        | _, _ =>
          if isCached then (if s.lineBad pa then s.useFree else s.useFree.icacheFill m pa size).memRead m k pa size
          else s.memRead m k pa size

/-- The value an AMO stores. -/
def AmoOp.result (o : AmoOp) (old v : Word) : Word :=
  match o with
  | .lr => old
  | .sc | .swap => v
  | .add => old + v
  | .and => old &&& v
  | .or => old ||| v
  | .xor => old ^^^ v
  | .min => if old.toInt ≤ v.toInt then old else v
  | .max => if old.toInt ≤ v.toInt then v else old
  | .minu => if old.toNat ≤ v.toNat then old else v
  | .maxu => if old.toNat ≤ v.toNat then v else old

/-- R47: may an LR, SC or AMO of this core complete on the region? -/
def amoRegion (m : Nat) : Region → Bool
  | .hostSram _ | .aonSram => decide (m ≤ 3)
  | .engRam => m == mE
  | .pwrRam => m == mP
  | _ => false

/-- AMO_INSTRUCTION (R44, R46, R47, R182). M, SA and SB have no A extension. -/
def amoInstruction (m : Nat) (o : AmoOp) (a : Nat) (v : Word) (s : State) : State :=
  if !s.mayIssue m then s
  else if 4 ≤ m then s.answer m 0#32 .illegal
  else if a % 4 ≠ 0 then s.answer m 0#32 (if o = .lr then .loadMisaligned else .storeMisaligned)
  else
    let pa := s.phys m a
    let r := regionOf pa
    if amoRegion m r && s.regionOn r then
      let old := s.word pa
      if s.ecc pa = 2 ∧ o ≠ .sc then
        match ramArray pa with
        | some (arr, off) => (s.scrUncorr arr off true).answer m 0#32 (if o = .lr then .loadFault else .storeFault)
        | none => s
      else match o with
        | .lr => ({ s with lr := s.lr.set (fun _ => none) m (some pa) }).answer m old .ok
        | .sc =>
          let s1 := { s with lr := s.lr.set (fun _ => none) m none }
          if s.lr.get (fun _ => none) m = some pa then (s1.memWrite m pa 4 v).answer m 0#32 .ok else s1.answer m 1#32 .ok
        | o => (s.memWrite m pa 4 (o.result old v)).answer m old .ok
    else
      let denied := !s.coreReach m .load r && !s.coreReach m .store r
      let s1 := if denied || !s.regionOn r then s.fabDeny m a (o != .lr) false 0 else s
      s1.answer m 0#32 .storeFault

/-- FENCE_I (R50): the executing H core's whole instruction cache is invalidated. -/
def fenceI (m : Nat) (s : State) : State :=
  { s with icache := s.icache.resetWhere (fun k => k / 0x100000000 == m) }

/-- TIME_CSR_WRITE (R48). -/
def timeCsrWrite (m : Nat) (s : State) : State := s.answer m 0#32 .illegal

/-- MISALIGNED_ACCESS (R46). -/
def misalignedAccess (m : Nat) (isStore : Bool) (s : State) : State :=
  s.answer m 0#32 (if isStore then .storeMisaligned else .loadMisaligned)

end Sys2Proof.Machine
end

