-- ==== Sys2Proof/Machine/OpTable.lean ====
section
/-! DEFINITION. The descriptor opcodes of every unit with the limits that steps 2 to 5 of Table RING-4 judge, and the
hosts each ring accepts, from the opcode tables and host rules of every chapter. -/
namespace Sys2Proof.Machine

/-- What an address field of an opcode is used for. -/
inductive AddrUse where
  /-- not an address -/
  | none
  /-- read; `len` bytes, or LENGTH bytes when `len` is 0 -/
  | rd (len : Nat)
  /-- written; `len` bytes, or LENGTH bytes when `len` is 0 -/
  | wr (len : Nat)
  deriving DecidableEq, Repr

/-- One opcode of a unit: LENGTH limits, alignments, address uses and whether LINK is permitted. -/
structure OpInfo where
  op : Nat
  lenMin : Nat
  lenMax : Nat
  lenMul : Nat := 1
  alA : Nat := 1
  alB : Nat := 1
  a : AddrUse := .none
  b : AddrUse := .none
  link : Bool := false
  /-- LENGTH meets the opcode's own limits (step 3) -/
  lenOk : Bool := true
  /-- further addresses: value, alignment, use -/
  more : List (Nat × Nat × AddrUse) := []
  /-- the address ranges overlap as the opcode forbids (step 5) -/
  clash : Bool := false
  deriving DecidableEq, Repr

end Sys2Proof.Machine
end

