-- ==== Sys2Proof/Machine/Hosts.lean ====
section
/-! DEFINITION. Which hosts each ring accepts and which opcodes each unit defines (the host and opcode rules of every
chapter), and what holds a unit's fetching (R204). -/
namespace Sys2Proof.Machine

/-! ## Cipher descriptors (R638 to R643, Tables CRY-3 to CRY-6) -/

/-- The message context of a CRY ring. -/
def State.cryCtx (s : State) (n : Nat) : CryCtx := s.cry.ctx.get (fun _ => {}) n

/-- A descriptor of ring `n` continues a message (R642). -/
def State.cryCont (s : State) (n : Nat) : Bool := (s.cryCtx n).live

/-- TAG_LEN is legal for the opcode (Table CRY-4). -/
def tagLenOk (op t : Nat) : Bool :=
  match op with
  | 0x10 | 0x11 => decide (12 ≤ t ∧ t ≤ 16)
  | 0x12 | 0x13 => decide (4 ≤ t ∧ t ≤ 16) && t % 2 == 0
  | 0x16 | 0x1A => decide (8 ≤ t ∧ t ≤ 16)
  | 0x1B => decide (8 ≤ t ∧ t ≤ 48)
  | _ => true

/-- TAG_LEN of a descriptor. -/
def cryTagLen (d : List Word) : Nat := fld (d.getD 4 0#32) 8 5

/-- R643: the length limits of one fragment. -/
def State.cryLenOk (s : State) (n : Nat) (d : List Word) : Bool :=
  let op := fld (d.getD 0 0#32) 0 8
  let link := bit (d.getD 0 0#32) 11
  let len := (d.getD 1 0#32).toNat
  let aad := fld (d.getD 4 0#32) 16 16
  let c := s.cryCtx n
  let cont := s.cryCont n
  let all := (if cont then c.pos else 0) + len
  let ccm := op == 0x12 || op == 0x13
  let total := if cont then c.total else
    (s.viewWord (fld (s.ring .cry n).cfg 4 4) ((d.getD 6 0#32).toNat + 32)).toNat
  (if link then len % 16 == 0 && len != 0 else true) &&
  tagLenOk op (cryTagLen d) &&
  (if op == 0x10 || op == 0x11 || op == 0x16 then decide (all ≤ 16777216)
   else if ccm then decide (all ≤ 16777215) && (link || all == total)
   else decide (all ≤ 4294967295)) &&
  (if op ≤ 0x13 then !cont || aad == 0 else true)

/-- The opcodes of CRY as this descriptor uses them. -/
def State.cryOps (s : State) (n : Nat) (d : List Word) : List OpInfo :=
  let op := fld (d.getD 0 0#32) 0 8
  let verify := bit (d.getD 0 0#32) 12
  let link := bit (d.getD 0 0#32) 11
  let len := (d.getD 1 0#32).toNat
  let a := (d.getD 2 0#32).toNat
  let b := (d.getD 3 0#32).toNat
  let first := !s.cryCont n
  let aad := fld (d.getD 4 0#32) 16 16
  let lenOk := s.cryLenOk n d
  let t := cryTagLen d
  let par (u : AddrUse) : List (Nat × Nat × AddrUse) :=
    (if first && op ≤ 0x13 && 0 < aad then [((d.getD 5 0#32).toNat, 4, AddrUse.rd aad)] else []) ++ [((d.getD 6 0#32).toNat, 16, u)]
  let base : OpInfo := { op := op, lenMin := 0, lenMax := 4294967295, alA := 4, a := .rd 0, link := true, lenOk := lenOk }
  let clash := a != b && decide (a < b + len) && decide (b < a + len)
  let enc : OpInfo := { base with alB := 4, b := .wr 0, more := par (.wr 48), clash := clash }
  let tagUse (out : Nat) : AddrUse := if link then .none else if verify then .rd out else .wr out
  let mac (out : Nat) : OpInfo := { base with b := tagUse out }
  if verify && !(op == 0x16 || op == 0x1A || op == 0x1B) then []
  else match op with
    | 0x10 | 0x12 | 0x14 => [enc]
    | 0x11 | 0x13 | 0x15 => [{ enc with more := par (.rd 48) }]
    | 0x16 | 0x1A | 0x1B => [mac t]
    | 0x18 => [mac 32]
    | 0x19 => [mac 48]
    | _ => []

/-- Bytes n of a curve code (Table CRY-7): the scalar length. -/
def curveBytes : Nat → Nat
  | 0 => 32 | 1 => 48 | 2 => 66 | 3 => 57 | _ => 56

/-- Public length of a curve code. -/
def curvePub : Nat → Nat
  | 0 => 64 | 1 => 96 | 2 => 132 | 3 => 57 | _ => 56

/-- Shared-secret length of a curve code. -/
def curveSecret (c : Nat) : Nat := curveBytes c

/-- The opcodes of PKE as this descriptor uses them (Table CRY-7). -/
def pkeOps (d : List Word) : List OpInfo :=
  let op := fld (d.getD 0 0#32) 0 8
  let len := (d.getD 1 0#32).toNat
  let c := fld (d.getD 5 0#32) 0 8
  let cc := c ≤ 2 || c == 4
  let ctx := fld (d.getD 6 0#32) 0 8
  let o : OpInfo := { op := op, lenMin := 0, lenMax := 65535, alA := 4, alB := 4 }
  let more := if ctx = 0 then [] else [((d.getD 4 0#32).toNat, 4, AddrUse.rd ctx)]
  match op with
  | 0x10 => [{ o with lenOk := len == 32 || len == 48, a := .rd 0 }]
  | 0x11 => [{ o with lenOk := len == 32 || len == 48, a := .rd 0, b := if c ≤ 2 then .rd (4 * curveBytes c) else .none }]
  | 0x12 => [{ o with lenOk := [64, 96, 132, 56].contains len, a := .rd 0 }]
  | 0x13 => [{ o with alA := 1, lenOk := !cc || len == curvePub c, b := if cc then .wr (curvePub c) else .none }]
  | 0x14 => [{ o with lenOk := !cc || len == curvePub c, a := .rd 0, b := if cc then .wr (curveSecret c) else .none }]
  | 0x15 => [{ o with a := .rd 0, b := .wr 114, more := more }]
  | 0x16 => [{ o with a := .rd 0, b := .rd 171, more := more }]
  | _ => []

/-- The opcodes of UPD (Table UPD-12). A fragment of a bad length goes on to IMAGE_WRITE, which ends the write (R685). -/
def updOps (d : List Word) : List OpInfo :=
  let link := bit (d.getD 0 0#32) 11
  let first := bit (d.getD 0 0#32) 12
  let odd := link && (d.getD 1 0#32).toNat % 16 != 0
  let p (op : Nat) : OpInfo := { op := op, lenMin := 0, lenMax := 0 }
  [p 0x10, p 0x12, p 0x13, p 0x17,
   { op := 0x11, lenMin := 0, lenMax := 4294967295, a := if odd then .none else .rd 0, link := true,
     b := if odd then .none else if first then .rd 64 else if link then .none else .rd 16 },
   { op := 0x14, lenMin := 64, lenMax := 64, a := .rd 64 },
   { op := 0x15, lenMin := 4, lenMax := 65536, a := .rd 0 }, { op := 0x16, lenMin := 4, lenMax := 65536, a := .wr 0 }]

/-- The bytes of one SPI word (R820). -/
def State.spiWordBytes (s : State) (w : Win) : Nat :=
  let bits := s.field (w.base + A.SPI_CTL) 5 5 + 1
  if bits ≤ 8 then 1 else if bits ≤ 16 then 2 else 4

/-- The opcodes of a UART ring (R793, R806, Table SER-2). -/
def State.uartOps (s : State) (w : Win) (n : Nat) : List OpInfo :=
  let nine := s.field (w.base + A.U_FRAME) 0 2 = 2
  if n = 0 then
    [{ op := 0x10, lenMin := 0, lenMax := 4294967295, lenMul := if nine then 2 else 1, a := .rd 0 },
     { op := 0x12, lenMin := 0, lenMax := 0 }, { op := 0x13, lenMin := 0, lenMax := 255, a := .rd 0 }]
  else [{ op := 0x11, lenMin := 2, lenMax := 65536, lenMul := 2, alA := 2, a := .wr 0 }]

/-- The opcodes of an I2C ring (Table SER-5). -/
def i2cOps (n : Nat) (d : List Word) : List OpInfo :=
  let rd := fld (d.getD 5 0#32) 0 16
  if n = 0 then
    [{ op := 0x10, lenMin := 0, lenMax := 65535, a := .rd 0, link := true },
     { op := 0x11, lenMin := 1, lenMax := 65535, a := .wr 0, link := true },
     { op := 0x12, lenMin := 1, lenMax := 65535, a := .rd 0, b := if rd = 0 then .none else .wr rd, link := true, lenOk := rd != 0 },
     { op := 0x13, lenMin := 0, lenMax := 0 }]
  else [{ op := 0x18, lenMin := 1, lenMax := 65535, a := .wr 0 }, { op := 0x19, lenMin := 1, lenMax := 65535, a := .rd 0 }]

/-- The opcodes of a USB ring (Table SER-6). -/
def usbOps (n : Nat) : List OpInfo :=
  if n = 0 then
    [{ op := 0x10, lenMin := 8, lenMax := 8, a := .wr 8 }, { op := 0x11, lenMin := 0, lenMax := 65535, a := .rd 0 },
     { op := 0x12, lenMin := 0, lenMax := 65535, a := .wr 0 }]
  else [{ op := 0x18, lenMin := 0, lenMax := 65535, a := .rd 0 }, { op := 0x19, lenMin := 1, lenMax := 65535, a := .wr 0 }]

/-- R286: the positions per cycle of CRK: those of the running domain, and while CRK is OFF those its configuration gives. -/
def State.shapeCount (s : State) : Nat :=
  if s.field A.ANG_STAT 0 3 ≠ 0 then s.crkPositions
  else [s.field A.CRK_CFG 16 8, 60, 36, 36, 24, 12, 36].getD (s.field A.CRK_CFG 0 4) 1 * (if s.flag A.CRK_CFG 4 then 1 else 2)

/-- The opcodes of a unit, with what this descriptor's fields ask of steps 2 to 5 of Table RING-4 (Tables CTR-18, EVL-6,
TIM-8, PMU-10, SYN-5, EVT-9 and the opcode tables of the other chapters). -/
def opsOf (s : State) (w : Win) (n : Nat) (d : List Word) : List OpInfo :=
  let plain (op : Nat) : OpInfo := { op := op, lenMin := 0, lenMax := 0 }
  let log (op lo hi mul al : Nat) : OpInfo := { op := op, lenMin := lo, lenMax := hi, lenMul := mul, alA := al, a := .wr 0 }
  let snap (op len al : Nat) : OpInfo := { op := op, lenMin := len, lenMax := len, alA := al, a := .wr len }
  let load (op lo hi al : Nat) (u : AddrUse) : OpInfo := { op := op, lenMin := lo, lenMax := hi, alA := al, a := u }
  let arg (k lo n : Nat) : Nat := fld (d.getD k 0#32) lo n
  let need (b : Bool) (o : OpInfo) : OpInfo := { o with lenOk := o.lenOk && b }
  let timed (o : OpInfo) : OpInfo := need (arg 5 0 16 != 0) o
  let shape (op : Nat) (u : AddrUse) : OpInfo := need ((d.getD 1 0#32).toNat == 2 * s.shapeCount) (load op 0 65536 2 u)
  match w with
  | .evr => [need (arg 5 0 24 != 0) (plain 0x10), plain 0x11]
  | .scr => [{ op := 0x10, lenMin := 4, lenMax := 1048576, lenMul := 4, alA := 4 }]
  | .flc => [{ op := 0x10, lenMin := 16, lenMax := 4096, lenMul := 16, alA := 4, alB := 16, a := .rd 0 }, plain 0x11, plain 0x12]
  | .tlm => [timed (log 0x10 8 65536 8 8)]
  | .clk => [{ op := 0x10, lenMin := 1, lenMax := 100000 }]
  | .tmb => [plain 0x10, snap 0x11 16 16]
  | .pmu => [plain 0x10, snap 0x11 16 16]
  | .sys => [{ op := 0x10, lenMin := 0, lenMax := 65536, lenMul := 4 }, plain 0x11]
  | .ang => [snap 0x10 32 32, need (arg 4 0 16 != 0) (log 0x11 8 4096 8 8), shape 0x12 (.wr 0), shape 0x13 (.rd 0),
      load 0x20 32 32 32 (.rd 32), plain 0x21, timed (plain 0x22), snap 0x23 48 16]
  | .eng => [timed (log 0x10 4 65536 4 4), timed (log 0x11 32 8224 2 4)]
  | .edr => [timed (log 0x10 8 4096 8 8), timed (log 0x11 8 4096 8 8)]
  | .lam => [timed (log 0x10 16 4096 16 16)]
  | .hbr => [need (arg 4 0 16 != 0 && decide (1 ≤ arg 5 0 11 ∧ arg 5 0 11 ≤ 2000)) (plain 0x10)]
  | .pwm => [need ((d.getD 1 0#32).toNat == 4 * ((List.range 8).filter (bit (d.getD 4 0#32))).length) (load 0x10 4 32 4 (.rd 0)),
      timed (snap 0x11 16 16)]
  | .psc => [timed (log 0x10 8 65536 8 8), snap 0x11 128 16]
  | .egv => [timed (log 0x10 32 4096 32 16)]
  | .chg => [timed (log 0x10 8 65536 8 8), plain 0x11, timed (plain 0x12)]
  | .rcm => [plain 0x10, timed (log 0x11 16 65536 16 16)]
  | .plm => (if arg 4 2 2 = 3 then [] else [load 0x10 60 1518 1 (.rd 0)]) ++ [load 0x11 1518 4294967295 4 (.wr 0),
      timed (need (decide (1 ≤ arg 4 0 5 ∧ arg 4 0 5 ≤ 30)) { load 0x12 64 64 4 (.wr 64) with b := .rd 16 })]
  | .met => [snap 0x10 176 16, timed (log 0x11 24 196608 24 4), log 0x12 32 40960 32 4, plain 0x13, plain 0x14]
  | .bil => [snap 0x10 272 16, load 0x11 740 740 4 (.rd 740), plain 0x12, plain 0x13, log 0x14 128 1536 128 4,
      { load 0x15 4 128 4 (.rd 0) with lenMul := 4 }, load 0x16 8 8 1 (.rd 8), plain 0x17]
  | .key => [load 0x10 0 4294967295 1 .none, load 0x11 0 4294967295 4 (.wr 0)]
  | .vlt => [plain 0x10]
  | .cry => s.cryOps n d
  | .pke => pkeOps d
  | .trng => [load 0x10 1 65536 1 (.wr 0)]
  | .upd => updOps d
  | .lsw => [timed (log 0x10 8 65536 8 8), timed (plain 0x11), snap 0x12 64 4]
  | .ul0 | .ul1 | .uq0 | .uq1 | .uq2 | .uq3 => s.uartOps w n
  | .can0 | .can1 =>
    if n = 0 then [load 0x10 80 80 1 (.wr 80)] else [{ op := 0x11, lenMin := 80, lenMax := 4294967295, lenMul := 80, a := .wr 0 }]
  | .eth =>
    if n = 0 then
      [{ op := 0x10, lenMin := 14, lenMax := 1518, a := .rd 0, b := if d.getD 3 0#32 = 0#32 then .none else .wr 8 }, plain 0x12]
    else [{ op := 0x11, lenMin := 1518, lenMax := 4294967295, a := .wr 0, b := .wr 16 }]
  | .spi0 | .spi1 | .spi2 =>
    [{ op := 0x10, lenMin := 0, lenMax := 4294967295, lenMul := s.spiWordBytes w, link := true,
       a := if d.getD 2 0#32 = 0#32 then .none else .rd 0, b := if d.getD 3 0#32 = 0#32 then .none else .wr 0 }]
  | .i2c0 | .i2c1 => i2cOps n d
  | .usb => usbOps n
  | _ => []

/-- The hosts a ring accepts. -/
def hostAccepts (s : State) (w : Win) (n host : Nat) : Bool :=
  let host := s.standsFor host
  let h := host == mH0 || host == mH1
  match w with
  | .pmu | .sys | .vlt => host == mH0
  | .tmb => h || host == mE || host == mP || host == mM
  | .ang => if s.opt = optCP then host == mH0 || host == mP else host == mE || host == mP || host == mH0
  | .eng | .edr | .hbr => h || host == mE
  | .lam => host == mE || host == mH0
  | .pwm => host == mP || host == mH0
  | .psc => h || host == mP
  | .egv => h || host == mE
  | .flc => if n = 0 then h else host == mM
  | .cry => if n = 7 then host == mM else h || host == mE || host == mP
  | .pke => if n = 3 then host == mM else h
  | .evr => decide (host ≤ 4)
  | .lsw | .uq0 | .uq1 | .uq2 | .uq3 | .can0 | .can1 | .spi0 | .spi1 | .spi2 => h || host == mE
  | .i2c0 | .i2c1 => h || (n == 0 && host == mE)
  | _ => h

/-- The clock domain that gates a unit's rings and port, if firmware may gate it (Table TIM-3). -/
def Win.gateClock : Win → Option Nat
  | .cry | .pke | .trng => some 9
  | .plm => some 17
  | .can0 | .can1 => some 18
  | .eth => some 19
  | .usb => some 20
  | .uq0 | .uq1 | .uq2 | .uq3 => some 21
  | .eng => some 23
  | .lam => some 24
  | _ => none

/-- R204: the clock domain of a unit is gated. -/
def State.gated (s : State) (w : Win) : Bool :=
  match w.gateClock with
  | some n => !s.flag (A.CLK_DOM n) 0
  | none => false

/-- R204, R245: a unit whose clock domain is gated or whose power domain is off fetches no descriptor; an absent block's
slots answer (R5). -/
def State.fetchHeld (s : State) (w : Win) : Bool := s.present w && (!s.domOn w.domain || s.gated w)

end Sys2Proof.Machine
end

