-- ==== Sys2Proof/Machine/Rings.lean ====
section
/-! DEFINITION. Rings: set-up, doorbells, fetching, completing, states and reclaiming (02, R68 to R98). -/
namespace Sys2Proof.Machine

/-- R645, R655: what a ring of CRY or PKE holds between descriptors is gone: its message context, its ephemeral key; and UPD's
write context. -/
def State.endRing (s : State) (w : Win) (n : Nat) : State :=
  match w with
  | .cry => { s with cry := { s.cry with ctx := s.cry.ctx.set (fun _ => {}) n {} } }
  | .pke => { s with cry := { s.cry with eph := s.cry.eph.set (fun _ => none) n none } }
  | .upd => { s with upd := { s.upd with wr := s.upd.wr.set (fun _ => none) n none } }
  | _ => s

/-! ## Completion and shadow writes -/

/-- SIZE_LOG2 taken at START. -/
def Ring.sizeLog (r : Ring) : Nat := fld r.cfg 0 4
/-- Entries of the ring. -/
def Ring.size (r : Ring) : Nat := 2 ^ r.sizeLog
/-- The host taken at START (R87). -/
def Ring.host (r : Ring) : Nat := fld r.cfg 4 4
/-- EVT_MODE taken at START. -/
def Ring.evtMode (r : Ring) : Nat := fld r.cfg 10 2
/-- STOP_ON_ERR taken at START. -/
def Ring.stopOnErr (r : Ring) : Bool := bit r.cfg 12

/-- Address of the descriptor with free-running index `i`. -/
def Ring.descAddr (r : Ring) (i : Nat) : Nat := r.base.toNat + 32 * (i % r.size)
/-- R75: address of the completion with free-running index `i`. -/
def Ring.cplAddr (r : Ring) (i : Nat) : Nat := r.cpl.toNat + 16 * (i % r.size)
/-- R75: PHASE of the completion with free-running index `i`. -/
def Ring.phase (r : Ring) (i : Nat) : Bool := i / r.size % 2 == 0

/-- Does this completion raise the ring's completion event (Table RING-9, EVT_MODE)? -/
def Ring.wantsEvent (r : Ring) (irq : Bool) (status : Nat) : Bool :=
  match r.evtMode with
  | 0 => irq
  | 1 => true
  | _ => irq || decide (1 < status)

/-- The four words of a completion (Tables RING-5 and RING-7). -/
def Ring.cplWords (r : Ring) (n i : Nat) (c : Cpl) (tag : Nat) (event resumed : Bool) (time : Word) : List Word :=
  let w0 := setBit (setBit (setBit (setBit (setFld (setFld (setFld (setFld 0#32 0 16 tag) 16 8 c.status) 28 3 c.uflags)
    31 1 (r.phase i).toNat) 24 c.last) 25 event) 26 c.eccFixed) 27 resumed
  let w2 := setFld (setFld (setFld 0#32 0 8 c.warn) 8 3 n) 16 16 i
  [w0, c.result, w2, time]

/-- May the unit write here for this host? Denied in an off or unreached region (R85). -/
def State.cplReach (s : State) (w : Win) (host a len : Nat) : Bool := s.rangeReach w host .store a len

/-- R93: the shadow word: CIDX and STATE. -/
def State.shadowWord (s : State) (w : Win) (n : Nat) : Word := setFld (setFld 0#32 0 16 (s.cidx w n)) 16 3 (s.ringState w n)

/-- R85: a denied completion or shadow write sets WRITE_FAIL, raises RING_WRITE_FAIL and pauses the ring. -/
def State.writeFail (s : State) (w : Win) (n : Nat) : State :=
  ((s.setBitReg (ringErrA w n) 3).raiseRing w 1153).setRingState w n 2

/-- R93, R85: writes the shadow word; `false` when the fabric denies it, which leaves the write due. -/
def State.writeShadow (s : State) (w : Win) (n : Nat) : State × Bool :=
  let r := s.ring w n
  if s.cplReach w r.host r.shadow.toNat 4 then
    ((s.putWords r.host r.shadow.toNat [s.shadowWord w n]).modRing w n (fun r => { r with shadowDue := false }), true)
  else ((s.modRing w n (fun r => { r with shadowDue := true })).writeFail w n, false)

/-- A ring whose completions have all been written leaves the state its last command set (R83, R97). -/
def State.settle (s : State) (w : Win) (n : Nat) : State :=
  let r := s.ring w n
  let empty := s.cidx w n = s.pidx w n
  if r.desc ≠ [] then s
  else match s.ringState w n with
    | 4 => if empty then s.setRingState w n 0 else s
    | 3 => if r.wish = .reclaim ∧ empty then
             ((s.modRing w n (fun r => { r with wish := .none })).setRingState w n 2).raiseRing w 1155 else s
    | _ => match r.wish with
      | .pause => (s.modRing w n (fun r => { r with wish := .none })).setRingState w n 2
      | .abort => if empty then (s.modRing w n (fun r => { r with wish := .none })).setRingState w n 2 else s
      | _ => s

/-- R74, R85, R93, R95: delivers the completion of index `i`: words 1, 2, 3 then 0, CIDX, the shadow word, the event. -/
def State.deliver (s : State) (w : Win) (n i : Nat) (c : Cpl) (tag : Nat) (irq resumed : Bool) : State :=
  let r := s.ring w n
  let ev := r.wantsEvent irq c.status
  if s.cplReach w r.host (r.cplAddr i) 16 then
    match r.cplWords n i c tag ev resumed s.tick with
    | w0 :: ws =>
      let s1 := (s.putWords r.host (r.cplAddr i + 4) ws).putWords r.host (r.cplAddr i) [w0]
      let s2 := (s1.modRing w n (fun r => { r with held := none })).setField (ringCidxA w n) 0 16 (i + 1)
      match s2.writeShadow w n with
      | (s3, true) => if ev then s3.raise (w.ringSource + n) else s3
      | (s3, false) => s3
    | [] => s
  else (s.modRing w n (fun r => { r with held := some ⟨i, c, tag, irq, resumed⟩ })).writeFail w n

/-- DESCRIPTOR_COMPLETE (R74, R85, R93): writes the decided completion of the descriptor in hand. -/
def completeDesc (w : Win) (n : Nat) (s : State) : State :=
  let r := s.ring w n
  match r.done, r.desc with
  | some c, d0 :: _ =>
    let i := (s.fidx w n + 65535) % 65536
    let s1 := s.deliver w n i c (fld d0 16 16) (bit d0 8) r.resumed
    let s2 := s1.modRing w n (fun r => { r with desc := [], done := none, resumed := false, count := 0, aux := 0, key := none })
    let s3 := s2.clrBitReg (ringStatA w n) 16
    let s4 := if r.stopOnErr && decide (0x10 ≤ c.status) && s3.ringState w n == 1 then s3.setRingState w n 2 else s3
    let s5 := if s4.ringState w n = 3 ∨ s4.ringState w n = 4 then s4.endRing w n else s4
    s5.settle w n
  | _, _ => s

/-! ## Fetching -/

/-- An address field of a descriptor is aligned and reachable. -/
def State.addrOk (s : State) (w : Win) (host : Nat) (u : AddrUse) (a len : Nat) : Bool :=
  match u with
  | .none => true
  | .rd k => s.rangeReach w host .load a (if k = 0 then len else k)
  | .wr k => s.rangeReach w host .store a (if k = 0 then len else k)

/-- Steps 1 to 5 of Table RING-4 in order; the status of the first check that fails. -/
def State.checkDesc (s : State) (w : Win) (n host : Nat) (d : List Word) : Option Nat :=
  let op := fld (d.getD 0 0#32) 0 8
  let len := (d.getD 1 0#32).toNat
  let a := (d.getD 2 0#32).toNat
  let b := (d.getD 3 0#32).toNat
  let link := bit (d.getD 0 0#32) 11
  if !s.present w then some 0x08
  else if op = 0 then (if link then some 0x10 else none)
  else match (opsOf s w n d).find? (fun o => o.op = op) with
    | none => some 0x10
    | some o =>
      if link && !o.link then some 0x10
      else if len < o.lenMin ∨ o.lenMax < len ∨ len % o.lenMul ≠ 0 ∨ o.lenOk = false then some 0x11
      else if a % o.alA ≠ 0 ∨ b % o.alB ≠ 0 ∨ o.more.any (fun m => m.1 % m.2.1 != 0) = true then some 0x12
      else if s.addrOk w host o.a a len && s.addrOk w host o.b b len && o.more.all (fun m => s.addrOk w host m.2.2 m.1 len) &&
        !o.clash then none
      else some 0x13

/-- R182, R191: the first word or line in error that the source ranges of a descriptor hold. -/
def State.badSource (s : State) (w : Win) (n host : Nat) (d : List Word) : Option Nat :=
  match (opsOf s w n d).find? (fun o => o.op = fld (d.getD 0 0#32) 0 8) with
  | none => none
  | some o =>
    let len := (d.getD 1 0#32).toNat
    (([((d.getD 2 0#32).toNat, o.a), ((d.getD 3 0#32).toNat, o.b)] ++ o.more.map (fun m => (m.1, m.2.2))).filterMap (fun p =>
      match p.2 with
      | .rd k => s.badRead host p.1 (if k = 0 then len else k)
      | _ => none)).head?

/-- R72, R84, R96, R182: the unit takes the next posted descriptor of a ring. In RUN it applies the checks and reads the sources;
in STALLED and DRAINING, and under ABORT, it decides OWNER_RESET or ABORTED. -/
def fetchDesc (w : Win) (n : Nat) (s : State) : State :=
  let r := s.ring w n
  let i := s.fidx w n
  let st := s.ringState w n
  let takes := (st = 1 ∧ ¬ (s.safeHolds 4 && (cfcWindows 4).contains w) = true) ∨ st = 3 ∨ st = 4 ∨ r.wish = .abort
  if r.desc ≠ [] ∨ i = s.pidx w n ∨ r.held.isSome ∨ ¬ takes ∨ s.fetchHeld w then s
  else
    let pa := s.phys r.host (r.descAddr i)
    let s1 := (s.setField (ringCidxA w n) 16 16 (i + 1)).setBitReg (ringStatA w n) 16
    let take (d : List Word) (c : Option Cpl) (s : State) : State :=
      s.modRing w n (fun r => { r with desc := d, done := c, resumed := false, count := 0, aux := 0, t0 := s.now, key := none })
    let blank : List Word := [0xFFFF0000#32, 0, 0, 0, 0, 0, 0, 0]
    if !s.rangeReach w r.host .load (r.descAddr i) 32 then
      take blank (some { status := 0x13 }) ((s1.setBitReg (ringErrA w n) 4).fabDeny w.dmaPort pa false false w.code)
    else match s.badRead r.host (r.descAddr i) 32 with
    | some p => take blank (some { status := 0x60 }) (s1.unitUncorr p)
    | none =>
      let d := s.viewWords r.host (r.descAddr i) 8
      if r.wish = .abort ∨ st = 4 then take d (some { status := 0x70 }) s1
      else if st = 3 then take d (some { status := 0x71 }) s1
      else match s.checkDesc w n r.host d with
        | some bad =>
          take d (some { status := bad }) s1
        | none =>
          if fld (d.getD 0 0#32) 0 8 = 0 then take d (some { status := 0 }) s1
          else match s.badSource w n r.host d with
            | some p => take d (some { status := 0x60 }) (s1.unitUncorr p)
            | none => take d none s1

/-- PREEMPTED_COMPLETION (R77, R78): a yield with YIELD_REPORT writes a completion that is not final. -/
def preempted (w : Win) (n : Nat) (s : State) : State :=
  let r := s.ring w n
  match s.inHand w n with
  | none => s
  | some _ =>
    let s1 := s.modRing w n (fun r => { r with resumed := true })
    let d0 := r.desc.getD 0 0#32
    if bit d0 10 then
      let i := (s.fidx w n + 65535) % 65536
      if s.cplReach w r.host (r.cplAddr i) 16 then
        match r.cplWords n i { status := 0x30 } (fld d0 16 16) false r.resumed s.tick with
        | w0 :: ws => (s1.putWords r.host (r.cplAddr i + 4) ws).putWords r.host (r.cplAddr i) [w0]
        | [] => s1
      else (s1.setBitReg (ringErrA w n) 3).raiseRing w 1153
    else s1

/-! ## Commands of RING_CTL -/

/-- R86: a ring command is refused. -/
def State.ringCmdErr (s : State) (w : Win) (n : Nat) : State := s.setBitReg (ringErrA w n) 2

/-- R86: is the command from H0 or the ring's host? -/
def State.ringMayCommand (s : State) (w : Win) (n m : Nat) : Bool := s.standsFor m == mH0 || m == s.ringHost w n

/-- The class of a region for R82: the banks of host SRAM are one region. -/
def Region.cls : Region → Region
  | .hostSram _ => .hostSram 0
  | r => r

/-- R82: may a ring area lie here? -/
def State.legalArea (s : State) (w : Win) (host a len : Nat) : Bool :=
  let r := regionOf (s.phys host a)
  let e := regionOf (s.phys host (a + len - 1))
  decide (r.cls = e.cls) &&
  (match r with
   | .hostSram _ | .aonSram => true
   | .engRam => host = mE
   | .pwrRam => host = mP
   | .metRam => host = mM
   | _ => false) &&
  s.rangeReach w host .store a len && s.rangeReach w host .load a len

/-- Do two areas share a byte? -/
def overlap (a la b lb : Nat) : Bool := decide (a < b + lb) && decide (b < a + la)

/-- R81, Table RING-10: the first failing check of a ring set-up, steps 2 to 6. -/
def State.setupStatus (s : State) (w : Win) (n : Nat) : Nat :=
  let base := (s.reg (slotReg w n 0)).toNat
  let cpl := (s.reg (slotReg w n 4)).toNat
  let sh := (s.reg (slotReg w n 8)).toNat
  let cfg := s.reg (slotReg w n 0xC)
  let lg := fld cfg 0 4
  let host := fld cfg 4 4
  if lg < 3 ∨ 12 < lg then 0x11
  else if w.nRings ≤ n ∨ ¬ (hostAccepts s w n host = true) ∨ ¬ (corePresent s.opt host = true) ∨ host = mSA ∨ host = mSB then 0x14
  else if base % 32 ≠ 0 ∨ cpl % 16 ≠ 0 ∨ sh % 4 ≠ 0 then 0x12
  else if ¬ (s.legalArea w host base (32 * 2 ^ lg) && s.legalArea w host cpl (16 * 2 ^ lg) && s.legalArea w host sh 4) then 0x13
  else if overlap base (32 * 2 ^ lg) cpl (16 * 2 ^ lg) || overlap base (32 * 2 ^ lg) sh 4 || overlap cpl (16 * 2 ^ lg) sh 4 then 0x13
  else 0

/-- RING_START (R81, R86, R87). -/
def ringStart (w : Win) (n m : Nat) (s : State) : State :=
  if !s.ringMayCommand w n m then s.ringCmdErr w n
  else if s.ringState w n ≠ 0 then (s.ringCmdErr w n).setField (ringStatA w n) 8 8 0x14
  else
    let st := s.setupStatus w n
    let s1 := s.setField (ringStatA w n) 8 8 st
    if st ≠ 0 then s1
    else
      let r : Ring := { base := s.reg (slotReg w n 0), cpl := s.reg (slotReg w n 4), shadow := s.reg (slotReg w n 8),
                        cfg := s.reg (slotReg w n 0xC) }
      let s2 := ((s1.setRing w n r).setReg (ringPidxA w n) 0#32).setReg (ringCidxA w n) 0#32
      (((s2.putWords r.host r.shadow.toNat [0#32]).setRingState w n 1).endRing w n).leaveMove (· == .ring w.code n)

/-- RING_PAUSE (R83). -/
def ringPause (w : Win) (n m : Nat) (s : State) : State :=
  if !s.ringMayCommand w n m || s.ringState w n != 1 then s.ringCmdErr w n
  else (s.modRing w n (fun r => { r with wish := .pause })).settle w n

/-- RING_ABORT (R83): the descriptor in hand ends ABORTED at its preemption point; posted ones follow. -/
def ringAbort (w : Win) (n m : Nat) (s : State) : State :=
  if !s.ringMayCommand w n m || !(s.ringState w n == 1 || s.ringState w n == 2) then s.ringCmdErr w n
  else
    ((if w = .cry then s.endRing w n else s).modRing w n (fun r =>
      { r with wish := .abort,
               done := if r.desc.isEmpty then r.done else some (r.done.getD { status := 0x70, result := wd r.count }) })).settle w n

/-- R85: writes an undelivered completion and a pending shadow write again; `false` when denied again. -/
def State.redeliver (s : State) (w : Win) (n : Nat) : State × Bool :=
  let r := s.ring w n
  match r.held with
  | some h =>
    if s.cplReach w r.host (r.cplAddr h.idx) 16 then
      let s1 := s.deliver w n h.idx h.cpl h.tag h.irq h.resumed
      (s1, !(s1.ring w n).shadowDue)
    else (s.writeFail w n, false)
  | none => if r.shadowDue then s.writeShadow w n else (s, true)

/-- RING_STOP (R83): the ring drains and enters OFF. -/
def ringStop (w : Win) (n m : Nat) (s : State) : State :=
  if !s.ringMayCommand w n m || !(s.ringState w n == 1 || s.ringState w n == 2) then s.ringCmdErr w n
  else match s.redeliver w n with
    | (s0, false) => s0
    | (s0, true) =>
      let s1 := ((if (s0.ring w n).desc = [] then s0.endRing w n else s0).modRing w n (fun r => { r with wish := .none })).setRingState w n 4
      if (s0.ring w n).desc = [] ∧ s0.cidx w n = s0.pidx w n then ((s1.writeShadow w n).1).setRingState w n 0 else s1

/-- RING_RESUME (R83, R85). -/
def ringResume (w : Win) (n m : Nat) (s : State) : State :=
  if !s.ringMayCommand w n m || s.ringState w n != 2 then s.ringCmdErr w n
  else match s.redeliver w n with
    | (s1, true) => s1.setRingState w n 1
    | (s1, false) => s1

/-- RING_RECLAIM (R97): from H0 at any time, from the host core once it has left reset. -/
def ringReclaim (w : Win) (n m : Nat) (s : State) : State :=
  if s.ringState w n ≠ 3 ∨ ¬ (s.standsFor m = mH0 ∨ (m = s.ringHost w n ∧ s.coreRuns m = true)) then s.ringCmdErr w n
  else match s.redeliver w n with
    | (s1, true) => (s1.modRing w n (fun r => { r with wish := .reclaim })).settle w n
    | (s1, false) => s1.setRingState w n 3

/-- R96: the host of rings enters reset; those in RUN or PAUSED enter STALLED. -/
def State.stallRing (c : Nat) (s : State) (k : Win × Nat) : State :=
  let st := s.ringState k.1 k.2
  if (st = 1 ∨ st = 2) ∧ s.ringHost k.1 k.2 = c then
    ((if (s.ring k.1 k.2).desc = [] then s.endRing k.1 k.2 else s).setRingState k.1 k.2 3).raiseRing k.1 1154
  else s

/-- Every ring slot of the part. -/
def allRings : List (Win × Nat) := Win.all.flatMap (fun w => (List.range 8).map (fun n => (w, n)))

/-- R96 over all rings. -/
def State.stallRingsOf (s : State) (c : Nat) : State := allRings.foldl (State.stallRing c) s

/-! ## Doorbell -/

/-- DOORBELL (R88 to R91). -/
def doorbell (w : Win) (m size : Nat) (v : Word) (s : State) : State :=
  s.plainWrite w m (w.base + 0x600) (fun s =>
    if size ≠ 4 then s
    else
      let n := fld v 16 4
      let new := fld v 0 16
      if 8 ≤ n then s.raiseRing w 1152
      else if s.ringState w n = 0 then (s.setBitReg (ringErrA w n) 1).raiseRing w 1152
      else
        let c := s.cidx w n
        let dOld := (s.pidx w n + 65536 - c) % 65536
        let dNew := (new + 65536 - c) % 65536
        if dOld ≤ dNew ∧ dNew ≤ (s.ring w n).size then s.setField (ringPidxA w n) 0 16 new
        else (s.setBitReg (ringErrA w n) 0).raiseRing w 1152)

end Sys2Proof.Machine
end

