-- ==== Sys2Proof/Machine/Background.lean ====
section
/-! DEFINITION. The scrub unit, the flash controller and the telemetry unit (04, R180 to R199). -/
namespace Sys2Proof.Machine

/-- FAIRNESS_SLOT (R163): the background step in hand of a window is preempted; the 64th preemption in a row earns a
fairness slot. -/
def fairnessSlot (w : Win) (s : State) : State := if w.background && s.live w then s.bgPreempt w else s

/-! ## Scrub unit -/

/-- Table CTR-14: ECC words of each array code. -/
def arrayWords : List Nat :=
  [65536, 65536, 65536, 65536, 4096, 32768, 32768, 16384, 12288, 12288, 8192, 16384]

/-- Table CTR-14: power domain of an array. -/
def arrayDomain (c : Nat) : Nat := [4, 5, 6, 7, 0, 8, 9, 10, 11, 12, 15, 16].getD c 0

/-- The address of an array's first word; crypto working RAM and modem buffers have none in the map (01), and take keys
outside it. -/
def arrayBase (c : Nat) : Nat :=
  [0x20000000, 0x20040000, 0x20080000, 0x200C0000, 0x20100000, 0x30000000, 0x30200000, 0x30400000, 0x30600000,
   0x30800000, 0x60000000, 0x60100000].getD c 0

/-- SCR_PASS_START (R180). -/
def scrPassStart (s : State) : State :=
  if s.flag A.SCR_CTL 0 ∧ ¬ s.scrOn then { s with scrOn := true, scrNext := 0, scrCorrTold := 0 } else s

/-- The array and word of the pass's `i`-th read. -/
def scrPlace : Nat → Nat → List Nat → Option (Nat × Nat)
  | _, _, [] => none
  | i, c, n :: rest => if i < n then some (c, i) else scrPlace (i - n) (c + 1) rest

/-- R181: one ECC word is read by the patrol: a single-bit error is corrected, an uncorrectable one recorded. -/
def State.scrubWord (s : State) (arr word : Nat) (patrol : Bool) : State :=
  let a := arrayBase arr + 4 * word
  match s.ecc a with
  | 1 =>
    let s1 := ((s.setEcc a 0).modReg A.SCR_CNT (fun w => satAdd w 0 16 1)).setBitReg A.SCR_ERR 0
    if patrol && !s1.scrCorrTold.testBit arr then
      ({ s1 with scrCorrTold := s1.scrCorrTold ||| 2 ^ arr }).raise 1193
    else s1
  | 2 => (s.modReg A.SCR_CNT (fun w => satAdd w 16 16 1)).scrUncorr arr word false
  | _ => s

/-- SCR_WORD_READ (R180, R181): the next word of the pass; an array whose domain is off is skipped. -/
def scrWordRead (s : State) : State :=
  if !s.scrOn then s
  else match scrPlace s.scrNext 0 arrayWords with
    | none => ({ s with scrOn := false }).modReg A.SCR_STAT (fun w => wrapAdd w 16 16 1)
    | some (c, i) =>
      let s1 := (s.setField A.SCR_STAT 0 4 c).bgStepDone .scr
      let s2 := if s.domOn (arrayDomain c) then { (s1.scrubWord c i true) with scrNext := s.scrNext + 1 }
                else { s1 with scrNext := s.scrNext + (arrayWords.getD c 0 - i) }
      if (scrPlace s2.scrNext 0 arrayWords).isNone then
        ({ s2 with scrOn := false }).modReg A.SCR_STAT (fun w => wrapAdd w 16 16 1)
      else s2

/-- SCR_PASS_LATE (R184). -/
def scrPassLate (s : State) : State := if s.scrOn then (s.setBitReg A.SCR_ERR 2).raise 1195 else s

/-- SCRUB_RANGE (R185): every word of the range is read and corrected. -/
def scrubRange (n : Nat) (s : State) : State :=
  s.whenHand .scr n 0x10 (fun s =>
    let len := (s.dw .scr n 1).toNat
    let a := (s.dw .scr n 2).toNat
    let r := regionOf a
    let ok := (match r with | .hostSram _ | .aonSram | .engRam | .pwrRam => true | _ => false) &&
      decide (r.cls = (regionOf (a + len - 1)).cls)
    if !ok then s.finishBad .scr n 0x13
    else
      let places := (List.range (len / 4)).filterMap (fun i => ramArray (a + 4 * i))
      let fixed := (places.filter (fun p => s.ecc (arrayBase p.1 + 4 * p.2) == 1)).length
      let bad := places.filter (fun p => s.ecc (arrayBase p.1 + 4 * p.2) == 2)
      let s1 := places.foldl (fun s p => s.scrubWord p.1 p.2 false) s
      match bad with
      | [] => s1.finishDone .scr n (wd fixed)
      | (c, i) :: _ =>
        (s1.setReg A.SCR_LAST (setFld (setFld 0#32 0 4 c) 16 16 i)).finishWarn .scr n 0x60 (wd fixed))

/-! ## Flash controller -/

/-- Table CTR-15: the base of the erase unit whose count FLC keeps for an address: a 64-byte row of the row part, a
4 KiB sector elsewhere. -/
def eraseUnit (a : Nat) : Nat := if 0x08800000 ≤ a ∧ a < 0x08802000 then a - a % 64 else a - a % 4096

/-- The array code of FLC_STAT.ARRAY. -/
def flashArray (a : Nat) : Nat := if a < 0x08400000 then 0 else if a < 0x08800000 then 1 else 2

/-- Is the address in an array of Table CTR-15? -/
def inFlash (a : Nat) : Bool := decide (0x08000000 ≤ a) && decide (a < 0x08810000)

/-- Erase count of an erase unit. -/
def State.eraseCount (s : State) (a : Nat) : Nat := s.erases.get (fun _ => 0) (eraseUnit a)

/-- R192: a unit's erase is counted; reaching the limit warns once for that unit. -/
def State.countErase (s : State) (a : Nat) : State :=
  let u := eraseUnit a
  let c := s.eraseCount u + 1
  let s1 := { s with erases := s.erases.set (fun _ => 0) u c }
  let lim := if flashArray a = 2 then 10 * s.field A.FLC_WEARLIM 16 16 else s.field A.FLC_WEARLIM 0 16
  if lim ≤ c ∧ s1.wearTold.get (fun _ => false) u = false then
    (({ s1 with wearTold := s1.wearTold.set (fun _ => false) u true }).setBitReg A.FLC_ERR 3).raise 1204
  else s1

/-- Flash bytes erased: all 0xFF, and no line of them in error. -/
def State.flashWipe (s : State) (a len : Nat) : State :=
  { s with
    mem := s.mem.filter (fun e => !(decide (a ≤ e.1) && decide (e.1 < a + len)))
    flashEcc := s.flashEcc.resetWhere (fun k => decide (a / 16 ≤ k ∧ k < (a + len) / 16)) }

/-- Erases `len` bytes from `a`, counting each erase unit inside (R192). -/
def State.flashErase (s : State) (a len : Nat) : State :=
  let step := if 0x08800000 ≤ a ∧ a < 0x08802000 then 64 else 4096
  (List.range ((len + step - 1) / step)).foldl (fun s i => s.countErase (a + step * i)) (s.flashWipe a len)

/-- Programs bytes at a flash address. -/
def State.flashProgram (s : State) (a : Nat) (bs : List Byte) : State := s.setBytes a bs

/-- R190: a failed verification is recorded. -/
def State.flashFail (s : State) (a : Nat) (erase : Bool) : State :=
  ((s.setBitReg A.FLC_ERR (if erase then 1 else 0)).setReg A.FLC_ERRADDR (wd a)).raise 1202

/-- FLC_STAT shows the request in hand. -/
def State.syncFlc (s : State) : State :=
  s.modReg A.FLC_STAT (fun w => match s.flcRun with
    | some q => setBit (setFld (setFld (setBit w 0 true) 1 2 (flashArray q.addr)) 8 3 q.req) 4 (q.req == 7)
    | none => setBit (setBit w 0 false) 4 false)

/-- The descriptor that posted a request is still in hand and undecided. -/
def State.flcLive (s : State) (q : FlcReq) : Bool :=
  let r := s.ring .flc q.ring
  !r.desc.isEmpty && r.done.isNone && s.fidx .flc q.ring == q.idx

/-- R188: with nothing running, FLC starts the waiting request that stands first; among equals the oldest. A request whose
descriptor has ended meanwhile is dropped. -/
def State.flcNext (s : State) : State :=
  match s.flcRun with
  | some _ => s.syncFlc
  | none =>
    let wait := s.flcWait.filter s.flcLive
    let best := wait.foldl (fun (b : Option FlcReq) q => match b with
      | some p => if q.req < p.req then some q else some p
      | none => some q) none
    match best with
    | some q => ({ s with flcRun := some q, flcWait := wait.erase q }).syncFlc
    | none => ({ s with flcWait := wait }).syncFlc

/-- A request is posted to FLC. -/
def State.flcPost (s : State) (q : FlcReq) : State := ({ s with flcWait := s.flcWait ++ [q] }).flcNext

/-- The seal is open (MET_SEAL.OPEN). -/
def State.sealOpen (s : State) : Bool := s.flag A.MET_SEAL 0

/-- R186, R195: may this ring program (or erase) the range? -/
def flcRange (n a len : Nat) (erase : Bool) : Bool :=
  if n = 0 then decide (0x08801A00 ≤ a) && decide (a + len ≤ 0x08802000)
  else decide (0x08802000 ≤ a) && decide (a + len ≤ 0x08810000) && !(erase && decide (0x08806000 ≤ a))

/-- R539: does the range touch a calibration copy? -/
def calCopy (a len : Nat) : Bool := decide (a < 0x08806000) && decide (0x08804000 < a + len)

/-- FL_PROGRAM (R189, R195): the checks, then the request waits for its turn; FLC_STEP_DONE programs its lines. -/
def flProgram (n : Nat) (s : State) : State :=
  s.whenHand .flc n 0x10 (fun s =>
    if (s.ring .flc n).aux = 1 then s
    else
      let len := (s.dw .flc n 1).toNat
      let b := (s.dw .flc n 3).toNat
      if !flcRange n b len false then s.finishBad .flc n 0x13
      else if calCopy b len && !s.sealOpen then s.finishBad .flc n 0x14
      else if !((List.range (len / 16)).all (fun i => s.lineErased (b + 16 * i))) then s.finishBad .flc n 0x14
      else (s.modRing .flc n (fun r => { r with aux := 1 })).flcPost
        { req := if n = 0 then 4 else 3, win := Win.flc.code, ring := n, addr := b, idx := s.fidx .flc n })

/-- FL_ERASE (R195): the checks, then the request waits; FLAGS bit 12 makes it a background erase. -/
def flErase (n : Nat) (s : State) : State :=
  s.whenHand .flc n 0x11 (fun s =>
    if (s.ring .flc n).aux = 1 then s
    else
      let b := (s.dw .flc n 3).toNat
      let unit := if n = 0 then 64 else 4096
      if b % unit ≠ 0 then s.finishBad .flc n 0x12
      else if !flcRange n b unit true then s.finishBad .flc n 0x13
      else if calCopy b unit && !s.sealOpen then s.finishBad .flc n 0x14
      else (s.modRing .flc n (fun r => { r with aux := 1 })).flcPost
        { req := if bit (s.dw .flc n 0) 12 then 6 else if n = 0 then 4 else 3, win := Win.flc.code, ring := n, addr := b,
          erase := true, idx := s.fidx .flc n })

/-- FL_WEAR (R195). -/
def flWear (n : Nat) (s : State) : State :=
  s.whenHand .flc n 0x12 (fun s =>
    let b := (s.dw .flc n 3).toNat
    if inFlash b then s.finishDone .flc n (wd (s.eraseCount b)) else s.finishBad .flc n 0x13)

/-- The running request ends. -/
def State.flcEnd (s : State) : State := ({ s with flcRun := none }).flcNext

/-- R190, R195: an erase that ends early or fails its verification leaves its unit not erased; what it holds is open. -/
def State.flashTorn (s : State) (a len : Nat) : State :=
  let f := s.freeBytes (len / 4)
  let s1 := f.2.flashProgram a f.1
  { s1 with flashEcc := (List.range (len / 16)).foldl (fun t i => t.set (fun _ => 0) (a / 16 + i) 3) s1.flashEcc }

/-- FLC_STEP_DONE (R187, R188, R190, R195): a step ends. `ok` is the verification; `last` says that an erase's last step
ended. A program line ends a step of its own; the ring's ABORT ends the request at this boundary. -/
def flcStepDone (ok last : Bool) (s : State) : State :=
  match s.flcRun with
  | none => s.flcNext
  | some q =>
    let n := q.ring
    let r := s.ring .flc n
    let unit := if n = 0 then 64 else 4096
    let s0 := s.bgStepDone .flc
    if s.flcLive q = false then (if q.erase then s0.flashTorn q.addr unit else s0).flcEnd
    else if q.erase then
      if !last then s0
      else if !ok then (((s0.flashTorn q.addr unit).flashFail q.addr true).finishBad .flc n 0x81).flcEnd
      else
        let s1 := s0.flashErase q.addr unit
        (s1.finishDone .flc n (wd (s1.eraseCount q.addr))).flcEnd
    else
      let src := (s.dw .flc n 2).toNat + r.count
      let dst := q.addr + r.count
      if !ok then
        let f := s0.freeBytes 4
        (((f.2.flashProgram dst f.1).flashFail dst false).finishBad .flc n 0x80).flcEnd
      else
        let s1 := s0.flashProgram dst (s.viewBytes r.host src 16)
        let s2 := s1.modRing .flc n (fun r => { r with count := r.count + 16 })
        if (s.dw .flc n 1).toNat ≤ r.count + 16 then (s2.finishDone .flc n (s.dw .flc n 1)).flcEnd
        else
          -- a line boundary: a request that stands before this one goes first (R188)
          if s2.flcWait.any (fun p => p.req < q.req) then ({ s2 with flcRun := none, flcWait := s2.flcWait ++ [q] }).flcNext
          else s2

/-- FLC_REFRESH_SPAN (R193): one span is margin-read; `diff` of its lines differ and are programmed again with their own
contents; an uncorrectable line is reported. -/
def flcRefreshSpan (diff : Nat) (s : State) : State :=
  if !s.flag A.FLC_CTL 0 then s
  else
    let i := s.field A.FLC_STAT 16 16
    let base := 0x08000000 + 4096 * i
    let busy := match s.flcRun with | some q => decide (base ≤ q.addr ∧ q.addr < base + 4096) | none => false
    let s1 := if busy then s else
      let bad := (List.range 256).filter (fun k => s.flashEcc.get (fun _ => 0) (base / 16 + k) == 2)
      bad.foldl (fun s k => s.flcUncorr (base + 16 * k)) (s.modReg A.FLC_CNT (fun w => satAdd w 16 16 (min 256 diff)))
    if 2063 ≤ i then (s1.setField A.FLC_STAT 16 16 0).raise 1205 else s1.setField A.FLC_STAT 16 16 (i + 1)

/-! ## Telemetry unit -/

/-- CODE of a telemetry channel. -/
def tlmCode (s : State) (n : Nat) : Nat := s.field (0x40009010 + 4 * n) 0 8

/-- TLM_LIST_FORWARD (R196): the channel list reaches the power die. -/
def tlmListForward (s : State) : State := if s.linkUp then { s with tlmListed := true } else s

/-- The registers that hold the same measurement as a telemetry quantity (R196). -/
def tlmReg (code : Nat) : Option Nat :=
  match code with
  | 0 => some A.SUP_VIN
  | 1 => some A.SUP_VIO
  | 8 => some A.TEMP_PD
  | 9 => some (A.HB_CUR 0) | 10 => some (A.HB_CUR 1) | 11 => some (A.HB_CUR 2) | 12 => some (A.HB_CUR 3)
  | 13 => some A.IMD_AMPL
  | _ => none

/-- PD_TELEMETRY_SEND (R196): the power die sends channel `n`'s quantity; a quantity with no register is measured
(`value`). -/
def pdTelemetrySend (n value : Nat) (s : State) : State :=
  let c := tlmCode s n
  if s.flag A.TLM_CTL 0 && s.tlmListed && s.linkUp && decide (n < 16) && c != 0xFF then
    { s with tlmOut := s.tlmOut ++ [(c, match tlmReg c with | some a => s.field a 0 16 | none => value % 65536)] }
  else s

/-- One running log descriptor takes an entry; it completes DONE when LENGTH is full (R198, R409). -/
def State.logEntry (s : State) (w : Win) (n : Nat) (entry : List Word) : State :=
  let r := s.ring w n
  let sz := 4 * entry.length
  let len := (s.dw w n 1).toNat
  let s1 := s.putWords r.host ((s.dw w n 2).toNat + sz * r.count) entry
  let s2 := s1.modRing w n (fun r => { r with count := r.count + 1 })
  if len ≤ sz * (r.count + 1) then s2.finishDone w n (wd (r.count + 1)) else s2

/-- Is a started descriptor of this opcode in hand? -/
def State.logging (s : State) (w : Win) (n op : Nat) : Bool := s.inHand w n == some op && (s.ring w n).aux == 1

/-- A logging descriptor starts (R409): a timeout of 0 completes BAD_LENGTH. -/
def State.startLog (s : State) (w : Win) (n op : Nat) : State :=
  s.whenHand w n op (fun s =>
    if (s.ring w n).aux ≠ 0 then s
    else if fld (s.dw w n 5) 0 16 = 0 then s.finishBad w n 0x11
    else s.modRing w n (fun r => { r with aux := 1, t0 := s.now }))

/-- R196 to R198: one channel takes an arriving value. -/
def State.tlmStore (v : Nat) (s : State) (n : Nat) : State :=
  let s1 := s.modReg (A.TLM_VAL n) (fun w => setBit (wrapAdd (setFld w 0 16 v) 16 8 1) 31 false)
  let s2 := { s1 with tlmTold := s1.tlmTold &&& (65535 - 2 ^ n) }
  let seq := s2.field (A.TLM_VAL n) 16 8
  (List.range 2).foldl (fun s k =>
    if s.logging .tlm k 0x10 && bit (s.dw .tlm k 4) n then
      s.logEntry .tlm k [s.tick, setFld (setFld (setFld 0#32 0 16 v) 16 4 n) 24 8 seq]
    else s) s2

/-- TLM_FRAME (R196): the oldest telemetry frame arrives. -/
def tlmFrame (s : State) : State :=
  match s.tlmOut with
  | [] => s
  | (c, v) :: rest =>
    let s1 := ({ s with tlmOut := rest, link := { s.link with validCd := s.now } }).modReg A.TLM_CNT (fun w => w + 1#32)
    ((List.range 16).filter (fun n => tlmCode s n == c)).foldl (State.tlmStore v) s1

/-- TLM_STALE (R197). -/
def tlmStale (n : Nat) (s : State) : State :=
  if s.flag A.TLM_CTL 0 && decide (n < 16) && tlmCode s n != 0xFF then
    let s1 := (s.setBitReg (A.TLM_VAL n) 31).setBitReg A.TLM_ERR n
    if s.tlmTold.testBit n then s1 else ({ s1 with tlmTold := s1.tlmTold ||| 2 ^ n }).raise 1186
  else s

/-- TLM_STREAM (R198): the checks, then the descriptor takes entries as values arrive. -/
def tlmStream (n : Nat) (s : State) : State :=
  s.whenHand .tlm n 0x10 (fun s =>
    if (s.ring .tlm n).aux ≠ 0 then s
    else if fld (s.dw .tlm n 5) 0 16 = 0 then s.finishBad .tlm n 0x11
    else if fld (s.dw .tlm n 4) 0 16 = 0 then s.finishBad .tlm n 0x80
    else s.modRing .tlm n (fun r => { r with aux := 1, t0 := s.now }))

end Sys2Proof.Machine
end

