-- ==== Sys2Proof/Machine/Cfc.lean ====
section
/-! DEFINITION. The configuration check (02, R106 to R113). -/
namespace Sys2Proof.Machine

/-- A number put at its place in an ascending list. -/
def insertAscending (x : Nat) : List Nat → List Nat
  | [] => [x]
  | y :: l => if x ≤ y then x :: y :: l else y :: insertAscending x l

/-- The window offsets of a window's checked registers, ascending; those on the power die apart (R107). -/
def checkedOffs (w : Win) (pd : Bool) : List Nat :=
  ((w.allRows.filter (fun r => r.chk && (r.pd == pd))).flatMap
    (fun r => (List.range r.cnt).map (fun i => r.off + i * r.st))).foldr insertAscending []

/-- The value with which a checked register enters the check: 0 for an absent block, its ring set-up apart (R12), and
for an off domain (R245). -/
def State.checkedValue (s : State) (w : Win) (o : Nat) : Word :=
  if !s.present w then (if 0x400 ≤ o ∧ o < 0x600 then s.reg (w.base + o) else 0#32)
  else if !s.domOn w.domain then 0#32
  else s.reg (w.base + o)

/-- One bit of CRC-32C in reflected form (R108). -/
def crcStep (c : Word) : Word := if bit c 0 then (c >>> 1) ^^^ 0x82F63B78#32 else c >>> 1

/-- One byte of CRC-32C. -/
def crcByte (c : Word) (b : Byte) : Word := (List.range 8).foldl (fun c _ => crcStep c) (c ^^^ b.setWidth 32)

/-- CRC-32C of a list of words, each least significant byte first (R108). -/
def crc32c (ws : List Word) : Word :=
  ~~~ (ws.foldl (fun c w => (List.range 4).foldl (fun c k => crcByte c (byteOf w k)) c) 0xFFFFFFFF#32)

/-- The words a domain's check reads, in the order of R108, R122 and R231. -/
def State.domainWords (s : State) (d : Nat) : List Word :=
  (cfcWindows d).flatMap (fun w =>
    (checkedOffs w (d == 7)).map (fun o => if d = 7 then s.reg (w.base + o) else s.checkedValue w o) ++
    (if d = 0 ∧ w = .evr then (List.range 1216).map (fun i => s.routes.get (fun _ => 0#32) i) else []) ++
    (if d = 0 ∧ w = .clk then (List.range 441).map (fun i => s.pads.get padReset i) else []))

/-- The CRC-32C of a check domain as its registers stand. -/
def State.domainCrc (s : State) (d : Nat) : Word := crc32c (s.domainWords d)

/-- CFC_PASS_START (R109, R113): a pass starts while EN is 1; CAPTURE commands given before bind to it. -/
def cfcPassStart (s : State) : State :=
  if s.flag A.CFC_CTL 0 ∧ ¬ s.cfc.passOn then
    { s with cfc := { s.cfc with passOn := true, period := s.field A.CFC_CTL 4 2,
                                 startCrc := (List.range 8).map (fun d => (s.domainCrc d).toNat),
                                 bound := s.field A.CFC_CMD 0 8 } }
  else s

/-- The result of domain `d` at the end of a pass: its CRC when nothing it reads changed over the pass, else a free
value, since each register is read at an instant the spec does not state. -/
def State.passCrc (s : State) (d : Nat) : Word :=
  let e := s.domainCrc d
  if s.cfc.startCrc.getD d 0 = e.toNat then e else Config.freeWord (s.free + d)

/-- R110, R113: one domain's result is stored, captured or compared. -/
def State.cfcResult (act : Nat → State → State) (s : State) (d : Nat) (crc : Word) : State × Bool :=
  let s1 := s.setReg (A.CFC_CRC d) crc
  let pend := s.flag A.CFC_CMD d
  let s2 := if s.cfc.bound.testBit d && pend then (s1.setReg (A.CFC_REF d) crc).clrBitReg A.CFC_CMD d else s1
  let same := s2.reg (A.CFC_REF d) == crc
  let s3 := { s2 with cfc := { s2.cfc with matched := if same then s2.cfc.matched ||| 2 ^ d else s2.cfc.matched &&& (255 - 2 ^ d) } }
  if s.flag A.CFC_ARM d && !pend && !same then
    let a := s.field A.CFC_ACT (2 * d) 2
    let s4 := (s3.setBitReg A.CFC_STAT d).modReg A.CFC_MMCNT (fun w => satAdd w (4 * d) 4 1)
    if a = 2 then (act d (s4.setBitReg A.CFC_SAFE d), true) else (s4, a == 1)
  else (s3, false)

/-- R112: two passes without a timely domain 7 result. -/
def State.cfcStale (s : State) : State :=
  if s.cfc.stale = 2 then
    (({ s with cfc := { s.cfc with stale := 3 } }).setBitReg A.CFC_STAT 10).raise 123
  else s

/-- CFC_PASS_END (R109, R110, R112): `act d` starts domain `d`'s SAFE action. -/
def cfcPassEnd (act : Nat → State → State) (s : State) : State :=
  if s.cfc.passOn then
    let crcs := (List.range 7).map s.passCrc
    let s0 := { s with free := s.free + 7, cfc := { s.cfc with passOn := false, start7 := s.cfc.startCrc.getD 7 0 } }
    let s1 := s0.modReg A.CFC_PASS (fun w => w + 1#32)
    let r := (List.range 7).foldl (fun (p : State × Bool) d =>
      let q := State.cfcResult act p.1 d (crcs.getD d 0#32)
      (q.1, p.2 || q.2)) (s1, false)
    let s2 := if r.2 then r.1.raise 121 else r.1
    let s3 := s2.cfcStale
    { s3 with cfc := { s3.cfc with stale := if s3.cfc.stale < 2 then s3.cfc.stale + 1 else s3.cfc.stale } }
  else s

/-- CFC_DOMAIN7_RESULT (R112): a timely result is stored and compared, a late one discarded. The power die computed it in the
latest pass: it is the CRC of its registers when none has changed since that pass began, else a free value. -/
def cfcDomain7 (act : Nat → State → State) (timely : Bool) (s : State) : State :=
  if timely then
    let same := s.cfc.start7 == (s.domainCrc 7).toNat
    let s0 := if same then s else s.useFree
    let r := State.cfcResult act ({ s0 with cfc := { s0.cfc with stale := 0 } }) 7 (if same then s.domainCrc 7 else s.freeWord)
    if r.2 then r.1.raise 121 else r.1
  else s.cfcStale

/-- R113: CAPTURE bits written with 1 read 1 until their store; a pending one ignores the write. -/
def State.cfcCapture (s : State) (v : Word) : State :=
  let new := v &&& 0xFF#32 &&& ~~~ (s.reg A.CFC_CMD)
  { (s.orReg A.CFC_CMD new) with cfc := { s.cfc with bound := s.cfc.bound &&& (255 - fld new 0 8) } }

/-- R109: the effect of a CFC_CTL write: PERIOD waits for the next pass start; clearing EN abandons the pass. -/
def State.cfcCtl (s : State) (v : Word) : State :=
  let s1 := s.store A.CFC_CTL v
  if bit v 0 then s1 else { s1 with cfc := { s1.cfc with passOn := false, bound := 0 } }

/-- R111: the W1C clear of MISMATCH[n]; `stop n` ends domain n's SAFE action. -/
def State.mismatchClear (stop : Nat → State → State) (s : State) (n : Nat) : State :=
  if s.flag A.CFC_SAFE n then
    if s.cfc.matched.testBit n || !s.flag A.CFC_ARM n then
      stop n ((s.clrBitReg A.CFC_STAT n).clrBitReg A.CFC_SAFE n)
    else s
  else s.clrBitReg A.CFC_STAT n

/-- A W1C write of CFC_STAT. -/
def State.cfcStatClear (stop : Nat → State → State) (s : State) (bits : Word) : State :=
  let s1 := s.modReg A.CFC_STAT (fun w => w &&& ~~~ (bits &&& 0x700#32))
  (List.range 8).foldl (fun s n => if bit bits n then s.mismatchClear stop n else s) s1

end Sys2Proof.Machine
end

