-- ==== Sys2Proof/Machine/Curve.lean ====
section
/-! DEFINITION. Public-key arithmetic of chapter 15: the NIST curves (ECDSA, ECDH), X448 (RFC 7748) and Ed448 (RFC 8032)
with SHAKE256 (FIPS 202). -/
namespace Sys2Proof.Machine

/-- Modular power: the exponent's bits from the highest. -/
def powBits (bits : List Bool) (b m : Nat) : Nat := bits.foldl (fun r t => let r2 := r * r % m; if t then r2 * b % m else r2) 1

/-- The `n` low bits of a number, highest first. -/
def bitsOf (n e : Nat) : List Bool := ((List.range n).map e.testBit).reverse

/-- The inverse modulo a prime of at most `n` bits. -/
def invMod (n a p : Nat) : Nat := powBits (bitsOf n (p - 2)) (a % p) p

/-! ## NIST curves -/

/-- A short Weierstrass curve with a = -3. -/
structure Curve where
  bits : Nat
  bytes : Nat
  p : Nat
  b : Nat
  n : Nat
  gx : Nat
  gy : Nat
  deriving DecidableEq, Repr

/-- P-256 (FIPS 186). -/
def p256 : Curve :=
  ⟨256, 32, 0xffffffff00000001000000000000000000000000ffffffffffffffffffffffff,
   0x5ac635d8aa3a93e7b3ebbd55769886bc651d06b0cc53b0f63bce3c3e27d2604b,
   0xffffffff00000000ffffffffffffffffbce6faada7179e84f3b9cac2fc632551,
   0x6b17d1f2e12c4247f8bce6e563a440f277037d812deb33a0f4a13945d898c296,
   0x4fe342e2fe1a7f9b8ee7eb4a7c0f9e162bce33576b315ececbb6406837bf51f5⟩

/-- P-384 (FIPS 186). -/
def p384 : Curve :=
  ⟨384, 48, 2 ^ 384 - 2 ^ 128 - 2 ^ 96 + 2 ^ 32 - 1,
   0xb3312fa7e23ee7e4988e056be3f82d19181d9c6efe8141120314088f5013875ac656398d8a2ed19d2a85c8edd3ec2aef,
   0xffffffffffffffffffffffffffffffffffffffffffffffffc7634d81f4372ddf581a0db248b0a77aecec196accc52973,
   0xaa87ca22be8b05378eb1c71ef320ad746e1d3b628ba79b9859f741e082542a385502f25dbf55296c3a545e3872760ab7,
   0x3617de4a96262c6f5d9e98bf9292dc29f8f41dbd289a147ce9da3113b5f0b8c00a60b1ce1d7e819d7a431d7c90ea0e5f⟩

/-- P-521 (FIPS 186). -/
def p521 : Curve :=
  ⟨521, 66, 2 ^ 521 - 1,
   0x0051953eb9618e1c9a1f929a21a0b68540eea2da725b99b315f3b8b489918ef109e156193951ec7e937b1652c0bd3bb1bf073573df883d2c34f1ef451fd46b503f00,
   0x01fffffffffffffffffffffffffffffffffffffffffffffffffffffffffffffffffa51868783bf2f966b7fcc0148f709a5d03bb5c9b8899c47aebb6fb71e91386409,
   0x00c6858e06b70404e9cd9e3ecb662395b4429c648139053fb521f828af606b4d3dbaa14b5e77efe75928fe1dc127a2ffa8de3348b3c1856a429bf97e7e31c2e5bd66,
   0x011839296a789a3bc0045c8a5fb42c7d1bd998f54449579b446817afbd17273e662c97ee72995ef42640c550b9013fad0761353c7086a272c24088be94769fd16650⟩

/-- A point; `none` is the point at infinity. -/
abbrev Pt := Option (Nat × Nat)

/-- Is the affine point on the curve? -/
def Curve.on (c : Curve) (q : Nat × Nat) : Bool :=
  decide (q.1 < c.p) && decide (q.2 < c.p) && decide (q.2 * q.2 % c.p = (q.1 * q.1 * q.1 + (c.p - 3) * q.1 + c.b) % c.p)

/-- Point addition. -/
def Curve.add (c : Curve) (a b : Pt) : Pt :=
  match a, b with
  | none, q => q
  | q, none => q
  | some (x1, y1), some (x2, y2) =>
    if x1 = x2 ∧ (y1 + y2) % c.p = 0 then none
    else
      let l := if x1 = x2 then (3 * x1 * x1 + c.p - 3) * invMod c.bits (2 * y1) c.p % c.p
        else (y2 + c.p - y1) * invMod c.bits (x2 + c.p - x1) c.p % c.p
      let x3 := (l * l + 2 * c.p - x1 - x2) % c.p
      some (x3, (l * (x1 + c.p - x3) + c.p - y1) % c.p)

/-- Scalar multiplication. -/
def Curve.mul (c : Curve) (k : Nat) (q : Pt) : Pt :=
  (bitsOf c.bits k).foldl (fun r t => let r2 := c.add r r; if t then c.add r2 q else r2) none

/-- The generator. -/
def Curve.g (c : Curve) : Pt := some (c.gx, c.gy)

/-- x ‖ y, big-endian. -/
def Curve.enc (c : Curve) (q : Nat × Nat) : List Byte := natBe c.bytes q.1 ++ natBe c.bytes q.2

/-- A point read from x ‖ y. -/
def Curve.dec (c : Curve) (l : List Byte) : Nat × Nat := (beNat (l.take c.bytes), beNat ((l.drop c.bytes).take c.bytes))

/-- R652: the number a digest stands for: its leftmost bits. -/
def Curve.digest (c : Curve) (d : List Byte) : Nat :=
  let e := beNat d
  if c.bits < 8 * d.length then e >>> (8 * d.length - c.bits) else e

/-- ECDSA signature with nonce `k` (FIPS 186); `none` when r or s is 0. -/
def Curve.sign (c : Curve) (d e k : Nat) : Option (Nat × Nat) :=
  match c.mul k c.g with
  | none => none
  | some (x, _) =>
    let r := x % c.n
    let s := invMod c.bits k c.n * (e + r * d) % c.n
    if r = 0 ∨ s = 0 then none else some (r, s)

/-- ECDSA verification. -/
def Curve.verify (c : Curve) (q : Nat × Nat) (e r s : Nat) : Bool :=
  decide (0 < r) && decide (r < c.n) && decide (0 < s) && decide (s < c.n) &&
    (let w := invMod c.bits s c.n
     match c.add (c.mul (e * w % c.n) c.g) (c.mul (r * w % c.n) (some q)) with
     | none => false
     | some (x, _) => x % c.n == r)

/-! ## X448 (RFC 7748) -/

/-- The prime of curve448. -/
def p448 : Nat := 2 ^ 448 - 2 ^ 224 - 1

/-- The scalar of 56 bytes. -/
def x448Scalar (l : List Byte) : Nat := (leNat l % 2 ^ 447) / 4 * 4 + 2 ^ 447

/-- The ladder's working values. -/
structure Ladder where
  x2 : Nat
  z2 : Nat
  x3 : Nat
  z3 : Nat
  deriving DecidableEq, Repr

/-- One step of the Montgomery ladder on the coordinate u for scalar bit `t`. -/
def ladderStep (u : Nat) (s : Ladder) (t : Bool) : Ladder :=
  let p := p448
  let l : Ladder := if t then ⟨s.x3, s.z3, s.x2, s.z2⟩ else s
  let a := (l.x2 + l.z2) % p
  let aa := a * a % p
  let b := (l.x2 + p - l.z2) % p
  let bb := b * b % p
  let e := (aa + p - bb) % p
  let da := (l.x3 + p - l.z3) * a % p
  let cb := (l.x3 + l.z3) * b % p
  let x3 := (da + cb) * (da + cb) % p
  let z3 := u * ((da + p - cb) * (da + p - cb) % p) % p
  let r : Ladder := ⟨aa * bb % p, e * (aa + 39081 * e) % p, x3, z3⟩
  if t then ⟨r.x3, r.z3, r.x2, r.z2⟩ else r

/-- X448: scalar and u-coordinate, 56 bytes each. -/
def x448 (k u : List Byte) : List Byte :=
  let x1 := leNat u % 2 ^ 448 % p448
  let r := (bitsOf 448 (x448Scalar k)).foldl (ladderStep x1) ⟨1, 0, x1, 1⟩
  natLe 56 (r.x2 * invMod 448 r.z2 p448 % p448)

/-- The base point of X448. -/
def x448Base : List Byte := natLe 56 5

/-! ## SHAKE256 (FIPS 202) -/

/-- Rotation of a 64-bit lane to the left. -/
def rotl64 (x k : Nat) : Nat := rotr 64 x ((64 - k % 64) % 64) % 2 ^ 64

/-- The offsets of rho, lane x + 5y. -/
def keccakRho : List Nat := [0, 1, 62, 28, 27, 36, 44, 6, 55, 20, 3, 10, 43, 25, 39, 41, 45, 15, 21, 8, 18, 2, 61, 56, 14]

/-- The round constants of iota. -/
def keccakRc : List Nat :=
  [0x0000000000000001, 0x0000000000008082, 0x800000000000808A, 0x8000000080008000, 0x000000000000808B, 0x0000000080000001,
   0x8000000080008081, 0x8000000000008009, 0x000000000000008A, 0x0000000000000088, 0x0000000080008009, 0x000000008000000A] ++
  [0x000000008000808B, 0x800000000000008B, 0x8000000000008089, 0x8000000000008003, 0x8000000000008002, 0x8000000000000080,
   0x000000000000800A, 0x800000008000000A, 0x8000000080008081, 0x8000000000008080, 0x0000000080000001, 0x8000000080008008]

/-- One round of Keccak-f[1600] on 25 lanes. -/
def keccakRound (a : List Nat) (rc : Nat) : List Nat :=
  let g (l : List Nat) (x y : Nat) : Nat := l.getD (x % 5 + 5 * (y % 5)) 0
  let c := (List.range 5).map (fun x => (List.range 5).foldl (fun r y => r ^^^ g a x y) 0)
  let d := (List.range 5).map (fun x => c.getD ((x + 4) % 5) 0 ^^^ rotl64 (c.getD ((x + 1) % 5) 0) 1)
  let t := (List.range 25).map (fun i => rotl64 (a.getD i 0 ^^^ d.getD (i % 5) 0) (keccakRho.getD i 0))
  -- pi: lane (y, 2x + 3y) takes lane (x, y)
  let p := (List.range 25).map (fun i => g t (i % 5 + 3 * (i / 5)) (i % 5))
  (List.range 25).map (fun i =>
    let x := i % 5
    let y := i / 5
    let v := g p x y ^^^ (notW 64 (g p (x + 1) y) &&& g p (x + 2) y)
    if i = 0 then v ^^^ rc else v)

/-- Keccak-f[1600]. -/
def keccakF (a : List Nat) : List Nat := keccakRc.foldl keccakRound a

/-- Absorbs one 136-byte block. -/
def shakeAbsorb (a : List Nat) (blk : List Byte) : List Nat :=
  keccakF ((List.range 25).map (fun i => if i < 17 then a.getD i 0 ^^^ leNat ((blk.drop (8 * i)).take 8) else a.getD i 0))

/-- SHAKE256 with 114 bytes of output (one squeeze). -/
def shake256 (m : List Byte) : List Byte :=
  let z := 136 - m.length % 136
  let pad := if z = 1 then [0x9F#8] else [0x1F#8] ++ List.replicate (z - 2) 0#8 ++ [0x80#8]
  let p := m ++ pad
  let a := (chunks 136 (p.length / 136) p).foldl shakeAbsorb (List.replicate 25 0)
  (a.flatMap (natLe 8)).take 114

/-! ## Ed448 (RFC 8032) -/

/-- The order of the base point. -/
def ed448L : Nat := 2 ^ 446 - 0x8335dc163bb124b65129c96fde933d8d723a70aadc873d6d54a7bb0d

/-- The base point. -/
def ed448B : Nat × Nat :=
  (0x4f1970c66bed0ded221d15a622bf36da9e146570470f1767ea6de324a3d3a46412ae1af72ab66511433b80e18b00938e2626a82bc70cc05e,
   0x693f46716eb6bc248876203756c9c7624bea73736ca3984087789c1e05a0c2d73ad3ff1ce67c39c4fdbd132c4ed7c8ad9808795bf230fa14)

/-- d = -39081. -/
def ed448D : Nat := p448 - 39081

/-- Point addition on x² + y² = 1 + d x² y². -/
def edAdd (a b : Nat × Nat) : Nat × Nat :=
  let p := p448
  let t := ed448D * (a.1 * b.1 % p) % p * (a.2 * b.2 % p) % p
  ((a.1 * b.2 + a.2 * b.1) * invMod 448 (1 + t) p % p,
   (a.2 * b.2 + p * p - a.1 * b.1) % p * invMod 448 (1 + p - t) p % p)

/-- Scalar multiplication. -/
def edMul (k : Nat) (q : Nat × Nat) : Nat × Nat :=
  (bitsOf 456 k).foldl (fun r t => let r2 := edAdd r r; if t then edAdd r2 q else r2) (0, 1)

/-- The 57-byte encoding. -/
def edEnc (q : Nat × Nat) : List Byte := natLe 57 (q.2 + (q.1 % 2) * 2 ^ 455)

/-- Decoding (RFC 8032, 5.2.3). -/
def edDec (l : List Byte) : Option (Nat × Nat) :=
  let p := p448
  let n := leNat l
  let y := n % 2 ^ 455
  let sgn := n / 2 ^ 455
  if p ≤ y then none
  else
    let u := (y * y + p - 1) % p
    let v := (ed448D * (y * y % p) + p - 1) % p
    let x := u * u % p * u % p * v % p * powBits (bitsOf 448 ((p - 3) / 4)) (u * u % p * u % p * u % p * u % p * (v * v % p * v % p) % p) p % p
    if v * (x * x % p) % p ≠ u then none
    else if x = 0 ∧ sgn = 1 then none
    else some (if x % 2 = sgn then x else p - x, y)

/-- dom4 with flag 0 and a context. -/
def edDom (ctx : List Byte) : List Byte :=
  [0x53#8, 0x69#8, 0x67#8, 0x45#8, 0x64#8, 0x34#8, 0x34#8, 0x38#8, 0#8, BitVec.ofNat 8 ctx.length] ++ ctx

/-- The secret scalar and prefix of a 57-byte private key. -/
def edSecret (k : List Byte) : Nat × List Byte :=
  let h := shake256 k
  ((leNat (h.take 56) % 2 ^ 447) / 4 * 4 % 2 ^ 447 + 2 ^ 447, h.drop 57)

/-- The public key. -/
def edPublic (k : List Byte) : List Byte := edEnc (edMul (edSecret k).1 ed448B)

/-- Signature, 114 bytes. -/
def edSign (k ctx m : List Byte) : List Byte :=
  let s := edSecret k
  let a := edPublic k
  let r := leNat (shake256 (edDom ctx ++ s.2 ++ m)) % ed448L
  let rr := edEnc (edMul r ed448B)
  let h := leNat (shake256 (edDom ctx ++ rr ++ a ++ m)) % ed448L
  rr ++ natLe 57 ((r + h * s.1) % ed448L)

/-- Verification: `none` when the public key is not a point. -/
def edVerify (a ctx m sig : List Byte) : Option Bool :=
  match edDec a with
  | none => none
  | some q =>
    match edDec (sig.take 57) with
    | none => some false
    | some r =>
      let s := leNat (sig.drop 57)
      let h := leNat (shake256 (edDom ctx ++ sig.take 57 ++ a ++ m)) % ed448L
      some (decide (s < ed448L) && edMul s ed448B == edAdd r (edMul h q))

end Sys2Proof.Machine
end

