-- ==== Sys2Proof/Machine/Keys.lean ====
section
/-! DEFINITION. The random numbers of the DRBG, the key store, its slots, rows, key requests, patrol and key update
messages, and the appending of a tamper log entry (14, R592 to R617, R630; 15, R656 to R664). -/
namespace Sys2Proof.Machine

/-- The bytes of an ASCII string without terminator (R593). -/
def ascii (x : String) : List Byte := x.toList.map (fun c => BitVec.ofNat 8 c.toNat)

/-- `n` zero bytes. -/
def zeros (n : Nat) : List Byte := List.replicate n 0#8

/-- Are all bytes zero? -/
def allZero (l : List Byte) : Bool := l.all (· == 0#8)

/-- Changes the cipher state. -/
def State.modCry (s : State) (f : CrySt → CrySt) : State := { s with cry := f s.cry }
/-- Changes the key store's state. -/
def State.modKey (s : State) (f : KeySt → KeySt) : State := { s with key := f s.key }
/-- Changes the vault unit's state. -/
def State.modVlt (s : State) (f : VltSt → VltSt) : State := { s with vlt := f s.vlt }

/-! ## DRBG (R660 to R663) -/

/-- TRNG_STAT.STATE: 0 OFF, 1 STARTUP, 2 READY, 3 FAILED. -/
def State.trngState (s : State) : Nat := s.field A.TRNG_STAT 0 2

/-- TRNG is READY. -/
def State.trngReady (s : State) : Bool := s.live .trng && s.trngState == 2

/-- R662: a reseed with 384 bits of entropy input. -/
def State.reseed (s : State) : State :=
  let e := s.freeBytes 12
  let s1 := e.2.modCry (fun c => { c with drbg := c.drbg.map (fun d => d.reseed e.1), seedAt := s.now })
  (s1.modReg A.TRNG_RESEEDS (· + 1#32)).setReg A.TRNG_REQS 0#32

/-- R662: is a reseed due before the next request? -/
def State.reseedDue (s : State) : Bool :=
  decide (s.cry.seedAt + 400000000 * s.field A.TRNG_CTL 8 8 ≤ s.now) || decide (65536 ≤ s.field A.TRNG_REQS 0 17)

/-- R662, R664: one request of `n` bytes, with prediction resistance when `pr`; `none` while TRNG is not READY. -/
def State.drbgBytes (s : State) (pr : Bool) (n : Nat) : Option (List Byte × State) :=
  if !s.trngReady then none
  else
    let s1 := if s.reseedDue || pr || s.flag A.TRNG_CTL 0 then s.reseed else s
    match s1.cry.drbg with
    | none => none
    | some d =>
      let o := d.gen n
      some (o.1, (s1.modCry (fun c => { c with drbg := some o.2 })).modReg A.TRNG_REQS (fun w => satAdd w 0 17 1))

/-- R616, R653: a scalar in [1, n - 1] by rejection sampling; each draw is one request. After `k` rejections the last draw
is reduced into the range. -/
def State.drawScalar (c : Curve) : Nat → State → Option (Nat × State)
  | 0, s => (s.drbgBytes false c.bytes).map (fun r => (beNat r.1 % (c.n - 1) + 1, r.2))
  | k + 1, s =>
    match s.drbgBytes false c.bytes with
    | none => none
    | some (b, s1) =>
      let x := beNat b % 2 ^ c.bits
      if 1 ≤ x ∧ x < c.n then some (x, s1) else State.drawScalar c k s1

/-! ## Derived keys (R593, Table KEY-2) -/

/-- DEVICE_ID as bytes. -/
def deviceId : List Byte := natBe 16 Config.deviceId.toNat
/-- The fuse root as bytes. -/
def fuseRoot : List Byte := natBe 32 Config.fuseRoot.toNat

/-- A 256-bit key derived from the fuse root. -/
def fuseKey (label : String) : List Byte := kdf fuseRoot (ascii label) deviceId 256

/-- IDK: the private scalar of the device identity, 32 bytes. -/
def idkScalar : Nat := beNat (kdf fuseRoot (ascii "PV-IDK") deviceId 320) % (p256.n - 1) + 1

/-- The vault root (R594), in the key vault. -/
def State.vaultRoot (s : State) : List Byte := s.bytes 0x50000000 32

/-- ROOT_ID as the key vault holds it. -/
def State.rootId (s : State) : List Byte := s.bytes 0x50000020 4

/-- ROOT_PRESENT: the vault root is not all zero. -/
def State.rootPresent (s : State) : Bool := !allZero s.vaultRoot

/-- VWK. -/
def State.vwk (s : State) : List Byte := kdf s.vaultRoot (ascii "PV-VWK") deviceId 256

/-! ## The tamper log (R630, Table KEY-14) -/

/-- SECONDS of the calendar. -/
def State.seconds (s : State) : Nat := (s.word 0x50000200).toNat

/-- The VLT unit runs on VBAT. -/
def State.onVbat (s : State) : Bool := s.pmu.mode == .off

/-- MODE of a tamper log entry. -/
def State.logMode (s : State) : Nat := if s.onVbat then 2 else if s.pmu.mode == .standby then 1 else 0

/-- Appends an entry; a full log loses its oldest entry. -/
def State.tampLog (s : State) (typ sources : Nat) (data : List Byte) : State :=
  let seq := (s.reg A.LOG_NEXT).toNat
  let t := if s.onVbat then 0 else s.tick.toNat
  let body := natLe 4 seq ++ natLe 4 s.seconds ++ [BitVec.ofNat 8 typ, BitVec.ofNat 8 s.logMode] ++ natLe 2 sources ++
    natLe 4 t ++ (data ++ zeros (12 - data.length))
  let crc := crc32c ((chunks 4 7 body).map (fun b => wd (leNat b)))
  let s1 := s.setBytes (0x50001000 + 32 * (seq % 128)) (body ++ natLe 4 crc.toNat)
  let s2 := s1.setReg A.LOG_NEXT (wd (seq + 1))
  if 128 ≤ seq then (s2.setBitReg A.VLT_ERR 8).raise 888 else s2

/-! ## Slots (R596 to R603) -/

/-- Key bytes of a TYPE; 0 for none. -/
def typeLen : Nat → Nat
  | 0x01 => 16 | 0x02 => 32 | 0x03 => 32 | 0x10 => 32 | 0x11 => 48 | 0x12 => 66 | 0x13 => 57 | 0x14 => 56
  | _ => 0

/-- R596: is the TYPE legal for the slot, NONE apart? -/
def typeLegal (slot typ : Nat) : Bool :=
  decide (0 < typeLen typ) && (decide (slot < 48) == decide (typ < 0x10))

/-- The address of a slot's row (R600). -/
def rowAddr (slot : Nat) : Nat := if slot < 48 then 0x08800000 + 64 * slot else 0x08800C00 + 128 * (slot - 48)
/-- Bytes of a slot's row. -/
def rowLen (slot : Nat) : Nat := if slot < 48 then 64 else 128
/-- Bytes of a row's KEY field. -/
def keyField (slot : Nat) : Nat := if slot < 48 then 32 else 72

/-- A slot as KEY holds it. -/
def State.kslot (s : State) (n : Nat) : KSlot := s.key.slots.get (fun _ => {}) n

/-- Sets a slot. -/
def State.setKSlot (s : State) (n : Nat) (x : KSlot) : State :=
  s.modKey (fun k => { k with slots := k.slots.set (fun _ => {}) n x })

/-- R645: message contexts that hold the slot end; the loss is told by CRY_CTX_LOST. -/
def State.loseSlot (s : State) (n : Nat) : State :=
  (List.range 8).foldl (fun s r =>
    let c := s.cry.ctx.get (fun _ => {}) r
    if c.live && c.slot == n && !c.lost then
      s.modCry (fun k => { k with ctx := k.ctx.set (fun _ => {}) r { c with lost := true, key := [], msg := [], aad := [] } })
    else s) s

/-- Fields of a slot's row bytes. -/
def KSlot.field (x : KSlot) (i n : Nat) : Nat := leNat ((x.head.drop i).take n)
/-- TYPE. -/
def KSlot.typ (x : KSlot) : Nat := x.field 1 1
/-- CLASS. -/
def KSlot.cls (x : KSlot) : Nat := x.field 2 1
/-- USAGE. -/
def KSlot.usage (x : KSlot) : Nat := x.field 4 2

/-- R602: the tag of row bytes 0 to 23 and the plaintext KEY field. -/
def slotTag (head key : List Byte) : List Byte := (cmac (fuseKey "PV-SIK") (head ++ key)).take 8

/-- R601: the initial counter block of a row. -/
def wrapBlock (head : List Byte) : List Byte :=
  ((head.drop 12).take 4).reverse ++ [head.getD 0 0#8, head.getD 3 0#8] ++ zeros 6 ++ [0#8, 0#8, 0#8, 1#8]

/-- R601: wraps or unwraps a KEY field. -/
def State.wrap (s : State) (head field : List Byte) : List Byte :=
  ctrStream (if head.getD 2 0#8 = 0#8 then fuseKey "PV-FWK" else s.vwk) (wrapBlock head) 1 field

/-- R603: classifies a row and loads its key. -/
def State.loadSlot (s : State) (n : Nat) : State :=
  let row := s.bytes (rowAddr n) (rowLen n)
  if row.all (· == 0xFF#8) then s.setKSlot n {}
  else
    let head := row.take 24
    let tag := row.drop (rowLen n - 8)
    let x : KSlot := { head := head, tag := tag }
    if x.field 0 1 ≠ n ∨ typeLegal n x.typ = false then s.setKSlot n { x with st := 2 }
    else if x.cls = 1 ∧ (s.rootPresent = false ∨ (head.drop 8).take 4 ≠ s.rootId) then s.setKSlot n { x with st := 3 }
    else
      let key := s.wrap head ((row.drop 24).take (keyField n))
      if slotTag head key = tag then s.setKSlot n { x with st := 1, key := key } else s.setKSlot n { x with st := 2 }

/-- The number of slots in a state. -/
def State.slotsIn (s : State) (st : Nat) : Nat := ((List.range 64).filter (fun n => (s.kslot n).st == st)).length

/-- SLOT_BAD and SLOT_LOST words: a bit per slot from `lo`. -/
def State.slotBits (s : State) (st lo : Nat) : Word :=
  (List.range 32).foldl (fun w i => setBit w i ((s.kslot (lo + i)).st == st)) 0#32

/-- READY of KEY_STAT. -/
def State.keyReady (s : State) : Bool := s.live .key && s.flag A.KEY_STAT 0

/-- The sources whose condition stands (VLT_STAT). -/
def State.tamperLive (s : State) : Nat := s.field A.VLT_STAT 8 8

/-- ERASE_HELD: a source whose action is ERASE is asserted. -/
def State.eraseHeld (s : State) : Bool :=
  s.tamperLive &&& s.field A.TAMP_EN 0 8 &&& s.field A.TAMP_ACT 0 8 != 0

/-- What KEY_STAT reads. -/
def State.keyStat (s : State) : Word :=
  setFld (setFld (setFld (setBit (setBit (s.reg A.KEY_STAT) 1 s.rootPresent) 3 s.eraseHeld) 8 8 (s.slotsIn 1))
    16 8 (s.slotsIn 2)) 24 8 (s.slotsIn 3)

/-- KU_CNT: the greater of the vault value and the fuse floor (R617). -/
def State.kuCnt (s : State) : Nat := max (s.word 0x50000304).toNat (s.key.floorP * 2 ^ 27)

/-- The address of a slot's invocation counter (R604). -/
def cntAddr (slot : Nat) : Nat := 0x50000340 + 4 * slot

/-- What a banked slot register reads for core `c` (Table KEY-17). -/
def State.kslotReg (s : State) (c off : Nat) : Word :=
  let n := (s.banked c A.KEY_SLOT_IDX).toNat
  let x := s.kslot n
  if 64 ≤ n then
    (if off = 0x34 then setFld 1#32 8 8 (if n = 0xF0 then 0x10 else 2)
     else if off = 0x38 then wd (if n = 0xF0 then 0x388 else 0x142) else 0#32)
  else match off with
    | 0x34 => setFld (setFld (wd x.st) 8 8 x.typ) 16 1 x.cls
    | 0x38 => setFld (wd x.usage) 16 16 (x.field 6 2)
    | 0x3C => if n < 48 then s.word (cntAddr n) else 0#32
    | 0x40 => wd (x.field 16 4)
    | 0x44 => wd (x.field 20 4)
    | 0x48 => wd (x.field 12 4)
    | _ => 0#32

/-- KEY_READY (R594, R603, R605, R622): every row is classified and loaded, READY sets and KEY_READY is raised. -/
def keyReadyCmd (s : State) : State :=
  if !s.live .key || s.keyReady then s
  else
    let s1 := if s.vlt.por then
        ((List.range 48).foldl (fun s n => s.setWord (cntAddr n) 0xFFFFFFFF#32) (s.modVlt (fun v => { v with por := false }))).setBitReg
          A.KEY_STAT 2
      else s
    let s2 := (List.range 64).foldl State.loadSlot s1
    let s3 := (s2.setBitReg A.KEY_STAT 0).raise 836
    if s3.vlt.eraseDue then (s3.modVlt (fun v => { v with eraseDue := false })).raise 884 else s3

/-- ROOT_NEW (R595): a new vault root is drawn. -/
def rootNew (s : State) : State :=
  if !s.keyReady || s.rootPresent || s.eraseHeld then s
  else match s.drbgBytes false 32 with
    | none => s
    | some (root, s1) =>
      let id := kdf root (ascii "PV-VID") deviceId 32
      ((s1.setBytes 0x50000000 (root ++ id)).tampLog 0x03 0 id).raise 887

/-! ## Key requests (R606, Table KEY-6) -/

/-- What a unit asks for: the slot code, the use and host bits, the types that fit, and whether the use is counted. -/
structure KeyNeed where
  code : Nat
  use : Nat
  host : Nat
  types : List Nat
  counted : Bool
  deriving DecidableEq, Repr

/-- How a request ends. -/
inductive KeyAns where
  /-- it waits (R607, R608) -/
  | wait
  | bad (status : Nat)
  | got (k : KeyGot)
  deriving DecidableEq, Repr

/-- TYPE, USAGE and state of a slot code; the fixed keys are always VALID (R599). -/
def State.codeInfo (s : State) (code : Nat) : Option (Nat × Nat × Nat) :=
  if code < 64 then some ((s.kslot code).st, (s.kslot code).typ, (s.kslot code).usage)
  else if code = 0xF0 then some (1, 0x10, 0x388)
  else if code = 0xF1 then some (1, 0x02, 0x142)
  else none

/-- A slot is found BAD: by a request, the patrol or a failed program (R606, R609, R615). -/
def State.slotBad (s : State) (n : Nat) : State :=
  ((s.setKSlot n { (s.kslot n) with st := 2, key := [] }).loseSlot n)

/-- The slot that the key update in hand rewrites next (R608). -/
def State.rewriting (s : State) (code : Nat) : Bool :=
  match s.key.kuOps with
  | [] => false
  | _ => s.key.kuOps.any (fun e => (e.getD 1 0#8).toNat == code) && decide (code < 64)

/-- R604, R606: one key request; `upset` says that the RAM copy of the slot has been disturbed (step 5). -/
def State.keyRequest (s : State) (q : KeyNeed) (upset : Bool) : State × KeyAns :=
  if !s.live .key then (s, .bad 0x20)
  else match s.codeInfo q.code with
    | none => (s, .bad 0x20)
    | some _ =>
      if !s.keyReady || s.rewriting q.code then (s, .wait)
      else match s.codeInfo q.code with
        | none => (s, .bad 0x20)
        | some (st, typ, usage) =>
          if st ≠ 1 then (s, .bad 0x20)
          else if !(usage.testBit q.use && usage.testBit (8 + (if q.code = 0xF1 then s.standsFor q.host else q.host))) then (s, .bad 0x21)
          else if !q.types.contains typ then (s, .bad 0x21)
          else if 64 ≤ q.code then
            (s, .got ⟨q.code, typ, if q.code = 0xF0 then natBe 32 idkScalar else fuseKey "PV-IMG", [], 0⟩)
          else
            let x := s.kslot q.code
            if upset || slotTag x.head x.key != x.tag then (((s.slotBad q.code).setBitReg A.KEY_ERR 0).raise 837, .bad 0x20)
            else
              let c := (s.word (cntAddr q.code)).toNat
              let g : KeyGot := ⟨q.code, typ, x.key.take (typeLen typ), ((x.head.drop 16).take 8).reverse, c⟩
              if !q.counted then (s, .got g)
              else if c = 0xFFFFFFFF then (s, .bad 0x22)
              else
                let s1 := s.setWord (cntAddr q.code) (wd (c + 1))
                let s2 := if 0xFFFF0000 ≤ c + 1 ∧ s1.key.lowTold.testBit q.code = false then
                    ((s1.modKey (fun k => { k with lowTold := k.lowTold ||| 2 ^ q.code })).setBitReg A.KEY_ERR 3).raise 840
                  else s1
                (s2, .got g)

/-- The key for the descriptor in hand: the one already delivered, or a request's. -/
def State.obtain (s : State) (w : Win) (n : Nat) (q : KeyNeed) : State × KeyAns :=
  match (s.ring w n).key with
  | some g => (s, .got g)
  | none => s.keyRequest q false

/-! ## Patrol (R609) -/

/-- KEY_PATROL: the patrol checks the next VALID slot; the end of a pass is told. -/
def keyPatrol (upset : Bool) (s : State) : State :=
  if !s.keyReady || !s.flag A.KEY_CTL 0 then s
  else match (List.range 64).find? (fun n => decide (s.key.patrol ≤ n) && (s.kslot n).st == 1 && !s.rewriting n) with
    | none => ((s.modKey (fun k => { k with patrol := 0 })).bgStepDone .key).raise 842
    | some n =>
      let x := s.kslot n
      let s1 := (s.modKey (fun k => { k with patrol := n + 1 })).bgStepDone .key
      if upset || slotTag x.head x.key != x.tag then ((s1.slotBad n).setBitReg A.KEY_ERR 0).raise 837
      else if x.cls = 1 ∧ (x.head.drop 8).take 4 ≠ s.rootId then
        ((s1.setKSlot n { x with st := 3, key := [] }).loseSlot n).raise 841
      else s1

/-! ## Key update messages (R611 to R617) -/

/-- Table KEY-9 step 6: one entry is legal. -/
def opLegal (e : List Byte) : Bool :=
  let g (i n : Nat) : Nat := leNat ((e.drop i).take n)
  let op := g 0 1
  let slot := g 1 1
  let typ := g 2 1
  let usage := g 4 2
  decide (1 ≤ op ∧ op ≤ 3) && decide (slot ≤ 63) && (if op = 3 then typ == 0 else typeLegal slot typ) && decide (g 3 1 ≤ 1) &&
    decide (usage < 0x2000) && allZero ((e.drop 16).take 8) &&
    allZero (e.drop (24 + (if op = 1 then typeLen typ else 0))) &&
    (if slot = 63 then op == 3 || (op == 2 && typ == 0x10 && g 3 1 == 1 && usage == 0x1088) else !usage.testBit 12)

/-- R614, Table KEY-9: the checks, in order: a failing status and RESULT, or the decrypted entries and the counter. -/
def State.kuCheck (s : State) (n : Nat) : Sum (Nat × Nat) (List (List Byte) × Nat) :=
  let host := (s.ring .key n).cfg
  let len := (s.dw .key n 1).toNat
  let a := (s.dw .key n 2).toNat
  let h := fld host 4 4
  if s.standsFor h ≠ mH0 then .inl (0x14, 0)
  else if len < 144 ∨ 816 < len then .inl (0x11, 0)
  else if a % 4 ≠ 0 then .inl (0x12, 0)
  else if !s.rangeReach .key h .load a len then .inl (0x13, 0)
  else
    let m := s.viewBytes h a len
    let g (i k : Nat) : Nat := leNat ((m.drop i).take k)
    let nops := g 1 1
    if g 0 1 ≠ 1 ∨ nops < 1 ∨ 8 < nops ∨ g 2 2 ≠ len then .inl (0x82, 0)
    else if (m.drop 4).take 16 ≠ deviceId then .inl (0x80, 0)
    else if g 20 4 ≤ s.kuCnt then .inl (0x81, 0)
    else
      let c := g 20 4
      let tpk := fuseKey "PV-KUT"
      let iv := zeros 8 ++ natBe 4 c
      let body := (m.drop 32).take (len - 48)
      if gcmTag tpk iv (m.take 32) body ≠ m.drop (len - 16) then .inl (0x23, 0)
      else
        let ops := chunks 96 nops (ctrStream tpk (iv ++ zeros 4) 2 body)
        let bad (p : List Byte → Bool) : Option Nat := (List.range ops.length).find? (fun i => !p (ops.getD i []))
        let slotOf (e : List Byte) : Nat := (e.getD 1 0#8).toNat
        match bad opLegal with
        | some i => .inl (0x83, i)
        | none =>
          match bad (fun e =>
              let row := s.bytes (rowAddr (slotOf e)) (rowLen (slotOf e))
              e.getD 0 0#8 == 3#8 || row.all (· == 0xFF#8) || decide (leNat ((row.drop 6).take 2) ≤ leNat ((e.drop 6).take 2))) with
          | some i => .inl (0x84, i)
          | none =>
            match bad (fun e => e.getD 3 0#8 != 1#8 || s.rootPresent) with
            | some i => .inl (0x85, i)
            | none => .inr (ops, c)

/-- The key that a WRITE or GENERATE gives a slot; `none` when the TRNG is not READY. -/
def State.newKey (s : State) (e : List Byte) : Option (List Byte × State) :=
  let typ := (e.getD 2 0#8).toNat
  if e.getD 0 0#8 = 1#8 then some (e.drop 24, s)
  else match typ with
    | 0x10 => (State.drawScalar p256 64 s).map (fun r => (natBe 32 r.1, r.2))
    | 0x11 => (State.drawScalar p384 64 s).map (fun r => (natBe 48 r.1, r.2))
    | 0x12 => (State.drawScalar p521 64 s).map (fun r => (natBe 66 r.1, r.2))
    | _ => s.drbgBytes false (typeLen typ)

/-- A slot's invocation counter returns to 0. -/
def State.zeroCnt (s : State) (n : Nat) : State := if n < 48 then s.setWord (cntAddr n) 0#32 else s

/-- R616: applies operation `i`; `false` when its row fails to program. -/
def State.kuApply (s : State) (i : Nat) (e : List Byte) (ok : Bool) : State × Bool :=
  let slot := (e.getD 1 0#8).toNat
  let row := rowAddr slot
  -- a row that fails to program holds bytes that nothing determines
  let fail (s : State) : State × Bool :=
    let f := (s.flashErase row (rowLen slot)).freeBytes (rowLen slot / 4)
    ((((f.2.flashProgram row f.1).setKSlot slot { st := 2 }).loseSlot slot), false)
  if e.getD 0 0#8 = 3#8 then
    let s1 := ((s.flashErase row (rowLen slot)).loseSlot slot).zeroCnt slot
    if ok then (s1.setKSlot slot {}, true) else fail (s.flashFail row true)
  else match s.newKey e with
    | none => fail s
    | some (k, s0) =>
      let cls := e.getD 3 0#8
      let key := k.take (keyField slot) ++ zeros (keyField slot - k.length)
      let head := [BitVec.ofNat 8 slot, e.getD 2 0#8, cls, BitVec.ofNat 8 i] ++ (e.drop 4).take 4 ++
        (if cls = 1#8 then s0.rootId else zeros 4) ++ natLe 4 s0.key.kuCounter ++ (e.drop 8).take 8
      if !ok then fail (s0.flashFail row false)
      else
        let tag := slotTag head key
        let bytes := head ++ s0.wrap head key ++ (if slot < 48 then [] else zeros 24) ++ tag
        let s1 := ((s0.flashErase row (rowLen slot)).flashProgram row bytes).zeroCnt slot
        (((s1.loseSlot slot).setKSlot slot ⟨1, head, key, tag⟩), true)

/-- R614: a KEY_UPDATE fails. -/
def State.kuReject (s : State) (n status result : Nat) : State :=
  ((s.setBitReg A.KEY_ERR 1).raise 839).finish .key n { status := status, result := wd result }

/-- KEY_UPDATE (R614 to R617): the first command on a descriptor checks the message and stores its counter; each further
one applies one operation, whose row programs (`ok`) or fails; the last one completes. -/
def keyUpdate (n : Nat) (ok : Bool) (s : State) : State :=
  s.whenHand .key n 0x10 (fun s =>
    if !s.keyReady then s
    else
      let r := s.ring .key n
      if r.aux = 0 then
        if s.key.kuOps ≠ [] then s
        else match s.kuCheck n with
          | .inl (st, res) => s.kuReject n st res
          | .inr (ops, c) =>
            let s1 := s.setWord 0x50000304 (wd c)
            let s2 := s1.modKey (fun k =>
              { k with kuOps := ops, kuCounter := c, kuRing := n, floorP := max k.floorP (c / 2 ^ 27) })
            s2.modRing .key n (fun r => { r with aux := ops.length })
      else
        let done := r.aux - s.key.kuOps.length
        match s.key.kuOps with
        | [] => s
        | e :: rest =>
          match s.kuApply done e ok with
          | (s1, false) =>
            ((s1.modKey (fun k => { k with kuOps := [] })).setBitReg A.KEY_ERR 2).kuReject n 0x86 done
          | (s1, true) =>
            let s2 := s1.modRing .key n (fun r => { r with count := r.count ||| ((e.getD 1 0#8).toNat <<< (8 * done)) })
            let s3 := s2.modKey (fun k => { k with kuOps := rest })
            if rest ≠ [] then s3
            else
              let slots := (List.range 8).map (fun i =>
                if i < r.aux then BitVec.ofNat 8 ((s2.ring .key n).count >>> (8 * i)) else 0xFF#8)
              ((s3.tampLog 0x02 0 (natLe 4 s.key.kuCounter ++ [BitVec.ofNat 8 r.aux] ++ slots.take 7)).raise 838).finishDone
                .key n (wd r.aux))

/-- The public key of a private key of a TYPE; free bytes where the private key has none. -/
def State.publicKey (s : State) (typ : Nat) (key : List Byte) : List Byte × State :=
  let nist (c : Curve) : List Byte × State :=
    match c.mul (beNat key % c.n) c.g with
    | some q => (c.enc q, s)
    | none => let f := s.freeBytes 33; (f.1.take (2 * c.bytes), f.2)
  match typ with
  | 0x10 => nist p256
  | 0x11 => nist p384
  | 0x12 => nist p521
  | 0x13 => (edPublic key, s)
  | _ => (x448 key x448Base, s)

/-- Public key length of a TYPE. -/
def pubLen : Nat → Nat
  | 0x10 => 64 | 0x11 => 96 | 0x12 => 132 | 0x13 => 57 | _ => 56

/-- PUBKEY_READ (R632). -/
def pubkeyRead (n : Nat) (s : State) : State :=
  s.whenHand .key n 0x11 (fun s =>
    if !s.keyReady then s
    else
      let code := fld (s.dw .key n 4) 0 8
      match s.codeInfo code with
      | none => s.finishBad .key n 0x20
      | some (st, typ, usage) =>
        if st ≠ 1 ∨ typ < 0x10 then s.finishBad .key n 0x20
        else if !usage.testBit 7 then s.finishBad .key n 0x21
        else if (s.dw .key n 1).toNat ≠ pubLen typ then s.finishBad .key n 0x11
        else
          let key := if code = 0xF0 then natBe 32 idkScalar else (s.kslot code).key.take (typeLen typ)
          let p := s.publicKey typ key
          (p.2.putBytes (p.2.ring .key n).host (p.2.dw .key n 2).toNat p.1).finishDone .key n (wd (pubLen typ)))

end Sys2Proof.Machine
end

