-- ==== Sys2Proof/Machine/Cipher.lean ====
section
/-! DEFINITION. The cipher unit, the public-key engine and the random-number unit (15, R635 to R664). -/
namespace Sys2Proof.Machine

/-! ## CRY -/

/-- The key a CRY opcode asks for (Table CRY-3). -/
def cryNeed (op code host : Nat) : Option KeyNeed :=
  match op with
  | 0x10 | 0x12 | 0x14 => some ⟨code, 0, host, [1, 2], true⟩
  | 0x11 | 0x13 | 0x15 => some ⟨code, 1, host, [1, 2], false⟩
  | 0x16 => some ⟨code, 2, host, [1, 2], false⟩
  | 0x1A | 0x1B => some ⟨code, 2, host, [3], false⟩
  | _ => none

/-- How a CRY descriptor starts. -/
inductive CryStart where
  | wait
  | bad (status : Nat)
  | ok (c : CryCtx)
  deriving DecidableEq, Repr

/-- Sets a ring's message context. -/
def State.setCtx (s : State) (n : Nat) (c : CryCtx) : State :=
  s.modCry (fun k => { k with ctx := k.ctx.set (fun _ => {}) n c })

/-- R640, R642, R644: the context of the descriptor in hand: the ring's, or a new message's, whose key is requested. -/
def State.cryBegin (s : State) (n op : Nat) : State × CryStart :=
  let c := s.cryCtx n
  let host := (s.ring .cry n).host
  let par := (s.dw .cry n 6).toNat
  if c.live then
    (if c.lost then (s, .bad 0x20) else if c.op ≠ op then (s, .bad 0x10) else (s, .ok c))
  else match cryNeed op (fld (s.dw .cry n 4) 0 8) host with
    | none => (s, .ok { op := op })
    | some q =>
      match s.obtain .cry n q with
      | (s1, .wait) => (s1, .wait)
      | (s1, .bad st) => (s1, .bad st)
      | (s1, .got g) =>
        let p := s1.viewBytes host par 48
        let hw := g.iv ++ natBe 4 g.cnt
        let iv := match op with
          | 0x10 | 0x12 => hw
          | 0x14 => hw ++ [0#8, 0#8, 0#8, 1#8]
          | 0x11 | 0x13 => p.take 12
          | _ => p.take 16
        let c1 : CryCtx := { op := op, slot := g.slot, key := g.key, iv := iv }
        if op ≤ 0x13 then
          let aad := s1.viewBytes host (s1.dw .cry n 5).toNat (fld (s1.dw .cry n 4) 16 16)
          (s1, .ok { c1 with aad := aad, total := leNat ((p.drop 32).take 4), tag := (p.drop 16).take 16 })
        else (s1, .ok c1)

/-- R641, and the counter's end: CRY completes COUNTER_EXHAUSTED. -/
def State.cryBad (s : State) (n status : Nat) : State :=
  let s1 := s.finishBad .cry n status
  if status = 0x22 then (s1.setBitReg A.CRY_ERR 1).raise 857 else s1

/-- R646, R647: a tag does not match. -/
def State.cryAuthFail (s : State) (n : Nat) : State :=
  (((s.setBitReg A.CRY_ERR 0).modReg A.CRY_AUTHCNT (fun w => satAdd w 0 16 1)).raise 856).finish .cry n
    { status := 0x23, last := true }

/-- The key-stream output of one fragment and the message bytes the tag runs over. -/
def cryStream (c : CryCtx) (data : List Byte) : List Byte × List Byte :=
  let blk := c.pos / 16
  match c.op with
  | 0x10 => let o := ctrStream c.key (c.iv ++ zeros 4) (2 + blk) data; (o, o)
  | 0x11 => (ctrStream c.key (c.iv ++ zeros 4) (2 + blk) data, data)
  | 0x12 => (ctrStream c.key (ccmCtr c.iv) (ctrOf (ccmCtr c.iv) + 1 + blk) data, data)
  | 0x13 => let o := ctrStream c.key (ccmCtr c.iv) (ctrOf (ccmCtr c.iv) + 1 + blk) data; (o, o)
  | 0x14 | 0x15 => (ctrStream c.key c.iv (ctrOf c.iv + blk) data, [])
  | _ => ([], data)

/-- The tag or digest of a whole message. -/
def cryTag (c : CryCtx) (tagLen : Nat) : List Byte :=
  match c.op with
  | 0x10 | 0x11 => (gcmTag c.key c.iv c.aad c.msg).take tagLen
  | 0x12 | 0x13 => ccmTag c.key c.iv c.aad c.msg tagLen
  | 0x16 => (cmac c.key c.msg).take tagLen
  | 0x18 => shaHash sha256 c.msg
  | 0x19 => shaHash sha384 c.msg
  | 0x1A => (hmac sha256 c.key c.msg).take tagLen
  | 0x1B => (hmac sha384 c.key c.msg).take tagLen
  | _ => []

/-- The final fragment's tag, digest or verification (R646 to R649). `res` is RESULT of an ENC or DEC fragment. -/
def State.cryFinal (s : State) (n : Nat) (c : CryCtx) (res : Nat) : State :=
  let host := (s.ring .cry n).host
  let d := (s.ring .cry n).desc
  let t := cryTagLen d
  let b := (s.dw .cry n 3).toNat
  let len := (s.dw .cry n 1).toNat
  let par := (s.dw .cry n 6).toNat
  let tag := cryTag c t
  let done (s : State) (r : Nat) : State := s.finish .cry n { status := 0, result := wd r, last := true }
  match c.op with
  | 0x10 | 0x12 => done (s.putBytes host (par + 16) (tag ++ zeros (16 - tag.length))) res
  | 0x11 | 0x13 => if tag = c.tag.take t then done s res else (s.putBytes host b (zeros len)).cryAuthFail n
  | 0x14 | 0x15 => done s res
  | _ =>
    if bit (s.dw .cry n 0) 12 then (if s.viewBytes host b t = tag then done s 0 else s.cryAuthFail n)
    else done (s.putBytes host b tag) tag.length

/-- One CRY descriptor (R638 to R649). -/
def cryRun (n op : Nat) (s : State) : State :=
  s.whenHand .cry n op (fun s =>
    let link := bit (s.dw .cry n 0) 11
    let len := (s.dw .cry n 1).toNat
    let host := (s.ring .cry n).host
    let first := !(s.cryCtx n).live
    match s.cryBegin n op with
    | (s1, .wait) => s1
    | (s1, .bad st) => (if link || first then s1 else s1.setCtx n {}).cryBad n st
    | (s1, .ok c) =>
      let blocks := (len + 15) / 16
      if (op = 0x14 ∨ op = 0x15) ∧ 4294967296 < ctrOf c.iv + c.pos / 16 + blocks then
        (if link then s1 else s1.setCtx n {}).cryBad n 0x22
      else
        let data := s1.viewBytes host (s1.dw .cry n 2).toNat len
        let o := cryStream c data
        let par := (s1.dw .cry n 6).toNat
        let s2 := if first && (op = 0x10 || op = 0x12 || op = 0x14) then
            (s1.putBytes host par (c.iv ++ zeros (16 - c.iv.length))).putBytes host (par + 36) (zeros 12)
          else s1
        let s3 := (s2.putBytes host (s2.dw .cry n 3).toNat o.1).modReg A.CRY_BYTES (fun w => w + wd len)
        let c1 := { c with live := true, msg := c.msg ++ o.2, pos := c.pos + len }
        if link then (s3.setCtx n c1).finish .cry n { status := 0, result := wd (16 * blocks) }
        else (s3.setCtx n {}).cryFinal n c1 len)

/-- CRY_CTX_LOST (R645): the loss of ring `n`'s context through its slot or tamper is told. -/
def cryCtxLost (n : Nat) (s : State) : State :=
  let c := s.cryCtx n
  if c.live && c.lost && !c.told then ((s.setCtx n { c with told := true }).setBitReg A.CRY_ERR 2).raise 858 else s

/-- What CRY_STAT reads: engines busy with descriptors in hand, and the rings that hold a context. -/
def State.cryStat (s : State) : Word :=
  let busy (p : Nat → Bool) : Nat := ((List.range 8).filter (fun n => match s.inHand .cry n with | some op => p op | none => false)).length
  let a := busy (fun op => op ≤ 0x16)
  let w := setBit (setBit (setBit 0#32 0 (0 < a)) 1 (1 < a && s.flag A.CRY_CTL 0)) 2 (0 < busy (fun op => 0x18 ≤ op))
  (List.range 8).foldl (fun w n => setBit w (8 + n) ((s.cryCtx n).live && !(s.cryCtx n).lost)) w

/-! ## PKE -/

/-- The curve of a TYPE or of a curve code 0 to 2. -/
def curveOf : Nat → Curve
  | 0x11 | 1 => p384
  | 0x12 | 2 => p521
  | _ => p256

/-- PKE ends an operation DONE. -/
def State.pkeDone (s : State) (n result : Nat) : State := (s.modReg A.PKE_CNT (· + 1#32)).finishDone .pke n (wd result)

/-- PKE finds a point that is not valid (R654). -/
def State.pkePoint (s : State) (n : Nat) : State := (s.setBitReg A.PKE_ERR 1).finishBad .pke n 0x80

/-- PKE finds a signature that does not verify (R654). -/
def State.pkeAuthFail (s : State) (n : Nat) : State := (s.setBitReg A.PKE_ERR 2).finishBad .pke n 0x23

/-- Data of the descriptor in hand at ADDR_A, LENGTH bytes. -/
def State.pkeData (s : State) (n : Nat) : List Byte :=
  s.viewBytes (s.ring .pke n).host (s.dw .pke n 2).toNat (s.dw .pke n 1).toNat

/-- Writes PKE's output at ADDR_B. -/
def State.pkeOut (s : State) (n : Nat) (out : List Byte) : State :=
  (s.putBytes (s.ring .pke n).host (s.dw .pke n 3).toNat out).pkeDone n out.length

/-- R653: signs `e` with nonces drawn from the DRBG until r and s are not 0. -/
def State.signLoop (c : Curve) (d e : Nat) : Nat → State → Option ((Nat × Nat) × State)
  | 0, _ => none
  | k + 1, s =>
    match State.drawScalar c 64 s with
    | none => none
    | some (x, s1) =>
      match c.sign d e x with
      | some rs => some (rs, s1)
      | none => State.signLoop c d e k s1

/-- The key that a PKE opcode asks for (R650). -/
def pkeNeed (op code host : Nat) : Option KeyNeed :=
  match op with
  | 0x10 => some ⟨code, 3, host, [0x10, 0x11, 0x12], false⟩
  | 0x12 => some ⟨code, 4, host, [0x10, 0x11, 0x12, 0x14], false⟩
  | 0x15 => some ⟨code, 3, host, [0x13], false⟩
  | _ => none

/-- Runs a PKE opcode that uses a slot's key. -/
def State.withPkeKey (s : State) (n op : Nat) (f : KeyGot → State → State) : State :=
  match pkeNeed op (fld (s.dw .pke n 5) 8 8) (s.ring .pke n).host with
  | none => s
  | some q =>
    match s.obtain .pke n q with
    | (s1, .wait) => s1
    | (s1, .bad st) => s1.finishBad .pke n st
    | (s1, .got g) => f g s1

/-- ECDSA_SIGN (R650, R652, R653, R656); `faulty` says that the computed signature does not verify. -/
def ecdsaSign (n : Nat) (faulty : Bool) (s : State) : State :=
  s.whenHand .pke n 0x10 (fun s => s.withPkeKey n 0x10 (fun g s =>
    let c := curveOf g.typ
    match State.signLoop c (beNat g.key) (c.digest (s.pkeData n)) 64 s with
    | none => s.finishBad .pke n 0x82
    | some (rs, s1) =>
      if faulty && s1.flag A.PKE_CTL 0 then ((s1.setBitReg A.PKE_ERR 0).raise 868).finishBad .pke n 0x83
      else s1.pkeOut n (natBe c.bytes rs.1 ++ natBe c.bytes rs.2)))

/-- ECDSA_VERIFY (R650, R654). -/
def ecdsaVerify (n : Nat) (s : State) : State :=
  s.whenHand .pke n 0x11 (fun s =>
    let code := fld (s.dw .pke n 5) 0 8
    if 2 < code then s.finishBad .pke n 0x84
    else
      let c := curveOf code
      let v := s.viewBytes (s.ring .pke n).host (s.dw .pke n 3).toNat (4 * c.bytes)
      let q := c.dec v
      if !c.on q then s.pkePoint n
      else if c.verify q (c.digest (s.pkeData n)) (beNat ((v.drop (2 * c.bytes)).take c.bytes)) (beNat (v.drop (3 * c.bytes))) then
        s.pkeDone n 0
      else s.pkeAuthFail n)

/-- The shared secret of a private key and a peer's public value; `none` for a point that is not valid (R654). -/
def sharedSecret (curve : Nat) (key peer : List Byte) : Option (List Byte) :=
  if curve = 4 then (let z := x448 key peer; if allZero z then none else some z)
  else
    let c := curveOf curve
    let q := c.dec peer
    if !c.on q then none else (c.mul (beNat key % c.n) (some q)).map (fun r => natBe c.bytes r.1)

/-- ECDH (R650, R654). -/
def ecdh (n : Nat) (s : State) : State :=
  s.whenHand .pke n 0x12 (fun s => s.withPkeKey n 0x12 (fun g s =>
    let curve := g.typ - 0x10
    if (s.dw .pke n 1).toNat ≠ curvePub curve then s.finishBad .pke n 0x11
    else if !s.rangeReach .pke (s.ring .pke n).host .store (s.dw .pke n 3).toNat (curveSecret curve) then s.finishBad .pke n 0x13
    else match sharedSecret curve g.key (s.pkeData n) with
      | none => s.pkePoint n
      | some z => s.pkeOut n z))

/-- EPH_GEN (R655). -/
def ephGen (n : Nat) (s : State) : State :=
  s.whenHand .pke n 0x13 (fun s =>
    let curve := fld (s.dw .pke n 5) 0 8
    let set (key : List Byte) (s : State) : State :=
      let p := s.publicKey (0x10 + curve) key
      (p.2.modCry (fun k => { k with eph := k.eph.set (fun _ => none) n (some (curve, key)) })).pkeOut n p.1
    if 4 < curve ∨ curve = 3 then s.finishBad .pke n 0x84
    else if curve = 4 then
      match s.drbgBytes false 56 with
      | none => s.finishBad .pke n 0x82
      | some (b, s1) => set b s1
    else match State.drawScalar (curveOf curve) 64 s with
      | none => s.finishBad .pke n 0x82
      | some (x, s1) => set (natBe (curveOf curve).bytes x) s1)

/-- ECDH_EPH (R655). -/
def ecdhEph (n : Nat) (s : State) : State :=
  s.whenHand .pke n 0x14 (fun s =>
    let curve := fld (s.dw .pke n 5) 0 8
    if 4 < curve ∨ curve = 3 then s.finishBad .pke n 0x84
    else match s.cry.eph.get (fun _ => none) n with
      | none => s.finishBad .pke n 0x81
      | some (c, key) =>
        if c ≠ curve then s.finishBad .pke n 0x81
        else
          let s1 := s.endRing .pke n
          match sharedSecret curve key (s.pkeData n) with
          | none => s1.pkePoint n
          | some z => s1.pkeOut n z)

/-- The context string of an Ed448 descriptor (R651). -/
def State.edCtx (s : State) (n : Nat) : List Byte :=
  s.viewBytes (s.ring .pke n).host (s.dw .pke n 4).toNat (fld (s.dw .pke n 6) 0 8)

/-- ED448_SIGN (R651). -/
def ed448Sign (n : Nat) (faulty : Bool) (s : State) : State :=
  s.whenHand .pke n 0x15 (fun s => s.withPkeKey n 0x15 (fun g s =>
    if faulty && s.flag A.PKE_CTL 0 then ((s.setBitReg A.PKE_ERR 0).raise 868).finishBad .pke n 0x83
    else s.pkeOut n (edSign g.key (s.edCtx n) (s.pkeData n))))

/-- ED448_VERIFY (R651, R654). -/
def ed448Verify (n : Nat) (s : State) : State :=
  s.whenHand .pke n 0x16 (fun s =>
    let v := s.viewBytes (s.ring .pke n).host (s.dw .pke n 3).toNat 171
    match edVerify (v.take 57) (s.edCtx n) (s.pkeData n) (v.drop 57) with
    | none => s.pkePoint n
    | some true => s.pkeDone n 0
    | some false => s.pkeAuthFail n)

/-- What PKE_STAT reads. -/
def State.pkeStat (s : State) : Word :=
  let hand := (List.range 4).find? (fun n => (s.inHand .pke n).isSome)
  let curve (n : Nat) : Nat :=
    let a := s.dw .pke n 5
    match s.inHand .pke n with
    | some 0x10 | some 0x12 | some 0x15 => (match s.codeInfo (fld a 8 8) with | some (_, t, _) => (t - 0x10) % 8 | none => 0)
    | some 0x16 => 3
    | _ => fld a 0 3
  let w := match hand with | some n => setFld 1#32 1 3 (curve n) | none => 0#32
  (List.range 4).foldl (fun w n => setBit w (8 + n) (s.cry.eph.get (fun _ => none) n).isSome) w

/-! ## TRNG -/

/-- The health failures of the last second. -/
def State.recentFails (s : State) : List Nat := s.cry.fails.filter (fun t => decide (s.now < t + 400000000))

/-- What TRNG_STAT reads. -/
def State.trngStat (s : State) : Word := setFld (s.reg A.TRNG_STAT) 8 8 (min 255 s.recentFails.length)

/-- TRNG enters FAILED. -/
def State.trngFail (s : State) : State :=
  ((((s.setField A.TRNG_STAT 0 2 3).modCry (fun c => { c with drbg := none })).setBitReg A.TRNG_ERR 3)).raise 877

/-- TRNG_CMD.RESTART (R660): the start-up sequence runs again. -/
def State.trngRestart (s : State) : State :=
  (s.setField A.TRNG_STAT 0 2 1).modCry (fun c => { c with drbg := none })

/-- TRNG_STARTUP (R660, R661): the sequence ends; `health` and `kat` say how its tests ended. -/
def trngStartup (health kat : Bool) (s : State) : State :=
  if !s.live .trng || 1 < s.trngState then s
  else if !health then s.trngFail
  else if !kat then (s.setBitReg A.TRNG_ERR 2).trngFail
  else
    let e := s.freeBytes 12
    let d := Drbg.start e.1 (deviceId ++ natBe 4 (s.pmu.t0 % 4294967296))
    (((e.2.modCry (fun c => { c with drbg := some d, seedAt := s.now })).setField A.TRNG_STAT 0 2 2).setReg A.TRNG_REQS 0#32)

/-- TRNG_HEALTH (R658): a health test fails; the third failure within 1 s enters FAILED. -/
def trngHealth (apt : Bool) (s : State) : State :=
  if !s.live .trng || s.trngState = 0 || s.trngState = 3 then s
  else
    let s1 := s.modCry (fun c => { c with fails := s.recentFails ++ [s.now] })
    let s2 := (s1.setBitReg A.TRNG_ERR (if apt then 1 else 0)).raise 876
    if 3 ≤ s2.cry.fails.length then s2.trngFail else s2

/-- DRBG_RESEED (R662): a reseed that is due. -/
def drbgReseed (s : State) : State := if s.trngReady && s.reseedDue then s.reseed else s

/-- RAND (R662, R664). -/
def rand (n : Nat) (s : State) : State :=
  s.whenHand .trng n 0x10 (fun s =>
    let len := (s.dw .trng n 1).toNat
    match s.drbgBytes (bit (s.dw .trng n 0) 12) len with
    | none => s.finishBad .trng n 0x80
    | some (b, s1) => (s1.putBytes (s.ring .trng n).host (s.dw .trng n 2).toNat b).finishDone .trng n (wd len))

end Sys2Proof.Machine
end

