-- ==== Sys2Proof/Machine/Clocks.lean ====
section
/-! DEFINITION. Clock domains, spread, monitors, clock failures, the time base, pads (05, R201 to R239). -/
namespace Sys2Proof.Machine

/-! ## Time-base quality -/

/-- TB_QUAL (Table TIM-5). -/
def State.qual (s : State) : Nat := s.field A.TB_AUX 8 3

/-- CLK_STAT.SPLL_MODE: 0 OFF, 1 NORMAL, 2 HOLDOVER, 3 LIMP. -/
def State.spllMode (s : State) : Nat := s.field A.CLK_STAT 8 2

/-- R216: TB_QUAL takes a state; a change sets QUAL_CHG and raises TB_QUAL_CHG. -/
def State.setQual (s : State) (q : Nat) : State :=
  if s.qual = q then s else ((s.setField A.TB_AUX 8 3 q).setBitReg A.TB_STAT 0).raise 12

/-- The SPLL takes a mode and the time base its quality; LIMP holds until a reset that restarts the boot ROM (R222). -/
def State.setSpll (s : State) (mode q : Nat) : State :=
  if s.spllMode = 3 then s else (s.setField A.CLK_STAT 8 2 mode).setQual q

/-- The SPLL leaves lock and holds over. -/
def State.spllHold (s : State) : State :=
  if s.spllMode = 3 then s else (s.clrBitReg A.CLK_STAT 2).setSpll 2 1

/-- UPORTS_OFF: domains 17 to 20 are gated or ungated by the part; RUN follows EN (R221, R223). -/
def State.uports (s : State) (off : Bool) : State :=
  [17, 18, 19, 20].foldl (fun s n => s.setField (A.CLK_DOM n) 8 1 (if off then 0 else s.field (A.CLK_DOM n) 0 1))
    (s.setField A.CLK_STAT 10 1 off.toNat)

/-! ## Domains and spread -/

/-- Table TIM-3: the domains with a firmware gate. -/
def firmwareGate (n : Nat) : Bool := n == 9 || (17 ≤ n && n ≤ 24)

/-- The clock domain runs (R203, R221). -/
def State.clockRuns (s : State) (n : Nat) : Bool := s.flag (A.CLK_DOM n) 0 && !(s.flag A.CLK_STAT 10 && 17 ≤ n && n ≤ 20)

/-- R203, R206: the effect of a write to CLK_DOMn. A domain without a firmware gate keeps EN 1; an absent domain's
register reads 0. -/
def State.clkDomEffect (s : State) (n size : Nat) (v : Word) : State :=
  if !clockPresent s.opt n then s
  else
    let s1 := s.rwStore (A.CLK_DOM n) size v
    let s2 := if firmwareGate n then s1 else s1.setField (A.CLK_DOM n) 0 1 1
    s2.setField (A.CLK_DOM n) 8 1 (s2.clockRuns n).toNat

/-- CLK_DOM_WRITE (R203 to R206). -/
def clkDomWrite (m n size : Nat) (v : Word) (s : State) : State :=
  if n < 28 then s.plainWrite .clk m (A.CLK_DOM n) (fun s => s.clkDomEffect n size v) else s

/-- The effect of an SSC_CFG write: it waits for the boundary, where SEED loads the LFSR (R209). -/
def State.sscEffect (s : State) (v : Word) : State :=
  let s1 := s.store A.SSC_CFG v
  { s1 with clk := { s1.clk with seedDue := true } }

/-- One advance of the 15-bit LFSR of x^15 + x^14 + 1 (R208). -/
def lfsrNext (x : Nat) : Nat := (x * 2 + (x / 2 ^ 14 + x / 2 ^ 13) % 2) % 2 ^ 15

/-- SSC_BOUNDARY (R207 to R209): a modulation period ends; what SSC_CFG holds takes effect. -/
def sscBoundary (s : State) : State :=
  if s.spllMode = 1 ∨ s.spllMode = 2 then
    let cfg := s.reg A.SSC_CFG
    let dith := bit cfg 4
    let l := if s.clk.seedDue then fld cfg 16 15 else if dith then lfsrNext s.clk.lfsr else s.clk.lfsr
    let p := if dith then 736 + 6 * (l % 17) else 782
    ({ s with clk := { s.clk with sscAct := cfg, lfsr := l, seedDue := false } }).setReg A.SSC_STAT
      (setFld (setFld 0#32 0 10 p) 20 2 (fld cfg 0 2))
  else s

/-! ## Failures -/

/-- CLK_LIMP (R222): every SPLL-derived domain runs from RC16M. -/
def State.limp (s : State) : State :=
  if s.spllMode = 3 then s
  else ((((s.clrBitReg A.CLK_STAT 2).setQual 5).setField A.CLK_STAT 8 2 3).setBitReg A.CLK_ERR 5).raise 10

/-- CLK_LIMP: the SPLL did not relock within 1 ms. -/
def clkLimp (s : State) : State := if s.spllMode = 2 then s.limp else s

/-- XO_FAIL (R221): the crystal stops. The PLLs hold over, their reference becomes RC16M and domains 17 to 20 are gated. -/
def xoFail (s : State) : State :=
  let s1 := ((s.setBitReg A.CLK_ERR 0).clrBitReg A.CLK_STAT 0).raise 6
  let s2 := (s1.spllHold).modReg A.CLK_STAT (fun w => setFld (setBit (setBit w 3 false) 4 false) 5 2 1)
  let s3 := s2.uports true
  { s3 with clk := { s3.clk with readopt := false, mon0Passes := 0 } }

/-- RC_RELOCK (R221): the PLLs lock on RC16M. -/
def rcRelock (s : State) : State :=
  if s.field A.CLK_STAT 5 2 = 1 ∧ 2 ≤ s.spllMode then
    let s1 := s.modReg A.CLK_STAT (fun w =>
      setBit (setBit (setBit w 2 (s.spllMode != 3)) 3 true) 4 (s.flag A.CLK_CTL 4))
    s1.setSpll 1 2
  else s

/-- PLL_UNLOCK (R222, R223): PLL 0 (SPLL), 1 (UPLL) or 2 (APLL) loses lock and holds over. -/
def pllUnlock (k : Nat) (s : State) : State :=
  match k with
  | 0 => if s.flag A.CLK_STAT 2 then ((s.spllHold).setBitReg A.CLK_ERR 2).raise 8 else s
  | 1 =>
    if s.flag A.CLK_STAT 3 then
      let s1 := ((((s.clrBitReg A.CLK_STAT 3).setBitReg A.CLK_ERR 3).raise 8).uports true)
      { s1 with clk := { s1.clk with mon4Passes := 0 } }
    else s
  | _ => if s.flag A.CLK_STAT 4 then ((s.clrBitReg A.CLK_STAT 4).setBitReg A.CLK_ERR 4).raise 8 else s

/-- PLL_RELOCK (R222): the SPLL returns from HOLDOVER to NORMAL; a UPLL or APLL lock shows in its LOCK bit. -/
def pllRelock (k : Nat) (s : State) : State :=
  match k with
  | 0 => if s.spllMode = 2 then
      (s.setBitReg A.CLK_STAT 2).setSpll 1 (if s.field A.CLK_STAT 5 2 = 0 then 0 else 2) else s
  | 1 => if s.flag A.CLK_CTL 3 then s.setBitReg A.CLK_STAT 3 else s
  | _ => if s.flag A.CLK_CTL 4 then s.setBitReg A.CLK_STAT 4 else s

/-- UPLL_RECOVERED (R223): locked, and monitor 4 has passed 10 gates in a row. -/
def upllRecovered (s : State) : State :=
  if s.flag A.CLK_STAT 10 ∧ s.flag A.CLK_STAT 3 ∧ s.field A.CLK_STAT 5 2 = 0 ∧ 10 ≤ s.clk.mon4Passes then
    (s.uports false).raise 11
  else s

/-- CAL_FLAGS of the calendar state (Table KEY-12) and its copy in VLT_STAT: VALID and ON_LPRC. -/
def State.setCalFlags (s : State) (valid onLprc : Bool) : State :=
  (s.setWord 0x50000208 (setBit (setBit 0#32 0 valid) 1 onLprc)).modReg A.VLT_STAT (fun w => setBit (setBit w 0 valid) 1 onLprc)

/-- Calendar time is valid (R626). -/
def State.calValid (s : State) : Bool := bit (s.word 0x50000208) 0
/-- The calendar counts LPRC/4 (R626). -/
def State.onLprc (s : State) : Bool := bit (s.word 0x50000208) 1

/-- LF_FAIL while the part runs (R224): LCDCLK moves to LPRC/4. The calendar loses VALID and counts LPRC/4 (R626). -/
def State.lfFail (s : State) : State :=
  let s1 := ((s.setBitReg A.CLK_ERR 1).clrBitReg A.CLK_STAT 1).raise 7
  let s2 := ((s1.setCalFlags false true).setBitReg A.VLT_ERR 9).raise 886
  { s2 with clk := { s2.clk with lcdOnLprc := true } }

/-- R225: XO_READOPT written with 1 after XO_FAIL. -/
def State.readoptEffect (s : State) : State :=
  if s.flag A.CLK_ERR 0 ∨ s.field A.CLK_STAT 5 2 = 1 then { s with clk := { s.clk with readopt := true, mon0Passes := 0 } } else s

/-- The effect of a CLK_CTL write (R206, R225): APLL_EN ignores 0 while M is out of reset and stores 0 on an EC. -/
def State.clkCtlEffect (s : State) (v : Word) : State :=
  let old := s.flag A.CLK_CTL 4
  let s1 := s.store A.CLK_CTL v
  let s2 := s1.setField A.CLK_CTL 4 1
    (if s.opt = optEC then 0 else if old && decide (2 ≤ s.coreState mM) then 1 else fld v 4 1)
  if bit v 8 then s2.readoptEffect else s2

/-- XO_READOPT (R225): a write of CLK_CTL with XO_READOPT 1 by the WP procedure. -/
def xoReadopt (m size : Nat) (v : Word) (s : State) : State :=
  s.wpWrite .clk m A.CLK_CTL size v (fun s => s.clkCtlEffect v)

/-- XO_RELOCK (R225): the PLLs relock on XO25 after ten passing gates of monitor 0. -/
def xoRelock (s : State) : State :=
  if s.clk.readopt ∧ 10 ≤ s.clk.mon0Passes then
    let s1 := s.modReg A.CLK_STAT (fun w =>
      setBit (setBit (setBit (setBit (setFld w 5 2 0) 0 true) 2 (s.spllMode != 3)) 3 true) 4 (s.flag A.CLK_CTL 4))
    let s2 := ((s1.setSpll 1 0).uports false).raise 11
    { s2 with clk := { s2.clk with readopt := false } }
  else s

/-- Limits of monitor `n`: LO and HI (Table TIM-6). -/
def State.monLimits (s : State) (n : Nat) : Nat × Nat :=
  let w := match n with
    | 0 => s.reg A.MON_CFG0 | 1 => s.reg A.MON_CFG1 | 2 => s.reg A.MON_CFG2 | 3 => s.reg A.MON_CFG3
    | 4 => s.reg A.MON_CFG4 | 5 => s.reg A.MON_CFG5 | _ => s.reg A.MON_CFG6
  (fld w 0 16, fld w 16 16)

/-- CLK_MONITOR_GATE (R220 to R225): a gate of monitor `n` ends with a count. -/
def clkMonitorGate (n count : Nat) (s : State) : State :=
  if 7 ≤ n ∨ s.spllMode = 0 ∨ (n = 3 ∧ clockPresent s.opt 13 = false) ∨ s.domOn 19 = false then s
  else
    let s1 := s.setReg (A.MON_CNT n) (wd (count % 65536))
    let lim := s.monLimits n
    if lim.1 ≤ count ∧ count ≤ lim.2 then
      match n with
      | 0 => if s1.clk.readopt then { s1 with clk := { s1.clk with mon0Passes := s1.clk.mon0Passes + 1 } } else s1
      | 1 =>
        let s2 := if s1.onLprc then s1.setCalFlags s1.calValid false else s1
        { (s2.setBitReg A.CLK_STAT 1) with clk := { s2.clk with lcdOnLprc := false } }
      | 2 => { s1 with clk := { s1.clk with mon2Fails := 0 } }
      | 3 => { s1 with clk := { s1.clk with mon3Bad := false } }
      | 4 => { s1 with clk := { s1.clk with mon4Passes := s1.clk.mon4Passes + 1 } }
      | _ => s1
    else
      let s2 := (s1.setBitReg A.CLK_ERR (8 + n)).raise 9
      match n with
      | 0 => if s2.field A.CLK_STAT 5 2 = 0 then xoFail s2 else { s2 with clk := { s2.clk with mon0Passes := 0 } }
      | 1 => s2.lfFail
      | 2 =>
        let k := s2.clk.mon2Fails + 1
        let s3 := { s2 with clk := { s2.clk with mon2Fails := k } }
        if 2 ≤ k then s3.limp else s3
      | 3 => { s2 with clk := { s2.clk with mon3Bad := true } }
      | 4 =>
        let s3 := s2.uports true
        { s3 with clk := { s3.clk with mon4Passes := 0 } }
      | _ => s2

/-! ## Time base -/

/-- LF_MEASUREMENT (R217): 1,024 LF32K periods measured `ticks` corrected ticks; the mean period in 16.16 is stored. -/
def lfMeasurement (ticks : Nat) (s : State) : State :=
  if s.flag A.TB_CTL 0 ∧ s.qual = 0 then s.setReg A.LF_PERIOD (wd (ticks * 64)) else s

/-- TB_AUX: the quality, and the sub-tick remainder of R213, which is 0 at DEPTH 0 and else free: the divider word of
the reference period is not part of this model. -/
def State.tbAux (s : State) : Word :=
  setFld (s.reg A.TB_AUX) 0 5 (if fld s.clk.sscAct 0 2 = 0 then 0 else s.freeNat % 32)

/-- R218: a read of TB_LO latches TB_HI and TB_AUX for the master. -/
def State.tbLatch (s : State) (m : Nat) : State :=
  ((s.setBanked m A.TB_HI ((s.tb >>> 32).setWidth 32)).setBanked m A.TB_AUX s.tbAux).useFree

/-- R213: one TBCLK cycle: the count advances by 1, or at a DEPTH above 0 by 1 or 2; a step of 2 counts in CORR_CNT. -/
def State.tbCycle (s : State) : State :=
  if fld s.clk.sscAct 0 2 = 0 then { s with tb := s.tb + 1 }
  else if s.freeNat % 2 = 0 then { s.useFree with tb := s.tb + 1 }
  else ({ s.useFree with tb := s.tb + 2 }).modReg A.CORR_CNT (fun w => w + 1#32)

/-- R217: in STANDBY the count advances by LF_PERIOD at each rising edge of LF32K, with the fraction carried. -/
def State.tbLfEdge (s : State) : State :=
  let x := s.clk.lfFrac + (s.reg A.LF_PERIOD).toNat
  { s with tb := s.tb + BitVec.ofNat 64 (x / 65536), clk := { s.clk with lfFrac := x % 65536 } }

/-- What passes while no command waits: a cycle of TBCLK, which in BOOT and LIMP is one of RC16M of 25 ticks (Table TIM-5), in
STANDBY one of LF32K; nothing while the part is without power. -/
def State.tbIdle (s : State) : State :=
  match s.pmu.mode with
  | .off => s
  | .standby => s.tbLfEdge
  | _ => if s.qual = 4 ∨ s.qual = 5 then { s with tb := s.tb + 25 } else s.tbCycle

/-- TB_LO_READ (R218). -/
def tbLoRead (m : Nat) (s : State) : State := (s.tbLatch m).answer m s.tick .ok

/-- The owner of a compare channel: its OWNERc, 0xF meaning H0 only (Table TIM-13). -/
def State.cmpOwner (s : State) (c : Nat) : Nat :=
  let o := s.field A.TB_CMP_OWN (4 * c) 4
  if o = 0xF then s.primaryHost else o

/-- The 64-bit target of a compare channel. -/
def State.cmpTarget (s : State) (c : Nat) : Nat := (s.reg (A.TB_CMP_HI c)).toNat * 0x100000000 + (s.reg (A.TB_CMP_LO c)).toNat

/-- R238: a channel fires: its event, then disarm or reload. -/
def State.cmpFire (s : State) (c : Nat) : State :=
  let rel := (s.reg (A.TB_CMP_RELOAD c)).toNat
  let t := s.cmpTarget c + rel
  let s1 := s.raise (44 + c)
  if rel = 0 then s1.clrBitReg (A.TB_CMP_CTL c) 0
  else (s1.setReg (A.TB_CMP_LO c) (wd t)).setReg (A.TB_CMP_HI c) (wd (t / 0x100000000))

/-- TB_CMP_FIRE (R215, R238): the count is at or after an armed channel's target. -/
def tbCmpFire (c : Nat) (s : State) : State :=
  if c < 8 ∧ s.flag (A.TB_CMP_CTL c) 0 ∧ s.cmpTarget c ≤ s.now then s.cmpFire c else s

/-- R237: a write to a channel's registers is taken only from its owner. -/
def State.cmpWrite (s : State) (m c : Nat) (eff : State → State) : State :=
  if m = s.cmpOwner c then eff s else s.setBitReg A.TB_STAT 3

/-- R237, R238: the effect of a write to TB_CMPc_CTL. -/
def State.cmpCtlEffect (s : State) (m c size : Nat) (v : Word) : State :=
  s.cmpWrite m c (fun s =>
    let s1 := s.rwStore (A.TB_CMP_CTL c) size v
    if s1.flag (A.TB_CMP_CTL c) 0 ∧ bit v 0 ∧ s1.cmpTarget c ≤ s1.now then ((s1.cmpFire c).setBitReg A.TB_STAT 2).raise 14
    else s1)

/-- TB_CMP_ARM (R237, R238). -/
def tbCmpArm (m c size : Nat) (v : Word) (s : State) : State :=
  if c < 8 then s.plainWrite .tmb m (A.TB_CMP_CTL c) (fun s => s.cmpCtlEffect m c size v) else s

/-! ## Pads -/

/-- R230: the effect of a PAD_CFG write on the ball PAD_IDX selects. -/
def State.padEffect (s : State) (v : Word) : State :=
  let i := s.field A.PAD_IDX 0 9
  if padDigital i then { s with pads := s.pads.set padReset i (v &&& 0x7313#32) } else s

/-- PAD_CFG_WRITE (R226 to R231). -/
def padCfgWrite (m size : Nat) (v : Word) (s : State) : State :=
  s.wpWrite .clk m A.PAD_CFG size v (fun s => s.padEffect v)

/-! ## Ring opcodes -/

/-- MEASURE (R234): the gate over which a domain's cycles are counted has ended with `count`. -/
def measure (n count : Nat) (s : State) : State :=
  s.whenHand .clk n 0x10 (fun s =>
    let d := fld (s.dw .clk n 4) 0 5
    if 27 ≤ d then s.finishBad .clk n 0x14
    else s.finishDone .clk n (if clockPresent s.opt d && s.clockRuns d then wd count else 0#32))

/-- The target of the ALARM in hand. -/
def State.alarmTarget (s : State) (n : Nat) : Nat :=
  (s.dw .tmb n 5).toNat * 0x100000000 + (s.dw .tmb n 4).toNat

/-- ALARM (R235): late when its target had passed as it started; else DONE at the first count at or after it. -/
def alarm (n : Nat) (s : State) : State :=
  s.whenHand .tmb n 0x10 (fun s =>
    let t := s.alarmTarget n
    if t < (s.ring .tmb n).t0 then s.finishWarn .tmb n 0x51 s.tick
    else if t ≤ s.now then s.finishDone .tmb n s.tick
    else s)

/-- SNAPSHOT (R236). -/
def snapshot (n : Nat) (s : State) : State :=
  s.whenHand .tmb n 0x11 (fun s =>
    (s.putWords (s.ring .tmb n).host (s.dw .tmb n 2).toNat
      [s.tick, (s.tb >>> 32).setWidth 32, s.tbAux, s.reg A.CORR_CNT]).useFree.finishDone .tmb n s.tick)

end Sys2Proof.Machine
end

