-- ==== Sys2Proof/Machine/Tariff.lean ====
section
/-! DEFINITION. Calendar dates (R624), the tariff calendar's encoding and checks, and the choice of tariff
(13, R558 to R563). -/
namespace Sys2Proof.Machine

/-! ## Dates -/

/-- A Gregorian date: year, month 1 to 12, day, weekday 0 Monday to 6 Sunday. -/
structure Date where
  year : Nat
  month : Nat
  day : Nat
  wday : Nat
  deriving DecidableEq, Repr

/-- The date of day `n` since 2000-01-01, a Saturday (R624). -/
def dateOf (n : Nat) : Date :=
  -- days since 2000-03-01, one 400-year cycle earlier
  let z := n + 146097 - 60
  let era := z / 146097
  let doe := z % 146097
  let yoe := (doe - doe / 1460 + doe / 36524 - doe / 146096) / 365
  let doy := doe - (365 * yoe + yoe / 4 - yoe / 100)
  let mp := (5 * doy + 2) / 153
  let m := if mp < 10 then mp + 3 else mp - 9
  ⟨1600 + 400 * era + yoe + (if m ≤ 2 then 1 else 0), m, doy - (153 * mp + 2) / 5 + 1, (n + 5) % 7⟩

/-- A leap year. -/
def leap (y : Nat) : Bool := y % 4 == 0 && (y % 100 != 0 || y % 400 == 0)

/-- Days of a month. -/
def monthDays (y m : Nat) : Nat :=
  match m with
  | 2 => if leap y then 29 else 28
  | 4 | 6 | 9 | 11 => 30
  | _ => 31

/-- The day number, since 2000-01-01, of the first of January of year `y`, 2000 or later. -/
def yearStart (y : Nat) : Nat :=
  let k := y - 2000
  365 * k + (k + 3) / 4 - (k + 99) / 100 + (k + 399) / 400

/-- The day number of the first of a month. -/
def monthStart (y m : Nat) : Nat := (List.range (m - 1)).foldl (fun d i => d + monthDays y (i + 1)) (yearStart y)

/-! ## Fields of a calendar -/

/-- A byte of a calendar. -/
def calByte (c : List Byte) (i : Nat) : Nat := (c.getD i 0#8).toNat

/-- A little-endian halfword of a calendar. -/
def calHalf (c : List Byte) (i : Nat) : Nat := calByte c i + 256 * calByte c (i + 1)

/-- Seconds of STD_OFS. -/
def stdOfs (c : List Byte) : Int := 900 * toSigned 8 (calByte c 5)
/-- Seconds of DST_OFS. -/
def dstOfs (c : List Byte) : Nat := 900 * calByte c 6

/-- R558: the instant, in seconds of the clock the rule names, at which a rule falls in year `y`. -/
def ruleAt (c : List Byte) (o y : Nat) : Int :=
  let m := calByte c o
  let first := monthStart y m
  let wd0 := (dateOf first).wday
  let d1 := (calByte c (o + 2) + 7 - wd0) % 7
  let d := d1 + 7 * (calByte c (o + 1) - 1)
  let d2 := if calByte c (o + 1) = 5 ∧ monthDays y m ≤ d then d - 7 else d
  ((first + d2 : Nat) : Int) * 86400 + 3600 * (calByte c (o + 3) : Nat)

/-- R558: is daylight saving in force at calendar second `t`? -/
def dstOn (c : List Byte) (t : Nat) : Bool :=
  if calByte c 8 = 0 ∨ calByte c 0xC = 0 then false
  else
    let std := (t : Int) + stdOfs c
    let y := (dateOf (std.toNat / 86400)).year
    let a := ruleAt c 8 y
    let b := ruleAt c 0xC y - (dstOfs c : Nat)
    if a < b then decide (a ≤ std) && decide (std < b) else decide (a ≤ std) || decide (std < b)

/-- Tariff time at calendar second `t`. -/
def tariffTime (c : List Byte) (t : Nat) : Nat :=
  ((t : Int) + stdOfs c + (if dstOn c t then (dstOfs c : Nat) else 0)).toNat

/-! ## Choosing the tariff (R561, R562) -/

/-- What the calendar chooses: tariff, season, special day, day profile, week profile. -/
structure Choice where
  tariff : Nat
  season : Nat := 0
  special : Option Nat := none
  dayProf : Nat := 0
  weekProf : Nat := 0
  deriving DecidableEq, Repr

/-- Special day `j` applies to a date: with its fixed year, or every year. -/
def specialFits (c : List Byte) (d : Date) (every : Bool) (j : Nat) : Bool :=
  let o := 0x1E0 + 4 * j
  calByte c o != 0 && calByte c o == d.month && calByte c (o + 1) == d.day &&
    (if every then calByte c (o + 2) == 0xFF else calByte c (o + 2) + 2000 == d.year)

/-- Season `k` is used. -/
def seasonUsed (c : List Byte) (k : Nat) : Bool := calByte c (0x12 + 4 * k) != 0xFF
/-- The start of a season within a year, ordered as dates are. -/
def seasonKey (c : List Byte) (k : Nat) : Nat := 32 * calByte c (0x10 + 4 * k) + calByte c (0x11 + 4 * k)

/-- The season with the latest start among some; the lower index among equals. -/
def latestSeason (c : List Byte) (ks : List Nat) : Option Nat :=
  ks.foldl (fun b k => match b with
    | none => some k
    | some j => if seasonKey c j < seasonKey c k then some k else some j) none

/-- R561: the current season. -/
def seasonOf (c : List Byte) (d : Date) : Nat :=
  let used := (List.range 4).filter (seasonUsed c)
  match latestSeason c (used.filter (fun k => seasonKey c k ≤ 32 * d.month + d.day)) with
  | some k => k
  | none => (latestSeason c used).getD 0

/-- R562: the tariff of a day profile at a minute. -/
def profileTariff (c : List Byte) (p minute : Nat) : Nat :=
  (List.range 12).foldl (fun t i =>
    let v := calHalf c (0x60 + 24 * p + 2 * i)
    if v ≠ 0xFFFF ∧ v % 2048 ≤ minute then v / 2048 % 8 else t) 0

/-- R561, R562: the choice at tariff-time second `t`. -/
def chooseTariff (c : List Byte) (t : Nat) : Choice :=
  let d := dateOf (t / 86400)
  let minute := t / 60 % 1440
  let k := seasonOf c d
  let w := calByte c (0x12 + 4 * k)
  let sp := match (List.range 64).find? (specialFits c d false) with
    | some j => some j
    | none => (List.range 64).find? (specialFits c d true)
  let p := match sp with
    | some j => calByte c (0x1E3 + 4 * j)
    | none => calByte c (0x20 + 8 * w + d.wday)
  ⟨profileTariff c p minute, k, sp, p, w⟩

/-- CRC-32C of bytes in order (R108). -/
def crcBytes (l : List Byte) : Nat := (~~~ (l.foldl crcByte 0xFFFFFFFF#32)).toNat

/-! ## Checking a calendar (R560) -/

/-- A month and a day of any year; 29 February is valid. -/
def dateOk (m d : Nat) : Bool := decide (1 ≤ m ∧ m ≤ 12) && decide (1 ≤ d) && decide (d ≤ monthDays 2000 m)

/-- The first of some checks that fails, as its offset. -/
def firstBad (l : List (Bool × Nat)) : Option Nat := (l.find? (fun p => !p.1)).map Prod.snd

/-- The fields of one daylight-saving rule. -/
def ruleChecks (c : List Byte) (o : Nat) : List (Bool × Nat) :=
  [(decide (1 ≤ calByte c o ∧ calByte c o ≤ 12), o), (decide (1 ≤ calByte c (o + 1) ∧ calByte c (o + 1) ≤ 5), o + 1),
   (decide (calByte c (o + 2) ≤ 6), o + 2), (decide (calByte c (o + 3) ≤ 23), o + 3)]

/-- The checks of one day profile. -/
def profileChecks (c : List Byte) (p : Nat) : List (Bool × Nat) :=
  (List.range 12).map (fun i =>
    let o := 0x60 + 24 * p + 2 * i
    let v := calHalf c o
    let m := v % 2048
    let prev := calHalf c (o - 2)
    (if i = 0 then v != 0xFFFF && m == 0
     else v == 0xFFFF || (prev != 0xFFFF && decide (prev % 2048 < m) && m % 15 == 0 && decide (m ≤ 1425)), o))

/-- R560: the byte offset of the first failing field. -/
def calendarBad (c : List Byte) : Option Nat :=
  let crc := crcBytes (c.take 0x2E0)
  let rules := if calByte c 8 = 0 ∧ calByte c 0xC = 0 then [] else ruleChecks c 8 ++ ruleChecks c 0xC
  let used := (List.range 4).filter (seasonUsed c)
  let weeks := (List.range 8).filter (fun w => used.any (fun k => calByte c (0x12 + 4 * k) == w))
  let specials := (List.range 64).filter (fun j => calByte c (0x1E0 + 4 * j) != 0)
  let days := (List.range 16).filter (fun p =>
    weeks.any (fun w => (List.range 7).any (fun i => calByte c (0x20 + 8 * w + i) == p)) ||
    specials.any (fun j => calByte c (0x1E3 + 4 * j) == p))
  firstBad ([(crc == leNat ((c.drop 0x2E0).take 4), 0x2E0), (decide (calByte c 4 ≤ 7), 4),
      (decide (-48 ≤ toSigned 8 (calByte c 5) ∧ toSigned 8 (calByte c 5) ≤ 56), 5), (decide (calByte c 6 ≤ 8), 6)] ++
    rules ++
    [(!used.isEmpty, 0x10)] ++
    used.flatMap (fun k =>
      let o := 0x10 + 4 * k
      [(decide (1 ≤ calByte c o ∧ calByte c o ≤ 12), o), (dateOk (calByte c o) (calByte c (o + 1)), o + 1),
       (decide (calByte c (o + 2) ≤ 7), o + 2)]) ++
    weeks.flatMap (fun w => (List.range 7).map (fun i => (decide (calByte c (0x20 + 8 * w + i) ≤ 15), 0x20 + 8 * w + i))) ++
    days.flatMap (profileChecks c) ++
    specials.flatMap (fun j =>
      let o := 0x1E0 + 4 * j
      [(decide (calByte c o ≤ 12), o), (dateOk (calByte c o) (calByte c (o + 1)), o + 1),
       (decide (calByte c (o + 2) ≤ 99) || calByte c (o + 2) == 0xFF, o + 2), (decide (calByte c (o + 3) ≤ 15), o + 3)]))

end Sys2Proof.Machine
end

