-- ==== Sys2Proof/Machine/Billing.lean ====
section
/-! DEFINITION. Billing registers, tariffs, demand, sessions and their signed records, persistence and the legal display
(13, R556 to R591). -/
namespace Sys2Proof.Machine

/-- Changes billing's hidden state. -/
def State.modBil (s : State) (f : BilSt → BilSt) : State := { s with bil := f s.bil }

/-- MEAS_RUN of MET_STAT. -/
def State.measRun (s : State) : Bool := s.flag A.MET_STAT 1
/-- CAL_VALID of MET_STAT. -/
def State.metCalValid (s : State) : Bool := s.flag A.MET_STAT 2
/-- METER_FAULT of MET_STAT. -/
def State.meterFault (s : State) : Bool := s.flag A.MET_STAT 3
/-- Core M is released and running (R506). -/
def State.mRuns (s : State) : Bool := s.live .met && s.coreRuns mM

/-- A 64-bit register pair, the low word at `a`. -/
def State.reg64 (s : State) (a : Nat) : Nat := (s.reg a).toNat + 4294967296 * (s.reg (a + 4)).toNat
/-- Writes a 64-bit register pair. -/
def State.setReg64 (s : State) (a v : Nat) : State := (s.setReg a (wd v)).setReg (a + 4) (wd (v / 4294967296))
/-- Adds to a 64-bit register pair. -/
def State.addReg64 (s : State) (a v : Nat) : State := s.setReg64 a (s.reg64 a + v)

/-! ## Tariff, demand and calendar -/

/-- The active calendar in the vault (Table BIL-5). -/
def State.calendar (s : State) : List Byte := s.bytes 0x50000640 740
/-- CAL_PRESENT. -/
def State.calPresent (s : State) : Bool := s.flag A.BIL_STAT 0
/-- SESSION_OPEN of BIL_STAT. -/
def State.sesOpen (s : State) : Bool := s.flag A.BIL_STAT 3
/-- The tariff in force. -/
def State.tariff (s : State) : Nat := s.field A.BIL_STAT 8 3
/-- The source in force: 0 grid, 1 genset (R531). -/
def State.source (s : State) : Nat := s.field A.MET_SRC 0 1
/-- Tariff time now: calendar time while no calendar is present. -/
def State.tariffNow (s : State) : Nat := if s.calPresent then tariffTime s.calendar s.seconds else s.seconds

/-- R561 to R563: the tariff now, with what chose it. -/
def State.choice (s : State) : Choice :=
  if !s.calPresent then ⟨0, 0, none, 0, 0⟩
  else if !s.calValid then ⟨calByte s.calendar 4 % 8, 0, none, 0, 0⟩
  else chooseTariff s.calendar s.tariffNow

/-- The tariff in force follows the calendar; a change is told. -/
def State.syncTariff (s : State) : State :=
  let c := s.choice
  let s1 := s.modReg A.BIL_STAT (fun w =>
    setFld (setFld (setFld (setBit (setFld (setFld w 8 3 c.tariff) 12 2 c.season) 15 c.special.isSome) 16 6 (c.special.getD 0))
      24 4 c.dayProf) 28 3 c.weekProf)
  if c.tariff = s.tariff then s1 else s1.raise 804

/-- TIME_VALID follows the calendar; a change is told. -/
def State.syncTimeValid (s : State) : State :=
  if s.flag A.BIL_STAT 2 = s.calValid then s
  else (s.modReg A.BIL_STAT (fun w => setBit w 2 s.calValid)).raise 810

/-- R565: a pending calendar whose instant has come becomes active. -/
def State.activateCal (s : State) : State :=
  match s.bil.calPend with
  | none => s
  | some c =>
    if !s.calValid || decide (s.seconds < (s.reg A.BIL_CALACT).toNat) then s
    else
      let s1 := (s.setBytes 0x50000640 (c ++ zeros 28)).modBil (fun b => { b with calPend := none, jDue := b.jDue + 1 })
      let s2 := (s1.modReg A.BIL_STAT (fun w => setBit (setBit w 0 true) 1 false)).setReg A.BIL_CALID (wd (leNat (c.take 4)))
      let s3 := (s2.setReg A.BIL_CALPEND 0#32).setReg A.BIL_CALACT 0#32
      ((s3.modBil (fun b => { b with dst := dstOn c s3.seconds })).syncTariff).raise 805

/-- R566: the demand period in progress ends and the next one starts now. -/
def State.mdEnd (s : State) : State :=
  let w := (s.reg A.MD_CUR).toNat / 250
  let t := s.bil.mdTariff
  let s1 := if !s.bil.mdBad && (s.reg (A.MD t)).toNat < w then
      (s.setReg (A.MD t) (wd w)).setReg (A.MD_TIME t) (s.reg A.MD_CUR_START)
    else s
  let s2 := ((s1.setReg A.MD_CUR 0#32).setReg A.MD_CUR_START (wd s.seconds)).raise 808
  s2.modBil (fun b => { b with mdBad := !s.calValid, mdQ := s.seconds / 900 })

/-- The tariff of a period is the one in force at its start. -/
def State.mdStartTariff (s : State) : State := s.modBil (fun b => { b with mdTariff := s.tariff })

/-- R564: daylight saving changes; the demand period ends at the change. -/
def State.dstStep (s : State) : State :=
  let d := s.calPresent && s.calValid && dstOn s.calendar s.seconds
  if d = s.bil.dst then s else (((s.modBil (fun b => { b with dst := d })).mdEnd).syncTariff).mdStartTariff

/-- The demand period's boundary has passed. -/
def State.mdDue (s : State) : Bool := decide (s.bil.mdQ < s.seconds / 900)

/-- What a sample does first: time validity, activation, daylight saving, the demand period and the tariff (R561 to R567). -/
def State.bilTime (s : State) : State :=
  if s.bil.lastSec = s.seconds ∧ s.flag A.BIL_STAT 2 = s.calValid ∧ s.bil.calPend = none then s
  else
    let s1 := ((s.modBil (fun b => { b with lastSec := s.seconds })).syncTimeValid).activateCal
    let s2 := if s1.calValid then s1 else s1.modBil (fun b => { b with mdBad := true })
    let s3 := s2.dstStep
    if s3.mdDue then ((s3.mdEnd).syncTariff).mdStartTariff else s3.syncTariff

/-- R567: a step of the calendar clock by more than 2 s makes the period incomplete; it runs to the next quarter-hour of
the new time. -/
def State.bilClockStep (s : State) : State := s.modBil (fun b => { b with mdBad := true, mdQ := s.seconds / 900 })

/-- TARIFF_SWITCH (R562). -/
def tariffSwitch (s : State) : State := if s.mRuns then s.syncTimeValid.syncTariff else s

/-- DST_CHANGE (R564). -/
def dstChange (s : State) : State := if s.mRuns then s.dstStep else s

/-- CALENDAR_ACTIVATION (R565). -/
def calendarActivation (s : State) : State := if s.mRuns then s.activateCal else s

/-- MD_PERIOD_END (R566). -/
def mdPeriodEnd (s : State) : State :=
  if s.mRuns && s.mdDue then
    let s1 := if s.calValid then s else s.modBil (fun b => { b with mdBad := true })
    (s1.mdEnd.syncTariff).mdStartTariff
  else s

/-- R588: M executes one BIL descriptor at a time; a record being signed for a ring holds the others. -/
def State.bilFree (s : State) : Bool := s.mRuns && s.bil.signing.isNone

/-- CAL_LOAD (R560, R565). -/
def calLoad (n : Nat) (s : State) : State :=
  s.whenHand .bil n 0x11 (fun s =>
    if !s.bilFree then s
    else
      let c := s.viewBytes (s.ring .bil n).host (s.dw .bil n 2).toNat 740
      match calendarBad c with
      | some o => s.finish .bil n { status := 0x80, result := wd o }
      | none =>
        let id := wd (leNat (c.take 4))
        let s1 := (s.modBil (fun b => { b with calPend := some c })).setBitReg A.BIL_STAT 1
        ((s1.setReg A.BIL_CALPEND id).setReg A.BIL_CALACT (s.dw .bil n 4)).finishDone .bil n id)

/-- MD_RESET (R568). -/
def mdReset (n : Nat) (s : State) : State :=
  s.whenHand .bil n 0x17 (fun s =>
    if !s.bilFree then s
    else
      let s1 := (List.range 8).foldl (fun s t => (s.setReg (A.MD t) 0#32).setReg (A.MD_TIME t) 0#32) s
      let s2 := (s1.modReg A.BIL_CNT (fun w => wrapAdd w 16 16 1)).modBil (fun b => { b with jDue := b.jDue + 1 })
      s2.finishDone .bil n (wd (s2.field A.BIL_CNT 16 16)))

/-! ## Energy (R556, R570) -/

/-- One whole number of milliwatt-hours reaches the billing registers of a source. -/
def State.bilAdd (s : State) (src k : Nat) : State :=
  if k = 0 ∨ s.metCalValid = false then s
  else
    let s1 := (s.addReg64 (A.REG_LO (s.tariff + 8 * src)) k).addReg64 A.TOTAL_LO k
    let s2 := (s1.modReg A.MD_CUR (· + wd k)).modBil (fun b => { b with jDirty := true })
    if s2.sesOpen then s2.modReg (if src = 0 then A.SES_GRID else A.SES_GEN) (fun w => satAdd w 0 32 k) else s2

/-- R570, Table BIL-4: the conditions that hold now. -/
def State.sesConditions (s : State) : Nat :=
  let l := [s.flag A.MET_STAT 7, s.flag A.MET_STAT 4, !s.calValid, s.meterFault, false, false, !s.calPresent, s.flag A.MET_STAT 6]
  (List.range 8).foldl (fun n i => if l.getD i false then n ||| 2 ^ i else n) 0

/-- R570: an open session's flags take the conditions that hold. -/
def State.sesFlag (s : State) : State :=
  if s.sesOpen then s.modBil (fun b => { b with sesFlags := b.sesFlags ||| s.sesConditions }) else s

/-! ## Live copies and the journal (R576 to R578) -/

/-- The image of the billing state: 252 bytes. -/
def State.bilImage (s : State) (seq : Nat) : List Byte :=
  let r (a : Nat) : List Byte := natLe 4 (s.reg a).toNat
  let b := s.bil
  let e := b.ended.getD (0, 0, 0, 0)
  let ses0 := s.sesOpen.toNat + 2 * b.ended.isSome.toNat + 4 * b.sesTariff + 32 * b.sesSrc
  let ses2 := e.2.1 + 8 * e.2.2.1 + 16 * e.2.2.2
  natLe 4 seq ++ (List.range 32).flatMap (fun i => r (A.REG_LO 0 + 4 * i)) ++ (List.range 16).flatMap (fun i => r (A.MD 0 + 4 * i)) ++
    r A.MD_CUR ++ r A.MD_CUR_START ++ natLe 1 (b.mdTariff + 8 * b.mdBad.toNat) ++ natLe 1 ses0 ++ natLe 1 b.sesFlags ++ natLe 1 ses2 ++
    r A.SES_ID_LO ++ r A.SES_ID_HI ++ r A.SES_T_START ++ r A.SES_GRID ++ r A.SES_GEN ++ r A.SES_START_LO ++ r A.SES_START_HI ++
    natLe 4 e.1 ++ r A.REC_NEXT ++ r A.BIL_CNT ++ natLe 4 s.seconds

/-- The address of live copy A (0) or B (1). -/
def liveAddr (k : Nat) : Nat := if k = 0 then 0x50000400 else 0x50000520

/-- R576: writes the copy not written last, with the next sequence number. -/
def State.writeLive (s : State) : State :=
  let k := 1 - s.bil.live
  let seq := s.bil.seq + 1
  let body := s.bilImage seq ++ zeros 32
  (s.setBytes (liveAddr k) (body ++ natLe 4 (crcBytes body))).modBil (fun b => { b with live := k, seq := seq })

/-- R577: writes a journal entry; `ok` is its verification. The idle sector is erased once the active one holds 8. -/
def State.writeJournal (s : State) (ok : Bool) : State :=
  let i := s.bil.jNext
  let a := 0x08802000 + 256 * i
  let body := s.bilImage (s.bil.seq + 1)
  let s0 := if i % 16 = 0 ∧ (s.bytes a 256).all (· == 0xFF#8) = false then s.flashErase (0x08802000 + 4096 * (i / 16)) 4096 else s
  let s1 := s0.modBil (fun b => { b with seq := b.seq + 1, jNext := (i + 1) % 32, jDirty := false, jAt := s.now })
  let s2 := if ok then s1.flashProgram a (body ++ natLe 4 (crcBytes body))
    else
      let f := s1.freeBytes 64
      ((((f.2.flashProgram a f.1).flashFail a false).setBitReg A.BIL_STAT 7).raise 812)
  if i % 16 = 7 then s2.flashErase (0x08802000 + 4096 * (1 - i / 16)) 4096 else s2

/-- JOURNAL_ENTRY (R577): an entry owed, or the one of every 10 minutes in which a billing register changed. -/
def journalEntry (ok : Bool) (s : State) : State :=
  if !s.mRuns then s
  else if 0 < s.bil.jDue then (s.modBil (fun b => { b with jDue := b.jDue - 1 })).writeJournal ok
  else if s.bil.jDirty ∧ s.bil.jAt + 240000000000 ≤ s.now then s.writeJournal ok
  else s

/-- PF_SAVE (R578): a live copy and a journal entry after PMU_PF_WARN, then a live copy every 10 ms. -/
def pfSave (ok : Bool) (s : State) : State :=
  if !s.mRuns || !s.bil.pfWarn then s
  else match s.bil.pf with
    | none => ((s.writeLive).writeJournal ok).modBil (fun b => { b with pf := some s.now })
    | some t => if t + 4000000 ≤ s.now then (s.writeLive).modBil (fun b => { b with pf := some s.now }) else s

/-! ## Sessions and records (R569 to R574) -/

/-- SESSION_START (R569). -/
def sessionStart (n : Nat) (s : State) : State :=
  s.whenHand .bil n 0x12 (fun s =>
    if !s.bilFree then s
    else if s.sesOpen then s.finishBad .bil n 0x83
    else if !s.measRun || s.meterFault then s.finishBad .bil n 0x14
    else
      let s1 := ((s.setReg A.SES_ID_LO (s.dw .bil n 4)).setReg A.SES_ID_HI (s.dw .bil n 5)).setReg A.SES_T_START (wd s.seconds)
      let s2 := ((s1.setReg A.SES_GRID 0#32).setReg A.SES_GEN 0#32).setReg64 A.SES_START_LO (s.reg64 A.TOTAL_LO)
      let s3 := s2.modBil (fun b =>
        { b with sesTariff := s.tariff, sesSrc := s.source, sesFlags := s.sesConditions, jDue := b.jDue + 1 })
      (s3.setBitReg A.BIL_STAT 3).finishDone .bil n (s.reg A.REC_NEXT))

/-- The first 64 bytes of the record of the session that has ended (Table BIL-3). -/
def State.recordBody (s : State) (unsigned : Bool) : List Byte :=
  let b := s.bil
  let e := b.ended.getD (0, 0, 0, 0)
  let start := s.reg64 A.SES_START_LO
  let grid := (s.reg A.SES_GRID).toNat
  let gen := (s.reg A.SES_GEN).toNat
  let seq := (s.reg A.REC_NEXT).toNat
  let prev := if seq = 0 then zeros 8 else (shaHash sha256 (s.bytes (0x50000940 + 128 * ((seq - 1) % 12)) 128)).take 8
  natLe 1 1 ++ natLe 1 (if unsigned then b.sesFlags ||| 32 else b.sesFlags) ++ natLe 1 (e.2.2.2 + 16 * b.sesTariff) ++
    natLe 1 (e.2.1 + 8 * b.sesSrc + 16 * e.2.2.1) ++ natLe 4 seq ++ natLe 4 (s.reg A.SES_ID_LO).toNat ++
    natLe 4 (s.reg A.SES_ID_HI).toNat ++ natLe 4 (s.reg A.SES_T_START).toNat ++ natLe 4 e.1 ++ natLe 6 (start / 100) ++
    natLe 6 ((start + grid + gen) / 100) ++ natLe 4 (grid / 100) ++ natLe 4 (gen / 100) ++
    natLe 2 (s.word 0x50000300).toNat ++ natLe 2 (s.reg A.MET_CAL_SEQ).toNat ++ deviceId.take 8 ++ prev

/-- R571: the record, signed or not, is stored and told; the waiting SESSION_END completes. -/
def State.storeRecord (s : State) (sig : Option (List Byte)) : State :=
  let seq := (s.reg A.REC_NEXT).toNat
  let body := s.recordBody sig.isNone ++ sig.getD (zeros 64)
  let s1 := (s.setBytes (0x50000940 + 128 * (seq % 12)) body).setReg A.REC_NEXT (wd (seq + 1))
  let s2 := (s1.setReg A.REC_OLDEST (wd (seq + 1 - 12))).modReg A.BIL_STAT (fun w => setBit w 6 sig.isSome)
  let s3 := if sig.isSome then s2.raise 806 else (s2.raise 809).raise 806
  let s4 := s3.modBil (fun b => { b with ended := none, signing := none, sesFlags := 0, jDue := b.jDue + 1 })
  match s.bil.signing with
  | some (some n, _) => if (s.ring .bil n).done.isSome then s4 else s4.finishDone .bil n (wd seq)
  | _ => s4

/-- R573: one attempt at the signature of the record, `late` 30 ms after the session end. -/
def State.trySign (s : State) : State :=
  match s.bil.signing with
  | none => s
  | some (_, t0) =>
    let late := decide (t0 + 12000000 ≤ s.now)
    let giveUp (s : State) : State := if late then s.storeRecord none else s
    let slot := (s.kslot 63).st
    if s.keyReady && slot ≠ 1 then s.storeRecord none
    else match s.keyRequest ⟨63, 3, mM, [0x10], false⟩ false with
      | (s1, .wait) => giveUp s1
      | (s1, .bad _) => s1.storeRecord none
      | (s1, .got g) =>
        match State.signLoop p256 (beNat g.key) (beNat (shaHash sha256 (s1.recordBody false))) 64 s1 with
        | none => giveUp s1
        | some (rs, s2) => s2.storeRecord (some (natBe 32 rs.1 ++ natBe 32 rs.2))

/-- The open session closes with an end time and a cause, and its record is made. -/
def State.closeSession (s : State) (ring : Option Nat) (tEnd cause : Nat) : State :=
  let s1 := s.sesFlag.modBil (fun b => { b with ended := some (tEnd, s.tariff, s.source, cause), signing := some (ring, s.now) })
  (s1.clrBitReg A.BIL_STAT 3).trySign

/-- SESSION_END (R571). -/
def sessionEnd (n : Nat) (s : State) : State :=
  s.whenHand .bil n 0x13 (fun s =>
    if !s.bilFree then s
    else if !s.sesOpen then s.finishBad .bil n 0x82
    else s.closeSession (some n) s.seconds 0)

/-- SIGN_RETRY (R573): M posts the signature again. -/
def signRetry (s : State) : State := if s.mRuns then s.trySign else s

/-- RECORD_READ (R574). -/
def recordRead (n : Nat) (s : State) : State :=
  s.whenHand .bil n 0x14 (fun s =>
    if !s.bilFree then s
    else
      let first := (s.dw .bil n 4).toNat
      let next := (s.reg A.REC_NEXT).toNat
      let k := min ((s.dw .bil n 1).toNat / 128) (next - first)
      if first < (s.reg A.REC_OLDEST).toNat then s.finish .bil n { status := 0x81, result := s.reg A.REC_OLDEST }
      else
        let bs := (List.range k).flatMap (fun i => s.bytes (0x50000940 + 128 * ((first + i) % 12)) 128)
        (s.putBytes (s.ring .bil n).host (s.dw .bil n 2).toNat bs).finishDone .bil n (wd k))

/-! ## Restore (R579, R580) -/

/-- Takes the billing state from an image. -/
def State.takeImage (s : State) (im : List Byte) : State :=
  let g (i k : Nat) : Nat := leNat ((im.drop i).take k)
  let r (s : State) (a i : Nat) : State := s.setReg a (wd (g i 4))
  let s1 := (List.range 32).foldl (fun s i => r s (A.REG_LO 0 + 4 * i) (4 + 4 * i)) s
  let s2 := (List.range 16).foldl (fun s i => r s (A.MD 0 + 4 * i) (132 + 4 * i)) s1
  let s3 := r (r s2 A.MD_CUR 196) A.MD_CUR_START 200
  let s4 := (List.range 7).foldl (fun s i => r s (A.SES_ID_LO + 4 * i) (208 + 4 * i)) s3
  let s5 := r (r s4 A.REC_NEXT 240) A.BIL_CNT 244
  let total := (List.range 16).foldl (fun t i => t + s5.reg64 (A.REG_LO i)) 0
  let s6 := (s5.setReg64 A.TOTAL_LO total).setReg A.REC_OLDEST (wd (g 240 4 - 12))
  let ses := g 205 1
  let e := g 207 1
  let ended := if ses / 2 % 2 = 1 then some (g 236 4, e % 8, e / 8 % 2, e / 16) else none
  let s7 := s6.modBil (fun b => { b with seq := g 0 4, mdTariff := g 204 1 % 8, sesTariff := ses / 4 % 8, sesSrc := ses / 32 % 2 })
  let s8 := s7.modBil (fun b => { b with mdBad := true, sesFlags := g 206 1, ended := ended, resTime := some (g 248 4) })
  s8.modReg A.BIL_STAT (fun w => setBit w 3 (ses % 2 == 1))

/-- The valid image with the highest sequence number among some places: its index and bytes. -/
def State.bestImage (s : State) (places : List (Nat × Nat)) : Option (Nat × List Byte) :=
  (List.range places.length).foldl (fun best i =>
    let p := places.getD i (0, 0)
    let body := s.bytes p.1 p.2
    if crcBytes body = (s.word (p.1 + p.2)).toNat then
      match best with
      | some (_, b) => if leNat (b.take 4) < leNat (body.take 4) then some (i, body) else best
      | none => some (i, body)
    else best) none

/-- BILLING_RESTORE (R579): billing state from a live copy, the journal, or zero. -/
def billingRestore (s : State) : State :=
  if !s.mRuns || s.bil.restored then s
  else
    let cal := s.calendar
    let calOk := leNat ((cal.drop 0x2E0).take 4) == crcBytes (cal.take 0x2E0) && leNat (cal.take 4) + leNat ((cal.drop 4).take 4) != 0
    let s0 := s.modBil (fun b => { b with restored := true })
    let s1 := if calOk then (s0.setBitReg A.BIL_STAT 0).setReg A.BIL_CALID (wd (leNat (cal.take 4))) else s0
    let live := s1.bestImage [(0x50000400, 284), (0x50000520, 284)]
    let jrnl := s1.bestImage ((List.range 32).map (fun i => (0x08802000 + 256 * i, 252)))
    let s2 := s1.modBil (fun b => { b with jNext := match jrnl with | some (i, _) => (i + 1) % 32 | none => 0 })
    match live, jrnl with
    | some (k, im), _ => (s2.takeImage im).modBil (fun b => { b with live := k })
    | none, some (_, im) =>
      let s3 := ((s2.takeImage im).setBitReg A.BIL_STAT 4).modReg A.BIL_CNT (fun w => satAdd w 0 16 1)
      (s3.modBil (fun b => { b with sesFlags := b.sesFlags ||| 16 })).raise 807
    | none, none => (s2.orReg A.BIL_STAT 0x30#32).setReg A.BIL_CNT 1#32

/-- RESTORED_SESSION_END (R580): a session that the restored state shows open, or ended and not recorded, gets its
record. -/
def restoredSessionEnd (s : State) : State :=
  if !s.mRuns || !s.measRun || s.bil.signing.isSome then s
  else match s.bil.resTime with
    | none => s
    | some t =>
      let s1 := s.modBil (fun b => { b with resTime := none })
      match s.bil.ended with
      | some (te, tf, src, _) =>
        (s1.modBil (fun b => { b with ended := some (te, tf, src, 0), signing := some (none, s.now) })).trySign
      | none => if s1.sesOpen then s1.closeSession none t 1 else s1

/-! ## Legal display (R581 to R586) -/

/-- Table BIL-7: the glyph of a character. -/
def glyph (c : Nat) : Option Nat :=
  (("0123456789AbCcdEFGHhIJLnoPrStUuy- ".toList.map Char.toNat).zip
    [0x3F, 0x06, 0x5B, 0x4F, 0x66, 0x6D, 0x7D, 0x07, 0x7F, 0x6F, 0x77, 0x7C, 0x39, 0x58, 0x5E, 0x79, 0x71, 0x3D, 0x76, 0x74,
     0x30, 0x1E, 0x38, 0x54, 0x5C, 0x73, 0x50, 0x6D, 0x78, 0x3E, 0x1C, 0x6E, 0x40, 0x00]).lookup c

/-- The glyphs of a text. -/
def glyphs (t : String) : List Nat := t.toList.map (fun c => (glyph c.toNat).getD 0)

/-- The glyph of a decimal digit. -/
def digitGlyph (d : Nat) : Nat := (glyph (48 + d % 10)).getD 0

/-- `v` in `k` digits, the low ones, leading zeros blank down to the last `keep` digits. -/
def numGlyphs (k keep v : Nat) : List Nat :=
  (List.range k).map (fun i =>
    let p := k - 1 - i
    if v % 10 ^ k < 10 ^ p ∧ keep ≤ p then 0 else digitGlyph (v / 10 ^ p))

/-- `v` in `k` decimal digits. -/
def fullGlyphs (k v : Nat) : List Nat := (List.range k).map (fun i => digitGlyph (v / 10 ^ (k - 1 - i)))

/-- Eight hexadecimal digits. -/
def hexGlyphs (v : Nat) : List Nat :=
  (List.range 8).map (fun i =>
    let d := v / 16 ^ (7 - i) % 16
    if d < 10 then digitGlyph d else ((glyphs "AbCdEF").getD (d - 10) 0))

/-- Lights the decimal points after some digits. -/
def withPoints (l pts : List Nat) : List Nat := (List.range 8).map (fun i => l.getD i 0 + (if pts.contains i then 128 else 0))

/-- The display list in force: item code, argument and dwell (R583). -/
def State.dispList (s : State) : List (Nat × Nat × Nat) :=
  let l := (List.range 32).map (fun i => s.word (0x50000F40 + 4 * i))
  let stored := (l.filter (fun w => fld w 0 8 != 0)).map (fun w => (fld w 0 8, fld w 8 8, fld w 16 8))
  if (crc32c l).toNat = (s.word 0x50000FC0).toNat ∧ stored ≠ [] then stored
  else [(1, 0, 10), (4, 0, 5), (5, 0, 5), (6, 0, 5)]

/-- Table BIL-9: the eight digits of an item. -/
def State.itemDigits (s : State) (code arg : Nat) : List Nat :=
  let tt := s.tariffNow
  let d := dateOf (tt / 86400)
  let lastRec := s.bytes (0x50000940 + 128 * (((s.reg A.REC_NEXT).toNat + 11) % 12)) 128
  match code with
  | 0x01 => withPoints (numGlyphs 8 3 (s.reg64 A.TOTAL_LO / 10000)) [5]
  | 0x02 => withPoints (digitGlyph (arg % 8 + 1) :: numGlyphs 7 3 (s.reg64 (A.REG_LO (arg % 16)) / 10000)) [5]
  | 0x03 => withPoints ([digitGlyph (arg + 1), 0] ++ numGlyphs 6 3 ((s.reg (A.MD (arg % 8))).toNat / 10)) [5]
  | 0x04 => withPoints (glyphs "tArI" ++ glyphs "F  " ++ [digitGlyph (s.tariff + 1)]) []
  | 0x05 => withPoints ([0, 0] ++ fullGlyphs 2 d.day ++ fullGlyphs 2 d.month ++ fullGlyphs 2 (d.year % 100)) [3, 5]
  | 0x06 => withPoints ([0, 0] ++ fullGlyphs 2 (tt / 3600 % 24) ++ fullGlyphs 2 (tt / 60 % 60) ++ fullGlyphs 2 (tt % 60)) [3, 5]
  | 0x07 =>
    let v := if s.sesOpen then ((s.reg A.SES_GRID).toNat + (s.reg A.SES_GEN).toNat) / 10000
      else (leNat ((lastRec.drop 36).take 4) + leNat ((lastRec.drop 40).take 4)) / 100
    withPoints (glyphs "S" ++ numGlyphs 7 3 v) [5]
  | 0x08 => withPoints (glyphs "r" ++ numGlyphs 7 1 ((s.reg A.REC_NEXT).toNat - 1)) []
  | 0x09 => withPoints (glyphs "C" ++ numGlyphs 7 1 (s.reg A.MET_CAL_SEQ).toNat) []
  | 0x0A => withPoints (glyphs "SL" ++ numGlyphs 6 1 (s.word 0x50000300).toNat) []
  | 0x0B => withPoints (hexGlyphs (Config.metHash.toNat / 2 ^ 352)) []
  | 0x0C => withPoints (if s.calPresent then hexGlyphs (s.reg A.BIL_CALID).toNat else glyphs "--------") []
  | 0x0D => withPoints (glyphs "rS" ++ numGlyphs 6 1 (s.field A.BIL_CNT 16 16)) []
  | 0x0E => List.replicate 8 0xFF
  | _ => withPoints ((s.bil.pages.get (fun _ => none) arg).getD []) []

/-- A phase is running: the mean of its last 160 products reaches CREEP (R527). -/
def State.phaseRuns (s : State) (k : Nat) : Bool :=
  let y := (s.met.hist.take 160).foldl (fun a m => a + m.ys.getD k 0) 0
  decide ((s.met.params.getD 17 460 : Nat) * 160 * 10 ^ 8 * 2 ^ 166 ≤ y.natAbs * 2304)

/-- Table BIL-8: the 24 icons while an item shows. -/
def State.itemIcons (s : State) (code arg : Nat) : Nat :=
  let info := code == 0x0F
  let src := if code = 2 then arg / 8 else s.source
  let l := [code == 1 || code == 2 || code == 7, code == 3, code == 3, !info && src == 0, !info && src == 1, s.sesOpen,
      (List.range 3).any s.phaseRuns] ++ (List.range 8).map (fun t => s.tariff == t) ++
    [info, s.flag A.MET_STAT 7, s.meterFault, s.flag A.MET_STAT 4 || !s.calValid] ++
    (List.range 3).map (fun k => decide (s.met.params.getD 1 2300 ≤ (s.reg (A.MET_VRMS k)).toNat)) ++ [code == 5, code == 6]
  if code = 0x0E then 0xFFFFFF else (List.range 24).foldl (fun n i => if l.getD i false then n ||| 2 ^ i else n) 0

/-- R584: the frame is refreshed with the item shown. -/
def State.refreshLcd (s : State) : State :=
  if !s.bil.showing then s
  else
    let c := s.field A.DISP_ITEM 8 8
    let a := s.field A.DISP_ITEM 16 8
    s.modBil (fun b => { b with lcd := 1, digits := s.itemDigits c a, icons := s.itemIcons c a })

/-- Shows entry `i` of the list, or the next one that is not a page never set (R585). -/
def State.showFrom (s : State) (i : Nat) : State :=
  let l := s.dispList
  let order := (List.range l.length).map (fun k => (i + k) % l.length)
  let shown := order.find? (fun k =>
    let e := l.getD k (1, 0, 10)
    e.1 != 0x0F || (s.bil.pages.get (fun _ => none) e.2.1).isSome)
  match shown with
  | none => s
  | some k =>
    let e := l.getD k (1, 0, 10)
    let s1 := s.setReg A.DISP_ITEM (setFld (setFld (wd k) 8 8 e.1) 16 8 e.2.1)
    (s1.modBil (fun b => { b with dispAt := s.now, showing := true })).refreshLcd

/-- DISP_LIST (R583). -/
def dispListCmd (n : Nat) (s : State) : State :=
  s.whenHand .bil n 0x15 (fun s =>
    if !s.bilFree then s
    else
      let k := (s.dw .bil n 1).toNat / 4
      let l := s.viewWords (s.ring .bil n).host (s.dw .bil n 2).toNat k
      let good (w : Word) : Bool :=
        let c := fld w 0 8
        let a := fld w 8 8
        decide (1 ≤ c ∧ c ≤ 15) && (if c = 2 then decide (a ≤ 15) else if c = 3 then decide (a ≤ 7) else if c = 15 then decide (a ≤ 3) else true) &&
          decide (2 ≤ fld w 16 8 ∧ fld w 16 8 ≤ 30)
      match (List.range k).find? (fun i => !good (l.getD i 0#32)) with
      | some i => s.finish .bil n { status := 0x84, result := wd i }
      | none =>
        if !l.any (fun w => fld w 0 8 == 1) then s.finishBad .bil n 0x84
        else
          let full := l ++ List.replicate (32 - k) 0#32
          (((s.setWords 0x50000F40 full).setWord 0x50000FC0 (crc32c full)).showFrom 0).finishDone .bil n (wd k))

/-- DISPLAY_DWELL_EXPIRY (R583): the item's dwell has passed; with nothing shown yet, the list starts. -/
def displayDwellExpiry (s : State) : State :=
  if !s.mRuns then s
  else if !s.bil.showing then s.showFrom 0
  else
    let i := s.field A.DISP_ITEM 0 5
    let dwell := (s.dispList.getD i (1, 0, 10)).2.2
    if s.bil.dispAt + 400000000 * dwell ≤ s.now then s.showFrom (i + 1) else s.refreshLcd

/-- DISP_STEP (R584): a press of at least 20 ms. -/
def dispStep (s : State) : State := if s.mRuns then (s.showFrom (s.field A.DISP_ITEM 0 5 + 1)).raise 811 else s

/-- INFO_SET (R585). -/
def infoSet (n : Nat) (s : State) : State :=
  s.whenHand .bil n 0x16 (fun s =>
    if !s.bilFree then s
    else
      let page := fld (s.dw .bil n 4) 0 2
      let l := (s.viewBytes (s.ring .bil n).host (s.dw .bil n 2).toNat 8).map (fun b => glyph b.toNat)
      if l.any Option.isNone then s.finishBad .bil n 0x85
      else
        let s1 := s.modBil (fun b => { b with pages := b.pages.set (fun _ => none) page (some (l.map (fun g => g.getD 0))) })
        s1.refreshLcd.finishDone .bil n (wd page))

/-- R586: core M enters reset or halts: dashes with FAULT. -/
def State.lcdDashes (s : State) : State :=
  s.modBil (fun b => { b with lcd := 2, showing := false, digits := List.replicate 8 0x40, icons := 0x20000 })

/-! ## Mirror -/

/-- BIL_SNAP (R587). -/
def bilSnap (n : Nat) (s : State) : State :=
  s.whenHand .bil n 0x10 (fun s =>
    if !s.bilFree then s
    else
      let l := (List.range 68).map (fun i => s.reg (0x40041000 + 4 * i))
      (s.putWords (s.ring .bil n).host (s.dw .bil n 2).toNat l).finishDone .bil n (s.reg A.BIL_SNAP_SEQ))

/-- BIL_SNAP_SEQ_READ (R590): offsets 0x014 to 0x10F are latched for the reading master. -/
def bilSnapSeqRead (m : Nat) (s : State) : State :=
  if !s.live .bil then s
  else
    let l := (List.range 63).map (fun i => s.reg (0x40041014 + 4 * i))
    (s.modBil (fun b => { b with snap := b.snap.set (fun _ => none) m (some l) })).answer m (s.reg A.BIL_SNAP_SEQ) .ok

end Sys2Proof.Machine
end

