-- ==== Sys2Proof/Machine/Drivers.lean ====
section
/-! DEFINITION. The power-die engine drivers: injectors, ignition pre-drivers and bridges as their wires, enables and
holds change (01, R19 to R21, Table ARC-5; 09, R384, R390, R393 to R399). -/
namespace Sys2Proof.Machine

/-- Four bits from a function. -/
def bits4 (f : Nat → Bool) : BitVec 4 := BitVec.ofNat 4 ((List.range 4).foldl (fun n c => if f c then n + 2 ^ c else n) 0)

/-- A bit of four set or cleared. -/
def bit4 (x : BitVec 4) (c : Nat) (v : Bool) : BitVec 4 := bits4 (fun k => if k = c then v else x.getLsbD k)

/-- Changes the engine units' hidden state. -/
def State.modEng (s : State) (f : EngSt → EngSt) : State := { s with eng := f s.eng }

/-- XW_STA or XW_STB is asserted. -/
def State.tripWire (s : State) : Bool := s.wires.sta || s.wires.stb

/-- R19, R850, R870, Table ARC-5: a condition that holds every engine driver off. -/
def State.drvHeld (s : State) : Bool := s.tripWire || s.link.pdAuton || s.wires.hot || s.wires.pdrst

/-- R457, R870, Table ARC-5: the pilot driver holds −12 V whatever its wire says. -/
def State.pilotForced (s : State) : Bool := s.link.pdAuton || s.wires.hot || s.wires.pdrst

/-- The bridge that the THR gate commands; none on a part without core E, where no bridge is gated. -/
def State.thrBridge (s : State) : Option Nat := if corePresent s.opt mE then some (s.field A.HB_CTL 4 2) else none

/-- XW_HB_EN[b] (R399; Table RING-15, domain 1: low). -/
def State.hbEnabled (s : State) (b : Nat) : Bool :=
  s.live .hbr && s.flag A.HB_CTL b && !s.safe1 && !(s.eng.thrOff && s.thrBridge == some b)

/-- What the estimator follows of injector `c`. -/
def State.injTrack (s : State) (c : Nat) : InjTrack := s.eng.inj.get (fun _ => {}) c

/-- R390: one injector's wire and the trip wires, followed by the estimator. -/
def State.trackInj (s : State) (c : Nat) : State :=
  let x := s.injTrack c
  let high := s.wires.inj.getLsbD c
  let trip := s.tripWire
  let acc := match x.since with | some t => x.acc + (s.now - t) | none => x.acc
  let start : InjTrack := { high := true, od := s.field (A.FUEL_OD c) 0 16, rise := s.now,
                            since := if trip then none else some s.now }
  let y : InjTrack :=
    if high && !x.high then start
    else if high then { x with acc := acc, since := if trip then none else some s.now }
    else if x.high then { rise := x.rise, limited := x.limited }
    else x
  let done := if x.high && !high && s.flag A.ENG_CTL 2 && s.live .eng then [⟨c, acc, x.od, x.limited⟩] else []
  s.modEng (fun e => { e with inj := e.inj.set (fun _ => {}) c y, injDone := e.injDone ++ done })

/-- R394, R409: the report of a dwell that has ended: IGN_LAST and every COIL_LOG in hand. Peak current, ILIM reached and
the time to ILIM are measured: free values. A report sent with the link down is lost. -/
def State.coilReport (s : State) (c : Nat) (soft : Bool) : State :=
  if !s.linkUp then s
  else
    let m := s.freeWord &&& 0x00FF4FFF#32
    let w := setBit m 15 soft
    let s1 := (s.useFree).setReg (A.IGN_LAST c) w
    (List.range 4).foldl (fun s n =>
      if s.logging .edr n 0x11 then s.logEntry .edr n [s.tick, setFld w 12 2 c] else s) s1

/-- R395, R396: a soft abort of a charging coil. -/
def State.coilAbort (s : State) (c : Nat) : State :=
  let w := { s.wires with coil := bit4 s.wires.coil c false, ramp := bit4 s.wires.ramp c true,
                          ignBlock := bit4 s.wires.ignBlock c true }
  let s1 := { s with wires := w, eng := { s.eng with ignLow := bit4 s.eng.ignLow c (!s.wires.ign.getLsbD c) } }
  (s1.modReg (A.IGN_DIAG c) (fun d => satAdd d 8 8 1)).coilReport c true

/-- One pre-driver follows XW_IGN, XW_DWA, its enable and the holds (R393, R395, R396). -/
def State.driveCoil (s : State) (c : Nat) : State :=
  let ign := s.wires.ign.getLsbD c
  let dwa := s.wires.dwa.getLsbD c
  let en := s.flag A.EDR_CTL (4 + c)
  let s0 := if ign then s else { s with eng := { s.eng with ignLow := bit4 s.eng.ignLow c true } }
  let clear := s0.wires.ignBlock.getLsbD c && !s0.wires.ramp.getLsbD c && !dwa && s0.eng.ignLow.getLsbD c
  let s1 := if clear then { s0 with wires := { s0.wires with ignBlock := bit4 s0.wires.ignBlock c false } } else s0
  if s1.wires.coil.getLsbD c then
    if dwa || s1.drvHeld then s1.coilAbort c
    else if !ign then ({ s1 with wires := { s1.wires with coil := bit4 s1.wires.coil c false } }).coilReport c false
    else if !en then { s1 with wires := { s1.wires with coil := bit4 s1.wires.coil c false } }
    else s1
  else if ign && en && !dwa && !s1.drvHeld && !s1.wires.ignBlock.getLsbD c then
    { s1 with wires := { s1.wires with coil := bit4 s1.wires.coil c true } }
  else s1

/-- INJ_DIAGc.STATE. -/
def State.injState (s : State) (c : Nat) : Nat := s.field (A.INJ_DIAG c) 0 3

/-- The injector, coil and bridge outputs follow their wires, enables, limits and holds. -/
def State.drivePd (s : State) : State :=
  let s1 := { s with wires := { s.wires with hbEn := bits4 s.hbEnabled } }
  let s2 := if s1.present .edr then (List.range 4).foldl State.driveCoil ((List.range 4).foldl State.trackInj s1) else s1
  let off := bits4 (fun c => s2.eng.injOff.getLsbD c && s2.wires.inj.getLsbD c)
  let w := { s2.wires with
    injOut := bits4 (fun c => s2.present .edr && s2.wires.inj.getLsbD c && s2.flag A.EDR_CTL c && !s2.drvHeld &&
      !off.getLsbD c && s2.injState c != 4)
    hbOut := bits4 (fun b => s2.wires.hbEn.getLsbD b && !s2.drvHeld && s2.wires.vhbOk &&
      !s2.flag A.HB_ERR b) }
  { s2 with wires := w, eng := { s2.eng with injOff := off } }

end Sys2Proof.Machine
end

