-- ==== Sys2Proof/Machine/LoadDrive.lean ====
section
/-! DEFINITION. The load-switch channels on the power die: what drives each output, its states and its turn-offs
(18, R760 to R769, R775, R778 to R781). -/
namespace Sys2Proof.Machine

/-- The class of a channel (Table LSW-2): 0 S, 1 M, 2 L. -/
def lsClass (n : Nat) : Nat := if n ≤ 7 then 0 else if n ≤ 13 then 1 else 2

/-- Rated current in mA (Table LSW-2). -/
def lsRated (n : Nat) : Nat := [1500, 5000, 12000].getD (lsClass n) 0
/-- LIM_T in ms (Table LSW-2). -/
def lsLimT (n : Nat) : Nat := [2, 5, 10].getD (lsClass n) 0
/-- Sense LSB in mA (Table LSW-2). -/
def lsLsb (n : Nat) : Nat := [1, 4, 10].getD (lsClass n) 0
/-- On-state open-load threshold in mA (Table LSW-2). -/
def lsOpen (n : Nat) : Nat := [10, 50, 200].getD (lsClass n) 0

/-- A channel's hidden state. -/
def State.lsCh (s : State) (n : Nat) : LsCh := s.lsw.ch.get (fun _ => {}) n

/-- Changes a channel's hidden state. -/
def State.modLs (s : State) (n : Nat) (f : LsCh → LsCh) : State :=
  { s with lsw := { s.lsw with ch := s.lsw.ch.set (fun _ => {}) n (f (s.lsCh n)) } }

/-- LS_DIAGn.STATE (Table LSW-3). -/
def State.lsState (s : State) (n : Nat) : Nat := s.field (A.LS_DIAG n) 0 3

/-- The channel's output is on. -/
def State.lsOn (s : State) (n : Nat) : Bool := s.flag A.LS_STAT n

/-- R783: a DIAG_WAIT that listens to the channel completes at its STATE change. -/
def State.diagHit (n st : Nat) (s : State) (k : Nat) : State :=
  if s.logging .lsw k 0x11 && bit (s.dw .lsw k 4) n then
    s.finishDone .lsw k (setFld (setFld 0#32 0 4 n) 8 3 st)
  else s

/-- R775: a channel's STATE; a change into a fault state raises LS_FAULT. -/
def State.setLsState (s : State) (n st : Nat) : State :=
  if s.lsState n = st then s
  else
    let s1 := s.setField (A.LS_DIAG n) 0 3 st
    let s2 := if 2 ≤ st then (s1.setBitReg A.LS_ERR (16 + n)).raise 964 else s1
    (List.range 4).foldl (State.diagHit n st) s2

/-- The state of a channel that is neither waiting nor latched (Table LSW-3). -/
def State.lsPlainState (s : State) (n : Nat) : Nat :=
  let c := s.lsCh n
  if s.lsOn n then (if c.limAt.isSome then 5 else if c.openOn then 2 else 1) else c.offDiag

/-- STATE follows the output and the diagnoses; RESTART_WAIT and LATCHED stand until what ends them. -/
def State.lsShow (s : State) (n : Nat) : State :=
  if 6 ≤ s.lsState n then s else s.setLsState n (s.lsPlainState n)

/-- The channel is commanded on by its mode (R761). -/
def State.lsWanted (s : State) (n : Nat) : Bool :=
  match fld s.lsw.mode (2 * n) 2 with
  | 1 => bit s.lsw.cmd n
  | 2 => s.flag A.LS_STAT (16 + n)
  | _ => false

/-- The output turns on or off. -/
def State.lsSwitch (s : State) (n : Nat) (on : Bool) : State :=
  let s1 := s.modReg A.LS_STAT (fun w => setBit w n on)
  if on then s1.modLs n (fun c => { c with since := s.now, limAt := none })
  else s1.modLs n (fun c => { c with since := s.now, limAt := none, acc := c.acc + (s.now - c.since), overs := 0 })

/-- R761, R767, R769, R781: one output follows its mode. -/
def State.lsDrive (n : Nat) (s : State) : State :=
  let want := s.lsWanted n && !s.lsw.lowPower && !s.wires.hot && !s.wires.pdrst && decide (s.lsState n < 6)
  if want = s.lsOn n then s else (s.lsSwitch n want).lsShow n

/-- Every output follows its mode. -/
def State.lsDriveAll (s : State) : State := (List.range 16).foldl (fun s n => s.lsDrive n) s

/-- R765, R778: the power die takes a forwarded LS_MODE or LS_CMD. In the autonomous state the channels hold. -/
def State.lsTake (s : State) (mode : Bool) (v : Word) : State :=
  if s.link.pdAuton then s
  else (if mode then { s with lsw := { s.lsw with mode := v } } else { s with lsw := { s.lsw with cmd := v } }).lsDriveAll

/-- R765, R779: what the control die forwards: the modes, and the commands, all off under the SAFE action of domain 5. -/
def State.lsForwarded (s : State) : Word × Word :=
  (s.reg A.LS_MODE, if s.safeHolds 5 then 0#32 else s.reg A.LS_CMD)

/-- A forwarding write (R29, R765); no core waits for it. -/
def lsReq (a : Nat) (v : Word) : LinkReq := ⟨15, a, false, 0, 4, v, false⟩

/-- R765: the control die forwards LS_MODE and LS_CMD when they have changed and the link is up. -/
def State.lsForward (s : State) : State :=
  if s.linkUp && !s.flag A.LML_STAT 2 && s.live .lsw && decide (s.lsw.fwd ≠ some s.lsForwarded) then
    let f := s.lsForwarded
    (({ s with lsw := { s.lsw with fwd := some f } }).linkPush (lsReq A.LS_MODE f.1)).linkPush (lsReq A.LS_CMD f.2) |>.syncQueue
  else s

/-- R778: RESUME has taken effect; the modes and commands go first. -/
def State.lsResume (s : State) : State :=
  if s.live .lsw then
    let f := s.lsForwarded
    ({ s with lsw := { s.lsw with fwd := some f },
              link := { s.link with queue := [lsReq A.LS_MODE f.1, lsReq A.LS_CMD f.2] ++ s.link.queue } }).syncQueue
  else s

/-- R34, R765: a forwarding write was lost; it is due again. -/
def State.lsLost (s : State) (a : Nat) : State :=
  if a = A.LS_MODE ∨ a = A.LS_CMD then { s with lsw := { s.lsw with fwd := none } } else s

/-- R780: a power-die reset turns every channel off and clears its state; the LSIN levels are inputs and stay. -/
def State.lsPdReset (s : State) : State :=
  let keep := (List.range 16).map (fun n => (n, s.lsCh n))
  let s1 := (List.range 16).foldl (fun s n => if s.lsOn n then s.lsSwitch n false else s) s
  { s1 with lsw := { s1.lsw with
      mode := 0#32, cmd := 0#32, fwd := none,
      ch := keep.foldl (fun t p => t.set (fun _ => {}) p.1 { since := s.now, seq := p.2.seq, samples := p.2.samples }) [] } }

end Sys2Proof.Machine
end

