-- ==== Sys2Proof/Machine/Link.lean ====
section
/-! DEFINITION. The Lameo link: transactions, retries, loss, the power die's autonomous state and its reset
(01, R18 to R41, R66, R67). -/
namespace Sys2Proof.Machine

/-- LINK_REQUEST_SEND (R22, R30): the oldest transaction is sent as a request frame. -/
def linkRequestSend (s : State) : State :=
  match s.link.flight, s.link.queue, s.linkUp with
  | none, r :: rest, true =>
    { s with link := { s.link with queue := rest, flight := some ⟨r, s.link.tag, 0⟩, tag := (s.link.tag + 1) % 16 } }
  | _, _, _ => s

/-- The loop window that a power-die address lies in: window, loop number and register offset (Table CTR-2, R150). -/
def loopAt (a : Nat) : Option (Win × Nat × Nat) :=
  match winOf a with
  | some w =>
    let o := a % 0x1000
    if 0x700 ≤ o ∧ o < 0x800 ∧ (loopDef w ((o - 0x700) / 0x10)).isSome then some (w, (o - 0x700) / 0x10, o % 0x10) else none
  | none => none

/-- What a read of a loop window register returns: LOOP_POS reads the selected element (R148). -/
def State.loopRead (s : State) (w : Win) (n off : Nat) : Word :=
  if off = 12 then wd (s.elem w n (s.field (loopA w n) 8 8)) else s.reg (loopA w n + off)

/-- The effect of a write to a loop window register that its access type has let pass. -/
def State.loopWrite (s : State) (w : Win) (n off size lane : Nat) (v : Word) : State :=
  match off with
  | 0 => s.loopCtlEffect w n size lane v
  | 4 => s.boundEffect w n false v
  | 8 => s.boundEffect w n true v
  | _ => s.posEffect w n (fld v 0 16)

/-- The value of a power-die register (R28). -/
def State.pdValue (s : State) (a : Nat) : Word :=
  match loopAt a with
  | some (w, n, off) => s.loopRead w n off
  | none => s.reg a

/-- A register write executed on the power die. -/
def State.pdExecWrite (s : State) (r : LinkReq) : State :=
  match loopAt r.addr with
  | some (w, n, off) => s.loopWrite w n off r.size r.lane r.data
  | none =>
    if r.addr = A.LS_MODE then s.lsTake true r.data
    else if r.addr = A.LS_CMD then s.lsTake false r.data
    else (s.store r.addr (mergeLanes (s.reg r.addr) r.lane r.size r.data)).drivePd

/-- R27: the power die executes a request, once only for a retried write, and holds the answer. -/
def State.pdExecute (s : State) (f : Flight) : State :=
  if s.link.pdTag = some f.tag then s
  else
    let s1 := { s with link := { s.link with pdTag := some f.tag, pdData := s.pdValue f.req.addr, validPd := s.now } }
    if f.req.isRead then s1
    else if f.req.isResume then
      ({ s1 with link := { s1.link with pdAuton := false } }).drivePd
    else s1.pdExecWrite f.req

/-- PD_REQUEST_FRAME (R27, R40): the request in flight reaches the power die; a frame that fails its CRC is not executed. -/
def pdRequestFrame (crcOk : Bool) (s : State) : State :=
  match s.link.flight with
  | some f => if crcOk then s.pdExecute f else s
  | none => s

/-- R36: on link loss the queue is discarded and the link retrains. -/
def State.linkLossCd (s : State) : State :=
  let reqs := (match s.link.flight with | some f => [f.req] | none => []) ++ s.link.queue
  let writes := reqs.filter (fun r => ! r.isRead)
  let s1 := (s.setBitReg A.LML_ERR 4).raise 26
  let again := writes.any (fun r => r.addr == A.LS_MODE || r.addr == A.LS_CMD)
  let ls := if again then { s1.lsw with fwd := none } else s1.lsw
  let s2 := { s1 with link := { s1.link with queue := [], flight := none, fails := 0, pdTag := none }, lsw := ls }
  let s3 := match writes.getLast? with
    | some r => s2.writeLost r.addr
    | none => s2
  let s4 := (reqs.filter (·.isRead)).foldl (fun s r => s.readFail r.master r.addr) s3
  ((s4.modReg A.LML_STAT (fun w => setBit (setBit w 0 false) 1 true)).syncQueue)

/-- R33, R34: the transaction in flight has failed after its last retry. -/
def State.transactionFailed (s : State) (f : Flight) : State :=
  let s1 := { (s.setBitReg A.LML_ERR 1) with link := { s.link with flight := none, fails := s.link.fails + 1 } }
  let s2 := if f.req.isRead then s1.readFail f.req.master f.req.addr else (s1.writeLost f.req.addr).lsLost f.req.addr
  let s3 := s2.syncQueue
  if 2 ≤ s3.link.fails then s3.linkLossCd else s3

/-- R26: a retry, while MAX_RETRY allows one, or the end of the transaction. -/
def State.retry (s : State) (f : Flight) : State :=
  if f.retries < s.field A.LML_CTL 16 4 then
    ({ s with link := { s.link with flight := some { f with retries := f.retries + 1 } } }).modReg A.LML_CNT
      (fun w => satAdd w 16 16 1)
  else s.transactionFailed f

/-- LINK_RESPONSE_FRAME (R24, R26, R28, R40): the answer of the request in flight arrives. -/
def linkResponseFrame (crcOk : Bool) (s : State) : State :=
  match s.link.flight with
  | none => s
  | some f =>
    if s.link.pdTag ≠ some f.tag then s
    else if crcOk then
      let s1 := { s with link := { s.link with flight := none, fails := 0, validCd := s.now } }
      let s2 := s1.syncQueue
      if f.req.isRead then s2.answer f.req.master (readLanes s.link.pdData f.req.lane f.req.size) .ok
      else if f.req.isResume then (s2.clrBitReg A.LML_STAT 2).lsResume
      else s2
    else
      (((s.setBitReg A.LML_ERR 0).modReg A.LML_CNT (fun w => satAdd w 0 16 1))).retry f

/-- LINK_RESPONSE_TIMEOUT (R26): no response 640 ns after the end of the request frame. -/
def linkResponseTimeout (s : State) : State :=
  match s.link.flight with
  | some f => s.retry f
  | none => s

/-- KEEPALIVE_SEND (R23): a side whose lane is idle sends one; not while a transaction is outstanding. -/
def keepaliveSend (fromPd : Bool) (s : State) : State :=
  if s.link.flight.isSome then s
  else if fromPd then { s with link := { s.link with seqPd := (s.link.seqPd + 1) % 4096 } }
  else { s with link := { s.link with seqCd := (s.link.seqCd + 1) % 4096 } }

/-- KEEPALIVE_RECEIVED (R35): a valid frame restarts the receiving die's 40 µs. -/
def keepaliveReceived (atPd : Bool) (s : State) : State :=
  if atPd then { s with link := { s.link with validPd := s.now } } else { s with link := { s.link with validCd := s.now } }

/-- LINK_LOSS_PD (R35, R38): 40 µs without a valid frame from the control die; the grace period starts. -/
def linkLossPd (s : State) : State :=
  if s.link.validPd + 16000 ≤ s.now then { s with link := { s.link with pdLoss := true } } else s

/-- LINK_LOSS_CD (R35, R36): 40 µs without a valid frame from the power die; two failed transactions act at once. -/
def linkLossCd (s : State) : State := if s.linkUp ∧ s.link.validCd + 16000 ≤ s.now then s.linkLossCd else s

/-- R41: after a power-die reset and with the link up, the control die reports. -/
def State.reportPdReset (s : State) : State :=
  if s.link.pdResetToReport then
    ((({ s with link := { s.link with pdResetToReport := false } }).orReg A.LML_ERR 0x60#32).setBitReg A.LML_STAT 2).raiseAll [28, 27]
  else s

/-- LINK_RETRAINED (R36, R41, R478). -/
def linkRetrained (s : State) : State :=
  (({ s with link := { s.link with pdLoss := false, fails := 0, validCd := s.now, validPd := s.now }, chg := { s.chg with mirrorT := s.now } }).modReg A.LML_STAT
    (fun w => setBit (setBit w 0 true) 1 false)).reportPdReset

/-- R39, Table ARC-5: the power die enters the autonomous state and the control die says so. -/
def State.enterAuton (s : State) : State :=
  if s.link.pdAuton then s
  else
    let s1 := ({ s with link := { s.link with pdAuton := true } }).drivePd
    ((s1.setBitReg A.LML_STAT 2).setBitReg A.LML_ERR 6).raise 27

/-- GRACE_EXPIRY (R39): the grace period ends and the link has not been restored. -/
def graceExpiry (s : State) : State :=
  if s.link.pdLoss then ({ s with link := { s.link with pdLoss := false } }).enterAuton else s

/-- R41: every register that resides on the power die returns to its reset value. -/
def State.resetPdRegs (s : State) : State :=
  { s with
    regs := s.regs.resetWhere isPd
    elems := s.elems.resetWhere (fun k => isPd (k / 256))
    loops := s.loops.resetWhere isPd }

/-- PD_RESET (R41): the power die passes through its own reset. -/
def pdReset (s : State) : State :=
  let s1 := s.resetPdRegs
  let s2 := ({ s1 with link := { s1.link with pdAuton := true, pdLoss := false, pdTag := none, pdResetToReport := true } }).drivePd.lsPdReset
  if s2.linkUp then s2.reportPdReset else s2

/-- R40, R66, R67, R111: RESUME takes effect only from the primary host core, with the link up and the power die autonomous,
and not while check domain 7's SAFE action holds it so; it is sent as a transaction. -/
def State.resumeEffect (s : State) (m : Nat) : State :=
  if m = s.primaryHost ∧ s.linkUp ∧ s.flag A.LML_STAT 2 ∧ s.safeHolds 7 = false then
    (s.linkPush ⟨m, A.LML_CTL, false, 0, 4, 0#32, true⟩).syncQueue
  else s

/-- The effect of an LML_CTL write whose pair has passed (R40, Table ARC-15). -/
def State.lmlCtlEffect (s : State) (m : Nat) (v : Word) : State :=
  let s1 := s.store A.LML_CTL v
  if bit v 0 then s1.resumeEffect m else s1

/-- PD_FAULT (R43): XW_PDFLT_N asserts. -/
def pdFault (s : State) : State :=
  if s.wires.pdflt then s else ({ s with wires := { s.wires with pdflt := true } }).raise 29

end Sys2Proof.Machine
end

