-- ==== Sys2Proof/Machine/LoadSwitch.lean ====
section
/-! DEFINITION. Load-switch commands: command bits, protection, derating, diagnosis, current samples and the LSW opcodes
(18, R760 to R784). -/
namespace Sys2Proof.Machine

/-! ## Control -/

/-- R764: the owner of a channel. -/
def State.lsOwner (s : State) (n : Nat) : Nat :=
  match s.field A.LS_OWN (2 * n) 2 with
  | 0 => s.primaryHost
  | 1 => if s.primaryHost = mH0 then mH1 else mH0
  | 2 => mE
  | _ => mP

/-- R763: the channels of a mask that a master owns. -/
def State.lsOwned (s : State) (m : Nat) (v : Word) : Word :=
  (List.range 16).foldl (fun w n => if bit v n && s.lsOwner n == m then setBit w n true else w) 0#32

/-- R763: what a write of LS_SET or LS_CLR does. -/
def State.lsCommand (s : State) (m : Nat) (set : Bool) (v : Word) : State :=
  let own := s.lsOwned m v
  let s1 := s.modReg A.LS_CMD (fun w => if set then w ||| own else w &&& ~~~ own)
  if own = setFld 0#32 0 16 (fld v 0 16) then s1 else (s1.setBitReg A.LS_ERR 0).raise 967

/-- LS_SET (R763). -/
def lsSet (m size : Nat) (v : Word) (s : State) : State :=
  s.plainWrite .lsw m A.LS_SET (fun s => s.lsCommand m true (w1cBits A.LS_SET size v))

/-- LS_CLR (R763). -/
def lsClr (m size : Nat) (v : Word) (s : State) : State :=
  s.plainWrite .lsw m A.LS_CLR (fun s => s.lsCommand m false (w1cBits A.LS_CLR size v))

/-- R769: a channel's latch clears and it follows its mode at once. -/
def State.lsUnlatch (s : State) (n : Nat) : State :=
  if s.lsState n = 7 then
    let s1 := (s.modReg (A.LS_DIAG n) (fun w => setFld (setFld w 4 2 0) 8 4 0)).modLs n (fun c => { c with acc := 0, overs := 0 })
    (s1.setLsState n (s1.lsPlainState n)).lsDrive n
  else s

/-- LS_LCLR (R769). -/
def lsLclr (m size : Nat) (v : Word) (s : State) : State :=
  s.plainWrite .lsw m A.LS_LCLR (fun s =>
    (List.range 16).foldl (fun s n => if bit (w1cBits A.LS_LCLR size v) n then s.lsUnlatch n else s) s)

/-- LS_FORWARD (R765, R779). -/
def lsForwardCmd (s : State) : State := s.lsForward

/-- LSIN_EDGE (R762): the filtered level of an LSIN ball changes. -/
def lsinEdge (n : Nat) (level : Bool) (s : State) : State :=
  if n < 16 then (s.modReg A.LS_STAT (fun w => setBit w (16 + n) level)).lsDrive n else s

/-! ## Protection -/

/-- The local temperature of a channel, in 0.1 °C. -/
def State.lsTemp (s : State) (n : Nat) (t : Int) : State := s.setField (A.LS_DIAG n) 16 16 (ofSigned 16 t)

/-- LS_CFGn. -/
def State.lsCfg (s : State) (n : Nat) : Word := s.reg (A.LS_CFG n)

/-- LS_DIAGn.RST_CNT. -/
def State.lsRst (s : State) (n : Nat) : Nat := s.field (A.LS_DIAG n) 8 4

/-- A channel latches with a cause (R768, R771). -/
def State.lsLatch (s : State) (n cause : Nat) : State :=
  (((s.lsSwitch n false).setField (A.LS_DIAG n) 4 2 cause).setLsState n 7).raise 966

/-- R766 to R768: a turn-off under R766: RESTART_WAIT, or LATCHED once the restarts are used up. -/
def State.lsTrip (s : State) (n : Nat) : State :=
  let s1 := if fld (s.lsCfg n) 4 4 ≤ s.lsRst n then s.lsLatch n 1 else (s.lsSwitch n false).setLsState n 6
  s1.modLs n (fun c => { c with offAt := s.now, limAt := none, acc := 0 })

/-- LS_CURRENT_LIMIT (R766): whether the current of a conducting channel is at its limit, and its local temperature. It
turns off when it has limited for LIM_T without a break, or at 165 °C. -/
def lsCurrentLimit (n : Nat) (limited : Bool) (temp : Int) (s : State) : State :=
  if ¬ (n < 16) ∨ ¬ (s.lsOn n = true) then s
  else
    let s1 := s.lsTemp n temp
    let at_ := if limited then some ((s.lsCh n).limAt.getD s.now) else none
    let s2 := (s1.modLs n (fun c => { c with limAt := at_ })).lsShow n
    let due := match at_ with
      | some t => decide (t + lsLimT n * 400000 ≤ s.now)
      | none => false
    if due || decide (1650 ≤ temp) then s2.lsTrip n else s2

/-- LS_RESTART (R767). -/
def lsRestart (n : Nat) (temp : Int) (s : State) : State :=
  if n < 16 ∧ s.lsState n = 6 then
    let s1 := s.lsTemp n temp
    if (s.lsCh n).offAt + fld (s.lsCfg n) 24 8 * 400000 ≤ s.now ∧ temp ≤ 1500 ∧ s.lsWanted n = true ∧ s.lsw.lowPower = false ∧
        s.wires.hot = false then
      let s2 := (s1.setField (A.LS_DIAG n) 8 4 (s.lsRst n + 1)).lsSwitch n true
      (s2.setLsState n (s2.lsPlainState n)).raise 965
    else s1
  else s

/-- RST_CNT_CLEAR (R768): the channel has conducted for 1 s without a turn-off under R766. -/
def rstCntClear (n : Nat) (s : State) : State :=
  let c := s.lsCh n
  let t := c.acc + (if s.lsOn n then s.now - c.since else 0)
  if n < 16 ∧ s.lsState n ≠ 7 ∧ 400000000 ≤ t then s.setField (A.LS_DIAG n) 8 4 0 else s

/-- LS_DERATE_STEP (R770): one 10 ms step of derating loop `n` at a local temperature. -/
def lsDerateStep (n : Nat) (temp : Int) (s : State) : State :=
  if n < 16 then
    let tdr : Int := 10 * (fld (s.lsCfg n) 16 8 : Nat)
    let pos : Int := s.elem .lsw n 0
    let want : Int := if tdr ≤ temp then pos - 10 else if temp ≤ tdr - 100 then pos + 5 else pos
    (s.lsTemp n temp).loopStep .lsw n [(0, want)]
  else s

/-- LS_OVERLOAD (R771): the comparison of a loop step. -/
def lsOverload (n : Nat) (s : State) : State :=
  if n < 16 ∧ s.lsOn n = true then
    let mean := s.field (A.LS_CUR n) 16 12 * lsLsb n
    let k := if lsRated n * s.elem .lsw n 0 < 1000 * mean then (s.lsCh n).overs + 1 else 0
    let s1 := s.modLs n (fun c => { c with overs := k })
    if fld (s.lsCfg n) 8 8 < k then s1.lsLatch n 2 else s1
  else s

/-! ## Diagnosis -/

/-- LS_OFF_TEST (R774, R775): the two steps of the off-state test: the level above 2.0 V for 200 µs with the pull-up off, and
with it on. -/
def lsOffTest (n : Nat) (stbHigh olHigh : Bool) (s : State) : State :=
  if n < 16 ∧ s.lsOn n = false ∧ (s.lsCh n).since + 200000 ≤ s.now then
    let cfg := s.lsCfg n
    let d0 := (s.lsCh n).offDiag
    let short := bit cfg 2 && stbHigh
    let d1 := if short then 4 else if bit cfg 2 && d0 == 4 then 0 else d0
    let d2 := if !short && bit cfg 1 then (if olHigh then 3 else if d1 == 3 then 0 else d1) else d1
    (s.modLs n (fun c => { c with offDiag := d2 })).lsShow n
  else s

/-- R773: a current sample judged for an open load in the on state. -/
def State.lsOpenJudge (s : State) (n code : Nat) : State :=
  if s.lsOn n && bit (s.lsCfg n) 0 && decide ((s.lsCh n).since + 200000 ≤ s.now) then
    let low := decide (code * lsLsb n < lsOpen n)
    let k := if low then (s.lsCh n).low + 1 else 0
    (s.modLs n (fun c => { c with low := min k 10, openOn := if low then c.openOn || decide (10 ≤ k) else false })).lsShow n
  else s

/-! ## Current samples -/

/-- R783: one CUR_STREAM takes a sample. -/
def State.curStreamTake (n code seq stamp : Nat) (gap on : Bool) (s : State) (k : Nat) : State :=
  if s.logging .lsw k 0x10 && bit (s.dw .lsw k 4) n then
    let key := k * 16 + n
    let g := gap || s.lsw.gap.get (fun _ => false) key
    let c := s.lsw.dec.get (fun _ => 0) key + 1
    let full := decide (fld (s.dw .lsw k 4) 16 16 ≤ c)
    let s1 := { s with lsw := { s.lsw with
      dec := s.lsw.dec.set (fun _ => 0) key (if full then 0 else c), gap := s.lsw.gap.set (fun _ => false) key (g && !full) } }
    if full then
      s1.logEntry .lsw k [wd stamp, setFld (setBit (setBit (setFld (setFld 0#32 0 12 code) 12 4 n) 16 g) 17 on) 24 8 seq]
    else s1
  else s

/-- LS_CURRENT_SAMPLE (R773, R776, R777): a sample frame of channel `n` arrives, when the link is up. -/
def lsCurrentSample (n code seq : Nat) (s : State) : State :=
  if ¬ (n < 16) ∨ ¬ (s.linkUp = true) ∨ ¬ (s.live .lsw = true) then s
  else
    let code := code % 4096
    let seq := seq % 256
    let on := s.lsOn n
    let gap := match (s.lsCh n).seq with
      | some q => decide ((q + 1) % 256 ≠ seq)
      | none => false
    let xs := (code :: (s.lsCh n).samples).take 100
    let mean := xs.foldl (· + ·) 0 / xs.length
    let s1 := (s.modLs n (fun c => { c with seq := some seq, samples := xs })).setReg (A.LS_CUR n)
      (setFld (setFld 0#32 0 12 code) 16 12 mean)
    let s2 := if gap then s1.setBitReg A.LS_ERR 1 else s1
    let s3 := (List.range 4).foldl (State.curStreamTake n code seq ((s.now + 2 ^ 64 - 1200) % 2 ^ 64) gap on) s2
    s3.lsOpenJudge n code

/-! ## Opcodes -/

/-- CUR_STREAM (R783): starts; each channel's count to DECIM begins. -/
def curStream (n : Nat) (s : State) : State :=
  s.whenHand .lsw n 0x10 (fun s =>
    if (s.ring .lsw n).aux ≠ 0 then s
    else
      let a := s.dw .lsw n 4
      if fld (s.dw .lsw n 5) 0 16 = 0 then s.finishBad .lsw n 0x11
      else if fld a 0 16 = 0 ∨ fld a 16 16 = 0 ∨ 1000 < fld a 16 16 then s.finishBad .lsw n 0x80
      else
        let own (k : Nat) : Bool := k / 16 == n
        ({ s with lsw := { s.lsw with dec := s.lsw.dec.resetWhere own, gap := s.lsw.gap.resetWhere own } }).startLog .lsw n 0x10)

/-- DIAG_WAIT (R783): it listens for the first STATE change of a masked channel. -/
def diagWait (n : Nat) (s : State) : State :=
  s.whenHand .lsw n 0x11 (fun s =>
    if fld (s.dw .lsw n 5) 0 16 ≠ 0 ∧ fld (s.dw .lsw n 4) 0 16 = 0 then s.finishBad .lsw n 0x80 else s.startLog .lsw n 0x11)

/-- DIAG_SNAP (R783). -/
def diagSnap (n : Nat) (s : State) : State :=
  s.whenHand .lsw n 0x12 (fun s =>
    (s.putWords (s.ring .lsw n).host (s.dw .lsw n 2).toNat ((List.range 16).map (fun k => s.reg (A.LS_DIAG k)))).finishDone .lsw n 16#32)

end Sys2Proof.Machine
end

