-- ==== Sys2Proof/Machine/Knock.lean ====
section
/-! DEFINITION. The knock channel (09, R374 to R378). -/
namespace Sys2Proof.Machine

/-- Is a started KNOCK_WINDOW in hand on ring `n`, at this point of its life: 1 waiting for a window, 2 taking one? -/
def State.knockWaits (s : State) (n aux : Nat) : Bool := s.inHand .eng n == some 0x11 && (s.ring .eng n).aux == aux

/-- A 32-bit saturated sum after the energy shift. -/
def energy (sum shift : Nat) : Word := wd (min (sum / 2 ^ shift) 0xFFFFFFFF)

/-- Table ENG-2. -/
def KnkWin.words (k : KnkWin) (number shift : Nat) (trunc : Bool) : List Word :=
  [wd k.first, wd k.last,
   setBit (setBit (setFld (setFld 0#32 0 16 (min k.n 65535)) 16 8 number) 24 k.clip) 25 trunc,
   setFld 0#32 0 16 k.peak, energy k.e0 shift, energy k.e1 shift, energy k.raw shift, 0#32]

/-- Raw samples as bytes, signed 16-bit, least significant byte first. -/
def sampleBytes (l : List Int) : List Byte :=
  l.flatMap (fun x => let v := ofSigned 16 x; [BitVec.ofNat 8 v, BitVec.ofNat 8 (v / 256)])

/-- R376, R378: one descriptor takes the window that has closed. -/
def State.knockGive (k : KnkWin) (s : State) (n : Nat) : State :=
  if s.knockWaits n 2 then
    let r := s.ring .eng n
    let room := ((s.dw .eng n 1).toNat - 32) / 2
    let a := (s.dw .eng n 2).toNat
    let trunc := decide (room < k.n)
    let s1 := s.putWords r.host a (k.words (s.field A.KNK_STAT 16 8) (s.field A.KNK_CFG 4 4) trunc)
    (s1.putBytes r.host (a + 32) (sampleBytes (k.data.take room))).finishDone .eng n (wd k.n)
  else s

/-- A window closes (R376). -/
def State.knockClose (s : State) : State :=
  match s.eng.knk with
  | none => s
  | some k =>
    let taken := (List.range 4).any (fun n => s.knockWaits n 2)
    let s1 := (s.modEng (fun e => { e with knk := none })).modReg A.KNK_STAT
      (fun w => wrapAdd (setFld w 0 16 (min k.n 65535)) 16 8 1)
    if taken then (List.range 4).foldl (State.knockGive k) s1 else s1.modReg A.KNK_STAT (fun w => wrapAdd w 24 8 1)

/-- The level of KNOCK_WIN is followed: a rising edge opens a window, and each KNOCK_WINDOW that waits takes it. -/
def State.knockTrack (s : State) (high : Bool) : State :=
  let s0 := s.modEng (fun e => { e with knkHigh := high })
  if high && !s.eng.knkHigh && s.live .eng && s.flag A.ENG_CTL 1 then
    let s1 := s0.knockClose.modEng (fun e => { e with knk := some {} })
    (List.range 4).foldl (fun s n => if s.knockWaits n 1 then s.modRing .eng n (fun r => { r with aux := 2 }) else s) s1
  else s0

/-- KNOCK_SAMPLE (R374, R375, R377): one sample and what the two band filters answer to it. A window takes it while it is
high, and the first one after its rising edge in any case. -/
def knockSample (x y0 y1 : Int) (s : State) : State :=
  if !(s.live .eng && s.flag A.ENG_CTL 1) then s
  else
    let full := decide (x = 32767 ∨ x = -32768)
    let s1 := if full then (s.setBitReg A.ENG_ERR 1).raise 424 else s
    match s1.eng.knk with
    | some k =>
      if s1.eng.knkHigh || k.n = 0 then
        s1.modEng (fun e => { e with knk := some {
          first := if k.n = 0 then s.now else k.first
          last := s.now
          n := k.n + 1
          clip := k.clip || full
          peak := max k.peak x.natAbs
          e0 := k.e0 + y0.natAbs * y0.natAbs
          e1 := k.e1 + y1.natAbs * y1.natAbs
          raw := k.raw + x.natAbs * x.natAbs
          data := k.data ++ [x] } })
      else s1
    | none => s1

/-- KNOCK_WINDOW_CLOSE (R375, R376): KNOCK_WIN has fallen and the window has its samples. -/
def knockWindowClose (s : State) : State :=
  match s.eng.knk with
  | some k => if s.eng.knkHigh || k.n = 0 then s else s.knockClose
  | none => s

/-- KNOCK_WINDOW (R376, R409): the descriptor waits for the next window to open. -/
def knockWindow (n : Nat) (s : State) : State :=
  s.whenHand .eng n 0x11 (fun s =>
    if (s.ring .eng n).aux ≠ 0 then s
    else if fld (s.dw .eng n 5) 0 16 = 0 then s.finishBad .eng n 0x11
    else s.modRing .eng n (fun r => { r with aux := 1, t0 := s.now }))

end Sys2Proof.Machine
end

