-- ==== Sys2Proof/Machine/AngBase.lean ====
section
/-! DEFINITION. Angle domains: counts, patterns, interpolation, domain states and angle outputs (07, R282 to R293; 08,
R354 to R357). -/
namespace Sys2Proof.Machine

/-! ## Exact ratios -/

/-- A whole number as a ratio. -/
def Frac.ofNat (n : Nat) : Frac := ⟨n, 1⟩
/-- Sum. -/
def Frac.add (a b : Frac) : Frac := ⟨a.num * b.den + b.num * a.den, a.den * b.den⟩
/-- Times `n / d`. -/
def Frac.scale (a : Frac) (n d : Nat) : Frac := ⟨a.num * n, a.den * d⟩
/-- Not above. -/
def Frac.le (a b : Frac) : Bool := decide (a.num * b.den ≤ b.num * a.den)
/-- The whole part. -/
def Frac.floor (a : Frac) : Nat := a.num / a.den
/-- The next whole number at or above. -/
def Frac.ceil (a : Frac) : Nat := (a.num + a.den - 1) / a.den

/-- R282: counts per cycle. -/
def counts : Nat := 1048576
/-- `x` modulo one cycle. -/
def modC (x : Nat) : Nat := x % counts
/-- `a - b` modulo one cycle. -/
def subC (a b : Nat) : Nat := (a % counts + counts - b % counts) % counts
/-- `a - b` as a signed number of counts, in half a cycle either way. -/
def diffC (a b : Nat) : Int := toSigned 20 (subC a b)
/-- `a` plus a signed number of counts. -/
def addC (a : Nat) (x : Int) : Nat := (((a : Int) + x) % (counts : Int)).toNat
/-- `x` lies after `a` and at or before `b`, going forward. -/
def crossed (a b x : Nat) : Bool := decide (subC x a ≤ subC b a) && decide (x % counts ≠ a % counts)

/-! ## Tooth patterns (R285 to R288) -/

/-- Table SYN-3: positions per revolution and the missing ones. -/
def presetPattern : Nat → List Bool
  | 1 => (List.range 60).map (fun p => decide (p < 58))
  | 2 => (List.range 36).map (fun p => decide (p < 35))
  | 3 => (List.range 36).map (fun p => !(p == 18 || p == 19 || p == 34 || p == 35))
  | 4 => (List.range 24).map (fun p => decide (p < 23))
  | 5 => (List.range 12).map (fun p => decide (p < 11))
  | 6 => (List.range 36).map (fun p => decide (p < 34))
  | _ => [true]

/-- Positions of a revolution of the pattern. -/
def Crk.nRev (c : Crk) : Nat := c.pat.length
/-- R286: positions per CRK cycle. -/
def Crk.n (c : Crk) : Nat := if c.four then 2 * c.nRev else c.nRev
/-- Is the position present? -/
def Crk.present (c : Crk) (p : Nat) : Bool := c.pat.getD (p % c.nRev) true
/-- R286: the count of position `i`. -/
def Crk.count (c : Crk) (i : Nat) : Nat := modC (c.ref + i * counts / c.n)
/-- Positions from `p` to the next present one. -/
def Crk.span (c : Crk) (p : Nat) : Nat :=
  (((List.range c.nRev).map (· + 1)).find? (fun k => c.present (p + k))).getD c.nRev
/-- The next present position. -/
def Crk.next (c : Crk) (p : Nat) : Nat := (p + c.span p) % c.n
/-- The angle from position `p` to position `q`, 1 to a whole cycle. -/
def Crk.dist (c : Crk) (p q : Nat) : Nat := subC (c.count q + counts - 1) (c.count p) + 1
/-- The position follows a gap. -/
def Crk.afterGap (c : Crk) (j : Nat) : Bool := c.present j && !c.present (j + c.nRev - 1)
/-- Span of the gap that ends at position `j`. -/
def Crk.gapSpan (c : Crk) (j : Nat) : Nat :=
  (((List.range c.nRev).map (· + 1)).find? (fun k => c.present (j + c.nRev - k))).getD c.nRev
/-- The first positions after the gaps of a revolution. -/
def Crk.gaps (c : Crk) : List Nat := (List.range c.nRev).filter c.afterGap

/-- The missing runs of a custom mask: length, first position after it, and the teeth that follow it. -/
def maskRuns (m : List Bool) : List (Nat × Nat × Nat) :=
  let c : Crk := { pat := m }
  c.gaps.map (fun j => (c.gapSpan j - 1, j,
    ((List.range c.nRev).takeWhile (fun k => c.present (j + k))).length))

/-- A list rotated by `k`. -/
def rotl {α : Type} (l : List α) (k : Nat) : List α := l.drop k ++ l.take k

/-- R287 reason 2: the sequence of (missing, teeth) runs repeats under rotation. -/
def runsRepeat (r : List (Nat × Nat × Nat)) : Bool :=
  let s := r.map (fun x => (x.1, x.2.2))
  (List.range s.length).any (fun k => decide (0 < k) && rotl s k == s)

/-- The teeth before the missing run that ends at `j`. -/
def teethBefore (m : List Bool) (run : Nat) (j : Nat) : Nat :=
  let c : Crk := { pat := m }
  ((List.range c.nRev).takeWhile (fun k => c.present (j + 2 * c.nRev - run - 1 - k))).length

/-- R288: a custom mask turned so that position 0 is the first tooth after the longest missing run; of equal runs the one
that follows the shorter run of teeth. -/
def orientMask (m : List Bool) : List Bool :=
  let best := (maskRuns m).foldl (fun (b : Option (Nat × Nat × Nat)) r =>
    let t := teethBefore m r.1 r.2.1
    match b with
    | none => some (r.1, t, r.2.1)
    | some (l, u, _) => if l < r.1 ∨ (l = r.1 ∧ t < u) then some (r.1, t, r.2.1) else b) none
  match best with
  | some (_, _, j) => rotl m j
  | none => m

/-- The custom pattern as CRK_CFG.N_REV and CRK_MASKn give it; positions above 143 are ignored. -/
def State.customMask (s : State) : List Bool :=
  (List.range (s.field A.CRK_CFG 16 8)).map (fun p => decide (p < 144) && s.flag (A.CRK_MASK (p / 32)) (p % 32))

/-! ## Domain states -/

/-- STATE of an angle domain: 0 OFF, 1 LOST, 2 LOCKING, 3 LOCKED, 4 COASTING. -/
def State.domState (s : State) (d : Nat) : Nat := s.field A.ANG_STAT (4 * d) 3

/-- The angle of the domain is VALID. -/
def State.domValid (s : State) (d : Nat) : Bool := decide (3 ≤ s.domState d)

/-- Changes the CRK domain. -/
def State.modCrk (s : State) (f : Crk → Crk) : State := { s with ang := { s.ang with crk := f s.ang.crk } }
/-- Changes the ALT domain. -/
def State.modAlt (s : State) (f : Alt → Alt) : State := { s with ang := { s.ang with alt := f s.ang.alt } }
/-- Changes the GRD domain. -/
def State.modGrd (s : State) (f : Grd → Grd) : State := { s with ang := { s.ang with grd := f s.ang.grd } }
/-- Changes the INV domain. -/
def State.modInv (s : State) (f : Inv → Inv) : State := { s with ang := { s.ang with inv := f s.ang.inv } }

/-! ## Interpolation (R289, R293) -/

/-- R289: the predicted time of the interval from the last tooth to the next present position, and its angle. In LOCKING
the prediction uses a ratio of 1.0 (R295). -/
def State.crkPred (s : State) : Option (Frac × Nat × Nat) :=
  let c := s.ang.crk
  match c.pos with
  | none => none
  | some p =>
    let j := c.next p
    let a := c.dist p j
    let r := if s.domValid 0 then s.elem .ang 0 j else 16384
    if c.aPrev = 0 then none else some (c.tPrev.scale (a * r) (c.aPrev * 16384), a, j)

/-- The counts the CRK angle has advanced from its anchor at tick `t`, held one short of the next position (R293). -/
def State.crkAdvance (s : State) (t : Nat) : Nat :=
  let c := s.ang.crk
  match s.crkPred with
  | none => 0
  | some (tp, a, j) =>
    let room := subC (c.count j + counts - 1) c.anchorC
    -- (t - anchor) * a / tp
    let dt : Nat := t * c.anchorT.den - c.anchorT.num
    if tp.num = 0 then room else min room (dt * a * tp.den / (c.anchorT.den * tp.num))

/-- The CRK angle at tick `t`. -/
def State.crkAngle (s : State) (t : Nat) : Nat :=
  match s.ang.crk.pos with
  | some _ => modC (s.ang.crk.anchorC + s.crkAdvance t)
  | none => 0

/-- The CRK CYCLE count at tick `t` (R282). -/
def State.crkCycle (s : State) (t : Nat) : Nat := (s.ang.crk.cyc + (s.ang.crk.anchorC + s.crkAdvance t) / counts) % 256

/-- R337: the instant at which CRK reaches count `x`, extrapolated from the anchor. -/
def State.crkInstant (s : State) (x : Nat) : Option Nat :=
  let c := s.ang.crk
  match s.crkPred with
  | none => none
  | some (tp, a, _) =>
    if c.partAnchor && c.partA != 0 then some (c.anchorT.add (c.partTP.scale (subC x c.anchorC) c.partA)).ceil
    else some (c.anchorT.add (tp.scale (subC x c.anchorC) a)).ceil

/-- Count of edge `k` of the ALT sequence (R313). -/
def State.altCount (s : State) (k : Nat) : Nat := modC (s.field A.ALT_OFFSET 0 20 + k % 6 * counts / 6)

/-- The angle from edge `k` to the next edge. -/
def altStep (k : Nat) : Nat := (k % 6 + 1) * counts / 6 - k % 6 * counts / 6

/-- R313: the predicted ALT interval from its last edge: r = 1.0. -/
def State.altPred (s : State) : Option (Frac × Nat) :=
  match s.ang.alt.idx with
  | some k => if s.ang.alt.tPrev.num = 0 then none else
      some (s.ang.alt.tPrev.scale (altStep k) (altStep (k + 5)), altStep k)
  | none => none

/-- The ALT angle at tick `t`. -/
def State.altAngle (s : State) (t : Nat) : Nat :=
  match s.ang.alt.idx with
  | none => 0
  | some k =>
    match s.altPred with
    | none => s.altCount k
    | some (tp, a) =>
      let dt := t * s.ang.alt.tooth.den - s.ang.alt.tooth.num
      modC (s.altCount k + min (a - 1) (dt * a * tp.den / (s.ang.alt.tooth.den * tp.num)))

/-- The instant at which ALT reaches count `x`. -/
def State.altInstant (s : State) (x : Nat) : Option Nat :=
  match s.ang.alt.idx, s.altPred with
  | some k, some (tp, a) => some (s.ang.alt.tooth.add (tp.scale (subC x (s.altCount k)) a)).ceil
  | _, _ => none

/-- A frequency in mHz as 2^-32 counts per tick. -/
def mhzRate (mhz : Nat) : Nat := mhz * 2 ^ 52 / 400000000000

/-- The GRD angle at tick `t`: its oscillator runs on from the last update (R315). -/
def State.grdAngle (s : State) (t : Nat) : Nat :=
  modC (s.ang.grd.angle + (t - s.ang.grd.t) * mhzRate s.ang.grd.mhz / 2 ^ 32)

/-- The phase of INV at tick `t`, 52 bits (R317). -/
def State.invPhase (s : State) (t : Nat) : Nat := (s.ang.inv.phase + (t - s.ang.inv.t) * s.ang.inv.rate) % 2 ^ 52

/-- The INV angle at tick `t`. -/
def State.invAngle (s : State) (t : Nat) : Nat := s.invPhase t / 2 ^ 32

/-- The CPL angle at tick `t` (R319). -/
def State.cplAngle (s : State) (t : Nat) : Nat :=
  let c := s.ang.cpl
  if c.running then min (counts - 1) ((t - c.t) * counts / max 1 c.period) else 0

/-- The angle of domain `d` at tick `t`. -/
def State.domAngle (s : State) (d t : Nat) : Nat :=
  match d with
  | 0 => s.crkAngle t
  | 1 => s.altAngle t
  | 2 => s.grdAngle t
  | 3 => s.invAngle t
  | _ => s.cplAngle t

/-- The CYCLE count of domain `d`. -/
def State.domCycle (s : State) (d : Nat) : Nat :=
  match d with
  | 0 => s.crkCycle s.now
  | 1 => s.ang.alt.cyc
  | 2 => s.ang.grd.cyc
  | 3 => s.ang.inv.cyc
  | _ => s.ang.cpl.cyc

/-- What the ANGLE register of domain `d` reads (R282, R283). -/
def State.angleReg (s : State) (d : Nat) : Word :=
  if s.domState d = 0 then 0#32
  else setBit (setFld (setFld 0#32 0 20 (s.domAngle d s.now)) 20 8 (s.domCycle d)) 31 (s.domValid d)

/-! ## Angle outputs (R354 to R357) -/

/-- A slot of the angle engine. -/
def State.slot (s : State) (n : Nat) : Slot := s.ang.slots.get (fun _ => {}) n
/-- Writes a slot. -/
def State.setSlot (s : State) (n : Nat) (x : Slot) : State :=
  { s with ang := { s.ang with slots := s.ang.slots.set (fun _ => {}) n x } }
/-- Changes a slot. -/
def State.modSlot (s : State) (n : Nat) (f : Slot → Slot) : State := s.setSlot n (f (s.slot n))

/-- Word `i` of a slot's record. -/
def Slot.w (x : Slot) (i : Nat) : Word := x.record.getD i 0#32
/-- TARGET. -/
def Slot.target (x : Slot) : Nat := fld (x.w 0) 0 20
/-- DOMAIN. -/
def Slot.domain (x : Slot) : Nat := fld (x.w 0) 20 3
/-- KIND. -/
def Slot.kind (x : Slot) : Nat := fld (x.w 0) 24 4
/-- POLICY: 0 FIRE, 1 GUARD, 2 SUPPRESS. -/
def Slot.policy (x : Slot) : Nat := fld (x.w 0) 28 2
/-- SYNC_REQ. -/
def Slot.syncReq (x : Slot) : Bool := bit (x.w 0) 30
/-- REPEAT. -/
def Slot.repeats (x : Slot) : Bool := bit (x.w 0) 31
/-- AO. -/
def Slot.ao (x : Slot) : Nat := fld (x.w 1) 0 5
/-- ARM_LEAD. -/
def Slot.armLead (x : Slot) : Nat := fld (x.w 1) 12 20
/-- GUARD. -/
def Slot.guard (x : Slot) : Nat := fld (x.w 2) 0 20

/-- The level of angle output `k`: its latch or any slot that drives it high (R354); low while ANG is off (R357). -/
def State.aoLevel (s : State) (k : Nat) : Bool :=
  s.domOn 13 && (bit s.ang.latch k || s.ang.slots.any (fun e => e.2.high && e.2.ao == k))

/-- The destination of angle output `k` (Table EVT-6). -/
def State.aoDest (s : State) (k : Nat) : Nat := s.field (A.AO_ROUTE k) 0 6

/-- Some angle output routed to destination `d` is high. -/
def State.destHigh (s : State) (d : Nat) : Bool := (List.range 32).any (fun k => s.aoDest k == d && s.aoLevel k)


/-- AO_LEVEL and the XW_INJ, XW_IGN and XW_DWA wires follow the latches, the slots and the aborts; the SAFE action of
domain 1 asserts every XW_DWA and holds XW_INJ low. The power-die drivers follow the wires. -/
def State.driveAo (s : State) : State :=
  let s1 := s.setReg A.AO_LEVEL ((List.range 32).foldl (fun w k => setBit w k (s.aoLevel k)) 0#32)
  let w := { s1.wires with
    inj := bits4 (fun c => s.destHigh (1 + c) && !s.safe1)
    ign := bits4 (fun c => s.destHigh (5 + c))
    dwa := bits4 (fun c => s.domOn 13 && (s.safe1 || s.ang.dwaAt.any (fun e => e.1 == c))) }
  (({ s1 with wires := w }).drivePd).knockTrack (s.destHigh 0x15)

end Sys2Proof.Machine
end

