-- ==== Sys2Proof/Machine/Slots.lean ====
section
/-! DEFINITION. Event slots: records, arming, firing, dwell, abort, outcomes, loss of synchronisation (08, R326 to R362). -/
namespace Sys2Proof.Machine

/-! ## Outcomes (R358, R360) -/

/-- The SLOT_WAIT in hand on ANG ring `k` waits for slot `n`. -/
def State.slotWaits (s : State) (k n : Nat) : Bool :=
  s.inHand .ang k == some 0x22 && (s.ring .ang k).aux == 1 && fld (s.dw .ang k 4) 0 8 == n

/-- Completes every SLOT_WAIT pending on a slot. -/
def State.slotWake (s : State) (n : Nat) (c : Cpl) : State :=
  (List.range 8).foldl (fun s k => if s.slotWaits k n then s.finish .ang k c else s) s

/-- R358: a firing ends in an outcome, recorded and reported. -/
def State.slotOutcome (s : State) (n status warn unit at_ : Nat) (fired : Bool) : State :=
  let x := s.slot n
  let s1 := s.setSlot n { x with
    last := status, unit := unit, firings := (x.firings + 1) % 256, suspect := false, lastAt := at_, fired := fired }
  let s2 := if bit (x.w 1) 8 then s1.raise (128 + n) else s1
  let s3 := if status = 0x52 then (s2.modReg A.EVT_CNT (fun w => satAdd w 16 16 1)).raise 404 else s2
  let s4 := if fired && unit % 2 == 1 then (s3.modReg A.EVT_CNT (fun w => satAdd w 0 16 1)).raise 406 else s3
  s4.slotWake n { status := status, warn := warn, result := wd at_, uflags := unit }

/-- What a slot holds once its crossing is over. -/
def Slot.clear (x : Slot) : Slot :=
  { x with armed := false, gateSafe := false, instant := none, uncertain := false, guarded := false, late := false,
           ext := false, dwellAt := none, high := false }

/-- R329, R330: the action of a slot is over: a waiting record is taken, a REPEAT slot is ARMED again, a one-shot slot is
FREE. -/
def State.slotRearm (s : State) (n : Nat) : State :=
  let x := s.slot n
  match x.next with
  | some (rw, ring) =>
    let s1 := s.setSlot n { x.clear with record := rw, next := none, st := 1, since := s.now }
    if s1.inHand .ang ring = some 0x20 ∧ (s1.ring .ang ring).aux = 1 then s1.finishDone .ang ring (wd n) else s1
  | none =>
    if x.repeats then s.setSlot n { x.clear with st := 1, since := s.now } else s.setSlot n { x.clear with record := [], st := 0 }

/-- The driver channel of a slot: the AO's XW_INJ or XW_IGN line. -/
def State.slotChannel (s : State) (x : Slot) : Nat := (s.aoDest x.ao + 3) % 4

/-- The slot charges a coil. -/
def Slot.charging (x : Slot) : Bool := x.kind == 6 && x.dwellAt.isSome && x.high

/-- R346: the lines of a soft abort: XW_IGN low, XW_DWA asserted, DWELL_ABORT raised. -/
def State.softAbort (s : State) (n : Nat) : State :=
  let c := s.slotChannel (s.slot n)
  let s1 := s.modSlot n (fun x => { x with high := false, dwellAt := none })
  let s2 := { s1 with ang := { s1.ang with dwaAt := s1.ang.dwaAt.set (fun _ => 0) c (s.now + 1) } }
  ((s2.modReg A.EVT_CNT2 (fun w => satAdd w 16 16 1)).raise 407).driveAo

/-- A firing is dropped (Table EVT-8); a charging coil is soft-aborted first. -/
def State.slotDrop (s : State) (n reason : Nat) : State :=
  let s1 := if (s.slot n).charging then s.softAbort n else s
  (s1.slotOutcome n 0x52 0 reason s.now false).slotRearm n

/-! ## Targets (R332 to R334, R342) -/

/-- IGN_TDC of the slot's channel. -/
def State.slotTdc (s : State) (x : Slot) : Nat := s.field (A.IGN_TDC (s.slotChannel x)) 0 20

/-- The target: the spark target of an IGN slot (R334), TARGET otherwise; GUARD retards it when the slot is uncertain
under that policy (R340, R342). -/
def State.slotTarget (s : State) (x : Slot) (uncertain : Bool) : Nat :=
  let t := if x.kind = 6 then addC (s.slotTdc x) (-x.adv) else x.target
  if uncertain && x.policy == 1 then modC (t + x.guard) else modC t

/-- R332: the arming point of an INJ or IGN slot. -/
def State.armPoint (s : State) (x : Slot) : Nat :=
  subC (if x.kind = 6 then s.slotTdc x else x.target) x.armLead

/-- INJ and IGN slots take values from a gate. -/
def Slot.gated (x : Slot) : Bool := x.kind == 5 || x.kind == 6

/-- The extrapolated instant of a count in CRK or ALT. -/
def State.domInstant (s : State) (d x : Nat) : Option Nat :=
  match d with
  | 0 => s.crkInstant x
  | 1 => s.altInstant x
  | _ => none

/-- LATE_WIN of a domain. -/
def State.lateWin (s : State) (d : Nat) : Nat := s.field (A.LATE_WIN d) 0 20

/-! ## Firing -/

/-- R353: injector and ignition firings are dropped while a trip holds. -/
def State.tripHolds (s : State) : Bool := s.wires.sta || s.wires.stb || s.safe1

/-- R336: the gate of a slot's kind is ESCALATED, or applied its SAFE value at the slot's arming point. -/
def State.gateHolds (s : State) (x : Slot) : Bool :=
  x.gateSafe || s.flag (gateA .ang (if x.kind = 6 then 1 else 0) + 4) 3

/-- STATUS, WARN and UNIT of a firing (Table EVT-7). -/
def Slot.outcome (x : Slot) : Nat × Nat × Nat :=
  if x.uncertain then (1, 0x50, (if x.late || x.ext then 1 else 0) + (if x.guarded then 2 else 0))
  else if x.late || x.ext then (1, 0x51, 1 + (if x.ext then 4 else 0))
  else (0, 0, 0)

/-- The AO latch is set or cleared; a SET and a CLEAR in the same tick leave it clear and raise AO_CONFLICT (R354). -/
def State.aoLatch (s : State) (ao : Nat) (v : Bool) : State :=
  let last := s.ang.latchAt.get (fun _ => (0, false)) ao
  let clash := last.1 = s.now + 1 ∧ last.2 ≠ v
  let v' := if clash then false else v
  let s1 := { s with ang := { s.ang with latch := setBit s.ang.latch ao v',
                                         latchAt := s.ang.latchAt.set (fun _ => (0, false)) ao (s.now + 1, v) } }
  if clash then (s1.setBitReg A.EVT_ERR 1).raise 408 else s1

/-- Drives the slot's AO high until tick `till`. -/
def State.slotHigh (s : State) (n till : Nat) : State :=
  (s.modSlot n (fun x => { x with high := true, st := 3, endAt := till })).driveAo

/-- The slot fires at instant `t`: its kind's action (Table EVT-3) and its outcome. -/
def State.slotAct (s : State) (n t : Nat) : State :=
  let x := s.slot n
  let o := x.outcome
  let s1 := s.slotOutcome n o.1 o.2.1 o.2.2 t true
  match x.kind with
  | 0 => ((s1.aoLatch x.ao true).driveAo).slotRearm n
  | 1 => ((s1.aoLatch x.ao false).driveAo).slotRearm n
  | 2 => s1.slotHigh n (t + (x.w 3).toNat)
  | 3 => s1.slotHigh n t
  | 4 => s1.slotHigh n (t + 8)
  | 5 => if x.pw = 0 then s1.slotRearm n else s1.slotHigh n (t + x.pw)
  | 6 => (s1.slotRearm n).driveAo
  | _ => s1.slotRearm n

/-- A slot fires or is dropped with reason TRIP or GATE_SAFE (R336, R353). -/
def State.slotFireNow (s : State) (n t : Nat) : State :=
  let x := s.slot n
  if x.gated && s.tripHolds then s.slotDrop n 4
  else if x.gated && s.gateHolds x then s.slotDrop n 7
  else s.slotAct n t

/-! ## Arming points and gates (R333, R336) -/

/-- A gate's outcome is handed to an arming slot. -/
def State.slotTake (s : State) (out : GateOut) (n : Nat) : State :=
  let x := s.slot n
  let c := s.slotChannel x
  let take (vs : List Nat) (clamp : Bool) : State :=
    if x.kind = 5 then s.setSlot n { x with armed := true, gateSafe := false, pw := vs.getD c 0 }
    else
      let adv := toSigned 20 (vs.getD c 0)
      let cl := toSigned 20 (s.field (A.IGN_CLAMP c) 0 20)
      s.setSlot n { x with armed := true, gateSafe := false, adv := if clamp && decide (cl < adv) then cl else adv,
                           dwell := vs.getD (4 + c) 0 * 400 }
  match out with
  | .fresh vs => take vs false
  | .hold vs cl => take vs cl
  | .decay vs => take vs false
  | .safe => s.setSlot n { x with armed := true, gateSafe := true, pw := 0, adv := 0, dwell := 0 }

/-- The end of an open output: the AO demand drops and the slot rearms. -/
def State.slotEnd (s : State) (n : Nat) : State :=
  ((s.modSlot n (fun x => { x with high := false })).slotRearm n).driveAo

/-- The numbers of the slots that hold a record and satisfy `p`. -/
def State.slotsWhere (s : State) (p : Slot → Bool) : List Nat :=
  (s.ang.slots.filter (fun e => e.2.st != 0 && p e.2)).map (·.1)

/-- R336, Table CTR-4: the gate's SAFE value: charging coils soft-aborted, open injections ended. -/
def State.gateSafeValue (s : State) (g : Nat) : State :=
  if g = 1 then (s.slotsWhere Slot.charging).foldl (fun s n => s.slotDrop n 7) s
  else (s.slotsWhere (fun x => x.kind == 5 && x.high)).foldl (fun s n => s.slotEnd n) s

/-- R333: a deadline of INJ_PW (kind 5) or IGN_ADV (kind 6) for the slots that reach their arming points in one tick. -/
def State.armSlots (s : State) (kind : Nat) (ns : List Nat) : State :=
  if ns.isEmpty then s
  else
    let g := if kind = 6 then 1 else 0
    let r := s.gateDeadline .ang g 0
    let s1 := ns.foldl (fun s n => s.slotTake r.2 n) r.1
    if r.2 = .safe then s1.gateSafeValue g else s1

/-! ## Retiming (R337 to R344) -/

/-- Counts from instant `a` to instant `b` at the rate of the interval in progress. -/
def State.countsBetween (s : State) (a b : Nat) : Nat :=
  match s.crkPred with
  | some (tp, ang, _) => if tp.num = 0 then 0 else (b - a) * ang * tp.den / tp.num
  | none => 0

/-- DWELL_MIN of a channel in ticks. -/
def State.dwellMin (s : State) (c : Nat) : Nat := s.field (A.IGN_DWLIM c) 0 16 * 400
/-- DWELL_MAX of a channel in ticks. -/
def State.dwellMax (s : State) (c : Nat) : Nat := s.field (A.IGN_DWLIM c) 16 16 * 400

/-- Sets the instant of a slot from its anchor. -/
def State.slotSchedule (s : State) (n t : Nat) (inInterval : Bool) (anchor : Nat) (unc late ext : Bool) : State :=
  s.modSlot n (fun x => { x with
    st := if x.st = 3 then 3 else if inInterval then 2 else 1, instant := some t, anchor := anchor, uncertain := unc,
    guarded := unc && x.policy == 1, late := late, ext := ext })

/-- R344: a spark at instant `t`, with lag `lag` there, keeps DWELL_MIN from the rise of XW_IGN: the instant it moves to,
or `none` when the dwell is aborted. -/
def State.minDwell (s : State) (x : Slot) (t lag : Nat) : Option (Nat × Bool) :=
  let rise := x.dwellAt.getD s.now
  let floor := rise + s.dwellMin (s.slotChannel x)
  if floor ≤ t ∨ (x.dwellAt.isNone ∧ s.now + x.dwell < t) then some (t, false)
  else if lag + s.countsBetween t floor < s.lateWin 0 then some (floor, true) else none

/-- R337 to R344: one slot is re-timed at an anchor of its domain. `before` and `after` are the angle just before and
just after it, `real` that it is an accepted edge, `a` the angle of the interval in progress. -/
def State.slotRetime (s : State) (d before after a anchor : Nat) (real unc : Bool) (n : Nat) : State :=
  let x := s.slot n
  let waits := x.st == 1 || x.st == 2 || x.charging
  if !waits || x.domain != d || (x.gated && !x.armed) then s
  else
    let t := s.slotTarget x unc
    let ahead := subC t after
    let hit := crossed before after (s.slotTarget x false) || crossed before after t
    match s.domInstant d t with
    | none => s
    | some at_ =>
      if unc && x.policy == 2 && (hit || decide (ahead < a)) then s.slotDrop n 0
      else if crossed before after t && !(real && t == modC after) && !(decide (s.now ≤ at_ + 9) && decide (ahead < a)) then
        let lag := subC after t
        if s.lateWin d ≤ lag then s.slotDrop n 1
        else if x.kind = 6 then
          match s.minDwell x (s.now + 1) lag with
          | some (u, ext) => s.slotSchedule n u true anchor unc true ext
          | none => s.slotDrop n 5
        else (s.slotSchedule n (s.now + 1) true anchor unc true false).slotFireNow n (s.now + 1)
      else if decide (ahead < a) then
        if x.kind = 6 then
          match s.minDwell x at_ 0 with
          | some (u, ext) => s.slotSchedule n u true anchor unc false ext
          | none => s.slotDrop n 5
        else s.slotSchedule n at_ true anchor unc false false
      else if x.kind = 6 then s.slotSchedule n at_ false anchor unc false false
      else s.modSlot n (fun x => { x with st := 1, instant := none, uncertain := false })

/-- R342: a WINDOW whose END a snap passes closes. -/
def State.windowSnap (s : State) (d before after n : Nat) : State :=
  let x := s.slot n
  if x.kind == 3 && x.high && x.domain == d && crossed before after (fld (x.w 3) 0 20) then s.slotEnd n else s

/-- R333, R337 to R344: every slot of a domain meets an anchor: arming points passed by the snap make their deadlines,
windows close, then every slot is re-timed. -/
def State.slotsAnchor (s : State) (d before after a anchor : Nat) (real unc : Bool) : State :=
  let passed (k : Nat) (s : State) : List Nat :=
    s.slotsWhere (fun x => x.st == 1 && x.domain == d && x.kind == k && !x.armed && crossed before after (s.armPoint x))
  let s1 := if d = 0 then (let s := s.armSlots 5 (passed 5 s); s.armSlots 6 (passed 6 s)) else s
  let s2 := (s1.slotsWhere (fun _ => true)).foldl (fun s n => s.windowSnap d before after n) s1
  (s2.slotsWhere (fun _ => true)).foldl (fun s n => s.slotRetime d before after a anchor real unc n) s2

/-! ## Loss of synchronisation, marking (R350 to R352) -/

/-- R350: one slot of a domain that enters LOST. -/
def State.slotLost (s : State) (d n : Nat) : State :=
  let x := s.slot n
  if x.domain ≠ d ∨ ¬ (x.st = 1 ∨ x.st = 2) then s
  else if x.syncReq then
    let s1 := s.slotOutcome n 0x52 0 2 s.now false
    if x.repeats then s1.modSlot n (fun x => { x.clear with st := 4 }) else s1.modSlot n (fun x => { x.clear with record := [], st := 0 })
  else s.setSlot n { x.clear with st := 1, since := s.now }

/-- R350, R351: CRK enters LOST: coils soft-aborted, XW_INJ low, CRK windows closed, LOST_CUT raised. A slot whose coil was
charging drops its firing with SYNC_REQ set, and is ARMED again otherwise. -/
def State.lostCut (s : State) : State :=
  let s1 := (s.slotsWhere Slot.charging).foldl (fun s n =>
    let x := s.slot n
    let s1 := s.softAbort n
    let t := if x.syncReq then s1.slotOutcome n 0x52 0 2 s.now false else s1
    if x.next.isSome then t.slotRearm n
    else if !x.syncReq then t.modSlot n (fun x => { x.clear with st := 1, since := s.now })
    else if x.repeats then t.modSlot n (fun x => { x.clear with st := 4 })
    else t.slotRearm n) s
  let s2 := (s1.slotsWhere (fun x => x.high && (x.kind == 5 || (x.kind == 3 && x.domain == 0)))).foldl
    (fun s n => s.slotEnd n) s1
  s2.driveAo.raise 413

/-- R350, R351: a domain enters LOST. -/
def State.slotsLost (s : State) (d : Nat) : State :=
  let s1 := (s.slotsWhere (fun _ => true)).foldl (fun s n => s.slotLost d n) s
  if d = 0 then s1.lostCut else s1

/-- R350: a domain enters LOCKED: HELD slots of it are ARMED. -/
def State.slotsLocked (s : State) (d : Nat) : State :=
  (s.slotsWhere (fun x => x.st == 4 && x.domain == d)).foldl (fun s n => s.modSlot n (fun x => { x with st := 1, since := s.now })) s

/-- R352: CRK_SUSPECT has been stored: every CRK firing from that instant on is marked; the event is raised once. -/
def State.slotsSuspect (s : State) (at_ : Nat) : State :=
  let ns := (s.ang.slots.filter (fun e => e.2.fired && decide (at_ ≤ e.2.lastAt) && e.2.domain == 0)).map (·.1)
  let s1 := ns.foldl (fun s n =>
    let s1 := ((s.modSlot n (fun x => { x with suspect := true })).setBitReg (A.SUSPECT (n / 32)) (n % 32)).modReg A.EVT_CNT2
      (fun w => satAdd w 0 16 1)
    s1.slotWake n { status := 0x53, result := wd (s.slot n).lastAt }) s
  if ns.isEmpty then s1 else s1.raise 405

/-- The anchor of the interval in progress of CRK or ALT: its count, the counts left to the next position, its instant and
whether a slot anchored there is uncertain (R340). -/
def State.domAnchor (s : State) (d : Nat) : Option (Nat × Nat × Nat × Bool) :=
  if d = 0 then
    match s.crkPred with
    | some (_, _, j) =>
      let c := s.ang.crk
      some (c.anchorC, subC (c.count j) c.anchorC, c.anchorT.ceil, c.virtAnchor || s.domState 0 == 4)
    | none => none
  else if d = 1 then
    match s.ang.alt.idx, s.altPred with
    | some k, some (_, a) => some (s.altCount k, a, s.ang.alt.tooth.ceil, s.ang.alt.virtAnchor || s.domState 1 == 4)
    | _, _ => none
  else none

/-- A slot set or armed inside an interval takes its instant from the anchor in force; a crossing under way is not its
own (R329). -/
def State.retimeNow (s : State) (n : Nat) : State :=
  let x := s.slot n
  match s.domAnchor x.domain with
  | some (c, room, t, unc) =>
    match s.domInstant x.domain (s.slotTarget x unc) with
    | some at_ => if x.armed || decide (s.now < at_) then s.slotRetime x.domain c c room t true unc n else s
    | none => s
  | none => s

/-! ## Commands -/

/-- The ownership block of a slot names the host (R327, R328). -/
def State.slotOwned (s : State) (n host : Nat) : Bool := s.field A.SLOT_OWN (4 * (n / 32)) 4 == host

/-- R327: the checks of SLOT_SET in order; the status of the first that fails. -/
def State.slotCheck (s : State) (k n : Nat) (rw : List Word) : Option Nat :=
  let x : Slot := { record := rw }
  let dest := s.aoDest x.ao
  if x.domain ≤ 4 ∧ angleDomainPresent s.opt x.domain = false then some 0x08
  else if !s.slotOwned n (s.ring .ang k).host then some 0x81
  else if 4 < x.domain ∨ 7 < x.kind ∨ x.policy = 3 ∨ (x.gated = true ∧ x.domain ≠ 0) ∨ (x.kind = 2 ∧ x.w 3 = 0#32) ∨
      (x.kind = 3 ∧ fld (x.w 3) 0 20 = x.target) ∨ 524288 < x.armLead ∨ 524288 < x.guard then some 0x82
  else if x.kind = 5 then (if 1 ≤ dest ∧ dest ≤ 4 then none else some 0x80)
  else if x.kind = 6 then (if 5 ≤ dest ∧ dest ≤ 8 then none else some 0x80)
  else if 1 ≤ dest ∧ dest ≤ 8 then some 0x80 else none

/-- SLOT_SET (R326, R327, R329). -/
def slotSet (k : Nat) (s : State) : State :=
  s.whenHand .ang k 0x20 (fun s =>
    if (s.ring .ang k).aux = 1 then s
    else
      let n := fld (s.dw .ang k 4) 0 8
      let rw := s.viewWords (s.ring .ang k).host (s.dw .ang k 2).toNat 8
      match s.slotCheck k n rw with
      | some st => s.finishBad .ang k st
      | none =>
        let x := s.slot n
        if x.st = 3 then
          (s.setSlot n { x with next := some (rw, k) }).modRing .ang k (fun r => { r with aux := 1 })
        else ((s.setSlot n { x.clear with record := rw, st := 1, since := s.now }).retimeNow n).finishDone .ang k (wd n))

/-- SLOT_CLEAR (R331): a record that waited for the action's end takes effect and is freed with the slot, so that its SLOT_SET
completes (R329). -/
def slotClear (k : Nat) (s : State) : State :=
  s.whenHand .ang k 0x21 (fun s =>
    let n := fld (s.dw .ang k 4) 0 8
    if !s.slotOwned n (s.ring .ang k).host then s.finishBad .ang k 0x81
    else
      let x := s.slot n
      let s1 := if x.charging then s.softAbort n else s
      let s2 := (s1.modSlot n (fun x => { x.clear with record := [], next := none, st := 0 })).driveAo
      let s3 := match x.next with
        | some (_, ring) => if s2.inHand .ang ring = some 0x20 ∧ (s2.ring .ang ring).aux = 1 then s2.finishDone .ang ring (wd n) else s2
        | none => s2
      (s3.slotWake n { status := 0x70 }).finishDone .ang k (wd x.st))

/-- SLOT_WAIT (R360). -/
def slotWait (k : Nat) (s : State) : State :=
  s.whenHand .ang k 0x22 (fun s =>
    let n := fld (s.dw .ang k 4) 0 8
    if (s.ring .ang k).aux = 1 then s
    else if fld (s.dw .ang k 5) 0 16 = 0 then s.finishBad .ang k 0x11
    else if (List.range 8).any (fun j => j != k && s.slotWaits j n) then s.finishBad .ang k 0x14
    else if !s.slotOwned n (s.ring .ang k).host then s.finishBad .ang k 0x81
    else s.modRing .ang k (fun r => { r with aux := 1 }))

/-- SLOT_WAIT_TIMEOUT (R360). -/
def slotWaitTimeout (k : Nat) (s : State) : State :=
  s.whenHand .ang k 0x22 (fun s =>
    if (s.ring .ang k).aux = 1 then s.finish .ang k { status := 0x40, result := s.tick } else s)

/-- SLOT_STAT of a slot (Table EVT-12). -/
def Slot.stat (x : Slot) : Word :=
  setFld (setBit (setFld (setFld (setFld 0#32 0 3 x.st) 8 8 x.last) 16 3 x.unit) 19 x.suspect) 24 8 x.firings

/-- SLOT_READ (R361). -/
def slotRead (k : Nat) (s : State) : State :=
  s.whenHand .ang k 0x23 (fun s =>
    let n := fld (s.dw .ang k 4) 0 8
    let x := s.slot n
    let ws := (List.range 8).map x.w ++ [x.stat, wd x.lastAt, wd (x.instant.getD 0), wd x.anchor]
    (s.putWords (s.ring .ang k).host (s.dw .ang k 2).toNat ws).finishDone .ang k (wd x.st))

/-- SLOT_ARMING_POINT (R333): the INJ (kind 5) or IGN (kind 6) slots whose arming points the angle has reached by
interpolation. -/
def slotArmingPoint (kind : Nat) (s : State) : State :=
  if kind = 5 ∨ kind = 6 then
    match s.crkPred with
    | none => s
    | some (_, _, j) =>
      let room := subC (s.ang.crk.count j) s.ang.crk.anchorC
      let ns := s.slotsWhere (fun x =>
        x.st == 1 && x.kind == kind && !x.armed && s.domValid 0 &&
        decide (subC (s.armPoint x) s.ang.crk.anchorC < room) &&
        (match s.crkInstant (s.armPoint x) with | some t => decide (x.since < t ∧ t ≤ s.now) | none => false))
      ns.foldl (fun s n => s.retimeNow n) (s.armSlots kind ns)
  else s

/-- SLOT_FIRE (R337, R339, R340, R353, R358): slot `n` reaches its instant. -/
def slotFire (n : Nat) (s : State) : State :=
  let x0 := s.slot n
  -- a slot that was set or armed since the last anchor takes its instant now
  let s := if x0.instant.isNone ∧ x0.st = 1 then s.retimeNow n else s
  let x := s.slot n
  if x.record = [] ∨ s.domValid x.domain = false ∨ (x.gated && !x.armed) then s
  else if x.domain ≤ 1 then
    match x.instant with
    | some t => if t ≤ s.now ∧ (x.charging = true ∨ (x.st = 2 ∧ x.kind ≠ 6)) then s.slotFireNow n t else s
    | none => s
  else if x.st = 1 then
    let unc := s.domState x.domain == 4
    if unc && x.policy == 2 then s.slotDrop n 0
    else (s.modSlot n (fun x => { x with uncertain := unc, guarded := unc && x.policy == 1 })).slotFireNow n s.now
  else s

/-- DWELL_START (R343, R346, R348, R353): the dwell of an armed IGN slot begins. -/
def dwellStart (n : Nat) (s : State) : State :=
  let s := if (s.slot n).instant.isNone ∧ (s.slot n).st = 1 then s.retimeNow n else s
  let x := s.slot n
  let c := s.slotChannel x
  if x.kind ≠ 6 ∨ ¬ (x.armed = true) ∨ x.dwellAt.isSome ∨ ¬ (x.st = 1 ∨ x.st = 2) then s
  else match x.instant with
    | none => s
    | some t =>
      if s.now + x.dwell < t then s
      else if s.tripHolds then s.slotDrop n 4
      else if s.gateHolds x then s.slotDrop n 7
      else if s.ang.dwaAt.any (fun e => e.1 == c) then s.slotDrop n 3
      else if !(s.slotsWhere (fun y => y.charging && s.slotChannel y == c)).isEmpty then s.slotDrop n 3
      else (s.modSlot n (fun x => { x with dwellAt := some s.now, high := true, st := 3 })).driveAo

/-- DWELL_MAX (R345). -/
def dwellMaxReached (n : Nat) (s : State) : State :=
  let x := s.slot n
  match x.dwellAt with
  | some t => if x.charging && decide (t + s.dwellMax (s.slotChannel x) ≤ s.now) then s.slotDrop n 6 else s
  | none => s

/-- DWA_HOLD_EXPIRY (R346). -/
def dwaHoldExpiry (c : Nat) (s : State) : State :=
  let t := s.ang.dwaAt.get (fun _ => 0) c
  if t ≠ 0 ∧ t - 1 + s.field A.DWA_HOLD 0 16 * 400 ≤ s.now then
    ({ s with ang := { s.ang with dwaAt := s.ang.dwaAt.del c } }).driveAo
  else s

/-- OUTPUT_END (R329, R330, R349): a pulse, trigger or injection has run its time, or a window reaches its END. -/
def outputEnd (n : Nat) (s : State) : State :=
  let x := s.slot n
  if !x.high || x.kind == 6 then s
  else if x.kind = 3 ∨ x.endAt ≤ s.now then s.slotEnd n else s

/-- R355: does this AO destination belong to an absent block? -/
def destAbsent (opt d : Nat) : Bool :=
  (opt == optCP && ((1 ≤ d && d ≤ 8) || (0x11 ≤ d && d ≤ 0x15))) || (opt == optEC && (d == 0x1B || d == 0x1C))

/-- R355: the effect of an AO_ROUTEk write. -/
def State.aoRouteEffect (s : State) (k : Nat) (v : Word) : State :=
  let d := fld v 0 6
  let named := 1 ≤ d ∧ d ≤ 8 ∧ (List.range 32).any (fun j => j != k && s.aoDest j == d)
  if named ∨ destAbsent s.opt d = true ∨ ¬ (s.slotsWhere (fun x => x.ao == k)).isEmpty then
    (s.setBitReg A.EVT_ERR 0).raise 408
  else (s.store (A.AO_ROUTE k) v).driveAo

/-- AO_ROUTE_WRITE (R355). -/
def aoRouteWrite (m k size : Nat) (v : Word) (s : State) : State :=
  if k < 32 then s.wpWrite .ang m (A.AO_ROUTE k) size v (fun s => s.aoRouteEffect k v) else s

/-- R335: a staging register is written by E alone. -/
def State.stagingEffect (s : State) (m a size : Nat) (v : Word) : State :=
  if s.opt = optCP then s
  else if m = mE then s.rwStore a size v
  else (s.setBitReg A.EVT_ERR 2).raise 408

/-- The address of staging register `r` (0 INJ_STG, 1 IGN_STG, 2 IGN_DWL) of channel `c`. -/
def stagingA (r c : Nat) : Nat :=
  match r with
  | 0 => A.INJ_STG c
  | 1 => A.IGN_STG c
  | _ => A.IGN_DWL c

/-- STAGING_WRITE (R335). -/
def stagingWrite (m r c size : Nat) (v : Word) (s : State) : State :=
  if c < 4 ∧ r < 3 then s.plainWrite .ang m (stagingA r c) (fun s => s.stagingEffect m (stagingA r c) size v) else s

/-- What a commit of ANG gate `g` stages (R333, R334). -/
def State.angStaged (s : State) (g : Nat) : List Nat :=
  if g = 0 then (List.range 4).map (fun c => s.field (A.INJ_STG c) 0 24)
  else (List.range 4).map (fun c => s.field (A.IGN_STG c) 0 20) ++ (List.range 4).map (fun c => s.field (A.IGN_DWL c) 0 16)

/-- R353: a trip wire asserts: charging coils are soft-aborted and open injections reported, with reason TRIP. -/
def State.slotsTrip (s : State) : State :=
  let s1 := (s.slotsWhere Slot.charging).foldl (fun s n => s.slotDrop n 4) s
  (s1.slotsWhere (fun x => x.kind == 5 && x.high)).foldl (fun s n => (s.slotOutcome n 0x52 0 4 s.now false).slotEnd n) s1

end Sys2Proof.Machine
end

