-- ==== Sys2Proof/Machine/Crank.lean ====
section
/-! DEFINITION. Synchronisation: crank teeth, locking, gap check, cam, shape learning, partnering, ALT, GRD, INV and CPL
(07, R282 to R325). -/
namespace Sys2Proof.Machine

/-! ## State changes (Table SYN-6, R350) -/

/-- The state event of a domain. -/
def domEvent : Nat → Nat
  | 0 => 392
  | d => 397 + d

/-- A domain takes a state: its event, and what entering LOST or LOCKED does to slots. -/
def State.setDom (s : State) (d st : Nat) : State :=
  let old := s.domState d
  if old = st then s
  else
    let s0 := if d = 0 ∧ st ≤ 1 ∧ 1 < old then s.modCrk (fun c => { c with stopAt := s.now }) else s
    let s1 := (s0.setField A.ANG_STAT (4 * d) 3 st).raise (domEvent d)
    if st = 1 then
      let s2 := if d = 0 ∧ old ≠ 0 then
          ((s1.setBitReg A.ANG_ERR 2).modReg A.CRK_CNT2 (fun w => satAdd w 8 8 1)).raise 394
        else if d = 2 ∧ old ≠ 0 then s1.setBitReg A.ANG_ERR 6 else s1
      s2.slotsLost d
    else if st = 3 then s1.slotsLocked d
    else s1

/-! ## Tooth log (R323) -/

/-- One entry goes to every TOOTH_LOG in hand. -/
def State.toothLog (s : State) (stamp pos kind angle : Nat) : State :=
  (List.range 8).foldl (fun s k =>
    if s.logging .ang k 0x11 then
      s.logEntry .ang k [wd stamp, setFld (setFld (setFld 0#32 0 8 pos) 8 3 kind) 12 20 angle]
    else s) s

/-! ## CRK configuration (R283, R287, R288) -/

/-- The pattern CRK_CFG selects: a preset, or the custom mask turned to its position 0. -/
def State.crkPattern (s : State) : List Bool :=
  let p := s.field A.CRK_CFG 0 4
  if p = 0 then orientMask s.customMask else presetPattern p

/-- R287: the reason a CRK configuration is refused; `alt` is the ALT_EN of the write. -/
def State.crkRefusal (s : State) (alt : Bool) : Option Nat :=
  let p := s.field A.CRK_CFG 0 4
  let two := s.flag A.CRK_CFG 4
  let cam := s.field A.CAM_CFG 0 2
  let n := (if p = 0 then s.field A.CRK_CFG 16 8 else (presetPattern p).length) * (if two then 1 else 2)
  let m := s.customMask
  let k := s.field A.PART_CFG 8 5
  if 144 < n then some 1
  else if p = 0 ∧ ((m.all id = true ∧ cam ≠ 1) ∨ m.any id = false ∨ (m.all id = false ∧ runsRepeat (maskRuns m) = true)) then some 2
  else if cam ≠ 0 ∧ two = true then some 3
  else if s.field A.CAM_CFG 2 3 = s.field A.CRK_CFG 5 3 ∧ cam ≠ 0 then some 4
  else if s.flag A.PART_CFG 0 ∧ (k < 1 ∨ 24 < k ∨ alt = false) then some 5
  else none

/-- R283, R300: a refused synchronisation command. -/
def State.syncCfgErr (s : State) (reason : Nat) : State :=
  ((s.setBitReg A.ANG_ERR 0).setReg A.ANG_ERRINFO (wd reason)).raise 402

/-- The configuration CRK takes as it passes from OFF to LOST (R288). -/
def State.crkTake (s : State) : State :=
  let c : Crk := {
    pat := s.crkPattern, four := !s.flag A.CRK_CFG 4, ref := s.field A.CRK_REF 0 20, gapScale := s.flag A.CRK_CFG 9,
    camMode := s.field A.CAM_CFG 0 2, camSrc := s.field A.CAM_CFG 2 3, camPol := s.flag A.CAM_CFG 5,
    partEn := s.flag A.PART_CFG 0, partK := s.field A.PART_CFG 8 5, partMiss := s.field A.PART_CFG 16 4,
    camLo := s.field A.CAM_WIN_LO 0 20, camHi := s.field A.CAM_WIN_HI 0 20, cyc := s.ang.crk.cyc, ended := s.ang.crk.ended, stopAt := s.ang.crk.stopAt }
  { s with ang := { s.ang with crk := c }, crkPositions := c.n }

/-- What the tooth track forgets on the way through LOST. -/
def Crk.lose (c : Crk) : Crk :=
  { c with pos := none, tooth := {}, tPrev := {}, aPrev := 0, anchorT := {}, virtAnchor := false, lastReal := none, realIv := 0,
           realA := 0, realPos := none, edges := 0, spanPrev := 1, cand := [], since := 0, run := 0, passed := false, virtRev := 0,
           virtSeen := 0, suspect := none, cycT0 := none, cycPrev := none, cycOk := false, ratios := [], camSeen := false,
           camArmed := false, camBad := 0, camBadNow := false, camFirst := false, partAnchor := false }

/-- PART_ACTIVE changes (R308, R312). -/
def State.setPart (s : State) (on : Bool) : State :=
  if s.flag A.PART_STAT 0 = on then s
  else ((s.setField A.PART_STAT 0 1 on.toNat).modCrk (fun c =>
    { c with partIdx := 6 * c.partK, partRun := 0, partAnchor := false, partSum := 0, partCnt := 0 })).raise 397

/-- R312: partnering is suspended. -/
def State.suspendPart (s : State) : State :=
  if s.flag A.PART_STAT 0 then (s.setPart false).setBitReg A.ANG_ERR 4 else s

/-- CRK enters LOST; its slots and drivers follow (R350, R351), then the track is forgotten. -/
def State.crkLost (s : State) : State :=
  let s1 := (s.setDom 0 1).setPart false
  (s1.modCrk Crk.lose).setReg A.CRK_POS 0#32

/-! ## Positions -/

/-- CRK_POS shows the last position. -/
def State.showPos (s : State) : State := s.setField A.CRK_POS 0 8 (s.ang.crk.pos.getD 0)

/-- CRK_POS.PHASE: 0 none, 1 ASSUMED, 2 CAM. -/
def State.phase (s : State) : Nat := s.field A.CRK_POS 12 2

/-- The level the cam input shows, POL applied (R298). -/
def State.camLevel (s : State) : Bool :=
  let k := s.ang.crk.camSrc
  let l := if k < 2 then s.wires.vr.getLsbD k else s.wires.hall.getLsbD (k - 2)
  l != s.ang.crk.camPol

/-- CRK_RPM and RANGE from a real-tooth interval of `iv` ticks over `a` counts (R304). -/
def State.showSpeed (s : State) (iv a : Nat) : State :=
  let rev := if s.ang.crk.four then 2 else 1
  let rpm10 := if iv = 0 then 262143 else a * rev * 240000000000 / (counts * iv)
  let out := decide (rpm10 < 600) || decide (200000 < rpm10)
  ((s.setReg A.CRK_PERIOD (wd iv)).setReg A.CRK_RPM (wd (min 262143 rpm10))).setField A.ANG_ERR 8 1 out.toNat

/-- The window of CRK_WIN: WIN_LO and WIN_HI in 2.14. -/
def State.crkWin (s : State) : Nat × Nat := (s.field A.CRK_WIN 0 16, s.field A.CRK_WIN 16 16)

/-- R290: the ends of the acceptance window of the next position, as instants. -/
def State.crkWindow (s : State) : Option (Frac × Frac) :=
  let c := s.ang.crk
  match s.crkPred, c.pos with
  | some (tp, _, _), some p =>
    let sp := if c.gapScale then c.span p else 1
    let w := s.crkWin
    some (c.tooth.add (tp.scale (16384 * sp - 16384 + w.1) (16384 * sp)),
          c.tooth.add (tp.scale (16384 * sp + w.2 - 16384) (16384 * sp)))
  | _, _ => none

/-- R307, R306: a CRK cycle ends at position 0 at tick `t`. -/
def State.shapeCycle (s : State) (t : Nat) (real : Bool) : State :=
  let c := s.ang.crk
  let d := t - c.cycT0.getD t
  let s := if s.domValid 0 then s.modCrk (fun c => { c with ended := c.ended + 1 }) else s
  let same := match c.cycPrev with
    | some p => decide ((if d < p then p - d else d - p) * 8 ≤ d)
    | none => true
  let teaches := real && c.cycOk && same && s.domState 0 == 3 &&
    c.ratios.length == ((List.range c.n).filter c.present).length
  let s1 := match c.cycT0 with
    | none => s
    | some _ =>
      if teaches then
        let k := s.field A.SHAPE_CFG 0 4
        let mode := s.field (loopA .ang 0) 0 2
        let sh : Tab Nat := if mode = 0 then [] else c.ratios.foldl (fun (t : Tab Nat) (r : Nat × Nat) =>
          let v : Int := (Tab.get (fun _ => 2 ^ 30) t r.1 : Nat)
          Tab.set (fun _ => 2 ^ 30) t r.1 (v + ((r.2 : Int) - v) / (2 ^ k : Int)).toNat) c.shape
        let s1 := (s.modCrk (fun c => { c with shape := sh })).modReg A.SHAPE_STAT (fun w => satAdd w 0 16 1)
        s1.loopStep .ang 0 (c.ratios.map (fun (r : Nat × Nat) => (r.1, (((Tab.get (fun _ => 2 ^ 30) sh r.1 + 2 ^ 15) / 2 ^ 16 : Nat) : Int))))
      else s.modReg A.SHAPE_STAT (fun w => satAdd w 16 16 1)
  s1.modCrk (fun c => { c with
    cycPrev := if c.cycT0.isSome then some d else none, cycT0 := some t, cycOk := real && s.domState 0 == 3, ratios := [] })

/-- R299: a cycle without its cam edge, or two contradicted cycles in a row; judged as position 0 passes. `true` asks for
the pass through LOST. -/
def State.camCycle (s : State) : State × Bool :=
  let c := s.ang.crk
  if s.domValid 0 = false ∨ c.camMode = 0 ∨ s.phase ≠ 2 then (s, false)
  else
    let bad := if c.camMode = 2 then !s.camLevel else c.camBadNow
    let miss := c.camMode == 1 && c.camArmed && !c.camSeen && !c.camBadNow
    let s1 := if miss then ((s.setBitReg A.ANG_ERR 3).modReg A.CRK_CNT2 (fun w => satAdd w 16 8 1)).raise 395 else s
    let n := if bad then c.camBad + 1 else 0
    (s1.modCrk (fun c => { c with camSeen := false, camArmed := true, camBadNow := false, camBad := n }), decide (2 ≤ n))

/-- R298, R299: cam levels and windows as a position is reached; in LOCKING a level gives the revolution. -/
def State.camAtPos (s : State) : State × Bool :=
  let c := s.ang.crk
  match c.pos with
  | none => (s, false)
  | some p =>
    let s0 := if p = 0 then s.modCrk (fun c => { c with camLo := s.field A.CAM_WIN_LO 0 20, camHi := s.field A.CAM_WIN_HI 0 20 }) else s
    if s.domState 0 = 2 ∧ c.camMode = 2 ∧ p % c.nRev = 0 then
      let q := if s.camLevel then 0 else c.nRev
      (((s0.modCrk (fun c => { c with pos := some q, anchorC := c.count q })).setField A.CRK_POS 12 2 2).showPos, false)
    else if p = 0 then s0.camCycle
    else (s0, false)

/-! ## Partner conditions (R308) -/

/-- R308: the conditions of partnering hold now. -/
def State.partHolds (s : State) : Bool :=
  let c := s.ang.crk
  match s.crkPred, s.altPred with
  | some (tp, a, _), some (ta, aa) =>
    -- cycle frequencies as a / tp and aa / ta counts per tick; within 2 percent of PART_K times
    let f := aa * ta.den * tp.num
    let g := c.partK * (a * tp.den * ta.num)
    c.partEn && s.domValid 0 && s.domValid 1 && decide (98 * g ≤ 100 * f) && decide (100 * f ≤ 102 * g)
  | _, _ => false

/-- PART_ACTIVE follows its conditions; a LOST ALT suspends partnering (R312). -/
def State.partCheck (s : State) : State :=
  if s.flag A.PART_STAT 0 && decide (s.domState 1 ≤ 1) then s.suspendPart else s.setPart s.partHolds

/-- The partner angle of index `k` (R309). -/
def State.partAngle (s : State) (k : Nat) : Nat :=
  modC (s.field A.PART_OFFSET 0 20 + k * counts / max 1 (6 * s.ang.crk.partK))

/-- R311: at an accepted crank tooth of count `cnt`, the difference from the partner track. -/
def State.partError (s : State) (cnt : Nat) (atRev : Bool) : State :=
  let c := s.ang.crk
  if s.flag A.PART_STAT 0 ∧ c.partIdx < 6 * c.partK ∧ c.partTP.num ≠ 0 then
    let reached := modC (s.partAngle c.partIdx + (s.now - c.partT) * c.partA * c.partTP.den / c.partTP.num)
    let sum := c.partSum + diffC cnt reached
    let n := c.partCnt + 1
    if atRev then (s.setReg A.PART_ERR (BitVec.ofInt 32 (sum / (n : Int)))).modCrk (fun c => { c with partSum := 0, partCnt := 0 })
    else s.modCrk (fun c => { c with partSum := sum, partCnt := n })
  else s

/-! ## Teeth -/

/-- A tooth becomes the anchor of the angle: position `j` at instant `t` after an interval of `iv` over `a` counts. -/
def Crk.land (c : Crk) (j a : Nat) (t iv : Frac) (virt : Bool) : Crk :=
  let cnt := c.count j
  let step := if c.pos.isSome then subC (cnt + counts - 1) c.anchorC + 1 else 0
  { c with pos := some j, tooth := t, tPrev := iv, aPrev := a, cyc := (c.cyc + (c.anchorC + step) / counts) % 256,
           anchorT := t, anchorC := cnt, virtAnchor := virt, partAnchor := false }

/-- The difference of two instants. -/
def Frac.since (t t0 : Frac) : Frac := ⟨t.num * t0.den - t0.num * t.den, t.den * t0.den⟩

/-- Slots meet the new anchor of CRK. -/
def State.crkAnchor (s : State) (before : Nat) (real : Bool) : State :=
  match s.crkPred with
  | some (_, a, _) =>
    s.slotsAnchor 0 before (s.crkAngle s.now) a s.ang.crk.anchorT.ceil real (!real || s.domState 0 == 4)
  | none => s

/-- R302, R303: a failed gap check; `again` is what the domain takes with it into LOCKING. -/
def State.gapFail (s : State) (again : State → State) : State :=
  let at_ := s.ang.crk.suspect.getD s.now
  let s1 := ((s.setBitReg A.ANG_ERR 1).modReg A.CRK_CNT2 (fun w => satAdd w 0 8 1)).raise 393
  let s2 := (s1.setReg A.CRK_SUSPECT (wd at_)).slotsSuspect at_
  again (s2.crkLost.setDom 0 2)

/-- R291: an edge is rejected; while the domain waits for the tooth after a gap that fails the gap check (R302). -/
def State.crkReject (s : State) : State :=
  let c := s.ang.crk
  let j := match c.pos with | some p => c.next p | none => 0xFF
  let s1 := ((s.modReg A.CRK_CNT (fun w => satAdd w 0 16 1)).modCrk (fun c => { c with cycOk := false, run := 0 })).toothLog
    s.now j 2 (s.crkAngle s.now)
  if s.domState 0 = 2 then
    -- the lock attempt must start again from a detected gap (R297)
    if c.gaps.isEmpty then s1 else s1.modCrk (fun c => { c with pos := none, cand := [], since := 0, passed := false })
  else if c.afterGap j then s1.gapFail (fun s => s)
  else s1

/-- R296: the first positions after a gap that an interval of `iv` after one of `prev` may have ended. -/
def State.gapFits (s : State) (iv prev : Nat) : List Nat :=
  let hi := s.crkWin.2
  s.ang.crk.gaps.filter (fun j =>
    let sp := s.ang.crk.gapSpan j
    decide ((sp + 1) * prev ≤ 2 * iv) && decide (16384 * iv ≤ sp * hi * prev))

/-- The next first-position-after-a-gap and the teeth up to it. -/
def Crk.nextGap (c : Crk) (j : Nat) : Nat × Nat :=
  let run := ((List.range c.nRev).takeWhile (fun k => c.present (j + k))).length
  ((((List.range c.nRev).map (fun k => (j + run + k) % c.nRev)).find? c.present).getD j, run)

/-- R296: narrows the candidates when a gap is detected after `since` teeth. -/
def Crk.narrow (c : Crk) (fits : List Nat) : List Nat :=
  let next := (c.cand.filter (fun j => (c.nextGap j).2 == c.since)).map (fun j => (c.nextGap j).1)
  let l := fits.filter (fun j => next.contains j)
  if c.cand.isEmpty || l.isEmpty then fits else l

/-- A gap is detected at an edge at tick `t` after an interval `iv`: the position is set when one gap fits. -/
def State.gapDetected (s : State) (t iv : Nat) (fits : List Nat) : State :=
  let c := s.ang.crk
  let cand := c.narrow fits
  match cand with
  | [j] =>
    let a := c.dist ((j + c.n - c.gapSpan j) % c.n) j
    let s1 := s.modCrk (fun c => { (c.land j a (Frac.ofNat t) (Frac.ofNat iv) false) with
      cand := [], passed := false, suspect := none })
    let s2 := if c.four ∧ c.camMode = 0 then s1.setField A.CRK_POS 12 2 1 else s1
    (s2.showPos).camAtPos.1
  | _ => s.modCrk (fun c => { c with cand := cand, since := 1, spanPrev := (cand.map c.gapSpan).headD 1 })

/-- R297: the lock conditions hold and CRK enters LOCKED. -/
def State.tryLock (s : State) : State :=
  let c := s.ang.crk
  let ready := if c.gaps.isEmpty then decide (s.field A.CRK_LOCK 8 4 ≤ c.run) else c.passed
  if s.domState 0 = 2 ∧ c.pos.isSome ∧ ready = true ∧ (c.four = false ∨ s.phase ≠ 0) then
    let s1 := (s.modCrk (fun c => { c with cycOk := true, virtRev := 0, virtSeen := 0 })).setDom 0 3
    (s1.crkAnchor (s1.crkAngle s1.now) true).partCheck
  else s

/-- The bookkeeping every accepted crank edge does: time stamps, speed, the first tooth after a gap check (R303). -/
def State.crkStamp (s : State) (t : Nat) : State :=
  let c := s.ang.crk
  let iv := t - c.lastReal.getD t
  let a := match c.realPos, c.pos with | some p, some q => c.dist p q | _, _ => c.aPrev
  let s1 := s.modCrk (fun c => { c with
    lastReal := some t, realIv := iv, realA := a, realPos := c.pos, edges := c.edges + 1, run := c.run + 1, virtSeen := 0,
    suspect := match c.pos with
      | some p => if c.afterGap p then none else some (c.suspect.getD t)
      | none => none })
  if iv = 0 then s1 else if c.pos.isSome then s1.showSpeed iv a else s1.setReg A.CRK_PERIOD (wd iv)

/-- R295 to R297: an edge in LOCKING. -/
def State.lockingEdge (s : State) (t : Nat) : State :=
  let c := s.ang.crk
  match c.lastReal with
  | none => (s.crkStamp t).toothLog t 0xFF 0 0
  | some t0 =>
    let iv := t - t0
    let lo := s.crkWin.1
    let early : Bool := match c.pos, s.crkPred with
      | some _, some (tp, _, _) => !(c.tooth.add (tp.scale lo 16384)).le (Frac.ofNat t)
      | _, _ => decide (iv * 16384 * c.spanPrev < lo * c.realIv)
    if decide (2 ≤ c.edges) && early then s.crkReject
    else
      let s1 := match c.pos with
        | some p =>
          let j := c.next p
          let s1 := s.modCrk (fun c => { (c.land j (c.dist p j) (Frac.ofNat t) ((Frac.ofNat t).since c.tooth) false) with
            passed := c.passed || c.afterGap j })
          s1.showPos.camAtPos.1
        | none =>
          if !c.gaps.isEmpty then
            let fits := if c.realIv = 0 then [] else s.gapFits iv c.realIv
            if fits.isEmpty then s.modCrk (fun c => { c with since := c.since + 1, spanPrev := 1 })
            else s.gapDetected t iv fits
          else if c.nRev = 1 ∨ c.camFirst then
            let s1 := s.modCrk (fun c => { (c.land 0 (c.dist (c.n - 1) 0) (Frac.ofNat t) (Frac.ofNat iv) false) with camFirst := false })
            let s2 := if c.four then s1.setField A.CRK_POS 12 2 (if c.camFirst then 2 else if c.camMode = 0 then 1 else 0) else s1
            s2.showPos.camAtPos.1
          else s
      let s2 := s1.crkStamp t
      (s2.toothLog t (s2.ang.crk.pos.getD 0xFF) 0 (s2.crkAngle t)).tryLock

/-- R299: through LOST and back to LOCKING. -/
def State.crkRelock (s : State) : State := s.crkLost.setDom 0 2

/-- R291, R294, R302, R305, R311: the edge at tick `t` is accepted as the next position. -/
def State.acceptTooth (s : State) (t : Nat) : State :=
  let c := s.ang.crk
  match c.pos with
  | none => s
  | some p =>
    let j := c.next p
    let whole := if c.realIv = 0 then 0 else
      (2 * (t - c.lastReal.getD t) * c.realA * c.n + c.realIv * counts) / (2 * c.realIv * counts)
    let misplaced := 0 < c.virtSeen ∧ c.afterGap j = false ∧ (c.gaps.map c.gapSpan).contains whole = true
    if misplaced then
      let s1 := s.toothLog t j 0 (s.crkAngle t)
      s1.gapFail (fun s =>
        let fits := c.gaps.filter (fun g => c.gapSpan g == whole)
        (s.gapDetected t (t - c.lastReal.getD t) fits).crkStamp t)
    else
      let before := s.crkAngle t
      let a := c.dist p j
      let iv := (Frac.ofNat t).since c.tooth
      let ratio := iv.num * c.aPrev * c.tPrev.den * 2 ^ 30 / max 1 (iv.den * a * c.tPrev.num)
      let s1 := s.partError (c.count j) (j % c.nRev == 0)
      let s2 := s1.modCrk (fun c => { (c.land j a (Frac.ofNat t) iv false) with
        ratios := c.ratios ++ [(j, ratio)], virtRev := if j = 0 then 0 else c.virtRev })
      let s3 := ((s2.setField A.CRK_POS 8 4 0).showPos).crkStamp t
      let s4 := s3.setDom 0 3
      let s5 := if j = 0 then s4.shapeCycle t true else s4
      match s5.camAtPos with
      | (s6, true) => s6.crkRelock
      | (s6, false) => ((s6.crkAnchor before true).toothLog t j 0 (s6.crkAngle t)).partCheck

/-- R292 to R294: a virtual tooth takes the place of the next position. -/
def State.virtualCrk (s : State) : State :=
  let c := s.ang.crk
  match s.crkPred, c.pos with
  | some (tp, a, j), some _ =>
    let before := s.crkAngle s.now
    let stamp := c.tooth.add tp
    let run := s.field A.CRK_POS 8 4 + 1
    let s1 := s.modCrk (fun c => { (c.land j a stamp tp true) with
      virtRev := (if j = 0 then 0 else c.virtRev) + 1, virtSeen := c.virtSeen + 1, cycOk := false, ratios := [], run := 0,
      suspect := if c.afterGap j then none else c.suspect })
    let s2 := (((s1.setField A.CRK_POS 8 4 (min 15 run)).showPos).modReg A.CRK_CNT (fun w => satAdd w 16 16 1)).toothLog
      stamp.floor j 1 (s1.crkAngle s.now)
    if s.field A.CRK_LOCK 0 4 < run ∨ s.field A.CRK_LOCK 4 4 < s2.ang.crk.virtRev then s2.crkLost
    else
      let s3 := s2.setDom 0 4
      let s4 := if j = 0 then s3.shapeCycle stamp.floor false else s3
      match s4.camAtPos with
      | (s5, true) => s5.crkRelock
      | (s5, false) => s5.crkAnchor before false
  | _, _ => s

/-- The window of the next position has passed. -/
def State.crkOverdue (s : State) (t : Nat) : Bool :=
  s.domValid 0 && (match s.crkWindow with | some (_, hi) => !(Frac.ofNat t).le hi | none => false)

/-- Virtual teeth whose instants have passed are inserted first; at most 16 in a row can be. -/
def State.catchUp : Nat → State → Nat → State
  | 0, s, _ => s
  | n + 1, s, t => if s.crkOverdue t then State.catchUp n s.virtualCrk t else s

/-- CRK_EDGE (R284, R289 to R297, R302): a crank edge arrives and is stamped with the tick count. -/
def crkEdge (s0 : State) : State :=
  let t := s0.now
  let s := s0.catchUp 17 t
  match s.domState 0 with
  | 0 => s
  | 1 => (s.setDom 0 2).lockingEdge t
  | 2 => s.lockingEdge t
  | _ =>
    match s.crkWindow with
    | some (lo, _) => if lo.le (Frac.ofNat t) then s.acceptTooth t else s.crkReject
    | none => s

/-! ## ALT (R313, R314) -/

/-- The window of ALT_WIN on the next edge, as instants. -/
def State.altWindow (s : State) : Option (Frac × Frac) :=
  match s.altPred with
  | some (tp, _) =>
    some (s.ang.alt.tooth.add (tp.scale (s.field A.ALT_WIN 0 16) 16384), s.ang.alt.tooth.add (tp.scale (s.field A.ALT_WIN 16 16) 16384))
  | none => none

/-- ALT enters LOST; partnering is suspended (R312). -/
def State.altLost (s : State) : State := ((s.setDom 1 1).modAlt (fun a => { cyc := a.cyc })).suspendPart

/-- An edge of the sequence becomes the anchor of ALT. -/
def State.altLand (s : State) (k : Nat) (t iv : Frac) (virt : Bool) : State :=
  let before := s.altAngle s.now
  let s1 := s.modAlt (fun a => { a with
    idx := some k, tooth := t, tPrev := iv, virtAnchor := virt, virtRun := if virt then a.virtRun + 1 else 0,
    cyc := (a.cyc + (if s.altCount k < s.altCount (k + 5) then 1 else 0)) % 256 })
  match s1.altPred with
  | some (_, a) => if s1.domValid 1 then
      s1.slotsAnchor 1 before (s1.altAngle s1.now) a t.ceil (!virt) (virt || s1.domState 1 == 4) else s1
  | none => s1

/-- A virtual ALT edge (R292, R313). -/
def State.virtualAlt (s : State) : State :=
  match s.ang.alt.idx, s.altPred with
  | some k, some (tp, _) =>
    let s1 := ((s.setDom 1 4).altLand ((k + 1) % 6) (s.ang.alt.tooth.add tp) tp true).modReg A.ALT_CNT (fun w => satAdd w 16 16 1)
    if s.field A.CRK_LOCK 0 4 < s1.ang.alt.virtRun then s1.altLost else s1
  | _, _ => s

/-- The window of the next ALT edge has passed. -/
def State.altOverdue (s : State) (t : Nat) : Bool :=
  s.domValid 1 && (match s.altWindow with | some (_, hi) => !(Frac.ofNat t).le hi | none => false)

/-- Virtual ALT edges whose instants have passed are inserted first. -/
def State.altCatchUp : Nat → State → Nat → State
  | 0, s, _ => s
  | n + 1, s, t => if s.altOverdue t then State.altCatchUp n s.virtualAlt t else s

/-- R314: three edges in reverse order. -/
def State.altReverse (s : State) : State :=
  let s1 := s.setBitReg A.ANG_ERR 5
  let s2 := if s1.domState 1 = 1 then s1.raise 398 else s1.altLost
  if s.flag A.ALT_CFG 1 ∧ s.domState 0 ≠ 0 then s2.crkLost else s2

/-- ALT_FREQ from the interval that ended at edge `k`, in mHz. -/
def State.showAltFreq (s : State) (k iv : Nat) : State :=
  s.setField A.ALT_FREQ 0 24 (if iv = 0 then 0 else min 16777215 (400000000000 * altStep (k + 5) / (counts * iv)))

/-- Edge `k` of the ALT sequence is accepted. -/
def State.altAccept (s : State) (k t : Nat) : State :=
  let iv := match s.ang.alt.idx with | some _ => (Frac.ofNat t).since s.ang.alt.tooth | none => {}
  let s1 := (s.altLand k (Frac.ofNat t) iv false).modAlt (fun a => { a with lastReal := some t })
  s1.showAltFreq k (t - s.ang.alt.lastReal.getD t)

/-- The index in the forward sequence of an edge of comparator `ph` (0 U, 1 V, 2 W): U+ W- V+ U- W+ V- (R313). -/
def altIndex (ph : Nat) (rise : Bool) : Nat :=
  match ph, rise with
  | 0, true => 0 | 2, false => 1 | 1, true => 2 | 0, false => 3 | 2, true => 4 | _, _ => 5

/-- ALT_EDGE (R313, R314): a comparator edge. -/
def altEdge (ph : Nat) (rise : Bool) (s0 : State) : State :=
  let t := s0.now
  let k := altIndex ph (rise != s0.flag A.ALT_CFG 0)
  let s := s0.altCatchUp 17 t
  if s.domState 1 = 0 then s
  else
    let a := s.ang.alt
    let fwd := match a.raw with | some r => k == (r + 1) % 6 | none => false
    let bwd := match a.raw with | some r => k == (r + 5) % 6 | none => false
    let rev := if bwd then a.rev + 1 else 0
    let s1 := s.modAlt (fun a => { a with raw := some k, rev := if rev = 3 then 0 else rev, fwd := if fwd then a.fwd + 1 else 1 })
    if rev = 3 then s1.altReverse
    else match s1.domState 1 with
      | 1 => (s1.setDom 1 2).altAccept k t
      | 2 =>
        let s2 := s1.altAccept k t
        if 6 ≤ s2.ang.alt.fwd then (s2.setDom 1 3).partCheck else s2
      | _ =>
        let expected := match a.idx with | some i => k == (i + 1) % 6 | none => false
        let inWin := match s1.altWindow with | some (lo, _) => lo.le (Frac.ofNat t) | none => false
        if expected && inWin then ((s1.setDom 1 3).altAccept k t).partCheck
        else s1.modReg A.ALT_CNT (fun w => satAdd w 0 16 1)

/-- VIRTUAL_TOOTH (R292 to R294): the window of the next position of CRK (domain 0) or ALT (1) has passed. -/
def virtualTooth (d : Nat) (s : State) : State :=
  if d = 0 then (if s.crkOverdue s.now then s.virtualCrk else s)
  else (if s.altOverdue s.now then s.virtualAlt else s)

/-! ## CRK commands -/

/-- CRK_STALL (Table SYN-4): no edge for STALL ms in LOCKING. -/
def crkStall (s : State) : State := if s.domState 0 = 2 then s.crkLost else s

/-- The count lies in the window, whose ends may straddle 0. -/
def inWindow (lo hi x : Nat) : Bool := decide (subC x lo ≤ subC hi lo)

/-- CAM_EDGE (R298, R299): an accepted edge of the cam input. -/
def camEdge (s : State) : State :=
  let c := s.ang.crk
  let a := s.crkAngle s.now
  if s.domState 0 = 0 ∨ c.camMode = 0 then s
  else
    let s1 := s.toothLog s.now (c.pos.getD 0xFF) 5 a
    let store (s : State) : State := s.setReg A.CAM_POS (setBit (wd a) 31 true)
    if c.camMode = 2 then (if c.pos.isSome then store s1 else s1)
    else if c.pos.isNone then (if c.gaps.isEmpty && c.nRev != 1 then s1.modCrk (fun c => { c with camFirst := true }) else s1)
    else
      let here := inWindow c.camLo c.camHi a
      let other := inWindow c.camLo c.camHi (a + 524288)
      if s.domState 0 = 2 then
        if here then ((store s1).setField A.CRK_POS 12 2 2).tryLock
        else if other then
          ((((store s1).modCrk (fun c => { c with
            pos := c.pos.map (fun p => (p + c.nRev) % c.n), realPos := c.realPos.map (fun p => (p + c.nRev) % c.n),
            anchorC := modC (c.anchorC + 524288) })).setField A.CRK_POS 12 2 2).showPos).tryLock
        else s1.modReg A.CRK_CNT (fun w => satAdd w 0 16 1)
      else if here then (store s1).modCrk (fun c => { c with camSeen := true, camBad := 0 })
      else if other then (store s1).modCrk (fun c => { c with camBadNow := true })
      else s1.modReg A.CRK_CNT (fun w => satAdd w 0 16 1)

/-- Rotates the shape elements, their pins and statistics by half a cycle (R300). -/
def State.rotateShape (s : State) : State :=
  let n := s.ang.crk.n
  let old := s
  let s1 := (List.range n).foldl (fun s i => s.setElem .ang 0 ((i + n / 2) % n) (old.elem .ang 0 i)) s
  let x := old.loop .ang 0
  let s2 := (s1.setLoop .ang 0 { x with pins := x.pins.foldl (fun t p => t.set (fun _ => 0) ((p.1 + n / 2) % n) p.2) [] }).syncLoop .ang 0
  s2.modCrk (fun c => { c with shape := (List.range n).foldl (fun t i =>
    t.set (fun _ => 2 ^ 30) ((i + n / 2) % n) (old.ang.crk.shape.get (fun _ => 2 ^ 30) i)) [] })

/-- PHASE_FLIP (R300): the pass through LOST ends partnering, whose next activation indexes the edges anew (R308, R312). -/
def State.phaseFlip (s : State) : State :=
  if s.phase = 1 ∧ s.domValid 0 then
    let s1 := (s.setDom 0 1).setPart false
    let s2 := s1.modCrk (fun c => { c with
      pos := c.pos.map (fun p => (p + c.nRev) % c.n), realPos := c.realPos.map (fun p => (p + c.nRev) % c.n),
      anchorC := modC (c.anchorC + 524288), cycT0 := none, cycOk := false, ratios := [] })
    (((s2.rotateShape.showPos).setField A.CRK_POS 8 4 0).setDom 0 3).partCheck
  else s.syncCfgErr 6

/-- RESYNC (R301): the domain passes through LOST; the next edge takes it to LOCKING. -/
def State.resync (s : State) : State := if s.domState 0 = 0 then s else s.crkLost

/-- CLR_CNT (Table SYN-8). -/
def State.clrCnt (s : State) : State := ((s.setReg A.CRK_CNT 0#32).setReg A.CRK_CNT2 0#32).setReg A.SHAPE_STAT 0#32

/-- The effect of a CRK_CMD write: each bit's command. -/
def State.crkCmdEffect (s : State) (v : Word) : State :=
  let s1 := if bit v 2 then s.clrCnt else s
  let s2 := if bit v 1 then s1.phaseFlip else s1
  if bit v 0 then s2.resync else s2

/-- A write of CRK_CMD with the bits `v`, by master `m`. -/
def crkCmd (m : Nat) (v : Word) (s : State) : State := s.plainWrite .ang m A.CRK_CMD (fun s => s.crkCmdEffect v)

/-! ## Partner edges (R308 to R312) -/

/-- The angle step from partner index `k` to the next. -/
def State.partStep (s : State) (k : Nat) : Nat :=
  let n := max 1 (6 * s.ang.crk.partK)
  (k % n + 1) * counts / n - k % n * counts / n

/-- The CRK angle becomes partner angle `x`, no further than one short of the next crank position (R310). -/
def State.partLand (s : State) (x : Nat) : State :=
  let c := s.ang.crk
  match s.crkPred, c.pos with
  | some (_, a, j), some p =>
    let y := if subC x (c.count p) < a ∨ counts / 2 < subC x (c.count p) then x else modC (c.count j + counts - 1)
    let before := s.crkAngle s.now
    let cy := s.crkCycle s.now
    let wrap := decide (y < counts / 4) && decide (3 * counts / 4 < before)
    let back := decide (before < counts / 4) && decide (3 * counts / 4 < y)
    let s1 := s.modCrk (fun c => { c with
      anchorT := Frac.ofNat s.now, anchorC := y, partAnchor := true, virtAnchor := false,
      cyc := (cy + (if wrap then 1 else if back then 255 else 0)) % 256 })
    s1.slotsAnchor 0 before y (subC (c.count j) y) s.now true (s.domState 0 == 4)
  | _, _ => s

/-- PARTNER_EDGE (R309, R310): an ALT edge used as a partner tooth. -/
def partnerEdge (s : State) : State :=
  let c := s.ang.crk
  let n := 6 * c.partK
  let th := s.crkAngle s.now
  if s.flag A.PART_STAT 0 = false ∨ n = 0 then s
  else if n ≤ c.partIdx then
    let k := (2 * subC th (s.field A.PART_OFFSET 0 20) * n + counts) / (2 * counts) % n
    let iv := match s.altPred with | some (tp, _) => tp | none => {}
    let s1 := s.modCrk (fun c => { c with partIdx := k, partT := s.now, partIv := iv, partTP := iv, partA := s.partStep k, partRun := 0 })
    (s1.partLand (s1.partAngle k)).toothLog s.now k 3 (s1.partAngle k)
  else
    let k := (c.partIdx + 1) % n
    let tp := c.partIv.scale (s.partStep c.partIdx) (max 1 (s.partStep (c.partIdx + n - 1)))
    let lo := tp.scale (s.field A.PART_WIN 0 16) 16384
    let hi := tp.scale (s.field A.PART_WIN 16 16) 16384
    let iv := Frac.ofNat (s.now - c.partT)
    if lo.le iv && iv.le hi then
      let s1 := s.modCrk (fun c => { c with
        partIdx := k, partT := s.now, partIv := iv, partA := s.partStep k, partRun := 0,
        partTP := iv.scale (s.partStep k) (max 1 (s.partStep c.partIdx)) })
      (s1.partLand (s1.partAngle k)).toothLog s.now k 3 (s1.partAngle k)
    else s.toothLog s.now k 4 th

/-- PARTNER_MISS (R312): no partner edge by the end of its window. -/
def partnerMiss (s : State) : State :=
  let c := s.ang.crk
  let n := 6 * c.partK
  if s.flag A.PART_STAT 0 ∧ c.partIdx < n then
    let s1 := s.modCrk (fun c => { c with
      partIdx := (c.partIdx + 1) % n, partT := c.partT + c.partTP.floor, partRun := c.partRun + 1 })
    if c.partMiss < s1.ang.crk.partRun then s1.suspendPart else s1
  else s

/-! ## GRD and INV (R315 to R318) -/

/-- LOCKED_GRD changes (R318). -/
def State.setLockedGrd (s : State) (b : Bool) : State :=
  if s.flag A.INV_STAT 0 = b then s
  else
    let s1 := (s.setField A.INV_STAT 0 1 b.toNat).raise 400
    if b then s1 else s1.setBitReg A.ANG_ERR 7

/-- The INV oscillator runs at `rate` from here, its phase continuous (R317). -/
def State.invRun (s : State) (rate : Nat) : State :=
  s.modInv (fun i => { i with phase := s.invPhase s.now, t := s.now, rate := rate })

/-- R318: GRD is no longer there to follow: INV keeps its frequency and reads LOCKED. -/
def State.invRelease (s : State) : State :=
  if s.domState 3 ≠ 0 ∧ s.flag A.INV_CFG 0 ∧ s.ang.inv.follow then
    ((s.modInv (fun i => { i with follow := false, okCycles := 0 })).setLockedGrd false).setDom 3 3
  else s

/-- R318: GRD is LOCKED (or COASTING as MODE 1 begins): INV pulls onto it. -/
def State.invFollow (s : State) : State :=
  if s.domState 3 ≠ 0 ∧ s.flag A.INV_CFG 0 ∧ s.ang.inv.follow = false then
    (s.modInv (fun i => { i with follow := true, okCycles := 0 })).setDom 3 2
  else s

/-- GRD takes a state; INV follows or lets go (R318). -/
def State.setGrd (s : State) (st : Nat) : State :=
  let s1 := s.setDom 2 st
  if st = 3 then s1.invFollow else if st ≤ 1 then s1.invRelease else s1

/-- GRD_UPDATE (R315, R316): the loop's 20 µs update brings a measured amplitude, phase error, frequency (mHz) and
oscillator angle; while the amplitude is below its limit in COASTING the oscillator holds. -/
def grdUpdate (ampl mhz angle : Nat) (pherr : Int) (s : State) : State :=
  if s.domState 2 = 0 then s
  else
    let vnom := s.field A.GRD_VNOM 0 24
    let ok := decide (vnom ≠ 0) && decide (s.field A.GRD_LIM 0 8 * vnom ≤ 100 * ampl)
    let inF := decide (45000 ≤ mhz) && decide (mhz ≤ 65000)
    let e := pherr.natAbs
    let hold := s.domState 2 == 4 && !ok
    let old := s.grdAngle s.now
    let na := if hold then old else modC angle
    let wraps := decide (na < counts / 4) && decide (3 * counts / 4 < s.ang.grd.angle)
    let s1 := (s.setReg A.GRD_AMPL (wd (ampl % 2 ^ 24))).setReg A.GRD_PHERR (BitVec.ofInt 32 pherr)
    let s2 := s1.modGrd (fun g => { g with t := s.now, angle := na, mhz := if hold then g.mhz else mhz,
                                           cyc := if wraps then (g.cyc + 1) % 256 else g.cyc })
    let s3 := s2.setField A.GRD_FREQ 0 24 s2.ang.grd.mhz
    let mark (t : Option Nat) (s : State) : State := s.modGrd (fun g => { g with since := t })
    match s.domState 2 with
    | 1 => if ok && inF then mark none (s3.setGrd 2) else s3
    | 2 =>
      if e ≤ 5825 then
        match s.ang.grd.since with
        | none => mark (some s.now) s3
        | some t => if t + 40000000 ≤ s.now then mark none (s3.setGrd 3) else s3
      else mark none s3
    | 3 =>
      if !inF then mark none (s3.setGrd 1)
      else if !ok then mark (some s.now) (s3.setGrd 4)
      else if 29127 < e then
        match s.ang.grd.since with
        | none => mark (some s.now) s3
        | some t => if t + 8000000 ≤ s.now then mark none (s3.setGrd 1) else s3
      else mark none s3
    | _ =>
      let t := s.ang.grd.since.getD s.now
      let late := decide (t + s.field A.GRD_LIM 8 16 * 400000 < s.now)
      if ok then (if !late && decide (e ≤ 29127) then mark none (s3.setGrd 3) else mark none (s3.setGrd 1))
      else if late then mark none (s3.setGrd 1) else s3

/-- The effect of an INV_FREQ write (R317). -/
def State.invFreqEffect (s : State) (v : Word) : State :=
  let s1 := s.store A.INV_FREQ v
  if s1.flag A.INV_CFG 0 then s1 else s1.invRun v.toNat

/-- INV_FREQ_WRITE (R317). -/
def invFreqWrite (m size : Nat) (v : Word) (s : State) : State := s.wpWrite .ang m A.INV_FREQ size v (fun s => s.invFreqEffect v)

/-- The effect of an INV_CFG write: leaving MODE 1 returns INV to INV_FREQ, entering it follows GRD when it can. -/
def State.invCfgEffect (s : State) (v : Word) : State :=
  let was := s.flag A.INV_CFG 0
  let s1 := s.store A.INV_CFG v
  if s1.domState 3 = 0 then s1
  else match was, bit v 0 with
    | true, false => (((s1.invRun (s1.reg A.INV_FREQ).toNat).modInv (fun i => { i with follow := false })).setLockedGrd false).setDom 3 3
    | false, true => if 3 ≤ s1.domState 2 then s1.invFollow else s1
    | _, _ => s1

/-- The phase difference of R318: INV - GRD - INV_PHOFS. -/
def State.invDiff (s : State) : Int :=
  toSigned 20 (subC (subC (s.invAngle s.now) (s.grdAngle s.now)) (s.field A.INV_PHOFS 0 20))

/-- INV_CYCLE (R282, R318): an INV cycle completes. Following GRD, the frequency is GRD's, corrected toward INV_PHOFS by
at most DEV × 10 mHz; how much of that bound is used the spec does not say. -/
def invCycle (s : State) : State :=
  if s.domState 3 = 0 then s
  else
    let s1 := (s.invRun s.ang.inv.rate).modInv (fun i => { i with cyc := (i.cyc + 1) % 256 })
    if s.ang.inv.follow then
      let d := s1.invDiff
      let dev := s.freeNat % (s.field A.INV_CFG 8 8 * 10 + 1)
      let mhz := if 0 < d then s.ang.grd.mhz - dev else if d < 0 then s.ang.grd.mhz + dev else s.ang.grd.mhz
      let n := if d.natAbs ≤ s.field A.INV_CFG 16 16 then s1.ang.inv.okCycles + 1 else 0
      let s2 := ((s1.useFree.invRun (mhzRate mhz)).setField A.INV_STAT 12 20 (ofSigned 20 d)).modInv (fun i => { i with okCycles := n })
      if 10 ≤ n ∧ s2.domState 3 = 2 then (s2.setDom 3 3).setLockedGrd true else s2
    else s1

/-! ## Enabling (R283) -/

/-- A domain is enabled or disabled by an ANG_CTL write whose stored value is `v`. -/
def State.angEnable (s : State) (v : Word) (d : Nat) : State :=
  let on := bit v d
  let st := s.domState d
  if on && st == 0 then
    match d with
    | 0 => match s.crkRefusal (bit v 1) with
      | some r => s.syncCfgErr r
      | none => s.crkTake.setDom 0 1
    | 1 => (s.modAlt (fun a => { cyc := a.cyc })).setDom 1 1
    | 2 => (s.modGrd (fun g => { g with t := s.now, angle := 0, since := none,
                                        mhz := if s.flag A.GRD_CFG 1 then 60000 else 50000 })).setDom 2 1
    | 3 =>
      let s1 := (s.modInv (fun i => { i with t := s.now, phase := 0, rate := (s.reg A.INV_FREQ).toNat, follow := false, okCycles := 0 })).setDom 3 1
      if s.flag A.INV_CFG 0 ∧ 3 ≤ s.domState 2 then s1.invFollow else s1.setDom 3 3
    | _ => let s1 := s.setDom 4 1; if s.ang.cpl.running then s1.setDom 4 3 else s1
  else if !on && st != 0 then
    match d with
    | 0 => (((s.setPart false).setDom 0 0).modCrk Crk.lose).setReg A.CRK_POS 0#32
    | 1 => ((s.setDom 1 0).modAlt (fun a => { cyc := a.cyc })).suspendPart
    | 2 => (s.setDom 2 0).invRelease
    | 3 => ((s.setLockedGrd false).setDom 3 0).modInv (fun i => { i with follow := false })
    | _ => s.setDom 4 0
  else s

/-- The effect of an ANG_CTL write (R283): bits of absent domains store 0. -/
def State.angCtlEffect (s : State) (v : Word) : State :=
  let w := (List.range 5).foldl (fun w d => if angleDomainPresent s.opt d then w else setBit w d false) v
  (List.range 5).foldl (fun s d => s.angEnable w d) (s.store A.ANG_CTL w)

/-- ANG_CTL_WRITE (R283, R286 to R288). -/
def angCtlWrite (m size : Nat) (v : Word) (s : State) : State := s.wpWrite .ang m A.ANG_CTL size v (fun s => s.angCtlEffect v)

/-! ## Ring opcodes (R322 to R324) -/

/-- SYNC_SNAP (R322). -/
def syncSnap (k : Nat) (s : State) : State :=
  s.whenHand .ang k 0x10 (fun s =>
    let ws := [s.tick, (s.tb >>> 32).setWidth 32] ++ (List.range 5).map s.angleReg ++ [s.reg A.CRK_POS]
    (s.putWords (s.ring .ang k).host (s.dw .ang k 2).toNat ws).finishDone .ang k (s.angleReg 0))

/-- TOOTH_LOG (R323): the descriptor starts to take entries. -/
def toothLogStart (k : Nat) (s : State) : State :=
  s.whenHand .ang k 0x11 (fun s =>
    if (s.ring .ang k).aux ≠ 0 then s
    else if fld (s.dw .ang k 4) 0 16 = 0 then s.finishBad .ang k 0x11
    else s.modRing .ang k (fun r => { r with aux := 1, t0 := s.now }))

/-- A half-word in memory, in a host's view. -/
def State.viewHalf (s : State) (host a : Nat) : Nat :=
  (s.byte (s.phys host a)).toNat + 256 * (s.byte (s.phys host (a + 1))).toNat

/-- SHAPE_SAVE (R324). -/
def shapeSave (k : Nat) (s : State) : State :=
  s.whenHand .ang k 0x12 (fun s =>
    let n := s.crkPositions
    if (s.dw .ang k 1).toNat ≠ 2 * s.shapeCount then s.finishBad .ang k 0x11
    else if s.domState 0 = 0 then s.finishBad .ang k 0x14
    else
      let bs := (List.range n).flatMap (fun i =>
        let v := s.elem .ang 0 i
        [BitVec.ofNat 8 v, BitVec.ofNat 8 (v / 256)])
      (s.putBytes (s.ring .ang k).host (s.dw .ang k 2).toNat bs).finishDone .ang k (wd n))

/-- R157, R306: a LOOP_POS write of element `e` of the shape loop, clamped, sets the element and its statistic. -/
def State.shapePoke (s : State) (e v : Nat) : State :=
  let sel := s.field (loopA .ang 0) 8 8
  let s1 := (s.setField (loopA .ang 0) 8 8 e).posEffect .ang 0 v
  let s2 := s1.setField (loopA .ang 0) 8 8 sel
  if s2.flag (loopA .ang 0) 19 then s2
  else s2.modCrk (fun c => { c with shape := c.shape.set (fun _ => 2 ^ 30) e (s2.elem .ang 0 e * 2 ^ 16) })

/-- SHAPE_LOAD (R324). -/
def shapeLoad (k : Nat) (s : State) : State :=
  s.whenHand .ang k 0x13 (fun s =>
    let n := s.crkPositions
    let a := (s.dw .ang k 2).toNat
    if (s.dw .ang k 1).toNat ≠ 2 * s.shapeCount then s.finishBad .ang k 0x11
    else if s.domState 0 = 0 ∨ (s.loop .ang 0).mode = 0 then s.finishBad .ang k 0x14
    else ((List.range n).foldl (fun s i => s.shapePoke i (s.viewHalf (s.ring .ang k).host (a + 2 * i))) s).finishDone .ang k (wd n))

end Sys2Proof.Machine
end

