-- ==== Sys2Proof/Machine/EngineFront.lean ====
section
/-! DEFINITION. Crank, cam and Hall front ends and the SAR converters (09, R363 to R373, R409). -/
namespace Sys2Proof.Machine

/-! ## Front ends -/

/-- SENS_DIAG of a VR input: 0 ok. -/
def State.vrDiag (s : State) (n : Nat) : Nat := s.field A.SENS_DIAG (2 * n) 2

/-- R363, R366: what the input must exceed to arm, in 65536ths of 1 mV. -/
def State.vrThreshold (s : State) (n : Nat) : Nat :=
  let prev := match s.eng.vrLast.get (fun _ => none) n with
    | some t => if s.now - t < 26000000 then s.field (A.VR_PEAK n) 0 16 else 0
    | none => 0
  max (s.elem .eng n 0 * (10 * prev)) (65536 * s.field (A.VR_CFG n) 0 11)

/-- A ratio rounded toward the far end from 0: up for a positive one, down for a negative one. -/
def roundOut (num : Int) (den : Nat) : Int :=
  if 0 ≤ num then (num + (den : Int) - 1) / (den : Int) else -((-num + (den : Int) - 1) / (den : Int))

/-- R365: the threshold loop's step: (target - POS) / 16 rounded toward the target, target = NOISE / PEAK + 0x1000. -/
def vrWant (pos peak noise : Nat) : Int :=
  pos + roundOut ((noise * 65536 : Nat) + (0x1000 - (pos : Int)) * (peak : Int)) (16 * peak)

/-- VR_EDGE (R363 to R366): a tooth of `peak` after `noise`, in 10 mV, crosses zero; an armed and healthy front end drives
one edge on XW_VR. -/
def vrEdge (n peak noise : Nat) (s : State) : State :=
  if decide (n < 2) && s.present .eng && s.flag A.ENG_CTL (4 + n) && s.vrDiag n == 0 && decide (peak < 65536) &&
      decide (s.vrThreshold n < 10 * peak * 65536) then
    let s1 := s.setReg (A.VR_PEAK n) (setFld (setFld 0#32 0 16 peak) 16 16 (min noise 65535))
    let s2 := { s1 with wires := { s1.wires with vr := s1.wires.vr ^^^ BitVec.ofNat 2 (2 ^ n) } }
    let s3 := s2.modEng (fun e => { e with vrLast := e.vrLast.set (fun _ => none) n (some s.now) })
    s3.loopStep .eng n [(0, vrWant (s.elem .eng n 0) peak (min noise 65535))]
  else s

/-- HALL_EDGE (R367): a level that has held for the filter time reaches XW_HALL. -/
def hallEdge (h : Nat) (level : Bool) (s : State) : State :=
  if h < 4 ∧ s.present .eng = true then
    let out := level ^^ s.flag A.HALL_CFG (4 * h + 3)
    ({ s with wires := { s.wires with hall := bit4 s.wires.hall h out } }).setField A.SENS_DIAG (8 + h) 1 out.toNat
  else s

/-- SENS_FAULT (R368): the diagnosis of a VR input changes. -/
def sensFault (n code : Nat) (s : State) : State :=
  if n < 2 ∧ code < 4 ∧ s.present .eng = true ∧ s.flag (A.VR_CFG n) 14 = true ∧ s.vrDiag n ≠ code then
    (s.setField A.SENS_DIAG (2 * n) 2 code).raise 422
  else s

/-- R366: a write of ENG_CTL that sets VR_EN makes the next edge of that input the first. -/
def State.engCtlEffect (s : State) (v : Word) : State :=
  let s1 := s.store A.ENG_CTL v
  (List.range 2).foldl (fun s n =>
    s.modEng (fun e => if s1.flag A.ENG_CTL (4 + n) then e else { e with vrLast := e.vrLast.set (fun _ => none) n none })) s1

/-! ## SAR converters -/

/-- The running sequence of a converter. -/
def State.sarRunning (s : State) (c : Nat) : Option SarRun := s.eng.sarRun.get (fun _ => none) c
/-- The pending start of a converter. -/
def State.sarPending (s : State) (c : Nat) : Option (Nat × Bool) := s.eng.sarPend.get (fun _ => none) c

/-- A sequence's converter. -/
def State.sarConv (s : State) (q : Nat) : Nat := s.field (A.SAR_SEQC q) 8 1

/-- A sequence starts on converter `c`: its start is counted and its first channel sampled. One that has been turned off
while it waited does not start. -/
def State.sarBegin (s : State) (c q : Nat) (late : Bool) : State :=
  let l := (List.range (s.field (A.SAR_SEQC q) 0 4)).map (fun i => s.field (A.SAR_LIST q) (4 * i) 4)
  if l = [] then s else s.modEng (fun e => { e with
    sarRun := e.sarRun.set (fun _ => none) c (some ⟨q, l, late⟩)
    sarCnt := e.sarCnt.set (fun _ => 0) q ((e.sarCnt.get (fun _ => 0) q + 1) % 256) })

/-- R371: a triggered sequence starts, takes its converter's pending place or is dropped. -/
def State.sarTake (late : Bool) (s : State) (q : Nat) : State :=
  let c := s.sarConv q
  match s.sarRunning c, s.sarPending c with
  | none, _ => s.sarBegin c q late
  | some _, none => s.modEng (fun e => { e with sarPend := e.sarPend.set (fun _ => none) c (some (q, late)) })
  | some _, some _ => (s.setBitReg A.ENG_ERR 0).raise 423

/-- The sequences that are on and name this trigger. -/
def State.sarWith (s : State) (trig : Nat) : List Nat :=
  (List.range 8).filter (fun q => s.field (A.SAR_SEQC q) 4 3 == trig && s.field (A.SAR_SEQC q) 0 4 != 0)

/-- SAR conversions run: the unit is live and SAR_EN set. -/
def State.sarOn (s : State) : Bool := s.live .eng && s.flag A.ENG_CTL 0

/-- SAR_TRIGGER (R370 to R372): a rising edge of a trigger line. `delay`: 0 the sample is on time, 1 the trigger abandons a
self-calibration step, 2 a fairness slot delays it. -/
def sarTrigger (line delay : Nat) (s : State) : State :=
  if s.sarOn && decide (line < 4) then
    let s1 := if delay = 1 ∧ s.flag A.ENG_CTL 3 = true then s.bgPreempt .eng else s
    (s.sarWith (1 + line)).foldl (State.sarTake (delay != 0 && s.flag A.ENG_CTL 3)) s1
  else s

/-- SAR_PERIODIC (R370): the periodic timer expires. -/
def sarPeriodic (s : State) : State := if s.sarOn then (s.sarWith 5).foldl (State.sarTake false) s else s

/-- R370: the effect of a write of SAR_SWTRIG. -/
def State.sarSwtrigEffect (s : State) (v : Word) : State :=
  if s.sarOn then ((s.sarWith 6).filter (fun q => bit v q)).foldl (State.sarTake false) s else s

/-- SAR_SWTRIG (R370). -/
def sarSwtrig (m size : Nat) (v : Word) (s : State) : State :=
  s.plainWrite .eng m A.SAR_SWTRIG (fun s => s.sarSwtrigEffect (mergeLanes 0#32 0 size v))

/-- SAR_CONVERSION_DONE (R369, R371, R373): the conversion of a converter ends with a 12-bit value. -/
def sarConversionDone (c value : Nat) (s : State) : State :=
  match s.sarRunning c with
  | some ⟨q, ch :: rest, late⟩ =>
    let w := setBit (setFld 0#32 0 12 value) 19 late
    let s1 := s.setReg (A.SAR_LAST ch) w
    let entry := setFld (setFld (setFld w 12 4 ch) 16 3 q) 24 8 (s.eng.sarCnt.get (fun _ => 0) q)
    let s2 := (List.range 4).foldl (fun s n =>
      if s.logging .eng n 0x10 && fld (s.dw .eng n 4) 0 3 == q then s.logEntry .eng n [entry] else s) s1
    match rest with
    | _ :: _ => s2.modEng (fun e => { e with sarRun := e.sarRun.set (fun _ => none) c (some ⟨q, rest, false⟩) })
    | [] =>
      let s3 := s2.modEng (fun e => { e with sarRun := e.sarRun.set (fun _ => none) c none })
      match s3.sarPending c with
      | some (p, l) => (s3.modEng (fun e => { e with sarPend := e.sarPend.set (fun _ => none) c none })).sarBegin c p l
      | none => s3
  | _ => s

/-- SAR_CAL_STEP (R372): a self-calibration step that ends before the next predicted conversion runs. -/
def sarCalStep (fits : Bool) (s : State) : State :=
  if s.live .eng && s.flag A.ENG_CTL 3 && fits && (s.sarRunning 0).isNone && (s.sarRunning 1).isNone then s.bgStepDone .eng
  else s

/-! ## Logging descriptors -/

/-- SAR_STREAM (R373, R409). -/
def sarStream (n : Nat) (s : State) : State := s.startLog .eng n 0x10
/-- OPD_LOG (R389, R409). -/
def opdLog (n : Nat) (s : State) : State := s.startLog .edr n 0x10
/-- COIL_LOG (R394, R409). -/
def coilLog (n : Nat) (s : State) : State := s.startLog .edr n 0x11
/-- LAM_LOG (R409). -/
def lamLog (n : Nat) (s : State) : State := s.startLog .lam n 0x10

end Sys2Proof.Machine
end

