-- ==== Sys2Proof/Machine/EngineDrive.lean ====
section
/-! DEFINITION. Injector and ignition diagnosis, opening points, the fuel estimator, lambda and the bridges
(09, R379 to R407, R410). -/
namespace Sys2Proof.Machine

/-! ## Injectors -/

/-- A change of INJ_DIAG.STATE is recorded and reported (R386). -/
def State.injReport (s : State) (c st : Nat) : State :=
  ((s.setField (A.INJ_DIAG c) 0 3 st).setBitReg A.EDR_ERR c).raise 456

/-- INJECTOR_OVERCURRENT (R385): the current limit has held for 100 µs; the driver is off for the rest of the pulse. -/
def injectorOvercurrent (c : Nat) (s : State) : State :=
  if c < 4 ∧ s.wires.injOut.getLsbD c = true then
    let x := s.injTrack c
    let s1 := ((s.injReport c 2).modReg (A.INJ_DIAG c) (fun d => satAdd d 8 8 1)).modEng (fun e =>
      { e with injOff := bit4 e.injOff c true, inj := e.inj.set (fun _ => {}) c { x with limited := true } })
    s1.drivePd
  else s

/-- INJ_DIAG_CHANGE (R386): the channel's diagnosis becomes `st`; OPEN_LOAD and SHORT_GND are found with OL_EN set. -/
def injDiagChange (c st : Nat) (s : State) : State :=
  if decide (c < 4) && s.present .edr && decide (st < 5) && st != s.injState c &&
      (s.flag (A.INJ_CFG c) 13 || !(st == 1 || st == 3)) then
    (s.injReport c st).drivePd
  else s

/-- OPENING_DELAY_STEP (R387, R388): the opening point of the pulse is found at `measured` (100 ns) and the loop steps. -/
def openingDelayStep (c measured : Nat) (s : State) : State :=
  let lo := s.field (A.INJ_OPD c) 0 16 * 10
  let hi := s.field (A.INJ_OPD c) 16 16 * 10
  if decide (c < 4) && s.present .edr && !(s.injTrack c).limited && decide (lo ≤ measured) && decide (measured ≤ hi) then
    let k := s.field (A.INJ_CFG c) 16 4
    let pos := s.elem .edr c 0
    let d : Int := (measured : Int) - pos
    let want : Int := pos + d.tdiv ((2 ^ k : Nat) : Int)
    (s.loopStep .edr c [(0, want)]).modEng (fun e => { e with odMeas := e.odMeas.set (fun _ => none) c (some measured) })
  else s

/-- A cycle's fuel estimate is in doubt (R392). -/
def State.fuelDoubt (s : State) : State :=
  ((s.modEng (fun e => { e with fuelDoubt := true })).setBitReg A.ENG_ERR 2).raise 426

/-- OPENING_POINT_FRAME (R388, R389, R392): the pulse's frame arrives, or is lost. A pulse without a detection reports a
delay the spec does not state. -/
def openingPointFrame (c : Nat) (lost : Bool) (s : State) : State :=
  if !(decide (c < 4) && s.present .edr) then s
  else
    let meas := s.eng.odMeas.get (fun _ => none) c
    let x := s.injTrack c
    let s0 := s.modEng (fun e => { e with odMeas := e.odMeas.set (fun _ => none) c none })
    if lost || !s.linkUp then (if s.flag A.ENG_CTL 2 then s0.fuelDoubt else s0)
    else
      let s1 := match meas with | some _ => s0 | none => s0.useFree
      let delay := meas.getD (fld s.freeWord 0 16)
      let s2 := (s1.setReg (A.INJ_LAST c) (setBit (setBit (setFld 0#32 0 16 delay) 16 meas.isSome) 17 x.limited)).setReg
        (A.FUEL_OD c) (setFld 0#32 0 16 (s.elem .edr c 0))
      let entry := setBit (setBit (setFld (setFld 0#32 0 16 delay) 16 2 c) 18 meas.isSome) 19 x.limited
      (List.range 4).foldl (fun s n => if s.logging .edr n 0x10 then s.logEntry .edr n [wd x.rise, entry] else s) s2

/-! ## Fuel estimate -/

/-- R390: the mass of one injection in 0.1 µg. -/
def fuelMass (flow t od cd : Nat) : Nat := flow * ((t : Int) - 40 * od + 40 * cd).toNat / 40000

/-- FUEL_INJECTION_END (R390, R392): the oldest injection that has ended joins the cycle sum. -/
def fuelInjectionEnd (s : State) : State :=
  match s.eng.injDone with
  | d :: rest =>
    let m := fuelMass (s.field (A.FUEL_FLOW d.ch) 0 16) d.t d.od (s.field (A.FUEL_CD d.ch) 0 16)
    let s1 := s.modEng (fun e => { e with injDone := rest, fuelSum := e.fuelSum + m,
                                          fuelDoubt := e.fuelDoubt || !s.domValid 0 })
    if d.limited then s1.fuelDoubt else s1
  | [] => s

/-- R449, R450: a published cycle falls into the measurement span of the governor's half, with its doubt. -/
def State.egvFuel (s : State) (mass : Nat) (doubt : Bool) : State :=
  if s.egv.phase % 2 = 1 then
    let h := s.egv.phase / 2
    { s with egv := { s.egv with fuel := s.egv.fuel.set (fun _ => 0) h (s.egv.fuel.get (fun _ => 0) h + mass)
                                 doubt := s.egv.doubt || doubt } }
  else s

/-- FUEL_CYCLE (R391): CRK wraps; the cycle sum is published. FUEL_TOT counts whole milligrams of the sums. -/
def fuelCycle (s : State) : State :=
  if !(s.live .eng && s.flag A.ENG_CTL 2) then s
  else if !s.domValid 0 then s.modEng (fun e => { e with fuelDoubt := true })
  else
    let e := s.eng
    let tot := e.fuelRem + e.fuelSum
    let s1 := (s.setReg A.FUEL_CYC (setFld 0#32 0 24 e.fuelSum)).modReg A.FUEL_SEQ (fun w => wrapAdd w 0 16 1)
    let s2 := (s1.modReg A.FUEL_TOT (fun w => w + wd (tot / 10000))).setField A.ENG_STAT 0 1 e.fuelDoubt.toNat
    let s3 := s2.modEng (fun e => { e with fuelSum := 0, fuelRem := tot % 10000, fuelDoubt := false })
    (s3.egvFuel (fld (wd e.fuelSum) 0 24) e.fuelDoubt).raise 425

/-! ## Ignition -/

/-- A change of IGN_DIAG.STATE is recorded and reported (R397). -/
def State.ignReport (s : State) (c st : Nat) : State :=
  if s.field (A.IGN_DIAG c) 0 3 = st then s
  else ((s.setField (A.IGN_DIAG c) 0 3 st).setBitReg A.EDR_ERR (4 + c)).raise 457

/-- IGN_TMAX (R395, R397): XW_IGN has been high for TMAX. -/
def ignTmax (c : Nat) (s : State) : State :=
  if c < 4 ∧ s.wires.coil.getLsbD c = true then (((s.coilAbort c).ignReport c 3).raise 458).drivePd else s

/-- IGN_DIAG_CHANGE (R397): the pre-driver's diagnosis becomes `st`; OVERCURRENT also soft-aborts the dwell. -/
def ignDiagChange (c st : Nat) (s : State) : State :=
  if c < 4 ∧ s.present .edr = true ∧ st < 5 ∧ st ≠ 3 then
    let s1 := s.ignReport c st
    if st = 2 ∧ s1.wires.coil.getLsbD c = true then (s1.coilAbort c).drivePd else s1
  else s

/-- SOFT_ABORT_RAMP_END (R396). -/
def softAbortRampEnd (c : Nat) (s : State) : State :=
  if c < 4 ∧ s.wires.ramp.getLsbD c = true then
    ({ s with wires := { s.wires with ramp := bit4 s.wires.ramp c false } }).drivePd
  else s

/-! ## Lambda -/

/-- R379: the effect of a write of LAM_CTL: clearing WB_EN takes the pump current to 0, setting it starts the periods. -/
def State.lamCtlEffect (s : State) (v : Word) : State :=
  let s1 := s.store A.LAM_CTL v
  if !s1.flag A.LAM_CTL 0 then s1.setReg A.LAM_PUMP 0#32
  else if !s.flag A.LAM_CTL 0 then s1.modEng (fun e => { e with lamPer := s1.field A.LAM_CTL 8 8 })
  else s1

/-- The pump current a deadline applies (R173, R174, Table CTR-4). -/
def lamApplied (old : Nat) : GateOut → Nat
  | .fresh vs => vs.headD 0
  | .hold vs _ => vs.headD 0
  | .decay _ => old
  | .safe => 0

/-- The deadline of the PUMP gate and the pump current it applies (R379, R382). -/
def State.lamDeadline (s : State) : State :=
  let g := s.gateDeadline .lam 0 0
  (g.1.setReg A.LAM_PUMP (setFld 0#32 0 16 (lamApplied (s.field A.LAM_PUMP 0 16) g.2))).modEng
    (fun e => { e with lamPer := s.field A.LAM_CTL 8 8 })

/-- LAM_PERIOD (R379 to R383, R409): a period boundary with the measured cell voltage and narrowband voltage (25 µV), cell
resistance (0.1 Ω) and whether the pump reached its current. -/
def lamPeriod (nernst ri nb : Nat) (sat : Bool) (s : State) : State :=
  if !(s.live .lam && s.flag A.LAM_CTL 0) then s
  else
    let s1 := s.raise 482
    let s2 := s1.lamDeadline
    let v := min nernst 65535
    let r := min ri 65535
    let s3 := (s2.setReg A.LAM_NERNST (wd v)).setReg A.LAM_NERR
      (setFld 0#32 0 16 (ofSigned 16 ((v : Int) - s.field A.LAM_REF 0 16)))
    let s4 := if s.flag A.LAM_CTL 2 then s3.setReg A.LAM_RI (wd r) else s3
    let s5 := if s.flag A.LAM_CTL 1 then s4.setReg A.LAM_NB (wd (min nb 65535)) else s4
    let f := setBit (setBit (setBit 0#32 0 sat) 1 (s5.field A.LAM_RI 0 16 == 65535)) 2
      (decide (v < 1000) && s.field A.LAM_PUMP 0 16 == 0)
    let s6 := if f = 0#32 then s5 else (s5.orReg A.LAM_ERR f).raise 485
    (List.range 2).foldl (fun s n =>
      if s.logging .lam n 0x10 then
        s.logEntry .lam n [s.tick, s.reg A.LAM_NERNST, s.reg A.LAM_PUMP, s.reg A.LAM_RI]
      else s) s6

/-- R381: the effect of a write of LAM_PUMP_STG. -/
def State.pumpStgEffect (s : State) (m size lane : Nat) (v : Word) : State :=
  if m ≠ mE then (s.setBitReg A.LAM_ERR 3).raise 485
  else s.store A.LAM_PUMP_STG (mergeLanes (s.reg A.LAM_PUMP_STG) lane size v)

/-- LAM_PUMP_STG_WRITE (R381). -/
def lamPumpStgWrite (m size : Nat) (v : Word) (s : State) : State :=
  s.plainWrite .lam m A.LAM_PUMP_STG (fun s => s.pumpStgEffect m size 0 v)

/-! ## Bridges -/

/-- The signed duty of a staging or duty register. -/
def State.duty (s : State) (a : Nat) : Int := toSigned 16 (s.field a 0 16)

/-- Does a move of the step generator run (R410)? -/
def State.stepRuns (s : State) (n : Nat) : Bool := s.inHand .hbr n == some 0x10 && (s.ring .hbr n).aux == 1

/-- Some move runs. -/
def State.stepping (s : State) : Bool := s.stepRuns 0 || s.stepRuns 1

/-- R402: the signs of phases A and B at a step position. -/
def stepPhase (half : Bool) (pos : Int) : Int × Int :=
  if half then
    match (pos % 8).toNat with
    | 0 => (1, 1) | 1 => (0, 1) | 2 => (-1, 1) | 3 => (-1, 0) | 4 => (-1, -1) | 5 => (0, -1) | 6 => (1, -1) | _ => (1, 0)
  else
    match (pos % 4).toNat with
    | 0 => (1, 1) | 1 => (-1, 1) | 2 => (-1, -1) | _ => (1, -1)

/-- The duty of the step generator for bridge 1 (phase A) or 2 (phase B). -/
def State.stepDuty (s : State) (b : Nat) : Int :=
  let p := stepPhase (s.flag A.HB_STEPCFG 0) (toSigned 32 (s.reg A.HB_STEP).toNat)
  let full : Int := if s.stepping && !s.tripWire then 32767 else ((32767 * s.field A.HB_STEPCFG 8 8 / 100 : Nat) : Int)
  full * (if b = 1 then p.1 else p.2)

/-- The duty the THR gate applies; values are held with an offset of 32768, so that duty 0 is the DECAY target. -/
def thrDuty (old : Int) : GateOut → Int
  | .fresh vs => (vs.headD 32768 : Int) - 32768
  | .hold vs _ => (vs.headD 32768 : Int) - 32768
  | .decay vs => (vs.headD 32768 : Int) - 32768
  | .safe => old

/-- XW_HB_IN of a bridge at its period start: on-time and direction (R399). -/
def State.applyDuty (s : State) (b : Nat) (d : Int) : State :=
  let per := s.field (A.HB_CFG b) 0 16 * 40
  let on := d.natAbs * per / 32768
  let i := (s.wires.hbIn &&& ~~~ (BitVec.ofNat 8 (3 * 4 ^ b))) |||
    BitVec.ofNat 8 ((if 0 < on then 1 else 0) * 4 ^ b + (if d < 0 then 2 else 0) * 4 ^ b)
  (({ s with wires := { s.wires with hbIn := i } }).modEng (fun e => { e with hbOn := e.hbOn.set (fun _ => 0) b on })).setReg
    (A.HB_DUTY b) (setFld 0#32 0 16 (ofSigned 16 d))

/-- The deadline of the THR gate and the duty it applies to bridge `b` (R400, R405). -/
def State.thrDeadline (s : State) (b : Nat) : State :=
  let g := s.gateDeadline .hbr 0 32768
  let safe := g.2 == .safe
  (g.1.modEng (fun e => { e with thrOff := safe })).applyDuty b (if safe then 0 else thrDuty 0 g.2)

/-- HB_PERIOD (R399, R400, R402, R405): a period of bridge `b` starts; `cur` is the mean current of the last one. `lockDuty`
of the charging interface drives bridge 3 while LOCK_CHG is 1 (R404). -/
def State.hbPeriod (s : State) (b : Nat) (cur : Int) (lockDuty : Int) : State :=
  if !(decide (b < 4) && s.live .hbr && s.flag A.HB_CTL b) then s
  else
    let s0 := s.setReg (A.HB_CUR b) (setFld 0#32 0 16 (ofSigned 16 cur))
    let s1 := if s.flag A.HB_CTL 6 && (b == 1 || b == 2) then s0.applyDuty b (s.stepDuty b)
      else if s.flag A.HB_CTL 7 && b == 3 then s0.applyDuty b lockDuty
      else if s.thrBridge = some b then s0.thrDeadline b
      else s0.applyDuty b (s0.duty (A.HB_STG b))
    let s2 := s1.drivePd
    if s.field A.HB_CTL 4 2 = b then s2.raise 501 else s2

/-- R400, R402, R404: the effect of a write of HB_STG. -/
def State.hbStgEffect (s : State) (m b size lane : Nat) (v : Word) : State :=
  let ok := if s.flag A.HB_CTL 6 && (b == 1 || b == 2) then false
    else if s.flag A.HB_CTL 7 && b == 3 then false
    else if s.thrBridge = some b then m == mE
    else m == mH0 || m == mH1 || m == mE
  if ok then s.store (A.HB_STG b) (mergeLanes (s.reg (A.HB_STG b)) lane size v) else s.setBitReg A.HB_ERR 12

/-- HB_STG_WRITE (R400). -/
def hbStgWrite (m b size : Nat) (v : Word) (s : State) : State :=
  if b < 4 then s.plainWrite .hbr m (A.HB_STG b) (fun s => s.hbStgEffect m b size 0 v) else s

/-- The THR gate's staged value, offset by 32768. -/
def State.thrStaged (s : State) : List Nat := [(s.duty (A.HB_STG (s.field A.HB_CTL 4 2)) + 32768).toNat]

/-- The effect of a write of HB_CTL: LOCK_CHG stores 0 on an EC (R404); the bridges follow. -/
def State.hbCtlEffect (s : State) (v : Word) : State :=
  (s.store A.HB_CTL (if s.opt = optEC then setBit v 7 false else v)).drivePd

/-- HB_OVERCURRENT (R401): eight periods in a row ended at ILIM. -/
def hbOvercurrent (b : Nat) (s : State) : State :=
  if b < 4 ∧ s.wires.hbOut.getLsbD b = true then ((s.setBitReg A.HB_ERR b).raise 500).drivePd else s

/-- HB_FAULT (R401): open load (`ot` false) or over-temperature of a bridge. -/
def hbFault (b : Nat) (ot : Bool) (s : State) : State :=
  if b < 4 ∧ s.live .hbr = true then (s.setBitReg A.HB_ERR (if ot then 8 + b else 4 + b)).raise 500 else s

/-- R403: a trip pauses a running move. -/
def stepPause (s : State) : State :=
  if s.tripWire && s.stepping then s.modEng (fun e => { e with stepPaused := true }) else s

/-- STEP_MOVE (R402, R403, R410): the checks start the move; `k` more of its steps are made while no trip holds. -/
def stepMove (n k : Nat) (s : State) : State :=
  s.whenHand .hbr n 0x10 (fun s =>
    let steps := toSigned 16 (fld (s.dw .hbr n 4) 0 16)
    let rate := fld (s.dw .hbr n 5) 0 11
    if (s.ring .hbr n).aux = 0 then
      if steps = 0 ∨ rate = 0 ∨ 2000 < rate then s.finishBad .hbr n 0x11
      else if !s.flag A.HB_CTL 6 || s.stepping then s.finishBad .hbr n 0x14
      else (s.modRing .hbr n (fun r => { r with aux := 1, t0 := s.now })).modEng (fun e => { e with stepPaused := false })
    else if s.tripWire then stepPause s
    else
      let made := (s.ring .hbr n).count
      let j := min k (steps.natAbs - made)
      let s1 := (s.modReg A.HB_STEP (fun w => w + BitVec.ofInt 32 (steps.sign * j))).modRing .hbr n (fun r => { r with count := made + j })
      if made + j < steps.natAbs then s1
      else if s.eng.stepPaused then s1.finishWarn .hbr n 0x81 (s1.reg A.HB_STEP)
      else s1.finishDone .hbr n (s1.reg A.HB_STEP))

end Sys2Proof.Machine
end

