-- ==== Sys2Proof/Machine/Pwm.lean ====
section
/-! DEFINITION. The PWM unit: groups, duty, carriers, resynchronisation, dead time, delay lines, trips and the safe pattern
(10, R412 to R423, R430 to R435, R447, R448). -/
namespace Sys2Proof.Machine

/-- Changes the power stage's hidden state. -/
def State.modPwr (s : State) (f : PwrSt → PwrSt) : State := { s with pwr := f s.pwr }
/-- A PWM group. -/
def State.grp (s : State) (g : Nat) : PwmGrp := s.pwr.grp.get (fun _ => {}) g
/-- Changes a PWM group. -/
def State.modGrp (s : State) (g : Nat) (f : PwmGrp → PwmGrp) : State :=
  s.modPwr (fun p => { p with grp := p.grp.set (fun _ => {}) g (f (s.grp g)) })

/-- State of a group: 0 OFF, 1 WAIT, 2 RUN, 3 SAFE. -/
def State.grpState (s : State) (g : Nat) : Nat := s.field A.PWM_STAT (2 * g) 2
/-- Moves a group to a state. -/
def State.setGrpState (s : State) (g st : Nat) : State :=
  if s.grpState g = st then s else (s.setField A.PWM_STAT (2 * g) 2 st).modGrp g (fun x => { x with stateAt := s.now })

/-- The legs of a group (Table PST-2). -/
def grpLegs : Nat → List Nat
  | 0 => [0, 1, 2]
  | 1 => [3, 4, 5, 6]
  | _ => [7]

/-- The group of a leg. -/
def legGrp (l : Nat) : Nat := if l < 3 then 0 else if l < 7 then 1 else 2

/-- R413: CAR_PER in 1/32 tick. -/
def State.carLen (s : State) (g : Nat) : Nat := s.field (A.CAR_PER g) 0 18 * 32

/-! ## Trips (R430 to R435) -/

/-- The groups a latched cause forces. -/
def State.causeGroups (s : State) (c : Nat) : Nat :=
  if c < 8 then s.field (A.TRIP_CFG c) 0 3
  else if c < 14 then s.field (A.DESAT_CFG (c - 8)) 0 3
  else if c = 16 then s.pwr.senseGroups
  else if c = 17 then s.pwr.fcGroups
  else if c = 18 then 2
  else 7

/-- A latched cause is routed to the group (R435), or a safety trip line stands (R433). -/
def State.grpBlocked (s : State) (g : Nat) : Bool :=
  s.saf.pta || s.saf.ptb || (List.range 19).any (fun c => s.flag A.TRIP_LATCH c && (s.causeGroups c).testBit g)

/-- A group that is not OFF enters the safe pattern; its commit gate does not cause it. -/
def State.forceSafe (s : State) (g : Nat) : State :=
  if s.grpState g = 0 then s else (s.setGrpState g 3).modGrp g (fun x => { x with gateSafe := false })

/-- Every group of a mask enters the safe pattern. -/
def State.forceMask (s : State) (mask : Nat) : State :=
  (List.range 3).foldl (fun s g => if mask.testBit g then s.forceSafe g else s) s

/-- R455: a TRIP_WAIT in hand whose mask names a forced group completes. -/
def State.tripWaits (mask : Nat) (s : State) (n : Nat) : State :=
  if s.logging .pwm n 0x11 && (fld (s.dw .pwm n 4) 0 3 &&& mask != 0) then
    let r := s.ring .pwm n
    (s.putWords r.host (s.dw .pwm n 2).toNat [s.tick, s.reg A.TRIP_FIRST, s.reg A.TRIP_LATCH, s.reg A.PWM_STAT]).finishDone
      .pwm n (s.reg A.TRIP_LATCH)
  else s

/-- R432: a trip cause latches, stores the first cause with its tick and forces its groups. -/
def State.tripCause (s : State) (c mask : Nat) : State :=
  let s1 := if s.reg A.TRIP_LATCH = 0#32 then (s.setReg A.TRIP_FIRST (wd c)).setReg A.TRIP_TICK s.tick else s
  let s2 := (s1.setBitReg A.TRIP_LATCH c).forceMask mask
  (List.range 8).foldl (State.tripWaits mask) s2

/-- TRIP_INPUT (R430 to R432): TRIP0 to TRIP7 are inputs 0 to 7, DESAT0_N to DESAT5_N inputs 8 to 13; the input has passed
its filter. -/
def tripInput (i : Nat) (s : State) : State :=
  if i < 14 ∧ s.live .pwm = true then
    ((s.setBitReg A.TRIP_STAT i).tripCause i (s.causeGroups i)).raise (if i < 8 then 520 else 521)
  else s

/-- TRIP_INPUT_RELEASE (R432). -/
def tripInputRelease (i : Nat) (s : State) : State := if i < 14 then s.clrBitReg A.TRIP_STAT i else s

/-- R433: a trip from a safety core forces every group and latches SAFETY. -/
def State.pwmSafety (s : State) : State :=
  if s.live .pwm then (s.tripCause 14 7).raise 522 else s

/-- Is a latched cause still asserted (R432)? -/
def State.causeHolds (s : State) (c : Nat) : Bool :=
  if c < 14 then s.flag A.TRIP_STAT c
  else if c = 14 then s.saf.pta || s.saf.ptb
  else if c = 15 then s.safe2
  else false

/-- R432: the W1C write of TRIP_LATCH; a bit whose cause is still asserted stays. -/
def State.tripLatchClear (s : State) (bits : Word) : State :=
  (List.range 19).foldl (fun s c => if bit bits c && !s.causeHolds c then s.clrBitReg A.TRIP_LATCH c else s) s

/-! ## Duty and edges -/

/-- Rounds to the nearest multiple of 32. -/
def nearTick (x : Nat) : Nat := (x + 16) / 32 * 32

/-- R415, R416, R420, R422: the edges of a leg at a duty, in a period of `len` (1/32 tick), with a dead time. -/
def legEdges (saw hr : Bool) (duty len minPulse dead : Nat) : LegEdges :=
  let q := fun x => if hr then x else nearTick x
  let on0 := (duty * len * 2 + 2 ^ 24) / 2 ^ 25
  let on1 := if on0 < minPulse ∨ on0 ≤ dead then 0 else on0
  let lo1 := len - on1
  let on := if lo1 < minPulse ∨ lo1 ≤ dead then len else on1
  let a := if saw then 0 else (len - on) / 2
  let b := a + on
  { hi := 0 < on, lo := on < len, hiOn := q (if on = len then a else a + dead), hiOff := q b, loOff := q a
    loOn := q (if on = 0 then b else b + dead) }

/-- The dead-time loop's element of a leg (Table PST-2), in 1/32 tick. -/
def State.deadTime (s : State) (l : Nat) : Nat :=
  let g := legGrp l
  s.elem .pwm g (l - (grpLegs g).headD 0)

/-- TWO_PHASE holds both channels of the open leg inactive (R440). -/
def State.legHeld (s : State) (l : Nat) : Bool := decide (l < 3) && s.flag (A.PLAUS_STAT 0) 7 && s.field (A.PLAUS_STAT 0) 8 2 == l

/-- The edges of a group's legs from the applied duties. -/
def State.setEdges (s : State) (g : Nat) : State :=
  (grpLegs g).foldl (fun s l =>
    let e := if s.legHeld l then {} else
      legEdges (s.flag (A.GRP_CFG g) 0) (s.flag A.PWM_CTL 4 && s.flag A.PWM_STAT 8) (s.field (A.DUTY_APP l) 0 25) (s.grp g).len
        (s.field (A.GRP_LIM g) 0 16 * 32) (s.deadTime l)
    s.modPwr (fun p => { p with legs := p.legs.set (fun _ => {}) l e })) s

/-- A channel's level is active in the safe pattern (R434, R435): the gate's SAFE value of REC and AUX is all inactive. -/
def State.safeActive (s : State) (k : Nat) : Bool :=
  let g := legGrp (k / 2)
  s.flag (A.CH_CFG k) 1 && !((s.grp g).gateSafe && g != 1)

/-- R434: the effect of a write of CH_CFG. -/
def State.chCfgEffect (s : State) (k : Nat) (v : Word) : State :=
  if bit v 1 && s.flag (A.CH_CFG (k ^^^ 1)) 1 then
    ((s.store (A.CH_CFG k) (setBit v 1 false)).setBitReg A.PWM_ERR 2).raise 534
  else s.store (A.CH_CFG k) v

/-- R418: DUAL_UPD written in sawtooth mode stores 0. -/
def State.grpCfgEffect (s : State) (g : Nat) (v : Word) : State :=
  s.store (A.GRP_CFG g) (if bit v 0 then setBit v 1 false else v)

/-- R413: an odd CAR_PER written in centre mode stores the value less 1. -/
def State.carPerEffect (s : State) (g : Nat) (v : Word) : State :=
  let s1 := s.store (A.CAR_PER g) v
  if s.flag (A.GRP_CFG g) 0 then s1 else s1.clrBitReg (A.CAR_PER g) 0

/-- R417: the effect of a write of DUTY_STG. -/
def State.dutyStgEffect (s : State) (m l size lane : Nat) (v : Word) : State :=
  if m ≠ mP then (s.setBitReg A.PWM_ERR 0).raise 534
  else s.store (A.DUTY_STG l) (mergeLanes (s.reg (A.DUTY_STG l)) lane size v)

/-- DUTY_STG_WRITE (R417). -/
def dutyStgWrite (m l size : Nat) (v : Word) (s : State) : State :=
  if l < 8 then s.plainWrite .pwm m (A.DUTY_STG l) (fun s => s.dutyStgEffect m l size 0 v) else s

/-- The staged duties of a group. -/
def State.pwmStaged (s : State) (g : Nat) : List Nat := (grpLegs g).map (fun l => s.field (A.DUTY_STG l) 0 25)

/-- R418: a deadline of a group's gate; what it releases waits for the boundary. -/
def State.pwmDeadline (s : State) (g : Nat) : State :=
  if s.grpState g = 0 then s
  else
    let r := s.gateDeadline .pwm g 0x800000
    match r.2 with
    | .fresh vs => r.1.modGrp g (fun x => { x with released := some (vs, true), relSafe := false })
    | .hold vs _ => r.1.modGrp g (fun x => { x with released := some (vs, false), relSafe := false })
    | .decay vs => r.1.modGrp g (fun x => { x with released := some (vs, false), relSafe := false })
    | .safe => r.1.modGrp g (fun x => { x with released := (match (s.gate .pwm g).commit with | some _ => some ([], true) | none => none),
                                               relSafe := true })

/-- The values of a release become the applied duties, and PER_x is raised. -/
def State.applyDuties (s : State) (g : Nat) (vs : List Nat) : State :=
  let s1 := ((grpLegs g).zip vs).foldl (fun s p => s.setReg (A.DUTY_APP p.1) (wd p.2)) s
  (s1.setEdges g).raise (536 + g)

/-- The effect of a boundary on a group's state and values (R418, R419, R435). -/
def State.pwmBoundary (s : State) (g : Nat) : State :=
  let x := s.grp g
  let esc := s.flag (gateA .pwm g + 4) 3
  let s1 := s.modGrp g (fun x => { x with released := none, relSafe := false })
  let free := !s.grpBlocked g && !esc && !s.safe2
  match s.grpState g with
  | 1 => match x.released with
    | some (vs, true) => if free && !x.relSafe then (s1.setGrpState g 2).applyDuties g vs else s1
    | _ => s1
  | 2 =>
    if x.relSafe then (s1.setGrpState g 3).modGrp g (fun x => { x with gateSafe := true })
    else match x.released with
      | some (vs, _) => s1.applyDuties g vs
      | none => (s1.setEdges g).raise (536 + g)
  | 3 => match x.released with
    | some (vs, true) =>
      if free && !x.relSafe && !(g == 1 && 2 ≤ s.field A.INVF_STAT 0 2) then
        (((s1.modGrp g (fun x => { x with gateSafe := false })).setGrpState g 2).applyDuties g vs).raise 535
      else s1
    | _ => s1
  | _ => s1

/-- The duty deviation peaks of the open-phase check follow the applied REC duties (R440). -/
def State.noteDuties (s : State) : State :=
  let d := [0, 1, 2].map (fun l => (s.field (A.DUTY_APP l) 0 25 : Int))
  let sum : Int := d.foldl (· + ·) 0
  s.modPwr (fun p => { p with openD := [0, 1, 2].foldl (fun t l =>
    t.set (fun _ => 0) l (max (t.get (fun _ => 0) l) (3 * d.getD l 0 - sum).natAbs)) p.openD })

/-- CARRIER_PERIOD_START (R413, R414, R418, R419, R441): a period of the group starts, or with `peak` its centre in DUAL_UPD.
A limited length change still pending is applied to the new period. -/
def carrierPeriodStart (g : Nat) (peak : Bool) (s : State) : State :=
  if !(decide (g < 3) && s.live .pwm) || s.grpState g == 0 then s
  else if peak then (if s.flag (A.GRP_CFG g) 1 then s.pwmBoundary g else s)
  else
    let x := s.grp g
    let lim : Int := (s.field (A.GRP_LIM g) 16 16 * 32 : Nat)
    let ch := max (-lim) (min lim x.remainder)
    let base := s.carLen g
    let len := max ((base : Int) + ch).toNat (base / 2)
    let s1 := s.modGrp g (fun x => { x with
      start := s.now * 32, len := len, nom := base, remainder := x.remainder - ch, limited := 0
      limitRun := if x.limited = 0 then 0 else x.limitRun + 1 })
    let s2 := s1.pwmBoundary g
    if g = 0 then s2.noteDuties else s2

/-- RESYNC_TRIGGER (R414): a rising edge of the group's trigger, with its TB_FRAC in 1/32 tick, moves the end of the period
in progress; the change is judged against the period's length before any resynchronisation. -/
def resyncTrigger (g frac : Nat) (s : State) : State :=
  if !(decide (g < 3) && s.live .pwm && s.flag (A.GRP_CFG g) 2) || s.grpState g == 0 then s
  else
    let x := s.grp g
    let want : Int := ((s.now * 32 + frac % 32 + s.field (A.RSYNC_OFS g) 0 23 : Nat) : Int) - (x.start + x.nom : Nat)
    let lim : Int := (s.field (A.GRP_LIM g) 16 16 * 32 : Nat)
    let ch := max (-lim) (min lim want)
    let least := max ((s.now + 40) * 32) (x.start + x.nom / 2)
    let stop := max (((x.start + x.nom : Nat) : Int) + ch).toNat least
    let s1 := s.modGrp g (fun x => { x with len := stop - x.start, remainder := want - ch })
    if ch = want then s1 else (s1.setBitReg A.PWM_ERR 1).raise 523

/-! ## Control register -/

/-- R423: HR_RDY while HR_EN is 1 and both lines of every channel are calibrated. -/
def State.syncHr (s : State) : State :=
  s.setField A.PWM_STAT 8 1 (s.flag A.PWM_CTL 4 && s.pwr.hrCal == 2 ^ 32 - 1).toNat

/-- R438, R440: what holds until GRP_EN is cleared ends. -/
def State.grpOff (s : State) (g : Nat) : State :=
  ((s.setGrpState g 0).modReg (A.PLAUS_STAT g) (fun w => w &&& 0x40#32)).modPwr (fun p =>
    { p with grp := p.grp.set (fun _ => {}) g { stateAt := s.now }, chkFails := p.chkFails.set (fun _ => 0) g 0
             openRun := if g = 0 then [] else p.openRun })

/-- GRP_EN and REC_MOTOR (R419, R423, R447): the effect of a write of PWM_CTL. -/
def State.pwmCtlEffect (s : State) (v : Word) : State :=
  let motorOk := s.opt != optCP && s.grpState 0 == 2 && s.domState 1 != 0
  let refuse := bit v 6 && !s.flag A.PWM_CTL 6 && !motorOk
  let keep := bit v 6 && !refuse && s.opt != optCP
  let s1 := s.store A.PWM_CTL (setBit v 6 keep)
  let s2 := if refuse && s.opt != optCP then (s1.setBitReg A.PWM_ERR 2).raise 534 else s1
  let s3 := (List.range 3).foldl (fun s g =>
    if bit v g then (if s.grpState g = 0 then (s.setGrpState g 1).modGrp g (fun x => { x with len := s.carLen g, nom := s.carLen g, start := s.now * 32 }) else s)
    else if s.grpState g = 0 then s else s.grpOff g) s2
  let s4 := s3.modPwr (fun p => { p with motorSince := if keep then some (p.motorSince.getD s.now) else none })
  s4.syncHr

/-- GRP_EN_WRITE (R419): a write of PWM_CTL. -/
def grpEnWrite (m size : Nat) (v : Word) (s : State) : State := s.wpWrite .pwm m A.PWM_CTL size v (fun s => s.pwmCtlEffect v)

/-- REC_MOTOR_WRITE (R447): a write of PWM_CTL. -/
def recMotorWrite (m size : Nat) (v : Word) (s : State) : State := s.wpWrite .pwm m A.PWM_CTL size v (fun s => s.pwmCtlEffect v)

/-- CRANK_END (R448): CRANK_TMAX, ALT_REV or a safety trip ends cranking. -/
def crankEnd (s : State) : State :=
  if s.flag A.PWM_CTL 6 then
    (((s.clrBitReg A.PWM_CTL 6).modPwr (fun p => { p with motorSince := none })).forceSafe 0).raise 539
  else s

/-! ## Dead time and delay lines -/

/-- DEAD_TIME_STEP (R421): one step of a group's loop with the delay measured on each leg's switch node, 1/32 tick. -/
def deadTimeStep (g : Nat) (meas : List (Option Nat)) (s : State) : State :=
  if !(decide (g < 3) && s.live .pwm) then s
  else
    let k := s.field A.DT_CFG 16 4
    let seen := ((List.range (grpLegs g).length).zip meas).filterMap (fun p =>
      match p.2 with
      | some d => if s.flag A.PWM_CTL 7 && decide (d ≤ s.elem .pwm g p.1 + 6400) then some (p.1, d) else none
      | none => none)
    let s1 := seen.foldl (fun s p => s.setReg (A.DT_MEAS ((grpLegs g).headD 0 + p.1)) (setFld 0#32 0 16 p.2)) s
    s1.loopStep .pwm g (seen.map (fun p =>
      let pos := s.elem .pwm g p.1
      let d : Int := (p.2 + s.field A.DT_CFG 0 16 : Nat) - (pos : Int)
      (p.1, (pos : Int) + d.tdiv ((2 ^ k : Nat) : Int))))

/-- DELAY_LINE_SWAP (R423): the idle line of channel `k`, calibrated, becomes the live one. -/
def delayLineSwap (k : Nat) (forced : Bool) (s : State) : State :=
  if !(decide (k < 16) && s.live .pwm && s.flag A.PWM_CTL 5) then s
  else
    let live := s.flag A.HR_STAT k
    let idle := 2 * k + (!live).toNat
    let s1 := (s.setField A.HR_STAT k 1 (!live).toNat).modPwr (fun p => { p with hrCal := p.hrCal ||| 2 ^ idle })
    let s2 := s1.syncHr.bgStepDone .pwm
    if forced then (s2.modReg A.HR_STAT (fun w => satAdd w 16 16 1)).raise 524 else s2

/-! ## Opcodes -/

/-- DUTY_STAGE (R455). -/
def dutyStage (n : Nat) (s : State) : State :=
  s.whenHand .pwm n 0x10 (fun s =>
    let r := s.ring .pwm n
    let legs := (List.range 8).filter (fun l => bit (s.dw .pwm n 4) l)
    if (s.dw .pwm n 1).toNat ≠ 4 * legs.length then s.finishBad .pwm n 0x11
    else if r.host ≠ mP then s.finishBad .pwm n 0x14
    else
      let vs := s.viewWords r.host (s.dw .pwm n 2).toNat legs.length
      ((legs.zip vs).foldl (fun s p => s.store (A.DUTY_STG p.1) p.2) s).finishDone .pwm n (wd legs.length))

/-- TRIP_WAIT (R455): the descriptor waits for a trip latch. -/
def tripWait (n : Nat) (s : State) : State := s.startLog .pwm n 0x11

end Sys2Proof.Machine
end

