-- ==== Sys2Proof/Machine/Psc.lean ====
section
/-! DEFINITION. Power-stage sensing: sigma-delta filters, fast comparators, plausibility, open phases and synchronism
(10, R424 to R440, R444). -/
namespace Sys2Proof.Machine

/-! ## Sets of channels -/

/-- A channel number of SET_CFG; 15 is none. -/
def State.setChan (s : State) (g i : Nat) : Nat := s.field (A.SET_CFG g) (4 * i) 4
/-- The phase channels of a set, leg by leg. -/
def State.setPhases (s : State) (g : Nat) : List Nat := (List.range (grpLegs g).length).map (s.setChan g)
/-- V_DC of a set. -/
def State.setV (s : State) (g : Nat) : Nat := s.setChan g 4
/-- I_DC of a set. -/
def State.setI (s : State) (g : Nat) : Nat := s.setChan g 5
/-- V_OUT of a set. -/
def State.setOut (s : State) (g : Nat) : Nat := s.setChan g 6
/-- The sets that name a channel. -/
def State.setsOf (s : State) (k : Nat) : List Nat :=
  (List.range 3).filter (fun g => (List.range 7).any (fun i => s.setChan g i == k))
/-- The mask of the groups of a channel's sets. -/
def State.maskOf (s : State) (k : Nat) : Nat := (s.setsOf k).foldl (fun n g => n ||| 2 ^ g) 0

/-- The present precise value of a channel. -/
def State.prec (s : State) (k : Nat) : Int := toSigned 24 (s.field (A.SD_PREC k) 0 24)
/-- Work of a channel. -/
def State.sdChan (s : State) (k : Nat) : SdChan := s.pwr.sd.get (fun _ => {}) k

/-- R438: the reconstructed channel of a set. -/
def State.reconOf (s : State) (g : Nat) : Option Nat :=
  if s.flag (A.PLAUS_STAT g) 4 then some (s.field (A.PLAUS_STAT g) 0 4) else none

/-! ## Filters -/

/-- R425: OSR of a channel. -/
def State.osr (s : State) (k : Nat) : Nat := 64 * 2 ^ (s.field (A.SD_CFG k) 0 2)

/-- R425: the output of the precise filter for a raw sum. -/
def precOut (osr sum : Nat) : Int := min 8388607 (((sum : Int) - (osr ^ 3 / 2 : Nat)) * (2 ^ 24 / osr ^ 3 : Nat))

/-- R427: the output of the fast filter for a raw sum. -/
def fastOut (sum : Nat) : Int := min 32767 (((sum : Int) - 128) * 256)

/-- One precise value: register, time stamp, period sum, and every SD_STREAM of the channel (R425, R436, R455). -/
def State.sdStore (s : State) (v : Int) (k : Nat) : State :=
  let s1 := (s.setReg (A.SD_PREC k) (setFld 0#32 0 24 (ofSigned 24 v))).setReg (A.SD_TS k) s.tick
  let x : SdChan := { sum := (s.sdChan k).sum + v, n := (s.sdChan k).n + 1 }
  let s2 := s1.modPwr (fun p => { p with sd := p.sd.set (fun _ => {}) k x })
  (List.range 4).foldl (fun s n =>
    if s.logging .psc n 0x10 && fld (s.dw .psc n 4) 0 4 == k then
      s.logEntry .psc n [s.reg (A.SD_PREC k), s.reg (A.SD_TS k)] else s) s2

/-- R438: minus the sum of the other phases of the set. -/
def State.reconValue (s : State) (g k : Nat) : Int :=
  let t := ((s.setPhases g).filter (· ≠ k)).foldl (fun (t : Int) j => t + s.prec j) 0
  max (-8388608) (min 8388607 (-t))

/-- R449: DCE_ACC and DCP at an output of the REC set's I_DC channel. -/
def State.integrate (s : State) (k : Nat) : State :=
  if k = s.setI 0 ∧ s.setV 0 < 12 then
    let sc : Int := (s.field (A.SD_SCALE 0) 0 16 * s.field (A.SD_SCALE 0) 16 16 : Nat)
    let p := s.prec k * s.prec (s.setV 0) * sc
    let unit : Int := 2 ^ 46 * 40000000000
    let tot := s.pwr.dceRem + p * (s.osr k * 20 : Nat)
    let s1 := (s.modReg A.DCE_ACC (fun w => w + BitVec.ofInt 32 (tot / unit))).modPwr (fun q => { q with dceRem := tot % unit })
    s1.setReg A.DCP (BitVec.ofInt 32 (p / (2 ^ 46 * 1000)))
  else s

/-- The current peaks of the open-phase check and the V_OUT peak follow each output (R440, R444). -/
def State.notePeaks (s : State) (k : Nat) : State :=
  let v := (s.prec k).natAbs
  let legs := [0, 1, 2].filter (fun l => s.setChan 0 l == k)
  s.modPwr (fun p => { p with
    openI := legs.foldl (fun t l => t.set (fun _ => 0) l (max v (t.get (fun _ => 0) l))) p.openI
    voutPeak := if s.setOut 1 = k then max v p.voutPeak else p.voutPeak })

/-- SD_OUTPUT (R424 to R426): the precise filter of channel `k` completes an output with raw sum `sum`; a failed input holds
its last output, a reconstructed channel follows the others of its set. -/
def sdOutput (k sum : Nat) (s : State) : State :=
  let on := decide (k < 12) && s.live .psc && s.flag A.PSC_CTL k && s.flag A.PSC_CTL (12 + s.field (A.SD_CFG k) 6 1) &&
    decide (sum ≤ s.osr k ^ 3)
  if !on || s.flag A.PSC_STAT k then s
  else
    let own := (s.setsOf k).any (fun g => s.reconOf g == some k)
    let s1 := if own then s else ((s.sdStore (precOut (s.osr k) sum) k).notePeaks k).integrate k
    (List.range 3).foldl (fun s g => match s.reconOf g with
      | some j => if (s.setPhases g).contains k && j != 15 then (s.sdStore (s.reconValue g j) j).notePeaks j else s
      | none => s) s1

/-! ## Sense failures (R428, R436 to R439) -/

/-- R439: the group is forced safe, SENSE latches and SENSE_TRIP is raised. -/
def State.senseTrip (s : State) (g : Nat) : State :=
  let s1 := s.modPwr (fun p => { p with senseGroups := p.senseGroups ||| 2 ^ g })
  ((s1.tripCause 16 (2 ^ g)).setBitReg A.PSC_ERR 1).raise 585

/-- SD_FAIL (R428, R439): the input is stuck or has no clock. An AUX channel, or a second channel of a reconstructed set,
trips the group. -/
def sdFail (k : Nat) (s : State) : State :=
  if !(decide (k < 12) && s.live .psc && s.flag A.PSC_CTL k) then s
  else
    let s1 := (s.setBitReg A.PSC_STAT k).raise 580
    (s.setsOf k).foldl (fun s g =>
      let second := match s.reconOf g with | some j => j != k | none => false
      if g = 2 || second then s.senseTrip g else s) s1

/-- R428: clearing SD_EN of a channel ends its failure. -/
def State.pscCtlEffect (s : State) (v : Word) : State :=
  let s1 := s.store A.PSC_CTL v
  s1.modReg A.PSC_STAT (fun w => w &&& (v ||| 0xFFFFF000#32))

/-- An exact mean as a numerator and a denominator. -/
structure Mean where
  num : Int
  den : Nat
  deriving DecidableEq, Repr

/-- R436: the mean of the precise outputs of the period; the held output when none completed. -/
def State.mean (s : State) (k : Nat) : Mean :=
  let x := s.sdChan k
  if x.n = 0 then ⟨s.prec k, 1⟩ else ⟨x.sum, x.n⟩

/-- Sum of means. -/
def Mean.add (a b : Mean) : Mean := ⟨a.num * b.den + b.num * a.den, a.den * b.den⟩
/-- Product of means. -/
def Mean.mul (a b : Mean) : Mean := ⟨a.num * b.num, a.den * b.den⟩
/-- Negation. -/
def Mean.neg (a : Mean) : Mean := ⟨-a.num, a.den⟩

/-- The sum of the phase means. -/
def meanSum (l : List Mean) : Mean := l.foldl Mean.add ⟨0, 1⟩

/-- R436: the sum check passes: |sum| of the phase currents at most SUM_TOL % of RATED. Currents are in full scale / 2^23,
full scale in 10 mA, RATED in 0.1 A. -/
def State.sumOk (s : State) (g : Nat) (i : List Mean) : Bool :=
  let t := meanSum i
  decide (t.num.natAbs * s.field (A.SD_SCALE g) 0 16 * 100 ≤
    s.field (A.PLAUS_CFG g) 0 8 * s.field (A.RATED g) 0 16 * 10 * 2 ^ 23 * t.den)

/-- R436: the power check passes. Duties are in 1/2^24; `d_ref` is the mean duty of REC and the N leg's duty of INV. -/
def State.powerOk (s : State) (g : Nat) (i : List Mean) : Bool :=
  let d := (grpLegs g).map (fun l => (s.field (A.DUTY_APP l) 0 25 : Int))
  let ref : Mean := if g = 0 then ⟨d.foldl (· + ·) 0, 3⟩ else ⟨d.getD 3 0, 1⟩
  let v := s.mean (s.setV g)
  let ac := meanSum ((d.zip i).map (fun p => ((Mean.mk p.1 1).add ref.neg).mul p.2))
  -- (ac - 2^24 * I_dc) * V_dc, in 1/2^24 of the units of V * I
  let diff := (ac.add ⟨-(s.mean (s.setI g)).num * 2 ^ 24, (s.mean (s.setI g)).den⟩).mul v
  decide ((diff.num.natAbs * s.field (A.SD_SCALE g) 0 16 * 100 * v.den : Int) ≤
    (s.field (A.PLAUS_CFG g) 8 8 * s.field (A.RATED g) 0 16 * 10 * 2 ^ 23 * 2 ^ 24 * diff.den : Nat) * v.num)

/-- Both checks of a set. -/
def State.checksOk (s : State) (g : Nat) (i : List Mean) : Bool := (g == 2 || (s.sumOk g i && s.powerOk g i))

/-- R437: the failed channel: the one with SD_FAIL, else the single phase whose replacement by minus the sum of the others
passes both checks. `none` when none or more than one is found. -/
def State.failedChannel (s : State) (g : Nat) : Option Nat :=
  let ph := s.setPhases g
  let i := ph.map s.mean
  let dead := (ph ++ [s.setV g, s.setI g]).filter (fun k => s.flag A.PSC_STAT k)
  let cands := if dead.isEmpty then
      ((List.range ph.length).filter (fun j =>
        let rest := meanSum ((List.range ph.length).filterMap (fun q => if q = j then none else i[q]?))
        s.checksOk g (i.set j rest.neg))).map (fun j => ph.getD j 15)
    else dead
  match cands with
  | [k] => if ph.contains k then some k else none
  | _ => none

/-- R438: exactly one channel is found: it is reconstructed and the set derated. -/
def State.reconstruct (s : State) (g k : Nat) : State :=
  let s1 := s.modReg (A.PLAUS_STAT g) (fun w => setBit (setBit (setFld w 0 4 k) 4 true) 5 true)
  (s1.sdStore (s1.reconValue g k) k).raise 584

/-- The channels of a set that its checks need. -/
def State.setNeeds (s : State) (g : Nat) : List Nat := s.setPhases g ++ [s.setV g, s.setI g]

/-- PLAUSIBILITY_CHECK (R436 to R439): the checks of a set at the end of a carrier period. -/
def plausibilityCheck (g : Nat) (s : State) : State :=
  if !(decide (g < 3) && s.live .psc) then s
  else if (s.setNeeds g).any (fun k => decide (12 ≤ k)) then s.setBitReg (A.PLAUS_STAT g) 6
  else
    let s0 := s.clrBitReg (A.PLAUS_STAT g) 6
    let ok := s0.checksOk g ((s0.setPhases g).map s0.mean) && !((s0.setNeeds g).any (fun k =>
      s0.flag A.PSC_STAT k && s0.reconOf g != some k))
    let n := if ok then 0 else s0.pwr.chkFails.get (fun _ => 0) g + 1
    let lim := s0.field (A.PLAUS_CFG g) 16 4
    let s1 := s0.modPwr (fun p => { p with
      chkFails := p.chkFails.set (fun _ => 0) g (if lim ≤ n then 0 else n) })
    let s2 := if ok || decide (n < lim) then s1
      else
        let s2 := (s1.setBitReg A.PSC_ERR 0).raise 583
        match s1.reconOf g, s1.failedChannel g with
        | none, some k => s2.reconstruct g k
        | _, _ => s2.senseTrip g
    s2.modPwr (fun p => { p with sd := (s.setNeeds g).foldl (fun t k => t.set (fun _ => {}) k {}) p.sd })

/-! ## Open alternator phase (R440) -/

/-- A leg fails the check of the ALT cycle. -/
def State.legOpen (s : State) (l : Nat) : Bool :=
  decide (s.pwr.openI.get (fun _ => 0) l * s.field (A.SD_SCALE 0) 0 16 * 100 <
    s.field A.OPEN_CFG 0 8 * s.field (A.RATED 0) 0 16 * 10 * 2 ^ 23) &&
  decide (3 * s.field A.OPEN_CFG 8 8 * 2 ^ 24 ≤ s.pwr.openD.get (fun _ => 0) l * 100)

/-- A leg has failed OPEN_N cycles in a row; a second one forces REC into SAFE with SENSE latched. -/
def State.openLeg (s : State) (l : Nat) : State :=
  if s.flag (A.PLAUS_STAT 0) 7 then
    (if s.field (A.PLAUS_STAT 0) 8 2 = l then s
     else (s.modPwr (fun p => { p with senseGroups := p.senseGroups ||| 1 })).tripCause 16 1)
  else
    let s1 := s.modReg (A.PLAUS_STAT 0) (fun w => setFld (setBit w 7 true) 8 2 l)
    ((s1.setEdges 0).setBitReg A.PSC_ERR 2).raise 586

/-- OPEN_PHASE_CHECK (R440): an ALT electrical cycle ends. -/
def openPhaseCheck (s : State) : State :=
  let run := s.live .psc && s.opt != optCP && s.domState 1 == 3 && s.grpState 0 == 2
  let s1 := if !run then s else
    (List.range 3).foldl (fun s l =>
      let n := if s.legOpen l then s.pwr.openRun.get (fun _ => 0) l + 1 else 0
      let s1 := s.modPwr (fun p => { p with openRun := p.openRun.set (fun _ => 0) l n })
      if 0 < n ∧ s.field A.OPEN_CFG 16 4 ≤ n then s1.openLeg l else s1) s
  s1.modPwr (fun p => { p with openI := [], openD := [] })

/-! ## Fast comparators (R429, R438, R440, R441) -/

/-- The percentage an FC threshold is scaled to: 60 for a derated set, 50 for two-phase REC, LIM_FAULT for a faulted INV. -/
def State.fcScale (s : State) (k : Nat) : Nat × Nat :=
  (s.setsOf k).foldl (fun (a : Nat × Nat) g =>
    let a1 := if s.flag (A.PLAUS_STAT g) 5 && (s.setPhases g).contains k then (a.1 * 60, a.2 * 100) else a
    let a2 := if g = 0 ∧ s.flag (A.PLAUS_STAT 0) 7 = true then (a1.1 * 50, a1.2 * 100) else a1
    if g = 1 ∧ s.pwr.limFault = true then (a2.1 * s.field A.INVF_CFG 24 8, a2.2 * 100) else a2) (1, 1)

/-- The leg whose phase current a channel is. -/
def State.phaseLeg (s : State) (k : Nat) : Option Nat :=
  ((List.range 3).flatMap (fun g => (grpLegs g).zip (s.setPhases g))).find? (fun p => p.2 == k) |>.map (·.1)

/-- FAST_COMPARATOR_CROSSING (R427, R429): the fast sum `sum` of channel `k` stands outside its thresholds. A limit ends a
channel of the leg for the rest of the half-period; for a channel that is no phase current it does nothing. -/
def fastComparatorCrossing (k sum : Nat) (s : State) : State :=
  if !(decide (k < 12) && s.live .psc && s.flag A.PSC_CTL k) || s.flag A.PSC_STAT k then s
  else
    let x := match (s.setsOf k).find? (fun g => s.reconOf g == some k) with
      | some _ => s.prec k / 256
      | none => fastOut sum
    let sc := s.fcScale k
    let hi := toSigned 16 (s.field (A.FC_THR k) 0 16) * sc.1 < x * sc.2
    let lo := x * sc.2 < toSigned 16 (s.field (A.FC_THR k) 16 16) * sc.1
    if ¬ (hi ∨ lo) then s
    else
      let act := s.field A.FC_ACT (2 * k) 2
      let a := if act = 0 then 0 else if s.setsOf k = [] then 1 else act
      match a with
      | 0 => s
      | 1 => s.raise 581
      | 2 => match s.phaseLeg k with
        | some l =>
          let g := legGrp l
          let first := match s.pwr.lastLimit with | some t => decide (400000 ≤ s.now - t) | none => true
          let x := s.grp g
          let t := s.now * 32 - x.start
          let stop := if t < x.len / 2 then x.len / 2 else x.len
          let s1 := (s.modGrp g (fun y => { y with limited := y.limited ||| 2 ^ l })).modPwr (fun p => { p with
            lastLimit := some s.now
            legs := p.legs.set (fun _ => {}) l (let e := p.legs.get (fun _ => {}) l; { e with cuts := e.cuts ++ [(decide hi, t, stop)] }) })
          if first then s1.raise 582 else s1
        | none => s
      | _ =>
        let m := s.maskOf k
        (s.modPwr (fun p => { p with fcGroups := p.fcGroups ||| m })).tripCause 17 m

/-! ## Safe-output readback -/

/-- The first output entry of the SA parameter block with this ROLE (Tables SAF-8 and SAF-10). -/
def State.soWithRole (s : State) (role : Nat) : Option Nat :=
  (List.range 4).find? (fun n => (s.byte (0x30600000 + 0x150 + 16 * n)).toNat == role)

/-- R731: safe output `n` is on: both elements read back on. -/
def State.soOn (s : State) (n : Nat) : Bool := s.wires.sofb.getLsbD (2 * n) && s.wires.sofb.getLsbD (2 * n + 1)

/-- The readback of the outlet output (ROLE 1) shows on. -/
def State.outletOn (s : State) : Bool := match s.soWithRole 1 with | some n => s.soOn n | none => false
/-- The readback of the transfer output (ROLE 2) shows on. -/
def State.transferOn (s : State) : Bool := match s.soWithRole 2 with | some n => s.soOn n | none => false

/-- R446: the tick from which transfer contactor and INV run in parallel. -/
def State.parSince (s : State) : Option Nat :=
  if s.live .psc && s.transferOn && s.grpState 1 == 2 then some (max s.pwr.transAt (s.grp 1).stateAt) else none

/-! ## Synchronism and snapshot -/

/-- R444: SYNC_OK. -/
def State.syncOk (s : State) : Bool :=
  let ph := toSigned 20 (s.field A.INV_STAT 12 20)
  let diff := ((s.pwr.voutAmpl : Int) - s.field A.GRD_AMPL 0 24).natAbs
  s.live .psc && s.flag A.INV_STAT 0 && decide (ph.natAbs ≤ s.field A.INV_CFG 16 16) &&
    decide (diff * 1000 ≤ s.field A.XFER_CFG 0 8 * s.field A.GRD_AMPL 0 24)

/-- An INV cycle ends: the V_OUT amplitude of the cycle is its peak (R444). -/
def State.voutCycle (s : State) : State := s.modPwr (fun p => { p with voutAmpl := p.voutPeak, voutPeak := 0 })

/-- What PSC_STAT reads. -/
def State.pscStat (s : State) : Word := setBit (s.reg A.PSC_STAT) 13 s.syncOk
/-- What XFER_STAT reads: SYNC_OK, PARALLEL and the parallel time in ms. -/
def State.xferStat (s : State) : Word :=
  let t := match s.parSince with | some t => (s.now - t) / 400000 | none => 0
  setFld (setBit (setBit 0#32 0 s.syncOk) 1 s.parSince.isSome) 16 16 (min t 65535)

/-- SD_STREAM (R455). -/
def sdStream (n : Nat) (s : State) : State := s.startLog .psc n 0x10

/-- PSC_SNAP (R455). -/
def pscSnap (n : Nat) (s : State) : State :=
  s.whenHand .psc n 0x11 (fun s =>
    let ws := (List.range 12).map (fun k => s.reg (A.SD_PREC k)) ++ (List.range 12).map (fun k => s.reg (A.SD_TS k)) ++
      [s.reg A.DCE_ACC, s.reg A.DCP, s.reg (A.PLAUS_STAT 0), s.reg (A.PLAUS_STAT 1), s.reg (A.PLAUS_STAT 2),
       s.reg A.INVF_STAT, s.xferStat, 0#32]
    (s.putWords (s.ring .psc n).host (s.dw .psc n 2).toNat ws).finishDone .psc n (s.reg A.DCE_ACC))

/-! ## Efficiency governor (R449 to R453) -/

/-- Changes the governor's hidden state. -/
def State.modEgv (s : State) (f : EgvSt → EgvSt) : State := { s with egv := f s.egv }

/-- R450, R452: no perturbation in PARK, nor while the SAFE action of domain 2 holds. -/
def State.egvStill (s : State) : Bool := (s.loop .egv 0).mode == 0 || s.safe2

/-- EGV_SET for a half (R450, R452). -/
def State.egvSet (s : State) (half : Nat) : State :=
  let pos := s.elem .egv 0 0
  let amp : Int := s.field A.EGV_CFG 0 8
  let v := if s.egvStill then pos else
    (max (s.loopLo .egv 0 : Int) (min (s.loopHi .egv 0) ((pos : Int) + (if half = 0 then amp else -amp)))).toNat
  s.modReg A.EGV_SET (fun w => setBit (setFld w 0 16 v) 16 (half == 0 && !s.egvStill))

/-- The energy since the start of the span, in 0.1 J. -/
def State.egvEnergy (s : State) : Int := toSigned 32 ((s.reg A.DCE_ACC).toNat + 2 ^ 32 - s.egv.e0)

/-- EGV_HALF_SWITCH (R450): the governor goes on to the next span of its period: measuring the high half, settling low,
measuring low. -/
def egvHalfSwitch (s : State) : State :=
  if !s.live .egv then s
  else match s.egv.phase with
    | 0 => (s.modEgv (fun e => { e with phase := 1, e0 := (s.reg A.DCE_ACC).toNat, fuel := [], energy := [], doubt := false }))
    | 1 => (s.modEgv (fun e => { e with phase := 2, energy := e.energy.set (fun _ => 0) 0 s.egvEnergy })).egvSet 1
    | 2 => s.modEgv (fun e => { e with phase := 3, e0 := (s.reg A.DCE_ACC).toNat })
    | _ => s

/-- A rounded ratio: to the nearest whole number, a tie away from 0. -/
def roundDiv (num : Int) (den : Int) : Int :=
  let q := (2 * num.natAbs + den.natAbs) / (2 * den.natAbs)
  if (0 ≤ num) = (0 ≤ den) then q else -(q : Int)

/-- Appends the record of a period to every EGV_LOG in hand (R455). -/
def State.egvLogAll (s : State) (step : Int) (cause : Word) : State :=
  (List.range 2).foldl (fun s n =>
    if s.logging .egv n 0x10 then
      s.logEntry .egv n [s.tick, wd (s.elem .egv 0 0), s.reg A.EGV_SET, s.reg A.EGV_JHI, s.reg A.EGV_JLO,
        BitVec.ofInt 32 step, cause, wd (s.field A.EGV_SET 24 8)]
    else s) s

/-- The skip cause of a period, as the bit of EGV_ERR; `none` when it is used (R450). -/
def State.egvSkip (s : State) (e0 e1 : Int) : Option Nat :=
  let noFuel := !(s.live .eng && s.flag A.ENG_CTL 2)
  let noEnergy := decide (12 ≤ s.setI 0) || decide (12 ≤ s.setV 0)
  let emin : Int := (s.reg A.EGV_EMIN).toNat
  let tol : Int := s.field A.EGV_CFG 24 8
  if s.egv.doubt then some 0
  else if noFuel || noEnergy then some 3
  else if e0 < emin ∨ e1 < emin then some 2
  else if tol * (e0 + e1) < ((e0 - e1).natAbs : Int) * 200 then some 1
  else none

/-- EGV_PERIOD_END (R450, R451): a governor period ends; a ratio whose divisor is 0 is a value the spec does not state. -/
def egvPeriodEnd (s : State) : State :=
  if !(s.live .egv && s.egv.phase == 3) then s
  else
    let e0 := s.egv.energy.get (fun _ => 0) 0
    let e1 := s.egvEnergy
    let next (s : State) : State :=
      ((s.modReg A.EGV_SET (fun w => wrapAdd w 24 8 1)).modEgv (fun e => { e with phase := 0 })).egvSet 0
    if s.egvStill then next (s.loopStep .egv 0 [])
    else match s.egvSkip e0 e1 with
      | some c =>
        let s1 := ((s.setBitReg A.EGV_ERR c).modReg A.EGV_CNT (fun w => satAdd w 16 16 1)).raise 644
        next ((s1.loopStep .egv 0 []).egvLogAll 0 (bitMask c))
      | none =>
        let f0 := 1000 * s.egv.fuel.get (fun _ => 0) 0
        let f1 := 1000 * s.egv.fuel.get (fun _ => 0) 1
        let s0 := if e0 = 0 ∨ e1 = 0 ∨ f0 + f1 = 0 then s.useFree else s
        let open_ : Int := s.freeWord.toNat
        let jhi := if e0 = 0 then open_ else (f0 : Int) / e0
        let jlo := if e1 = 0 then open_ else (f1 : Int) / e1
        let mx : Int := s.field A.EGV_GAIN 16 16
        let raw := if jhi + jlo = 0 then open_ else
          -(roundDiv ((s.field A.EGV_GAIN 0 16 : Int) * 200 * (jhi - jlo)) (jhi + jlo))
        let step := max (-mx) (min mx raw)
        let s1 := ((s0.setReg A.EGV_JHI (BitVec.ofInt 32 jhi)).setReg A.EGV_JLO (BitVec.ofInt 32 jlo)).setReg A.EGV_STEP
          (setFld 0#32 0 16 (ofSigned 16 step))
        let s2 := (s1.loopStep .egv 0 [(0, (s.elem .egv 0 0 : Int) + step)]).modReg A.EGV_CNT (fun w => satAdd w 0 16 1)
        next ((s2.raise 642).egvLogAll step 0#32)

/-- EGV_LOG (R455). -/
def egvLog (n : Nat) (s : State) : State := s.startLog .egv n 0x10

end Sys2Proof.Machine
end

