-- ==== Sys2Proof/Machine/Metro.lean ====
section
/-! DEFINITION. Sealed metrology: converters and the reel, samples and energy, windows, the seal, calibration and the
legally relevant log (12, R505 to R555). -/
namespace Sys2Proof.Machine

/-- Changes metrology's hidden state. -/
def State.modMet (s : State) (f : MetSt → MetSt) : State := { s with met := f s.met }

/-- A parameter of the set in use: the working set while the seal is open, else the committed one (R541). -/
def State.param (s : State) (i : Nat) : Nat := (if s.sealOpen then s.met.work else s.met.params).getD i 0

/-- Round to the nearest integer, a half up. -/
def roundI (n : Int) (d : Nat) : Int := (2 * n + (d : Int)) / ((2 * d : Nat) : Int)

/-- Integer square root: the bits from `k - 1` down. -/
def isqrtFrom (x : Nat) : Nat → Nat → Nat
  | 0, r => r
  | k + 1, r => let t := r + 2 ^ k; isqrtFrom x k (if t * t ≤ x then t else r)

/-- The nearest integer to the square root of n / d, below 2^40. -/
def rootNear (n d : Nat) : Nat := (isqrtFrom (4 * n / d) 41 0 + 1) / 2

/-! ## The log (R549 to R551) -/

/-- Entries in use. -/
def State.logUsed (s : State) : Nat := s.field A.MET_LOG 0 16

/-- MET_LOG and the level bits of MET_SEAL follow the entries in use (R551, R536). -/
def State.setLogUsed (s : State) (u : Nat) : State :=
  let free := 1280 - u
  let s1 := s.setReg A.MET_LOG (setFld (wd u) 16 16 free)
  let low := decide (free < 16)
  let s2 := s1.modReg A.MET_SEAL (fun w => setBit (setBit w 3 low) 4 (free < 8))
  if low && !s.flag A.MET_SEAL 3 then s2.raise 784 else s2

/-- The address of a log entry. -/
def logAddr (i : Nat) : Nat := 0x08806000 + 32 * i

/-- R550: appends an entry; `ok` is its programming. -/
def State.metLog (s : State) (typ : Nat) (data : List Byte) (ok : Bool) : State :=
  let u := s.logUsed
  if 1280 ≤ u then s
  else
    let prev := if u = 0 then zeros 32 else s.bytes (logAddr (u - 1)) 32
    let body := natLe 4 u ++ natLe 4 s.seconds ++ [BitVec.ofNat 8 typ, 0#8] ++ natLe 2 (s.word 0x50000300).toNat ++
      (data ++ zeros (16 - data.length))
    if ok then (s.flashProgram (logAddr u) (body ++ (shaHash sha256 (prev ++ body)).take 4)).setLogUsed (u + 1)
    else
      let f := s.freeBytes 8
      ((f.2.flashProgram (logAddr u) f.1).flashFail (logAddr u) false).setLogUsed (u + 1)

/-- R551: the limit interval: the calendar month while calendar time is valid. -/
def State.logInterval (s : State) : Option Nat :=
  if s.calValid then let d := dateOf (s.seconds / 86400); some (12 * d.year + d.month) else none

/-- R551: appends a limited entry: while 16 are free, once per set and once per clear in each interval. -/
def State.metLogLimited (s : State) (typ : Nat) (set : Bool) (data : List Byte) : State :=
  let iv := s.logInterval
  let s1 := if s.met.logIv = iv then s else s.modMet (fun m => { m with logIv := iv, logged := [] })
  if 16 ≤ 1280 - s1.logUsed ∧ s1.met.logged.contains (typ, set) = false then
    let full := data ++ zeros (15 - data.length) ++ [if iv.isNone then 1#8 else 0#8]
    (s1.metLog typ full true).modMet (fun m => { m with logged := m.logged ++ [(typ, set)] })
  else s1

/-- METER_FAULT follows its causes, an unmeasured input or no valid calibration copy; a change is logged, a set raised
(R523, R547). -/
def State.syncFault (s : State) : State :=
  let un := s.field A.MET_STAT 16 6
  let f := un != 0 || !s.metCalValid
  if f = s.meterFault then s
  else
    let s1 := (s.modReg A.MET_STAT (fun w => setBit w 3 f)).metLogLimited 0x06 f [if f then 1#8 else 0#8, BitVec.ofNat 8 un]
    if f then s1.raise 778 else s1

/-! ## Converters and the reel (R512 to R524) -/

/-- What converter `c` serves: an input code, 6 spare, 7 excluded (REEL_MAP). -/
def State.convMap (s : State) (c : Nat) : Nat := s.field A.REEL_MAP (3 * c) 3
/-- Sets what a converter serves. -/
def State.setConv (s : State) (c v : Nat) : State := s.setField A.REEL_MAP (3 * c) 3 v
/-- The converter that serves an input. -/
def State.convOf (s : State) (i : Nat) : Option Nat := (List.range 7).find? (fun c => s.convMap c == i)
/-- The inputs that are measured: all six, or V1 and I1 in single-phase wiring. -/
def State.inputs (s : State) : List Nat := if s.param 0 = 1 then [0, 3] else [0, 1, 2, 3, 4, 5]
/-- The spare converter, 7 for none. -/
def State.spare (s : State) : Nat := s.field A.REEL_STAT 0 3
/-- R514: the input due next: the one whose converter has been live longest, the lower code among equals. -/
def State.inputDue (s : State) : Nat :=
  (s.inputs.foldl (fun (b : Option Nat) i => match b with
    | none => some i
    | some j => if s.met.since.getD i 0 < s.met.since.getD j 0 then some i else some j) none).getD 0

/-- REEL_STAT shows the spare and the input due; with no spare the reel has stopped (R517). -/
def State.syncReel (s : State) : State :=
  let sp := if (s.convMap s.spare == 6) then s.spare else ((List.range 7).find? (fun c => s.convMap c == 6)).getD 7
  let s1 := s.modReg A.REEL_STAT (fun w => setFld (setFld w 0 3 sp) 4 3 s.inputDue)
  if sp = 7 then s1.setBitReg A.MET_STAT 5 else s1

/-- R516, R517, R522: a converter is excluded, logged and told. -/
def State.exclude (s : State) (c reason : Nat) : State :=
  let s1 := (s.setConv c 7).modReg A.REEL_CNT (fun w => satAdd w 28 4 1)
  (s1.metLogLimited 0x07 true [BitVec.ofNat 8 c, BitVec.ofNat 8 reason]).raise 777

/-- R512: an offset within 1 % of full scale. -/
def offsetOk (o : Int) : Bool := decide (o.natAbs * 100 ≤ 8388607)

/-- Twice the nominal reading of VREF, 400 mV of 480 mV, in thirds of a code. -/
def vrefSpan3 : Int := 41943040

/-- R512: a gain within 2 % of nominal, from the readings of +VREF and -VREF. -/
def gainOk (p m : Int) : Bool := decide ((3 * (p - m) - vrefSpan3).natAbs * 50 ≤ 41943040)

/-- The gain constant in 2^-30: nominal over measured. -/
def gainOf (p m : Int) : Nat := (roundI (1073741824 * vrefSpan3) (3 * (p - m)).toNat).toNat

/-- The last seal entry of the log is SEAL_OPEN: its index; and the count of the last SEAL_OPEN entry (R542, R543). -/
def State.sealEntries (s : State) : Bool × Option Nat :=
  (List.range s.logUsed).foldl (fun (r : Bool × Option Nat) i =>
    let t := (s.byte (logAddr i + 8)).toNat
    if t = 1 then (true, some (s.word (logAddr i + 12)).toNat) else if t = 2 then (false, r.2) else r) (false, none)

/-- The address of calibration copy A (0) or B (1). -/
def calAddr (k : Nat) : Nat := if k = 0 then 0x08804000 else 0x08805000

/-- R547: a copy is valid: its CRC matches. -/
def State.calOk (s : State) (k : Nat) : Bool := crcBytes (s.bytes (calAddr k) 88) == (s.word (calAddr k + 88)).toNat

/-- R547: the copy in use, if one is valid. -/
def State.calCopyUsed (s : State) : Option Nat :=
  let q (k : Nat) : Nat := (s.word (calAddr k)).toNat
  match s.calOk 0, s.calOk 1 with
  | true, true => some (if q 0 < q 1 then 1 else 0)
  | true, false => some 0
  | false, true => some 1
  | false, false => none

/-- The seal counter shows in MET_SEAL. -/
def State.syncSealCnt (s : State) : State := s.setField A.MET_SEAL 16 16 (s.word 0x50000300).toNat

/-- R547: the parameters come from the valid copy with the higher sequence number, or are the defaults. -/
def State.loadParams (s : State) : State :=
  match s.calCopyUsed with
  | some k =>
    let l := (List.range 21).map (fun i => (s.word (calAddr k + 4 + 4 * i)).toNat)
    ((s.modMet (fun m => { m with work := l, params := l })).setReg A.MET_CAL_SEQ (s.word (calAddr k))).setBitReg A.MET_STAT 2
  | none =>
    let d : MetSt := {}
    (s.modMet (fun m => { m with work := d.params, params := d.params })).clrBitReg A.MET_STAT 2

/-- R531: the source that the confirmed readback selects: 0 grid, 1 genset. -/
def State.srcTag (s : State) (closed : Bool) : Nat :=
  match s.param 15 with
  | 0 => 0
  | 1 => 1
  | 2 => if closed then 0 else 1
  | _ => if closed then 1 else 0

/-- MET_CONVERTER_START (R512, R542, R543, R547): the seven converters have measured their offset, +VREF and -VREF; those
that pass take the inputs in order, the next one is the spare, and measurement starts. -/
def metConverterStart (cal : List (Int × Int × Int)) (s : State) : State :=
  if !s.mRuns || s.measRun || s.met.dead then s
  else
    let used := ((List.range 1280).find? (fun i => (s.bytes (logAddr i) 32).all (· == 0xFF#8))).getD 1280
    let s1 := (s.setLogUsed used).loadParams
    let se := s1.sealEntries
    let s2 := match se.2 with
      | some k => if (s1.word 0x50000300).toNat < k then s1.setWord 0x50000300 (wd k) else s1
      | none => s1
    let s3 := (if se.1 then s2.metLog 0x02 [1#8] true else s2).syncSealCnt
    let at' (c : Nat) : Int × Int × Int := cal.getD c (0, 0, 0)
    let pass := (List.range 7).filter (fun c => offsetOk (at' c).1 && gainOk (at' c).2.1 (at' c).2.2)
    let s4 := s3.modMet (fun m => { m with
      offs := (List.range 7).map (fun c => (at' c).1)
      gain := (List.range 7).map (fun c => if pass.contains c then gainOf (at' c).2.1 (at' c).2.2 else 0x40000000) })
    let s5 := s4.setReg A.REEL_MAP 0x001FFFFF#32
    let s6 := ((List.range 7).filter (fun c => !pass.contains c)).foldl (fun s c => s.exclude c 1) s5
    let ins := s6.inputs
    let s7 := (List.range pass.length).foldl (fun s i => s.setConv (pass.getD i 0) (if i < ins.length then ins.getD i 0 else 6)) s6
    let un := (ins.drop pass.length).foldl (fun u i => u ||| 2 ^ i) 0
    let s8 := (s7.setField A.MET_STAT 16 6 un).modMet (fun m => { m with n := 0, phase := 0, due := 1, defers := 0, hist := [] })
    let s9 := (s8.modMet (fun m => { m with srcSeen := 0, srcRun := 0, srcConf := 0 })).setField A.MET_SRC 0 1 (s8.srcTag false)
    ((s9.setBitReg A.MET_STAT 1).syncReel).syncFault

/-- Samples of one reel period. -/
def State.reelPer (s : State) : Nat := 8000 * s.param 18
/-- The sample of the due time D of R513. -/
def State.reelDue (s : State) : Nat := s.met.due * s.reelPer

/-- REEL_PHASE (R513, R517, Table MET-3): the spare's phase ends and the next begins; `avg` is the reading it averaged. -/
def reelPhase (avg : Int) (s : State) : State :=
  let d := s.reelDue
  let p := s.reelPer
  let n := s.met.n
  let c := s.spare
  if !s.measRun || c = 7 || s.flag A.MET_STAT 5 then s
  else match s.met.phase with
    | 0 => if d + 16000 ≤ n + p then s.modMet (fun m => { m with phase := 1, calOff := avg }) else s
    | 1 => if d + 40000 ≤ n + p then s.modMet (fun m => { m with phase := 2, calPos := avg }) else s
    | 2 =>
      if d + 64000 ≤ n + p then
        if offsetOk s.met.calOff && gainOk s.met.calPos avg then
          s.modMet (fun m => { m with phase := 3, offs := m.offs.set c m.calOff, gain := m.gain.set c (gainOf m.calPos avg) })
        else ((s.exclude c 1).modMet (fun m => { m with phase := 0 })).syncReel
      else s
    | 3 => if d ≤ n + 10000 then s.modMet (fun m => { m with phase := 4 }) else s
    | _ => s

/-- M is signing a record or saving at power fail (R518). -/
def State.mBusy (s : State) : Bool := s.bil.signing.isSome || s.bil.pfWarn

/-- REEL_OVERLAP_START (R518): the overlap due starts, or is deferred by one sample. -/
def reelOverlapStart (s : State) : State :=
  if !s.measRun || s.met.phase ≠ 4 || s.met.n + 2000 < s.reelDue + s.met.defers then s
  else if s.mBusy && s.met.defers < 64 then (s.modMet (fun m => { m with defers := m.defers + 1 })).bgPreempt .met
  else (s.modMet (fun m => { m with phase := 5, ovN := 0, ovLive := 0, ovSpare := 0 })).bgStepDone .met

/-- REEL_TAKEOVER (R515, R516, R520): the overlap has ended; `delay` is the delay difference in 2^-16 sample. -/
def reelTakeover (delay : Int) (s : State) : State :=
  if !s.measRun || s.met.phase ≠ 5 || s.met.ovN < 2000 then s
  else
    let i := s.inputDue
    let sp := s.spare
    match s.convOf i with
    | none => s
    | some live =>
      let l := s.met.ovLive.toNat
      let q := s.met.ovSpare.toNat
      let noSig := decide (l * 10000 < 2000 * (8388607 * 2 ^ 60) ^ 2)
      -- gain ratio - 1 in ppm, from the two rms values
      let ppm : Int := if q = 0 then 0 else (rootNear (l * 10 ^ 12) q : Int) - 1000000
      let sat (x : Int) : Int := max (-32768) (min 32767 x)
      let out := !noSig && decide (s.param 20 ≤ ppm.natAbs)
      let s1 := (s.setConv sp i).setConv live 6
      let s2 := if out then s1.exclude live 2 else s1
      let s3 := s2.setReg A.REEL_LAST (setFld (wd (ofSigned 16 (sat ppm))) 16 16 (ofSigned 16 (sat delay)))
      let s4 := s3.modReg A.REEL_CNT (fun w => setFld (satAdd w 0 16 1) 16 8 (min 255 s.met.defers))
      let s5 := s4.modReg A.REEL_STAT (fun w => wrapAdd (setBit w 8 noSig) 16 16 1)
      let s6 := s5.modMet (fun m => { m with phase := 0, due := m.due + 1, defers := 0, since := m.since.set i m.n })
      let s7 := ((s6.setField A.REEL_STAT 0 3 live).syncReel).raise 775
      if !noSig && decide (s.param 19 ≤ ppm.natAbs) then s7.raise 776 else s7

/-- R521: PMU_PF_WARN abandons an overlap in progress. -/
def State.metPfWarn (s : State) : State :=
  let s1 := s.modBil (fun b => { b with pfWarn := true })
  if s1.met.phase = 5 then
    (s1.modMet (fun m => { m with phase := 3, due := m.due + 1, defers := 0 })).modReg A.REEL_CNT (fun w => satAdd w 24 4 1)
  else s1

/-- CONVERTER_STUCK (R522, R523): the live converter `c` sticks. -/
def converterStuck (c : Nat) (s : State) : State :=
  let i := s.convMap c
  if !s.measRun || 7 ≤ c || 6 ≤ i then s
  else
    let sp := s.spare
    let s1 := s.exclude c 3
    if sp = 7 then
      let s2 := s1.modReg A.MET_STAT (fun w => setBit w (16 + i) true)
      if s.meterFault then s2.raise 778 else s2.syncFault
    else
      let s2 := (s1.setConv sp i).modMet (fun m => { m with phase := 0, since := m.since.set i m.n, subst := m.subst.set i 20 })
      ((s2.setBitReg A.MET_STAT 6).syncReel).raise 785

/-! ## Samples (R525 to R532) -/

/-- R532: one look at the readback; a state held for 80 samples is confirmed from the next sample. -/
def State.srcSample (s : State) : State :=
  let o := s.param 16
  let a := s.wires.sofb.getLsbD (2 * o)
  let b := s.wires.sofb.getLsbD (2 * o + 1)
  let seen := if a != b then 2 else if a then 1 else 0
  let run := if seen = s.met.srcSeen then s.met.srcRun + 1 else 1
  let s1 := s.modMet (fun m => { m with srcSeen := seen, srcRun := run })
  if seen = 2 then
    (if run = 160 ∧ s1.flag A.MET_STAT 14 = false then (s1.setBitReg A.MET_STAT 14).raise 781 else s1)
  else
    let s2 := if run = 80 then (s1.clrBitReg A.MET_STAT 14).modMet (fun m => { m with srcConf := seen }) else s1
    let src := s2.srcTag (s2.met.srcConf == 1)
    if src = s2.source then s2 else (s2.modReg A.MET_SRC (fun w => wrapAdd (setFld w 0 1 src) 16 16 1)).raise 780

/-- R525: the corrected sample of an input in 2^-60 LSB. -/
def State.corrected (s : State) (codes : List Int) (c i : Nat) : Int :=
  (codes.getD c 0 - s.met.offs.getD c 0) * (s.met.gain.getD c 0 : Nat) * (s.param (6 + i) : Nat)

/-- One mains period in samples (R522): from the frequency last published, 160 while none is. -/
def State.mainsSamples (s : State) : Nat :=
  let f := (s.reg A.MET_FREQ).toNat
  if f = 0 then 160 else (16000000 + f) / (2 * f)

/-- R522, R525: the six inputs of this sample. `delayed` are the outputs of the fractional-delay filters of I1 to I3, used
where PHASE is not 0. -/
def State.sampleInputs (s : State) (codes delayed : List Int) : List Int :=
  (List.range 6).map (fun i =>
    if 0 < s.met.subst.getD i 0 then (s.met.hist.getD (s.mainsSamples - 1) {}).xs.getD i 0
    else match s.convOf i with
      | none => 0
      | some c => if 3 ≤ i ∧ s.param (9 + i) ≠ 0 then delayed.getD (i - 3) 0 else s.corrected codes c i)

/-- R528, R529: energy, in 2^-32 mWh, reaches pending accumulator `k`; whole milliwatt-hours move into the register at
`a`. Answers how many. -/
def State.accumulate (s : State) (k a : Nat) (e : Int) : State × Nat :=
  let p := s.met.pend.getD k 0 + e
  let whole := if 4294967296 ≤ p then (p / 4294967296).toNat else 0
  let s1 := s.modMet (fun m => { m with pend := m.pend.set k (p - 4294967296 * (whole : Nat)) })
  (if whole = 0 then s1 else s1.addReg64 a whole, whole)

/-- R530: an input at either end of its range. -/
def State.overrange (s : State) (codes : List Int) (i : Nat) : State :=
  match s.convOf i with
  | none => s
  | some c =>
    let v := codes.getD c 0
    if (8388607 ≤ v ∨ v ≤ -8388607) ∧ s.flag A.MET_STAT (8 + i) = false then
      let first := s.field A.MET_STAT 8 6 == 0
      let s1 := s.setBitReg A.MET_STAT (8 + i)
      if first then s1.raise 782 else s1
    else s

/-- A sample in its display unit: voltage in 10 mV, current in mA (R554). -/
def State.waveUnit (s : State) (i : Nat) (x : Int) : Int :=
  let k := if i < 3 then s.param 4 else s.param 5
  if i < 3 then roundI (x * (48 * k : Nat)) (1000 * 2 ^ 83) else roundI (x * (480 * k : Nat)) (1000 * 2 ^ 83)

/-- R554: a WAVE_CAPTURE in hand takes the sample, once it has started. -/
def State.waveTake (s : State) (xs : List Int) (cross : Bool) (n : Nat) : State :=
  if s.inHand .met n ≠ some 0x11 ∨ (s.ring .met n).aux = 0 then s
  else if (s.ring .met n).aux = 1 ∧ bit (s.dw .met n 4) 0 ∧ cross = false then s
  else
    let s0 := if (s.ring .met n).aux = 1 then
        (s.modRing .met n (fun r => { r with aux := 2 })).modMet (fun m => { m with waveAt := m.waveAt.set (fun _ => 0#32) n s.tick })
      else s
    let s1 := s0.logEntry .met n ((List.range 6).map (fun i => wd (ofSigned 32 (s.waveUnit i (xs.getD i 0)))))
    if (s1.ring .met n).done.isSome then s1.finishDone .met n (s1.met.waveAt.get (fun _ => 0#32) n) else s1

/-- MET_SAMPLE (R525, R527 to R532, R556): one sample of all converters. `codes` are the readings of C0 to C6. -/
def metSample (codes delayed : List Int) (s : State) : State :=
  if !s.measRun then s
  else
    let s0 := s.bilTime
    let xs := s0.sampleInputs codes delayed
    let kk := s0.param 4 * s0.param 5
    let ys := (List.range 3).map (fun k => xs.getD k 0 * xs.getD (3 + k) 0 * (kk : Nat))
    let prevV1 := (s0.met.hist.getD 0 {}).xs.getD 0 0
    let un := s0.field A.MET_STAT 16 6
    -- the history with this sample, from which running and direction are judged
    let s1 := s0.modMet (fun m => { m with hist := ({ xs := xs, ys := ys } :: m.hist).take 180 })
    let p := (List.range 3).foldl (fun a k =>
      if s1.phaseRuns k && !un.testBit k && !un.testBit (3 + k) then a + ys.getD k 0 else a) 0
    let s2 := s1.modMet (fun m => { m with hist := match m.hist with | h :: t => { h with p := p } :: t | [] => [] })
    let dir := decide (0 ≤ (s2.met.hist.take 160).foldl (fun a m => a + m.p) 0)
    let e := roundI p (10 ^ 12 * 2 ^ 131)
    let src := s2.source
    let s3 := if dir then
        let r1 := s2.accumulate 0 A.E_IMP_LO e
        let r2 := r1.1.accumulate (2 + src) (if src = 0 then A.E_IMP_GRID_LO else A.E_IMP_GEN_LO) e
        r2.1.bilAdd src r2.2
      else
        let r1 := s2.accumulate 1 A.E_EXP_LO (-e)
        (r1.1.accumulate (4 + src) (if src = 0 then A.E_EXP_GRID_LO else A.E_EXP_GEN_LO) (-e)).1
    let s4 := s3.sesFlag
    let s5 := s4.modMet (fun m => { m with
      n := m.n + 1
      subst := m.subst.map (fun k => k - 1)
      win := { n := m.win.n + 1, sq := List.zipWith (fun a x => a + x * x) m.win.sq xs, p := List.zipWith (· + ·) m.win.p ys } })
    let s6 := s5.modReg A.MET_STAT (fun w => setBit w 6 (s5.met.subst.any (fun k => 0 < k)))
    let s7 := s6.inputs.foldl (fun s i => s.overrange codes i) s6
    let s8 := if s7.met.phase = 5 ∧ s7.met.ovN < 2000 then
        match s7.convOf s7.inputDue with
        | some c =>
          let l := s7.corrected codes c s7.inputDue
          let q := s7.corrected codes s7.spare s7.inputDue
          s7.modMet (fun m => { m with ovN := m.ovN + 1, ovLive := m.ovLive + l * l, ovSpare := m.ovSpare + q * q })
        | none => s7
      else s7
    let cross := decide (prevV1 < 0) && decide (0 ≤ xs.getD 0 0)
    ((List.range 4).foldl (fun s n => s.waveTake xs cross n) s8).srcSample

/-! ## Windows (R526) -/

/-- MET_WINDOW (R526, R576): a publication window ends. `freq` is V1's frequency in mHz, `qs` the three reactive powers in
0.1 var. -/
def metWindow (freq : Nat) (qs : List Int) (s : State) : State :=
  let w := s.met.win
  if !s.measRun || w.n = 0 then s
  else
    let kv := s.param 4
    let ki := s.param 5
    let v (k : Nat) : Nat := rootNear ((w.sq.getD k 0).toNat * 2304 * kv ^ 2) (w.n * 2 ^ 166 * 10 ^ 6)
    let i (k : Nat) : Nat := rootNear ((w.sq.getD (3 + k) 0).toNat * 2304 * ki ^ 2) (w.n * 2 ^ 166 * 10 ^ 4)
    let p (k : Nat) : Int := roundI (w.p.getD k 0 * 2304) (w.n * 2 ^ 166 * 10 ^ 9)
    let va (k : Nat) : Nat := (v k * i k + 5000) / 10000
    let pf (k : Nat) : Int := if va k < 10 then 0 else roundI (p k * 1000) (va k)
    let f := if v 0 < s.param 1 ∨ freq < 45000 ∨ 65000 < freq then 0 else freq
    let one (s : State) (k : Nat) : State :=
      let s1 := ((s.setReg (A.MET_VRMS k) (wd (v k))).setReg (A.MET_IRMS k) (wd (i k))).setReg (A.MET_P k) (wd (ofSigned 32 (p k)))
      ((s1.setReg (A.MET_Q k) (wd (ofSigned 32 (qs.getD k 0)))).setReg (A.MET_S k) (wd (va k))).setReg (A.MET_PF k) (wd (ofSigned 16 (pf k)))
    let s1 := (List.range 3).foldl one s
    let s2 := (s1.setReg A.MET_PTOT (wd (ofSigned 32 (p 0 + p 1 + p 2)))).setReg A.MET_FREQ (wd f)
    let s3 := ((s2.setReg A.MET_WIN_TICK s.tick).modReg A.MET_SNAP_SEQ (· + 1#32)).modReg A.BIL_SNAP_SEQ (· + 1#32)
    let s4 := (s3.modMet (fun m => { m with win := {} })).setField A.MET_STAT 8 6 0
    (((s4.writeLive).refreshLcd).raise 772)

/-- CLK_DOUBT_CHG (R533): CLK_DOUBT follows the clock's quality. -/
def clkDoubtChg (s : State) : State :=
  if !s.mRuns then s
  else
    let bad := !s.flag A.CLK_STAT 4 || s.field A.CLK_STAT 5 2 == 1 || s.clk.mon3Bad
    let now := s.flag A.MET_STAT 4
    let change (b : Bool) (s : State) : State :=
      ((s.modReg A.MET_STAT (fun w => setBit w 4 b)).metLogLimited 0x08 b [if b then 1#8 else 0#8]).raise 779
    if bad then
      let s1 := s.modMet (fun m => { m with doubtOk := none })
      if now then s1 else change true s1
    else if !now then s
    else match s.met.doubtOk with
      | none => s.modMet (fun m => { m with doubtOk := some s.now })
      | some t => if t + 4000000000 ≤ s.now then change false s else s

/-- R507: core M enters reset or halts: M_RUN and MEAS_RUN read 0, and the glass shows dashes (R586). -/
def State.metStop (s : State) : State := ((s.clrBitReg A.MET_STAT 1).modMet (fun m => { m with dead := true })).lcdDashes

/-- What MET_STAT reads: M_RUN follows core M (R506). -/
def State.metStat (s : State) : Word := setBit (s.reg A.MET_STAT) 0 s.mRuns

/-! ## The seal (R536 to R543) -/

/-- SEAL_OPENING (R536 to R538): SEAL_OPEN has been high for 100 ms; `ok` is the programming of the log entry. -/
def sealOpening (ok : Bool) (s : State) : State :=
  if !s.mRuns then s
  else
    let s0 := s.setBitReg A.MET_SEAL 2
    if s0.sealOpen || !s0.met.fuse || 1280 - s0.logUsed < 8 then s0
    else
      let cnt := (s0.word 0x50000300) + 1#32
      let s1 := ((s0.setWord 0x50000300 cnt).syncSealCnt).metLog 0x01 (natLe 4 cnt.toNat) ok
      if ok then
        (((s1.setBitReg A.MET_SEAL 0).setBitReg A.MET_STAT 7).modMet (fun m => { m with commits := 0 })).raise 773
      else (s1.setBitReg A.MET_SEAL 5).raise 778

/-- The seal closes: uncommitted changes are discarded and SEAL_CLOSE is appended (R541). -/
def State.closeSeal (s : State) (cause : Nat) : State :=
  let s1 := (s.clrBitReg A.MET_SEAL 0).clrBitReg A.MET_STAT 7
  let s2 := s1.metLog 0x02 ([BitVec.ofNat 8 cause] ++ natLe 2 s.met.commits) true
  (s2.modMet (fun m => { m with work := m.params, slTold := false, paramAt := none })).raise 773

/-- SEAL_CLOSING (R536, R541): SEAL_OPEN goes low. -/
def sealClosing (s : State) : State :=
  if !s.live .met then s
  else
    let s0 := s.clrBitReg A.MET_SEAL 2
    if s0.sealOpen && s0.mRuns then s0.closeSeal 0 else s0

/-- R540: a write of an SL register while the seal is closed. -/
def State.slRefuse (s : State) : State :=
  let s1 := s.modReg A.MET_SLREJ (fun w => satAdd w 0 16 1)
  if s1.met.slTold then s1.raise 783
  else (s1.metLog 0x05 (natLe 4 s.tick.toNat) true).modMet (fun m => { m with slTold := true })

/-- A parameter's range: the ends are stored for values outside (R544, Table MET-6). -/
def State.paramClamp (s : State) (i v : Nat) : Nat :=
  let w := s.met.work
  let range (lo hi : Nat) : Nat := clampNat lo hi v
  match i with
  | 0 => range 0 1 | 1 => range 1000 2770 | 2 => range 100 10000 | 3 => range (w.getD 2 0) 12800
  | 4 => range 100000 4000000 | 5 => range 1000 2000000
  | 6 | 7 | 8 | 9 | 10 | 11 => range 966367642 1181116006
  | 12 | 13 | 14 => ofSigned 32 (max (-32768) (min 32768 (toSigned 32 v)))
  | 15 => range 0 3 | 16 => range 0 3 | 17 => range 100 10000 | 18 => range 10 600 | 19 => range 50 5000
  | 20 => range (w.getD 19 0) 20000
  | _ => v

/-- R544: a write of MET_PARAM_DATA with the seal open; one that comes before M has taken the last is ignored. -/
def State.paramWrite (s : State) (v : Nat) : State :=
  let busy := match s.met.paramAt with | some t => decide (s.now < t + 8000) | none => false
  if busy then s.setBitReg A.MET_STAT 15
  else
    let i := s.field A.MET_PARAM_IDX 0 5
    s.modMet (fun m => { m with work := m.work.set i (s.paramClamp i v), paramAt := some s.now })

/-- The effect of a write of an SL register (R539, R540, R544); M judges it while it runs. -/
def State.slEffect (s : State) (v : Word) : State :=
  if !s.mRuns then s else if s.sealOpen then s.paramWrite v.toNat else s.slRefuse

/-- SL_WRITE (R540): a write of the SL register by a master. -/
def slWrite (m size : Nat) (v : Word) (s : State) : State :=
  s.plainWrite .met m A.MET_PARAM_DATA (fun s => if size = 4 then s.slEffect v else s)

/-- What MET_PARAM_DATA reads (R544). -/
def State.paramRead (s : State) : Word := wd (s.met.work.getD (s.field A.MET_PARAM_IDX 0 5) 0)

/-! ## Calibration (R545 to R548) -/

/-- R548: another ring's calibration descriptor runs. -/
def State.calBusy (s : State) (n : Nat) : Bool := match s.met.commitTo with | some (_, r) => r != n | none => false

/-- CAL_STEP (R545): measured over the cycles asked for: `meas`, and `h1`, `h2` of its two halves: rms in 0.001 mV or
0.001 mA for a gain, the lag in 10^-6 degree for a phase; `freq` in mHz. -/
def calStep (n : Nat) (meas h1 h2 : Int) (freq : Nat) (s : State) : State :=
  s.whenHand .met n 0x13 (fun s =>
    if !s.mRuns || s.calBusy n then s
    else
      let i := fld (s.dw .met n 4) 0 5
      let ref := toSigned 32 (s.dw .met n 5).toNat
      let cycles := (s.dw .met n 6).toNat
      let input := if i < 12 then i - 6 else i - 9
      if !s.sealOpen then s.finishBad .met n 0x80
      else if i < 6 ∨ 14 < i ∨ cycles < 10 ∨ 500 < cycles ∨ s.inputs.contains input = false ∨ meas = 0 ∨ freq = 0 then s.finishBad .met n 0x83
      else
        let gain := decide (i < 12)
        let split := (h1 - h2).natAbs
        if (if gain then decide (meas.natAbs < split * 2000) else decide (10000 < split)) then s.finishBad .met n 0x81
        else
          let old := toSigned 32 (s.met.work.getD i 0)
          let new := if gain then roundI (old * (s.dw .met n 5).toNat * 1000) meas.natAbs
            else old + roundI ((ref * 1000 - meas) * (8000 * 1000 * 65536 : Nat)) (360 * 1000000 * freq)
          let ok := if gain then decide (966367642 ≤ new ∧ new ≤ 1181116006) else decide (-32768 ≤ new ∧ new ≤ 32768)
          if !ok then s.finishBad .met n 0x82
          else
            (s.modMet (fun m => { m with work := m.work.set i (ofSigned 32 new) })).finishDone .met n (wd (ofSigned 32 new)))

/-- CAL_COMMIT (R546, R548): the first command on a descriptor programs the older copy up to its CRC; the next one programs
the CRC, unless the seal has closed, and completes. -/
def calCommit (n : Nat) (s : State) : State :=
  s.whenHand .met n 0x14 (fun s =>
    if !s.mRuns || s.calBusy n then s
    else match s.met.commitTo with
      | none =>
        if !s.sealOpen then s.finishBad .met n 0x80
        else if 1280 - s.logUsed < 3 then s.finishBad .met n 0x84
        else
          let k := match s.calCopyUsed with | some 0 => 1 | _ => 0
          let seq := (s.reg A.MET_CAL_SEQ).toNat + 1
          let s1 := (s.flashErase (calAddr k) 4096).setWords (calAddr k) ((wd seq) :: s.met.work.map wd)
          (s1.modMet (fun m => { m with commitTo := some (k, n) })).modRing .met n (fun r => { r with aux := 1 })
      | some (k, _) =>
        let s0 := s.modMet (fun m => { m with commitTo := none })
        if !s.sealOpen then s0.finishBad .met n 0x80
        else
          let a := calAddr k
          let seq := s.word a
          let s1 := s0.setWord (a + 88) (wd (crcBytes (s.bytes a 88)))
          let h := (shaHash sha256 (s.bytes (a + 4) 84)).take 8
          let s2 := (s1.modMet (fun m => { m with params := m.work, commits := m.commits + 1 })).setReg A.MET_CAL_SEQ seq
          let s3 := (((s2.setBitReg A.MET_STAT 2).metLog 0x03 (natLe 4 seq.toNat ++ h) true).syncFault).raise 774
          let s4 := if bit (s.dw .met n 4) 0 then
              let t := s3.metLog 0x04 (natLe 4 seq.toNat) true
              ((t.modMet (fun m => { m with fuse := false })).clrBitReg A.MET_SEAL 1).closeSeal 2
            else s3
          s4.finishDone .met n seq)

/-! ## Rings and mirror -/

/-- MET_SNAP (R554). -/
def metSnap (n : Nat) (s : State) : State :=
  s.whenHand .met n 0x10 (fun s =>
    let l := (List.range 44).map (fun i => s.reg (0x40040020 + 4 * i))
    (s.putWords (s.ring .met n).host (s.dw .met n 2).toNat l).finishDone .met n (s.reg A.MET_SNAP_SEQ))

/-- WAVE_CAPTURE (R409, R554). -/
def waveCapture (n : Nat) (s : State) : State := s.startLog .met n 0x11

/-- LOG_READ (R554). -/
def logRead (n : Nat) (s : State) : State :=
  s.whenHand .met n 0x12 (fun s =>
    let first := (s.dw .met n 4).toNat
    let k := min ((s.dw .met n 1).toNat / 32) (s.logUsed - first)
    let bs := (List.range k).flatMap (fun i => s.bytes (logAddr (first + i)) 32)
    (s.putBytes (s.ring .met n).host (s.dw .met n 2).toNat bs).finishDone .met n (wd k))

/-- MET_SNAP_SEQ_READ (R552): offsets 0x024 to 0x0CF are latched for the reading master. -/
def metSnapSeqRead (m : Nat) (s : State) : State :=
  if !s.live .met then s
  else
    let l := (List.range 43).map (fun i => s.reg (0x40040024 + 4 * i))
    (s.modMet (fun x => { x with snap := x.snap.set (fun _ => none) m (some l) })).answer m (s.reg A.MET_SNAP_SEQ) .ok

end Sys2Proof.Machine
end

