-- ==== Sys2Proof/Machine/Can.lean ====
section
/-! DEFINITION. The CAN FD controllers (19, R808 to R814, R836, R837). -/
namespace Sys2Proof.Machine

/-- The window of CAN controller `c`. -/
def canWin (c : Nat) : Win := if c = 0 then .can0 else .can1
/-- A register of CAN controller `c`. -/
def cA (c off : Nat) : Nat := (canWin c).base + off

/-- The hidden state of CAN controller `c`. -/
def State.can (s : State) (c : Nat) : Can := s.ser.can.get (fun _ => {}) c
/-- Changes it. -/
def State.modCan (s : State) (c : Nat) (f : Can → Can) : State :=
  { s with ser := { s.ser with can := s.ser.can.set (fun _ => {}) c (f (s.can c)) } }
/-- The event at an offset of Table SER-9. -/
def State.canEvent (s : State) (c off : Nat) : State := s.raise ((canWin c).ringSource + off)

/-- CAN_STAT[1:0]: 0 active, 1 passive, 2 bus-off, 3 not synchronised. -/
def State.canState (s : State) (c : Nat) : Nat := s.field (cA c A.CAN_STAT) 0 2
/-- The controller is on, enabled and clocked. -/
def State.canOn (s : State) (c : Nat) : Bool :=
  decide (c < 2) && s.live (canWin c) && s.flag (cA c A.CAN_CTL) 0 && s.clockRuns 18
/-- It takes part on the bus. -/
def State.canActive (s : State) (c : Nat) : Bool := s.canOn c && decide (s.canState c < 2)

/-- Data bytes of a DLC: 0 to 8, and for FD frames 12, 16, 20, 24, 32, 48 and 64. -/
def canLen (fd : Bool) (dlc : Nat) : Nat := if fd then [0, 1, 2, 3, 4, 5, 6, 7, 8, 12, 16, 20, 24, 32, 48, 64].getD dlc 64 else min dlc 8

/-- Data bytes a frame carries; a remote frame carries none. -/
def CanFrame.bytes (f : CanFrame) : Nat := if bit f.w0 30 then 0 else canLen (bit f.w0 31) (fld f.w1 0 4)

/-- The 80-byte record of a frame (Table SER-4); bytes beyond the DLC's length are 0. -/
def CanFrame.record (f : CanFrame) : List Byte :=
  let n := f.bytes
  [f.w0, f.w1, wd f.sof, wd (f.sof / 2 ^ 32)].flatMap (fun w => [byteOf w 0, byteOf w 1, byteOf w 2, byteOf w 3]) ++
    (List.range 64).map (fun i => if i < n then f.data.getD i 0#8 else 0#8)

/-- The error counters move; the fault confinement of ISO 11898-1 follows them: 96 warns, 128 is passive (R808). -/
def State.canCounts (s : State) (c tec rec_ : Nat) : State :=
  let a := cA c A.CAN_STAT
  let warn := decide (s.field a 8 8 < 96 ∧ s.field a 16 8 < 96) && decide (96 ≤ tec ∨ 96 ≤ rec_)
  let s1 := s.modReg a (fun w => setFld (setFld w 8 8 (min tec 255)) 16 8 (min rec_ 255))
  let s2 := if warn then s1.canEvent c 6 else s1
  if s2.canState c ≤ 1 then
    let p := if 128 ≤ tec ∨ 128 ≤ rec_ then 1 else 0
    let s3 := s2.setField a 0 2 p
    if p = 1 ∧ s2.canState c = 0 then s3.canEvent c 3 else s3
  else s2

/-- The transmit error counter. -/
def State.canTec (s : State) (c : Nat) : Nat := s.field (cA c A.CAN_STAT) 8 8
/-- The receive error counter. -/
def State.canRec (s : State) (c : Nat) : Nat := s.field (cA c A.CAN_STAT) 16 8

/-- R814: bus-off. -/
def State.canBusOffNow (s : State) (c : Nat) : State :=
  let w := canWin c
  let s1 := ((s.setField (cA c A.CAN_STAT) 0 2 2).setBitReg (cA c A.CAN_ERR) 7).modCan c
    (fun x => { x with recovering := s.flag (cA c A.CAN_CTL) 5 })
  (s1.whenHand w 0 0x10 (fun s => s.finishBad w 0 0x80)).canEvent c 2

/-- CAN_BUS_OFF (R814). -/
def canBusOff (c : Nat) (s : State) : State := if s.canActive c then s.canBusOffNow c else s

/-! ## Receiving -/

/-- R811: one record goes to the running RX descriptor. -/
def State.canDeliver (s : State) (c : Nat) (f : CanFrame) : State :=
  let w := canWin c
  let r := s.ring w 1
  let s1 := (s.putBytes r.host ((s.dw w 1 2).toNat + 80 * r.count) f.record).modRing w 1 (fun r => { r with count := r.count + 1 })
  if (s.dw w 1 1).toNat ≤ 80 * (r.count + 1) then s1.finishDone w 1 (wd (r.count + 1)) else s1

/-- Frames that wait go to the running RX descriptor. -/
def State.canDrain (c : Nat) : Nat → State → State
  | 0, s => s
  | k + 1, s =>
    match (s.can c).queue with
    | [] => s
    | f :: rest => if s.logging (canWin c) 1 0x11 then State.canDrain c k ((s.modCan c (fun x => { x with queue := rest })).canDeliver c f) else s

/-- R810: the number of the filter that accepts a frame; 0xFF under ACCEPT_ALL; none when it is not accepted. -/
def State.canFilter (s : State) (c : Nat) (w0 : Word) : Option Nat :=
  let pass (f : Nat) : Bool :=
    let d := s.reg (cA c (A.CAN_FID f))
    bit d 31 && (bit d 29 == bit w0 29) &&
      decide ((d ^^^ w0) &&& s.reg (cA c (A.CAN_FMASK f)) &&& 0x1FFFFFFF#32 = 0#32)
  match (List.range 32).find? pass with
  | some f => if bit (s.reg (cA c (A.CAN_FID f))) 30 then none else some f
  | none => if s.flag (cA c A.CAN_CTL) 7 then some 0xFF else none

/-- R810, R813: a good frame is filtered, then delivered, queued or dropped. -/
def State.canReceive (s : State) (c : Nat) (f : CanFrame) : State :=
  match s.canFilter c f.w0 with
  | none => s
  | some k =>
    let g := { f with w1 := setFld (f.w1 &&& 0x3F#32) 8 8 k }
    let s1 := s.modReg (cA c A.CAN_CNT) (fun w => wrapAdd w 16 16 1)
    if s1.logging (canWin c) 1 0x11 then s1.canDeliver c g
    else if (s1.can c).queue.length < 8 then s1.modCan c (fun x => { x with queue := x.queue ++ [g] })
    else (s1.setBitReg (cA c A.CAN_ERR) 5).canEvent c 4

/-- CAN_FRAME_RECEIVED (R808, R810, R813): a frame ends on the bus; `errs` are the errors seen in it, as CAN_ERR numbers them,
and a frame with one is not received. An FD frame with FD_EN 0 has a form error. -/
def canFrameReceived (c : Nat) (w0 w1 : Word) (data : List Byte) (sof errs : Nat) (s : State) : State :=
  if !s.canActive c then s
  else
    let form := bit w0 31 && !s.flag (cA c A.CAN_CTL) 1
    let e := if form then errs % 32 ||| 4 else errs % 32
    if e ≠ 0 then (s.orReg (cA c A.CAN_ERR) (wd e)).canCounts c (s.canTec c) (s.canRec c + 1)
    else
      let r := s.canRec c
      (s.canCounts c (s.canTec c) (if 127 < r then 127 else r - 1)).canReceive c ⟨w0, w1, sof % 2 ^ 64, data.take 64⟩

/-- CAN_RX (R811). -/
def canRx (c : Nat) (s : State) : State :=
  if c < 2 ∧ (s.ring (canWin c) 1).aux = 0 then (s.startLog (canWin c) 1 0x11).canDrain c 8 else s

/-! ## Transmitting -/

/-- The record of the TX descriptor in hand. -/
def State.canRecord (s : State) (c : Nat) : CanFrame :=
  let w := canWin c
  let h := (s.ring w 0).host
  let a := (s.dw w 0 2).toNat
  let le (o : Nat) : Word := let b := s.viewBytes h (a + o) 4; ofBytes (b.getD 0 0#8) (b.getD 1 0#8) (b.getD 2 0#8) (b.getD 3 0#8)
  ⟨le 0, le 4, 0, s.viewBytes h (a + 16) 64⟩

/-- R812: the record is one the controller may send. -/
def State.canRecordOk (s : State) (c : Nat) (f : CanFrame) : Bool :=
  let fd := bit f.w0 31
  !(fd && !s.flag (cA c A.CAN_CTL) 1) && !(bit f.w1 4 && !s.flag (cA c A.CAN_CTL) 2) && !(bit f.w0 30 && fd) &&
    !(!fd && decide (8 < fld f.w1 0 4))

/-- One attempt of the frame in hand: sent and acknowledged (0), lost arbitration (1), or failed with errors (2), as CAN_ERR
numbers them (R811). -/
def State.canAttempt (s : State) (c outcome errs sof : Nat) : State :=
  let w := canWin c
  let f := { s.canRecord c with sof := sof % 2 ^ 64 }
  let s0 := s.modCan c (fun x => { x with sent := some f })
  match outcome with
  | 0 =>
    let h := (s.ring w 0).host
    let a := (s.dw w 0 2).toNat
    let s1 := s0.putBytes h (a + 8) ([wd f.sof, wd (f.sof / 2 ^ 32)].flatMap (fun v => [byteOf v 0, byteOf v 1, byteOf v 2, byteOf v 3]))
    let s2 := ((s1.modReg (cA c A.CAN_CNT) (fun v => wrapAdd v 0 16 1)).canCounts c (s.canTec c - 1) (s.canRec c)).finishDone w 0 0#32
    if s.flag (cA c A.CAN_CTL) 4 then s2.canReceive c f else s2
  | _ =>
    let s1 := if outcome = 1 then s0
      else (s0.orReg (cA c A.CAN_ERR) (wd (errs % 32))).canCounts c (s.canTec c + 8) (s.canRec c)
    if s.flag (cA c A.CAN_CTL) 6 then s1.finishBad w 0 0x83 else s1

/-- CAN_TX (R811, R812): the descriptor is judged; then each attempt ends with an outcome. -/
def canTx (c outcome errs sof : Nat) (s : State) : State :=
  if c < 2 then
    let w := canWin c
    s.whenHand w 0 0x10 (fun s =>
      if (s.ring w 0).aux = 0 then
        (if s.canRecordOk c (s.canRecord c) then s.modRing w 0 (fun r => { r with aux := 1, t0 := s.now }) else s.finishBad w 0 0x84)
      else if s.canActive c && !s.safeHolds 6 && !s.gated w && !s.flag (cA c A.CAN_CTL) 3 then s.canAttempt c outcome errs sof
      else s)
  else s

/-! ## Bus-off and synchronisation -/

/-- What a write of CAN_CMD does (R814). -/
def State.canCmdEffect (s : State) (c : Nat) (v : Word) : State :=
  if bit v 0 ∧ s.canState c = 2 then s.modCan c (fun x => { x with recovering := true }) else s

/-- CAN_RECOVER (R814). -/
def canRecover (m c size : Nat) (v : Word) (s : State) : State :=
  if c < 2 then
    s.plainWrite (canWin c) m (cA c A.CAN_CMD) (fun s => s.canCmdEffect c (w1cBits (cA c A.CAN_CMD) size v))
  else s

/-- CAN_RECOVERY_DONE (R814): 128 occurrences of 11 recessive bits. -/
def canRecoveryDone (c : Nat) (s : State) : State :=
  if s.canOn c = true ∧ s.canState c = 2 ∧ (s.can c).recovering = true then
    (s.setReg (cA c A.CAN_STAT) 0#32).modCan c (fun x => { x with recovering := false })
  else s

/-- CAN_SYNCHRONISED (R836): 11 recessive bits. -/
def canSynchronised (c : Nat) (s : State) : State :=
  if s.canOn c = true ∧ s.canState c = 3 then
    s.setField (cA c A.CAN_STAT) 0 2 (if 128 ≤ s.canTec c ∨ 128 ≤ s.canRec c then 1 else 0)
  else s

/-- A write of CAN_CTL: a controller that is not enabled is not synchronised. -/
def State.canCtlEffect (s : State) (c : Nat) (v : Word) : State :=
  let s1 := s.store (cA c A.CAN_CTL) v
  if s1.flag (cA c A.CAN_CTL) 0 then s1 else s1.setField (cA c A.CAN_STAT) 0 2 3

end Sys2Proof.Machine
end

