-- ==== Sys2Proof/Machine/Uart.lean ====
section
/-! DEFINITION. UART-L and UART-Q: characters, flags, flow control, RS-485, K-line and their opcodes (19, R785 to R807, R837). -/
namespace Sys2Proof.Machine

/-- The window of UART `p`: UL0, UL1, UQ0 to UQ3. -/
def uartWin (p : Nat) : Win := [Win.ul0, .ul1, .uq0, .uq1, .uq2, .uq3].getD p .ul0

/-- UART `p` is a UART-L. -/
def uartL (p : Nat) : Bool := decide (p < 2)

/-- A register of UART `p`. -/
def uA (p off : Nat) : Nat := (uartWin p).base + off

/-- The hidden state of UART `p`. -/
def State.uart (s : State) (p : Nat) : Uart := s.ser.uart.get (fun _ => {}) p

/-- Changes the hidden state of UART `p`. -/
def State.modUart (s : State) (p : Nat) (f : Uart → Uart) : State :=
  { s with ser := { s.ser with uart := s.ser.uart.set (fun _ => {}) p (f (s.uart p)) } }

/-- The event at an offset of Table SER-9. -/
def State.uartEvent (s : State) (p off : Nat) : State := s.raise ((uartWin p).ringSource + off)

/-- Bit `i` of U_CTL. -/
def State.uCtl (s : State) (p i : Nat) : Bool := s.flag (uA p A.U_CTL) i
/-- RING mode: always for UART-Q. -/
def State.uRing (s : State) (p : Nat) : Bool := !uartL p || s.uCtl p 1
/-- PHY: 0 UART, 1 RS-485, 2 K-line. -/
def State.uPhy (s : State) (p : Nat) : Nat := s.field (uA p A.U_CTL) 2 2
/-- The 9-bit format. -/
def State.uNine (s : State) (p : Nat) : Bool := s.field (uA p A.U_FRAME) 0 2 == 2
/-- Bytes of one character in memory (Table SER-2). -/
def State.uUnit (s : State) (p : Nat) : Nat := if s.uNine p then 2 else 1
/-- The port is on and enabled. -/
def State.uOn (s : State) (p : Nat) : Bool := decide (p < 6) && s.live (uartWin p) && s.uCtl p 0
/-- R204, R837: the transmitter holds its idle level. -/
def State.uHeld (s : State) (p : Nat) : Bool := s.safeHolds 6 || s.gated (uartWin p)

/-- Ticks of 1/16 of a bit, times 16 (R786, R787): UART-Q counts 1/256 tick; RC16M has 25 ticks a cycle. -/
def State.uBit (s : State) (p : Nat) : Nat :=
  let v := (s.reg (uA p A.U_BAUD)).toNat
  if !uartL p then v / 256
  else if s.uCtl p 4 then v * 400000000 / (32768 * 16) else v * 25 / 16

/-- Ticks of one character: start, data, parity and stop bits (R785). -/
def State.uChar (s : State) (p : Nat) : Nat :=
  let f := s.reg (uA p A.U_FRAME)
  s.uBit p * (1 + (7 + fld f 0 2) + (if fld f 2 2 = 0 then 0 else 1) + 1 + (if bit f 4 then 1 else 0))

/-- The descriptor in hand on ring 0 sends characters: TX, or KLINE_INIT once its initialisation is over. -/
def State.uSending (s : State) (p : Nat) : Bool :=
  match s.inHand (uartWin p) 0 with
  | some 0x10 => (s.ring (uartWin p) 0).aux == 1
  | some 0x13 => (s.ring (uartWin p) 0).aux == 2
  | _ => false

/-! ## Transmitting -/

/-- U_STAT.TXEMPTY: nothing in the shifter or behind it. -/
def Uart.txEmpty (u : Uart) : Bool := u.shift.isNone && u.tx.isEmpty

/-- Characters of the descriptor in hand move from memory behind the shifter while there is room (R793, R794). -/
def State.uFeed (s : State) (p : Nat) : State :=
  if !s.uSending p then s
  else
    let w := uartWin p
    let u := s.uart p
    let unit := s.uUnit p
    let total := (s.dw w 0 1).toNat / unit
    let room := (if uartL p then 1 else 64) - u.tx.length
    let k := min room (total - u.taken)
    let a := (s.dw w 0 2).toNat
    let host := (s.ring w 0).host
    let ch (i : Nat) : Nat :=
      if unit = 2 then
        let b := s.viewBytes host (a + 2 * (u.taken + i)) 2
        ((b.getD 0 0#8).toNat + 256 * (b.getD 1 0#8).toNat) % 512
      else ((s.viewBytes host (a + u.taken + i) 1).getD 0 0#8).toNat
    s.modUart p (fun u => { u with tx := u.tx ++ (List.range k).map ch, taken := u.taken + k })

/-- R799 to R803: what the shifter takes next: a flow character before anything else; a queued character while the transmitter
is not paused and no echo is awaited. -/
def State.uNext (s : State) (p : Nat) : Option (TxItem × Uart) :=
  let u := s.uart p
  let waits := u.echo.isSome && s.uPhy p == 2 && s.uCtl p 10
  match u.flow, u.tx with
  | c :: rest, _ => some (.flow c, { u with flow := rest })
  | [], c :: rest => if u.paused.isSome || waits then none else some (.data c, { u with tx := rest })
  | [], [] => none

/-- The shifter loads its next item when it is free (R790, R802). -/
def State.uLoad (s : State) (p : Nat) : State :=
  if !s.uOn p || s.uHeld p || (s.uart p).shift.isSome then s
  else match s.uNext p with
    | some (item, u) =>
      let c := match item with | .data c => c | .flow c => c | .brk => 0
      let e := if s.uPhy p = 2 then some c else none
      (s.modUart p (fun _ => { u with shift := some item, echo := e, echoAt := s.now, de := u.de || s.uPhy p == 1, deOff := none })).uFeed p
    | none => s

/-- Feeds the queue and the shifter. -/
def State.uPump (s : State) (p : Nat) : State := ((s.uFeed p).uLoad p).uFeed p

/-- R802: the last stop bit is sent; DE returns DE_LAG sixteenths of a bit later. -/
def State.uDeLag (s : State) (p : Nat) : State :=
  if (s.uart p).de && (s.uart p).txEmpty then
    s.modUart p (fun u => { u with deOff := some (s.now + s.field (uA p A.U_RS485) 8 8 * s.uBit p / 16) })
  else s

/-- R802: DE is active. -/
def State.uDe (s : State) (p : Nat) : Bool :=
  (s.uart p).de && (match (s.uart p).deOff with | some t => decide (s.now < t) | none => true)

/-- Bytes sent count towards the descriptor in hand, which completes when all are out (R807). -/
def State.uCount (s : State) (p : Nat) : State :=
  let u := s.uart p
  let w := uartWin p
  if u.owed = 0 ∨ ¬ (s.uSending p = true) then s
  else
    let k := (s.ring w 0).count + u.owed
    let s1 := (s.modUart p (fun u => { u with owed := 0 })).modRing w 0 (fun r => { r with count := k })
    if (s.dw w 0 1).toNat ≤ k then s1.finishDone w 0 (wd k) else s1

/-- UART_CHAR_SENT (R790, R800, R802, R803, R807): the item in the shifter is out. -/
def uartCharSent (p : Nat) (s : State) : State :=
  if p < 6 then
    match (s.uart p).shift with
    | none => s
    | some item =>
      let s1 := s.modUart p (fun u => { u with shift := none, echoAt := s.now })
      let s2 := match item with
        | .data _ =>
          if s1.uSending p then
            let s2 := s1.modUart p (fun u => { u with owed := s.uUnit p })
            if s.uPhy p = 2 ∧ s.uCtl p 10 = true ∧ (s1.uart p).echo.isSome then s2 else s2.uCount p
          else s1
        | .flow _ => s1
        | .brk => if s1.inHand (uartWin p) 0 = some 0x12 then s1.finishDone (uartWin p) 0 0#32 else s1
      let s3 := (s2.uPump p).uDeLag p
      if (s3.uart p).txEmpty then s3.uartEvent p 5 else s3
  else s

/-- A transmission ends with a status and the bytes sent; what was queued for it is dropped (R801, R803). -/
def State.uStop (s : State) (p status : Nat) : State :=
  let w := uartWin p
  let s1 := s.modUart p (fun u => { u with tx := [], owed := 0, echo := none })
  if s1.uSending p then s1.finish w 0 { status := status, result := wd (s1.ring w 0).count } else s1

/-- KLINE_ECHO_MISMATCH (R803): an awaited echo differs or has not arrived within one character time. -/
def klineEchoMismatch (p : Nat) (s : State) : State :=
  if p < 6 ∧ s.uPhy p = 2 ∧ s.uCtl p 10 = true ∧ (s.uart p).echo.isSome = true then
    ((s.setBitReg (uA p A.U_ERR) 1).uStop p 0x81).modUart p (fun u => { u with shift := none })
  else s

/-! ## Receiving -/

/-- R793, R794: entries move into the running RX descriptor. -/
def State.uDrain (p : Nat) : Nat → State → State
  | 0, s => s
  | k + 1, s =>
    let w := uartWin p
    match (s.uart p).rx with
    | [] => s
    | e :: rest =>
      if s.logging w 1 0x11 then
        let r := s.ring w 1
        let s1 := (s.modUart p (fun u => { u with rx := rest })).putBytes r.host ((s.dw w 1 2).toNat + r.count)
          [BitVec.ofNat 8 e, BitVec.ofNat 8 (e / 256)]
        let s2 := s1.modRing w 1 (fun r => { r with count := r.count + 2 })
        State.uDrain p k (if (s.dw w 1 1).toNat ≤ r.count + 2 then s2.finishDone w 1 (wd (r.count + 2)) else s2)
      else s

/-- R791, R792, R795: a character with its entry bits reaches the holding register or the queue. -/
def State.uAccept (s : State) (p e : Nat) : State :=
  let u := s.uart p
  if uartL p then
    if u.rx.isEmpty then
      let e' := if u.lost then e ||| 0x2000 else e
      let fl := (u.flags &&& 0x10) ||| ((e / 1024) % 2 * 4) ||| ((e / 2048) % 2 * 8) ||| ((e / 4096) % 2 * 32)
      let s1 := (s.modUart p (fun u => { u with rx := [e'], lost := false, flags := fl })).uartEvent p 2
      let s2 := if e' / 1024 % 16 = 0 then s1 else s1.uartEvent p 3
      if s.uRing p then s2.uDrain p 1 else s2
    else s.modUart p (fun u => { u with lost := true, flags := u.flags ||| 0x10 })
  else if u.rx.length < 64 then
    let s1 := (s.modUart p (fun u => { u with rx := u.rx ++ [e] })).uartEvent p 2
    let s2 := if e / 1024 % 8 = 0 then s1 else s1.uartEvent p 3
    s2.uDrain p 64
  else
    let s1 := s.modUart p (fun u => { u with rx := u.rx.dropLast ++ [e ||| 0x2000] })
    ((s1.setBitReg (uA p A.U_ERR) 3).uartEvent p 2).uartEvent p 3

/-- R799: a received flow character acts on the transmitter. -/
def State.uFlowIn (s : State) (p : Nat) (xoff : Bool) : State :=
  let s1 := s.modUart p (fun u => { u with paused := if xoff then some (u.paused.getD s.now) else none })
  (if xoff then s1 else s1.uPump p).uartEvent p 6

/-- R796: is a character with this ninth bit delivered under address matching? -/
def State.uMatch (s : State) (p ch : Nat) : Bool × State :=
  if s.uCtl p 5 && s.uNine p then
    if 256 ≤ ch then
      let low := ch % 256
      let hit := low == s.field (uA p A.U_ADDR) 0 8 || (low == 0xFF && s.flag (uA p A.U_ADDR) 8)
      let s1 := s.modUart p (fun u => { u with chosen := hit })
      (hit, if hit then s1.uartEvent p 4 else s1)
    else ((s.uart p).chosen, s)
  else (true, s)

/-- R796, R799: a received character that is no echo: flow control, address matching, then delivery. -/
def State.uTake (s : State) (p ch : Nat) (flags : Nat) : State :=
  let fw := s.reg (uA p A.U_FLOW)
  let isFlow := s.uCtl p 6 && flags == 0 && (ch == fld fw 0 8 || ch == fld fw 8 8)
  let s1 := if isFlow then s.uFlowIn p (ch == fld fw 8 8) else s
  if isFlow && s.uCtl p 8 then s1
  else match s1.uMatch p ch with
    | (false, s2) => s2
    | (true, s2) => s2.uAccept p (ch + (if 256 ≤ ch then 0x200 else 0) + flags)

/-- UART_CHAR_RECEIVED (R788, R789, R791 to R796, R799, R802, R803): a character with its parity, framing and break flags. -/
def uartCharReceived (p ch : Nat) (pe fe brk : Bool) (s : State) : State :=
  if ¬ (s.uOn p = true) then s
  else
    let fe := fe || brk
    let ch := if brk then 0 else ch % (if s.uNine p then 512 else if s.field (uA p A.U_FRAME) 0 2 = 0 then 128 else 256)
    let flags := (if pe then 0x400 else 0) + (if fe then 0x800 else 0) + (if brk then 0x1000 else 0)
    let s1 := (s.modReg (uA p A.U_CNT) (fun c =>
      let c1 := wrapAdd c 0 16 1
      if flags = 0 then c1 else wrapAdd c1 16 16 1)).modUart p (fun u => { u with rxAt := s.now })
    let u := s.uart p
    let echo := s.uPhy p = 2 ∧ u.echo.isSome = true ∧ (u.shift.isSome = true ∨ s.now ≤ u.echoAt + s.uChar p)
    if echo then
      if s.uCtl p 10 = true ∧ (u.echo ≠ some ch ∨ flags ≠ 0) then klineEchoMismatch p s1
      else
        let s2 := s1.modUart p (fun u => { u with echo := none })
        let s3 := if (s2.uart p).shift.isNone then (s2.uCount p).uPump p else s2
        if s.uCtl p 9 then s3.uTake p ch flags else s3
    else if s.uDe p && !s.uCtl p 9 then s1
    else s1.uTake p ch flags

/-! ## U_DATA, U_STAT -/

/-- U_STAT as a read shows it (Table SER-10). -/
def State.uStat (s : State) (p : Nat) : Word :=
  let u := s.uart p
  let full := if uartL p then !u.rx.isEmpty else decide (64 ≤ u.rx.length)
  let w := setBit (setBit (wd (u.flags &&& 0x3C)) 0 full) 1 u.txEmpty
  setFld (setFld (setBit (setBit w 6 u.paused.isSome) 7 u.xoffSent) 8 7 u.tx.length) 16 7 u.rx.length

/-- R792: a read of U_STAT notes the flags it showed. -/
def State.uStatRead (s : State) (p : Nat) : State := s.modUart p (fun u => { u with shown := u.flags })

/-- U_DATA_READ (R790, R792, R793): the character held; the flags that the last U_STAT read showed clear. With nothing held,
the character read is free. -/
def uDataRead (m p : Nat) (s : State) : State :=
  if ¬ (p < 6) ∨ ¬ (s.present (uartWin p) = true) then s
  else if !s.domOn (uartWin p).domain then s.offAccess.answer m 0#32 .ok
  else if s.uRing p then (s.setBitReg (uA p A.U_ERR) 0).answer m 0#32 .ok
  else
    let u := s.uart p
    let s1 := s.modUart p (fun u => { u with rx := [], flags := u.flags &&& (0x3C - (u.shown &&& 0x3C)), shown := 0 })
    match u.rx with
    | e :: _ => s1.answer m (wd (e % 512)) .ok
    | [] => s1.useFree.answer m (s.freeWord &&& 0x1FF#32) .ok

/-- What a write of U_DATA does (R790, R793). -/
def State.uDataEffect (s : State) (p : Nat) (v : Word) : State :=
  if s.uRing p then s.setBitReg (uA p A.U_ERR) 0
  else if (s.uart p).tx.isEmpty then (s.modUart p (fun u => { u with tx := [fld v 0 9 % (if s.uNine p then 512 else 256)] })).uPump p
  else s

/-- U_DATA_WRITE (R790, R793). -/
def uDataWrite (m p size : Nat) (v : Word) (s : State) : State :=
  if p < 6 then
    s.plainWrite (uartWin p) m (uA p A.U_DATA) (fun s => s.uDataEffect p (w1cBits (uA p A.U_DATA) size v))
  else s

/-! ## Flow control out -/

/-- FLOW_SEND (R800): the receive level has crossed a threshold. -/
def flowSend (p : Nat) (s : State) : State :=
  if ¬ (s.uOn p = true) ∨ ¬ (s.uCtl p 7 = true) then s
  else
    let u := s.uart p
    let fw := s.reg (uA p A.U_FLOW)
    let n := u.rx.length
    let high := if uartL p then decide (1 ≤ n) else decide (fld fw 24 6 ≤ n)
    let low := if uartL p then n == 0 else decide (n ≤ fld fw 16 6)
    if high && !u.xoffSent then
      (s.modUart p (fun u => { u with flow := u.flow ++ [fld fw 8 8], xoffSent := true })).uLoad p
    else if low && u.xoffSent then
      (s.modUart p (fun u => { u with flow := u.flow ++ [fld fw 0 8], xoffSent := false })).uLoad p
    else s

/-- XOFF_TMO (R799, R801): a pause reaches XOFF_T. -/
def xoffTmo (p : Nat) (s : State) : State :=
  let lim := s.field (uA p A.U_XOFF_T) 0 16
  match (s.uart p).paused with
  | some t =>
    if p < 6 ∧ lim ≠ 0 ∧ t + lim * 400000 ≤ s.now then
      let s1 := (s.setBitReg (uA p A.U_ERR) 2).modUart p (fun u => { u with paused := none })
      if s1.uSending p then s1.uStop p 0x83 else s1.uPump p
    else s
  | none => s

/-! ## Opcodes -/

/-- A UART descriptor of ring 0 begins when the mode allows it and no hold stands (R806, R837). -/
def State.uBegin (s : State) (p op : Nat) (f : State → State) : State :=
  if p < 6 then
    s.whenHand (uartWin p) 0 op (fun s =>
      if (s.ring (uartWin p) 0).aux ≠ 0 then s
      else if !s.uRing p then s.finishBad (uartWin p) 0 0x14
      else if s.uHeld p || !s.uOn p then s
      else f s)
  else s

/-- Characters of the descriptor in hand start to go out. -/
def State.uStart (s : State) (p aux : Nat) : State :=
  let w := uartWin p
  let s1 := (s.modUart p (fun u => { u with taken := 0, owed := 0 })).modRing w 0 (fun r => { r with aux := aux, t0 := s.now })
  if s.dw w 0 1 = 0#32 then s1.finishDone w 0 0#32 else s1.uPump p

/-- UART_TX (R793, R794, R807). -/
def uartTx (p : Nat) (s : State) : State := s.uBegin p 0x10 (fun s => s.uStart p 1)

/-- BREAK (R807): the line goes low for the bit periods of ARG0, at least 13; UART_CHAR_SENT ends it. -/
def uartBreak (p : Nat) (s : State) : State :=
  s.uBegin p 0x12 (fun s =>
    (s.modUart p (fun u => { u with shift := some .brk })).modRing (uartWin p) 0 (fun r =>
      { r with aux := 1, count := max 13 (fld (s.dw (uartWin p) 0 4) 0 16) }))

/-- KLINE_INIT_FAST (R804): the line is low for TINIL and high until TWUP from the start; then the bytes go out. -/
def klineInitFast (p : Nat) (s : State) : State :=
  let w := uartWin p
  if p < 6 ∧ s.inHand w 0 = some 0x13 ∧ s.flag (uA p A.U_CTL) 0 = true ∧ bit (s.dw w 0 4) 0 = false ∧ (s.ring w 0).aux = 1 then
    if (s.ring w 0).t0 + s.field (uA p A.U_KLINE) 16 8 * 400000 ≤ s.now ∧ s.uHeld p = false then s.uStart p 2 else s
  else s.uBegin p 0x13 (fun s =>
    if bit (s.dw w 0 4) 0 then s
    else if s.uPhy p ≠ 2 then s.finishBad w 0 0x14
    else s.modRing w 0 (fun r => { r with aux := 1, t0 := s.now }))

/-- KLINE_INIT_5BAUD (R805): the address goes out at 5 baud, then the sync character is measured: its bit period in 1/256 tick,
when it came within 300 ms and was 0x55. -/
def klineInit5Baud (p : Nat) (sound : Bool) (period : Nat) (s : State) : State :=
  let w := uartWin p
  if p < 6 ∧ s.inHand w 0 = some 0x13 ∧ bit (s.dw w 0 4) 0 = true ∧ (s.ring w 0).aux = 1 then
    if sound then
      let v := clampNat 8192 0xFFFFFFFF period
      (s.setReg (uA p A.U_BAUD) (wd v)).finishDone w 0 (wd v)
    else s.finishBad w 0 0x82
  else s.uBegin p 0x13 (fun s =>
    if !bit (s.dw w 0 4) 0 then s
    else if s.uPhy p ≠ 2 then s.finishBad w 0 0x14
    else s.modRing w 0 (fun r => { r with aux := 1, t0 := s.now }))

/-- Every byte of a range lies in always-on SRAM (R793). -/
def inAon (a len : Nat) : Bool := decide (0x20100000 ≤ a) && decide (a + len ≤ 0x20104000)

/-- UART_RX (R793, R794, R806, R807). -/
def uartRx (p : Nat) (s : State) : State :=
  if p < 6 then
    let w := uartWin p
    s.whenHand w 1 0x11 (fun s =>
      if (s.ring w 1).aux ≠ 0 then s
      else if !s.uRing p then s.finishBad w 1 0x14
      else if uartL p && !inAon (s.dw w 1 2).toNat (s.dw w 1 1).toNat then s.finishBad w 1 0x13
      else (s.startLog w 1 0x11).uDrain p 64)
  else s

/-- UART_RX_IDLE (R807): IDLE_CH character times have passed without a character, after at least one was written. -/
def uartRxIdle (p : Nat) (s : State) : State :=
  let w := uartWin p
  let k := s.field (uA p A.U_IDLE) 0 8
  let r := s.ring w 1
  if p < 6 ∧ k ≠ 0 ∧ s.logging w 1 0x11 = true ∧ 0 < r.count ∧ (s.uart p).rxAt + k * s.uChar p ≤ s.now then
    s.finish w 1 { status := 0, result := wd r.count, uflags := 1 }
  else s

/-! ## Register laws -/

/-- R785, R786: what U_CTL, U_FRAME and U_BAUD store beyond their own fields. -/
def State.uStore (s : State) (p off : Nat) (v : Word) : State :=
  let s1 := s.store (uA p off) v
  if off = A.U_FRAME then (if s1.uNine p then s1.setField (uA p off) 2 2 0 else s1)
  else if off = A.U_BAUD ∧ uartL p = true then
    s1.setReg (uA p off) (wd (max (if s1.uCtl p 4 then 218 else 2208) (s1.reg (uA p off)).toNat))
  else if off = A.U_CTL then
    (if uartL p then s1 else s1.setBitReg (uA p off) 1).uPump p
  else s1

end Sys2Proof.Machine
end

