-- ==== Sys2Proof/Machine/Ports.lean ====
section
/-! DEFINITION. Ethernet, SPI, I2C and USB, clock loss of the ports and the SAFE action of check domain 6 (19, R815 to R829,
R836, R837). -/
namespace Sys2Proof.Machine

/-- A 64-bit number as eight bytes, least significant first. -/
def le64 (n : Nat) : List Byte := (List.range 8).map (fun i => BitVec.ofNat 8 (n / 256 ^ i))

/-- A 32-bit number as four bytes, least significant first. -/
def le32 (n : Nat) : List Byte := (List.range 4).map (fun i => BitVec.ofNat 8 (n / 256 ^ i))

/-! ## Ethernet -/

/-- Changes the MAC's hidden state. -/
def State.modEth (s : State) (f : Eth → Eth) : State := { s with ser := { s.ser with eth := f s.ser.eth } }

/-- The CRC-32 of IEEE 802.3: reflected polynomial 0xEDB88320, all ones before and complemented after. -/
def fcs (bs : List Byte) : Nat :=
  let step (c : Nat) (_ : Nat) : Nat := if c % 2 = 1 then (c / 2) ^^^ 0xEDB88320 else c / 2
  (bs.foldl (fun c b => (List.range 8).foldl step (c ^^^ b.toNat)) 0xFFFFFFFF) ^^^ 0xFFFFFFFF

/-- The MAC is on, enabled and clocked. -/
def State.ethOn (s : State) : Bool := s.live .eth && s.flag A.ETH_CTL 0 && s.clockRuns 19

/-- The frame as it leaves: padded to 60 bytes with zeros, FCS appended (R816). -/
def ethWire (bs : List Byte) : List Byte :=
  let p := bs ++ List.replicate (60 - bs.length) 0#8
  p ++ le32 (fcs p)

/-- ETH_TX (R816): the frame in hand has left (0), met 16 collisions (1) or a late collision (2); `sfd` is the tick count of its
start-frame delimiter. Collisions end a frame in half duplex only. -/
def ethTx (outcome sfd : Nat) (s : State) : State :=
  s.whenHand .eth 0 0x10 (fun s =>
    if (s.ring .eth 0).aux = 0 then s.modRing .eth 0 (fun r => { r with aux := 1, t0 := s.now })
    else if !s.ethOn || s.safeHolds 6 || s.gated .eth || decide (s.now < s.ser.eth.pauseTo) then s
    else
      let h := (s.ring .eth 0).host
      let len := (s.dw .eth 0 1).toNat
      let half := !s.flag A.ETH_CTL 1
      if half && outcome == 1 then ((s.setBitReg A.ETH_ERR 5).raise 1091).finishBad .eth 0 0x81
      else if half && outcome == 2 then ((s.setBitReg A.ETH_ERR 4).raise 1091).finishBad .eth 0 0x82
      else
        let s1 := s.modEth (fun e => { e with sent := ethWire (s.viewBytes h (s.dw .eth 0 2).toNat len) })
        let b := s.dw .eth 0 3
        let s2 := if b = 0#32 then s1 else s1.putBytes h b.toNat (le64 sfd)
        (s2.modReg A.ETH_CNT (fun c => wrapAdd c 0 16 1)).finishDone .eth 0 (wd len))

/-- The destination address of a frame, and whether the MAC takes it (R817). -/
def State.ethForUs (s : State) (frame : List Byte) : Bool :=
  let dst := frame.take 6
  let own := le32 (s.reg A.ETH_MAC_LO).toNat ++ (le32 (s.reg A.ETH_MAC_HI).toNat).take 2
  let bin := fcs dst / 2 ^ 26
  let hash := if bin < 32 then s.flag A.ETH_HASH_LO bin else s.flag A.ETH_HASH_HI (bin - 32)
  let bcast := dst.all (· == 0xFF#8)
  s.flag A.ETH_CTL 3 || dst == own || (bcast && s.flag A.ETH_CTL 4) ||
    (((dst.getD 0 0#8).getLsbD 0) && !bcast && hash)

/-- R818: one frame goes to the running RX descriptor. -/
def State.ethDeliver (s : State) (f : EthFrame) : State :=
  let h := (s.ring .eth 1).host
  let len := f.frame.length
  let s1 := s.putBytes h (s.dw .eth 1 2).toNat (f.frame.take (s.dw .eth 1 1).toNat)
  let s2 := s1.putBytes h (s.dw .eth 1 3).toNat (le32 len ++ le32 f.flags ++ le64 f.sfd)
  s2.finishDone .eth 1 (wd len)

/-- The quanta of a PAUSE frame (IEEE 802.3, annex 31B): its destination, type and opcode; none otherwise. -/
def pauseQuanta (frame : List Byte) : Option Nat :=
  if frame.take 6 = [0x01#8, 0x80#8, 0xC2#8, 0x00#8, 0x00#8, 0x01#8] ∧ (frame.drop 12).take 4 = [0x88#8, 0x08#8, 0x00#8, 0x01#8] then
    some ((frame.getD 16 0#8).toNat * 256 + (frame.getD 17 0#8).toNat)
  else none

/-- ETH_FRAME_RECEIVED (R817, R818): a frame without its FCS, whether the FCS was right, and its start's tick count. A pause
quantum is 512 bit times. -/
def ethFrameReceived (frame : List Byte) (fcsOk : Bool) (sfd : Nat) (s : State) : State :=
  if !s.ethOn then s
  else
    let len := frame.length + 4
    let lenOk := decide (64 ≤ len ∧ len ≤ 1522)
    let s1 := if fcsOk then s else s.setBitReg A.ETH_ERR 1
    let s2 := if lenOk then s1 else s1.setBitReg A.ETH_ERR 2
    let good := fcsOk && lenOk
    match (if good && s.flag A.ETH_CTL 5 && s.flag A.ETH_CTL 1 then pauseQuanta frame else none) with
    | some q => s2.modEth (fun e => { e with pauseTo := s.now + q * 512 * (if s.flag A.ETH_CTL 2 then 4 else 40) })
    | none =>
      if s.ethForUs frame && (good || s.flag A.ETH_CTL 6) then
        let bcast := (frame.take 6).all (· == 0xFF#8)
        let multi := ((frame.getD 0 0#8).getLsbD 0) && !bcast
        let f : EthFrame := ⟨frame, (!fcsOk).toNat + 2 * (!lenOk).toNat + 4 * multi.toNat + 8 * bcast.toNat, sfd % 2 ^ 64⟩
        let s3 := s2.modReg A.ETH_CNT (fun c => wrapAdd c 16 16 1)
        if s3.logging .eth 1 0x11 then s3.ethDeliver f
        else if (s3.ser.eth.queue.map (fun g => g.frame.length)).foldl (· + ·) 0 + frame.length ≤ 4096 then
          s3.modEth (fun e => { e with queue := e.queue ++ [f] })
        else (s3.setBitReg A.ETH_ERR 0).raise 1090
      else s2

/-- ETH_RX (R818): takes the oldest waiting frame, or waits for one. -/
def ethRx (s : State) : State :=
  s.whenHand .eth 1 0x11 (fun s =>
    if (s.ring .eth 1).aux ≠ 0 then s
    else
      let s1 := s.modRing .eth 1 (fun r => { r with aux := 1, t0 := s.now })
      match s.ser.eth.queue with
      | f :: rest => (s1.modEth (fun e => { e with queue := rest })).ethDeliver f
      | [] => s1)

/-- MDIO (R819): one clause 22 access has ended; `data` is what a read returned. The spec gives a write no result: free. -/
def mdio (data : Nat) (s : State) : State :=
  s.whenHand .eth 0 0x12 (fun s =>
    if bit (s.dw .eth 0 4) 10 then s.useFree.finishDone .eth 0 s.freeWord else s.finishDone .eth 0 (wd (data % 65536)))

/-! ## SPI -/

/-- The window of SPI port `p`. -/
def spiWin (p : Nat) : Win := [Win.spi0, .spi1, .spi2].getD p .spi0
/-- The hidden state of SPI port `p`. -/
def State.spi (s : State) (p : Nat) : Spi := s.ser.spi.get (fun _ => {}) p
/-- Changes it. -/
def State.modSpi (s : State) (p : Nat) (f : Spi → Spi) : State :=
  { s with ser := { s.ser with spi := s.ser.spi.set (fun _ => {}) p (f (s.spi p)) } }
/-- A register of SPI port `p`. -/
def spA (p off : Nat) : Nat := (spiWin p).base + off
/-- The port is a peripheral. -/
def State.spiPeriph (s : State) (p : Nat) : Bool := s.flag (spA p A.SPI_CTL) 1

/-- Received bytes as words of the port's size: bits above a word's size read 0 (R820). -/
def State.spiMask (s : State) (p : Nat) (bs : List Byte) : List Byte :=
  let n := s.spiWordBytes (spiWin p)
  let bits := s.field (spA p A.SPI_CTL) 5 5 + 1
  bs.zipIdx.map (fun x => BitVec.ofNat 8 (x.1.toNat % 2 ^ (min 8 (bits - 8 * (x.2 % n)))))

/-- The bytes XFER sends for `k` bytes from offset `o`: from ADDR_A, or FILL (R821). -/
def State.spiOut (s : State) (p n o k : Nat) : List Byte :=
  let w := spiWin p
  if s.dw w n 2 = 0#32 then
    (List.range k).map (fun i => byteOf (s.reg (spA p A.SPI_FILL)) (i % s.spiWordBytes w))
  else s.viewBytes (s.ring w n).host ((s.dw w n 2).toNat + o) k

/-- SPI_XFER (R821, R822): as controller, the whole transfer with the bytes received; as peripheral, the words exchanged next,
while PSEL_N is low, and whether FILL had to be sent for one of them. -/
def spiXfer (p n : Nat) (rx : List Byte) (filled : Bool) (s : State) : State :=
  if ¬ (p < 3 ∧ n < 2) then s
  else
    let w := spiWin p
    s.whenHand w n 0x10 (fun s =>
      if !s.live w || !s.flag (spA p A.SPI_CTL) 0 || s.safeHolds 6 then s
      else
        let r := s.ring w n
        let len := (s.dw w n 1).toNat
        let per := s.spiPeriph p
        let k := if per then min rx.length (len - r.count) / s.spiWordBytes w * s.spiWordBytes w else len
        let got := s.spiMask p ((List.range k).map (fun i => rx.getD i 0#8))
        let b := s.dw w n 3
        let s1 := if b = 0#32 then s else s.putBytes r.host (b.toNat + r.count) got
        let keep := !per && bit (s.dw w n 0) 11
        let s2 := s1.modSpi p (fun x =>
          { x with sent := s.spiOut p n r.count k, filled := (x.filled && r.aux == 1) || filled, cs := if keep then some (fld (s.dw w n 4) 0 2) else none })
        let s3 := s2.modRing w n (fun r => { r with aux := 1, count := r.count + k })
        if per && (s2.spi p).filled && decide (len ≤ r.count + k) then s3.finish w n { status := 0x81, result := wd (r.count + k) }
        else if len ≤ r.count + k then s3.finishDone w n (wd (r.count + k)) else s3)

/-- SPI_PSEL_RISE (R822): PSEL_N rises before LENGTH is reached. -/
def spiPselRise (p n : Nat) (s : State) : State :=
  if ¬ (p < 3 ∧ n < 2) then s
  else
    let w := spiWin p
    if s.spiPeriph p && s.logging w n 0x10 then
      s.finish w n { status := if (s.spi p).filled then 0x81 else 0, result := wd (s.ring w n).count }
    else s

/-- SPI_PERIPHERAL_WORD (R822): a word is demanded while no XFER runs. -/
def spiPeripheralWord (p : Nat) (s : State) : State :=
  let w := spiWin p
  if p < 3 ∧ s.live w = true ∧ s.flag (spA p A.SPI_CTL) 0 = true ∧ s.spiPeriph p = true ∧
      (s.inHand w 0).isNone = true ∧ (s.inHand w 1).isNone = true then
    ((s.modSpi p (fun x => { x with sent := (List.range (s.spiWordBytes w)).map (fun i => byteOf (s.reg (spA p A.SPI_FILL)) i) })).setBitReg
      (spA p A.SPI_ERR) 0).raise (w.ringSource + 2)
  else s

/-! ## I2C -/

/-- The window of I2C port `p`. -/
def i2cWin (p : Nat) : Win := if p = 0 then .i2c0 else .i2c1
/-- The hidden state of I2C port `p`. -/
def State.i2c (s : State) (p : Nat) : I2c := s.ser.i2c.get (fun _ => {}) p
/-- Changes it. -/
def State.modI2c (s : State) (p : Nat) (f : I2c → I2c) : State :=
  { s with ser := { s.ser with i2c := s.ser.i2c.set (fun _ => {}) p (f (s.i2c p)) } }
/-- A register of I2C port `p`. -/
def icA (p off : Nat) : Nat := (i2cWin p).base + off
/-- The port can run controller transfers now. -/
def State.i2cOn (s : State) (p : Nat) : Bool := decide (p < 2) && s.live (i2cWin p) && s.flag (icA p A.I2C_CTL) 0

/-- An error of the port: its bit and I2C_ERR. -/
def State.i2cErr (s : State) (p b : Nat) : State := (s.setBitReg (icA p A.I2C_ERR) b).raise ((i2cWin p).ringSource + 2)

/-- The bus is busy, or free after a STOP. -/
def State.i2cBusy (s : State) (p : Nat) (b : Bool) : State :=
  (s.modReg (icA p A.I2C_STAT) (fun w => setBit w 0 b)).modI2c p (fun x => { x with opened := b })

/-- R824: the end of a controller descriptor whose own data are done: `k` is the result of an acknowledged transfer. -/
def State.i2cFinish (s : State) (p : Nat) (e : I2cEnd) (k : Nat) : State :=
  let w := i2cWin p
  let stop := s.i2cBusy p false
  match e with
  | .acked => (if bit (s.dw w 0 0) 11 then s.i2cBusy p true else stop).finishDone w 0 (wd k)
  | .nackAddr => (stop.i2cErr p 1).finishBad w 0 0x82
  | .nackData j => (stop.i2cErr p 1).finish w 0 { status := 0x83, result := wd j }
  | .arbLost => (stop.i2cErr p 0).finishBad w 0 0x81

/-- A controller descriptor: it starts, then ends as `f` says. -/
def State.i2cRun (s : State) (p op : Nat) (f : State → State) : State :=
  let w := i2cWin p
  if p < 2 then
    s.whenHand w 0 op (fun s =>
      if !s.i2cOn p || s.safeHolds 6 then s
      else if (s.ring w 0).aux = 0 then (s.modRing w 0 (fun r => { r with aux := 1, t0 := s.now })).modReg (icA p A.I2C_STAT) (fun v => setBit v 0 true)
      else f s)
  else s

/-- I2C_WRITE (R824). -/
def i2cWrite (p : Nat) (e : I2cEnd) (s : State) : State :=
  let w := i2cWin p
  s.i2cRun p 0x10 (fun s =>
    let len := (s.dw w 0 1).toNat
    (s.modI2c p (fun x => { x with sent := s.viewBytes (s.ring w 0).host (s.dw w 0 2).toNat len })).i2cFinish p e len)

/-- The data a read brings: as many bytes as the transfer asked for. -/
def i2cData (k : Nat) (rx : List Byte) : List Byte := (List.range k).map (fun i => rx.getD i 0xFF#8)

/-- I2C_READ (R824). -/
def i2cRead (p : Nat) (e : I2cEnd) (rx : List Byte) (s : State) : State :=
  let w := i2cWin p
  s.i2cRun p 0x11 (fun s =>
    let len := (s.dw w 0 1).toNat
    let s1 := if e = .acked then s.putBytes (s.ring w 0).host (s.dw w 0 2).toNat (i2cData len rx) else s
    s1.i2cFinish p e len)

/-- I2C_WRITE_READ (R824). -/
def i2cWriteRead (p : Nat) (e : I2cEnd) (rx : List Byte) (s : State) : State :=
  let w := i2cWin p
  s.i2cRun p 0x12 (fun s =>
    let h := (s.ring w 0).host
    let len := (s.dw w 0 1).toNat
    let k := fld (s.dw w 0 5) 0 16
    let s1 := s.modI2c p (fun x => { x with sent := s.viewBytes h (s.dw w 0 2).toNat len })
    let s2 := if e = .acked then s1.putBytes h (s.dw w 0 3).toNat (i2cData k rx) else s1
    s2.i2cFinish p e k)

/-- BUS_CLEAR (R824): nine clocks and STOP; `sda` is the level of SDA after. -/
def i2cBusClear (p : Nat) (sda : Bool) (s : State) : State :=
  s.i2cRun p 0x13 (fun s =>
    ((s.i2cBusy p false).modReg (icA p A.I2C_STAT) (fun v => setBit v 2 (!sda))).finishDone (i2cWin p) 0 (wd sda.toNat))

/-- I2C_SCL_TIMEOUT (R824): SCL has been held low for SCL_TMO; both lines are released. -/
def i2cSclTimeout (p : Nat) (s : State) : State :=
  let w := i2cWin p
  if p < 2 ∧ s.field (icA p A.I2C_TMO) 0 8 ≠ 0 ∧ (s.inHand w 0).isSome = true ∧ (s.ring w 0).aux = 1 ∧
      (s.ring w 0).t0 + s.field (icA p A.I2C_TMO) 0 8 * 400000 ≤ s.now then
    ((s.i2cBusy p false).i2cErr p 2).finishBad w 0 0x40
  else s

/-- R823, R825, R837: the target stretches SCL while no suitable descriptor runs or the SAFE action holds. -/
def State.i2cStretch (s : State) (p : Nat) : State :=
  let serves := match (s.i2c p).target with
    | some rd => s.logging (i2cWin p) 1 (if rd then 0x19 else 0x18) && !s.safeHolds 6
    | none => true
  s.modReg (icA p A.I2C_STAT) (fun v => setBit v 1 (!serves))

/-- I2C_TARGET_ADDRESSED (R823, R825): a controller addresses `addr`, or the general call, to read or write. -/
def i2cTargetAddressed (p addr : Nat) (general rd : Bool) (s : State) : State :=
  let own := s.field (icA p A.I2C_OWN) 0 (if s.flag (icA p A.I2C_CTL) 5 then 10 else 7)
  let hit := if general then s.flag (icA p A.I2C_CTL) 4 && !rd else addr == own
  if s.i2cOn p && s.flag (icA p A.I2C_CTL) 1 && hit then
    (((s.modI2c p (fun x => { x with target := some rd })).modReg (icA p A.I2C_STAT) (fun v => setBit v 0 true)).i2cStretch p).raise
      ((i2cWin p).ringSource + 3)
  else s

/-- A target transfer ends at its STOP or repeated START. -/
def State.i2cTargetEnd (s : State) (p : Nat) : State :=
  (s.modI2c p (fun x => { x with target := none })).modReg (icA p A.I2C_STAT) (fun v => setBit (setBit v 0 false) 1 false)

/-- TGT_RX (R825): it starts; then a transfer that wrote `data` ends it. Bytes beyond LENGTH receive NACK. -/
def tgtRx (p : Nat) (data : List Byte) (s : State) : State :=
  let w := i2cWin p
  if ¬ (p < 2) then s
  else s.whenHand w 1 0x18 (fun s =>
    if (s.ring w 1).aux = 0 then (s.startLog w 1 0x18).i2cStretch p
    else if (s.i2c p).target = some false ∧ s.safeHolds 6 = false then
      let len := (s.dw w 1 1).toNat
      let got := data.take len
      let s1 := (s.putBytes (s.ring w 1).host (s.dw w 1 2).toNat got).i2cTargetEnd p
      (if len < data.length then s1.i2cErr p 3 else s1).finishDone w 1 (wd got.length)
    else s)

/-- TGT_TX (R825): it starts; then a transfer that read `k` bytes ends it. Beyond LENGTH the read returns 0xFF. -/
def tgtTx (p k : Nat) (s : State) : State :=
  let w := i2cWin p
  if ¬ (p < 2) then s
  else s.whenHand w 1 0x19 (fun s =>
    if (s.ring w 1).aux = 0 then (s.startLog w 1 0x19).i2cStretch p
    else if (s.i2c p).target = some true ∧ s.safeHolds 6 = false then
      let len := (s.dw w 1 1).toNat
      let out := s.viewBytes (s.ring w 1).host (s.dw w 1 2).toNat (min k len) ++ List.replicate (k - len) 0xFF#8
      ((s.modI2c p (fun x => { x with sent := out })).i2cTargetEnd p).finishDone w 1 (wd (min k len))
    else s)

/-! ## USB -/

/-- Changes the USB port's hidden state. -/
def State.modUsb (s : State) (f : Usb → Usb) : State := { s with ser := { s.ser with usb := f s.ser.usb } }

/-- The pull-up on D+ is connected (R826, R836). -/
def State.usbAttached (s : State) : Bool :=
  s.live .usb && s.flag A.USB_CTL 0 && s.flag A.USB_CTL 1 && decide (s.ser.usb.detachTo ≤ s.now) && s.clockRuns 20

/-- USB_STAT as a read shows it. -/
def State.usbStat (s : State) : Word := setBit (s.reg A.USB_STAT) 1 s.usbAttached

/-- The register of endpoint `e`. -/
def usbEpA (e : Nat) : Nat := if e = 0 then A.USB_EP0 else A.USB_EP (e - 1)

/-- MPS of endpoint `e`: 64 for EP0. -/
def State.usbMps (s : State) (e : Nat) : Nat := if e = 0 then 64 else s.field (usbEpA e) 0 7

/-- R829: may the transfer in hand on ring `n` run on endpoint `e`? Its failing status if not. -/
def State.usbJudge (s : State) (e : Nat) (isIn : Bool) : Option Nat :=
  if e = 0 then (if s.flag A.USB_EP0 11 then some 0x83 else none)
  else if !s.flag (usbEpA e) (if isIn then 8 else 9) then some 0x14
  else if s.flag (usbEpA e) (if isIn then 11 else 12) then some 0x83
  else none

/-- The endpoint of the transfer in hand. -/
def State.usbEndpoint (s : State) (n : Nat) : Nat := if n = 0 then 0 else fld (s.dw .usb n 4) 0 3

/-- R829: one IN packet of the transfer in hand is taken by the host; the first call judges the endpoint. -/
def State.usbIn (s : State) (n op : Nat) : State :=
  s.whenHand .usb n op (fun s =>
    let e := s.usbEndpoint n
    let bad := if n ≠ 0 ∧ e = 0 then some 0x14 else s.usbJudge e true
    match bad with
    | some st => s.finish .usb n { status := st, result := wd (s.ring .usb n).count }
    | none =>
      let r := s.ring .usb n
      if r.aux = 0 then s.modRing .usb n (fun r => { r with aux := 1, t0 := s.now })
      else if !s.usbAttached || s.safeHolds 6 || s.gated .usb then s
      else
        let len := (s.dw .usb n 1).toNat
        let mps := s.usbMps e
        let k := min mps (len - r.count)
        let zlp := bit (s.dw .usb n 4) (if n = 0 then 0 else 8)
        let s1 := (s.modUsb (fun u => { u with sent := s.viewBytes r.host ((s.dw .usb n 2).toNat + r.count) k })).modRing .usb n
          (fun r => { r with count := r.count + k })
        let last := decide (len ≤ r.count + k) && (decide (k < mps) || !zlp)
        if last then s1.finishDone .usb n (wd (r.count + k)) else s1)

/-- R829: one OUT packet arrives for the transfer in hand; the first call judges the endpoint. -/
def State.usbOut (s : State) (n op : Nat) (pkt : List Byte) : State :=
  s.whenHand .usb n op (fun s =>
    let e := s.usbEndpoint n
    let bad := if n ≠ 0 ∧ e = 0 then some 0x14 else s.usbJudge e false
    match bad with
    | some st => s.finish .usb n { status := st, result := wd (s.ring .usb n).count }
    | none =>
      let r := s.ring .usb n
      if r.aux = 0 then s.modRing .usb n (fun r => { r with aux := 1, t0 := s.now })
      else if !s.usbAttached || s.gated .usb then s
      else
        let len := (s.dw .usb n 1).toNat
        let got := pkt.take (len - r.count)
        let s1 := (s.putBytes r.host ((s.dw .usb n 2).toNat + r.count) got).modRing .usb n (fun r => { r with count := r.count + got.length })
        let s2 := if got.length < pkt.length then s1.setBitReg A.USB_ERR 2 else s1
        if len ≤ r.count + got.length ∨ pkt.length < s.usbMps e then s2.finishDone .usb n (wd (r.count + got.length)) else s2)

/-- R829: a SETUP packet that waits goes to the SETUP_WAIT in hand. -/
def State.usbSetupGive (s : State) : State :=
  s.whenHand .usb 0 0x10 (fun s =>
    match s.ser.usb.setup with
    | some b =>
      ((s.putBytes (s.ring .usb 0).host (s.dw .usb 0 2).toNat b).modUsb (fun u => { u with setup := none })).finishDone .usb 0 8#32
    | none => s.modRing .usb 0 (fun r => { r with aux := 1 }))

/-- SETUP_WAIT (R829): starts, and with eight bytes given, the SETUP packet that arrives. -/
def setupWait (pkt : List Byte) (s : State) : State :=
  if pkt.length = 8 ∧ s.usbAttached = true then
    let op := s.inHand .usb 0
    let s1 := if op = some 0x11 ∨ op = some 0x12 then
        s.finish .usb 0 { status := 0x70, result := wd (s.ring .usb 0).count } else s
    (((s1.clrBitReg A.USB_EP0 11).modUsb (fun u => { u with setup := some pkt }))).usbSetupGive
  else s.usbSetupGive

/-- EP0_IN (R829). -/
def ep0In (s : State) : State := s.usbIn 0 0x11
/-- EP0_OUT (R829): LENGTH 0 completes with the zero-length packet. -/
def ep0Out (pkt : List Byte) (s : State) : State := s.usbOut 0 0x12 pkt
/-- IN_XFER (R829). -/
def inXfer (n : Nat) (s : State) : State := if 1 ≤ n ∧ n ≤ 3 then s.usbIn n 0x18 else s
/-- OUT_XFER (R829). -/
def outXfer (n : Nat) (pkt : List Byte) (s : State) : State := if 1 ≤ n ∧ n ≤ 3 then s.usbOut n 0x19 pkt else s

/-- R827: what a bus reset does. -/
def State.usbReset (s : State) : State :=
  let s1 := (s.modReg A.USB_STAT (fun w => setFld (setBit w 2 false) 8 7 0)).clrBitReg A.USB_ADDR 7
  let s2 := (List.range 7).foldl (fun s k => s.modReg (A.USB_EP k) (fun w => w &&& ~~~ 0x1B00#32)) s1
  let s3 := [1, 2, 3].foldl (fun s n => if (s.inHand .usb n).isSome then
      s.finish .usb n { status := 0x80, result := wd (s.ring .usb n).count } else s) s2
  (s3.modUsb (fun u => { u with setup := none, resumeTo := 0 })).raise 1140

/-- USB_BUS_RESET (R827). -/
def usbBusReset (s : State) : State := if s.usbAttached then s.usbReset else s

/-- USB_SUSPEND (R827): 3 ms of bus idle. -/
def usbSuspend (s : State) : State :=
  if s.usbAttached && !s.flag A.USB_STAT 2 then (s.setBitReg A.USB_STAT 2).raise 1141 else s

/-- What a write of USB_CMD does (R827). -/
def State.usbCmdEffect (s : State) (v : Word) : State :=
  if bit v 0 && s.usbAttached && s.flag A.USB_STAT 2 then s.modUsb (fun u => { u with resumeTo := s.now + 4000000 }) else s

/-- USB_RESUME (R827): a write of RESUME. -/
def usbResume (m size : Nat) (v : Word) (s : State) : State :=
  s.plainWrite .usb m A.USB_CMD (fun s => s.usbCmdEffect (w1cBits A.USB_CMD size v))

/-- USB_HOST_RESUME (R827). -/
def usbHostResume (s : State) : State :=
  if s.usbAttached && s.flag A.USB_STAT 2 then ((s.clrBitReg A.USB_STAT 2).modUsb (fun u => { u with resumeTo := 0 })).raise 1142 else s

/-- USB_SOF (R827). -/
def usbSof (frame : Nat) (s : State) : State :=
  if s.usbAttached then (s.setField A.USB_STAT 16 11 frame).raise 1143 else s

/-- USB_ADDR_WRITE (R828): the control transfer in progress reaches its successful status stage; a pending address takes effect. -/
def usbAddrWrite (s : State) : State :=
  if s.usbAttached && s.flag A.USB_ADDR 7 then (s.setField A.USB_STAT 8 7 (s.field A.USB_ADDR 0 7)).clrBitReg A.USB_ADDR 7 else s

/-- USB_VBUS_CHANGE (R827). -/
def usbVbusChange (level : Bool) (s : State) : State :=
  if s.live .usb && (s.flag A.USB_STAT 0 != level) then (s.modReg A.USB_STAT (fun w => setBit w 0 level)).raise 1144 else s

/-! ## Clock loss (R836) -/

/-- The clock domain, error register and bit, status of the TX in hand, and event of the ports that R836 names. -/
def clkLostRow : Win → Option (Nat × Nat × Nat × Nat × Nat)
  | .can0 => some (18, cA 0 A.CAN_ERR, 6, 0x81, 1077)
  | .can1 => some (18, cA 1 A.CAN_ERR, 6, 0x81, 1085)
  | .eth => some (19, A.ETH_ERR, 3, 0x83, 1092)
  | .usb => some (20, A.USB_ERR, 3, 0x81, 1145)
  | _ => none

/-- The window of port `p` of R836: CAN0, CAN1, ETH, USB. -/
def clkPort (p : Nat) : Win := [Win.can0, .can1, .eth, .usb].getD p .can0

/-- The transmitting descriptors in hand of a port (R836, R837): ring and opcode. -/
def txInHand (w : Win) : List (Nat × Nat) :=
  match w with
  | .ul0 | .ul1 | .uq0 | .uq1 | .uq2 | .uq3 => [(0, 0x10), (0, 0x12), (0, 0x13)]
  | .can0 | .can1 | .eth => [(0, 0x10)]
  | .spi0 | .spi1 | .spi2 => [(0, 0x10), (1, 0x10)]
  | .i2c0 | .i2c1 => [(0, 0x10), (0, 0x11), (0, 0x12), (0, 0x13)]
  | .usb => [(0, 0x11), (1, 0x18), (2, 0x18), (3, 0x18)]
  | _ => []

/-- Ends the transmitting descriptors in hand of a port with a status. -/
def State.endTx (s : State) (w : Win) (status : Nat) : State :=
  (txInHand w).foldl (fun s p =>
    if s.inHand w p.1 = some p.2 then s.finish w p.1 { status := status, result := wd (s.ring w p.1).count } else s) s

/-- PORT_CLK_LOST (R836): R221 or R223 has gated the port's clock. -/
def portClkLost (p : Nat) (s : State) : State :=
  let w := clkPort p
  match clkLostRow w with
  | some (_, a, b, st, ev) =>
    if p < 4 ∧ s.live w = true ∧ s.flag A.CLK_STAT 10 = true ∧ s.ser.clkLost.get (fun _ => false) w.code = false then
      let s1 := ({ s with ser := { s.ser with clkLost := s.ser.clkLost.set (fun _ => false) w.code true } }).endTx w st
      let s2 := match w with
        | .can0 => s1.setField (cA 0 A.CAN_STAT) 0 2 3
        | .can1 => s1.setField (cA 1 A.CAN_STAT) 0 2 3
        | _ => s1
      (s2.setBitReg a b).raise ev
    else s
  | none => s

/-- PORT_CLK_RESTORED (R836): CAN waits for 11 recessive bits, ETH resumes at the next frame, USB detaches for 10 ms and acts as
after a bus reset. -/
def portClkRestored (p : Nat) (s : State) : State :=
  let w := clkPort p
  if p < 4 ∧ s.flag A.CLK_STAT 10 = false ∧ s.ser.clkLost.get (fun _ => false) w.code = true then
    let s1 := { s with ser := { s.ser with clkLost := s.ser.clkLost.set (fun _ => false) w.code false } }
    if w = .usb then (s1.modUsb (fun u => { u with detachTo := s.now + 4000000 })).usbReset else s1
  else s

/-! ## Check domain 6 (R837) -/

/-- TX_HELD of a port (Table SER-8). -/
def txHeldCode : Win → Nat
  | .can0 | .can1 | .usb => 0x82
  | _ => 0x80

/-- R837: the SAFE action of domain 6 starts: every transmitting descriptor in hand completes TX_HELD. -/
def State.portsHeld (s : State) : State :=
  let s1 := [Win.ul0, .ul1, .uq0, .uq1, .uq2, .uq3, .can0, .can1, .eth, .spi0, .spi1, .spi2, .i2c0, .i2c1, .usb].foldl
    (fun s w => s.endTx w (txHeldCode w)) s
  let s2 := (List.range 6).foldl (fun (t : State) p => t.modUart p (fun u =>
    { u with shift := none, tx := if s.uSending p then [] else u.tx, owed := 0, echo := none, flow := [] })) s1
  (List.range 2).foldl (fun s p => s.i2cStretch p) s2

/-- R837: the action ends. -/
def State.portsFree (s : State) : State :=
  (List.range 2).foldl (fun s p => s.i2cStretch p) ((List.range 6).foldl (fun s p => s.uPump p) s)

/-- R838: the ports of the PER domain lose power; UL0 and UL1 are in AON. -/
def State.resetPerPorts (s : State) : State :=
  { s with ser := { uart := s.ser.uart.filter (fun e => e.1 < 2) } }

end Sys2Proof.Machine
end

