-- ==== Sys2Proof/Machine/Events.lean ====
section
/-! DEFINITION. The event router, semaphores, mailboxes and what one core's reset does (03, R114 to R145). -/
namespace Sys2Proof.Machine

/-! ## Event router -/

/-- EVENT_ASSERT (R124, R125): a source asserts. -/
def eventAssert (src : Nat) (s : State) : State := s.raise src

/-- R128: a write of source number `src` to EVR_ACK clears its pending bit in the writing core's bank. -/
def State.evrAck (s : State) (c src : Nat) : State :=
  if src ≤ 1215 ∧ c ≤ 6 then s.setBanked c (pendAddr src) (s.banked c (pendAddr src) &&& ~~~ (bitMask (src % 32))) else s

/-- R130: SWEVn is raised for each bit set. -/
def State.swev (s : State) (mask : Word) : State :=
  (List.range 16).foldl (fun s n => if bit mask n then s.raise (72 + n) else s) s

/-- R120: a route write is refused. -/
def State.routeRefused (s : State) (i : Nat) : State := (s.setBitReg A.EVR_STAT i).raise 88

/-- R121: the CORES bits of a route entry, an absent core's bit storing 0, and its PRIO. -/
def routeStored (opt : Nat) (v : Word) : Word :=
  (List.range 7).foldl (fun w c => if bit v c && corePresent opt c then setBit w c true else w) (setFld 0#32 8 4 (fld v 8 4))

/-- R120 to R123: the effect of a route write whose pair has passed. -/
def State.routeEffect (s : State) (m : Nat) (v : Word) : State :=
  let i := s.field A.EVR_RT_IDX 0 11
  if s.standsFor m ≠ mH0 ∧ m ≠ mDBG then s.routeRefused 0
  else if 1215 < i then s.routeRefused 1
  else ({ s with routes := s.routes.set (fun _ => 0#32) i (routeStored s.opt v) }).leaveMove
    (fun e => match e with | .route k _ => k == i | _ => false)

/-- R126: the priority of a pending source in a bank, by its present route entry. -/
def State.prioOf (s : State) (src : Nat) : Nat := fld (s.route src) 8 4

/-- The pending sources of a bank, ascending. -/
def State.pendingOf (s : State) (c : Nat) : List Nat :=
  (List.range 38).flatMap (fun g =>
    let p := s.banked c (A.EVR_PEND g)
    (List.range 32).filterMap (fun b => if bit p b then some (32 * g + b) else none))

/-- R127: the pending source of highest priority above THRESH; the lowest number among equals. -/
def State.evrTop (s : State) (c : Nat) : Word :=
  let th := fld (s.banked c A.EVR_THRESH) 0 4
  let best := (s.pendingOf c).foldl (fun (b : Option (Nat × Nat)) src =>
    let p := s.prioOf src
    if th < p then (match b with | some (_, q) => if q < p then some (src, p) else b | none => some (src, p)) else b) none
  match best with
  | some (src, p) => setFld (setBit (setFld 0#32 0 11 src) 15 true) 16 4 p
  | none => 0#32

/-- R126: MEIP of a core. -/
def State.meip (s : State) (c : Nat) : Bool := s.flag A.EVR_CTL 0 && bit (s.evrTop c) 15

/-- WAIT (R131, R132): step 7 of the checks, then the descriptor listens. -/
def evrWait (n : Nat) (s : State) : State :=
  s.whenHand .evr n 0x10 (fun s =>
    if fld (s.dw .evr n 5) 0 24 = 0 then s.finishBad .evr n 0x11
    else if 1215 < fld (s.dw .evr n 4) 0 11 then s.finishBad .evr n 0x80
    else { (s.modRing .evr n (fun r => { r with aux := 1, t0 := s.now })) with
           waitHits := s.waitHits.set (fun _ => none) n none })

/-- The assertion a listening WAIT has heard ends it DONE with the tick count of the assertion (R131). -/
def evrWaitHit (n : Nat) (s : State) : State :=
  s.whenHand .evr n 0x10 (fun s =>
    match (s.ring .evr n).aux, s.waitHits.get (fun _ => none) n with
    | 1, some t => s.finishDone .evr n (wd t)
    | _, _ => s)

/-- WAIT_TIMEOUT (R131): the timeout's last tick; an assertion in it still completes the WAIT DONE. -/
def evrWaitTimeout (n : Nat) (s : State) : State :=
  s.whenHand .evr n 0x10 (fun s =>
    match (s.ring .evr n).aux, s.waitHits.get (fun _ => none) n with
    | 1, some t => s.finishDone .evr n (wd t)
    | 1, none => s.finish .evr n { status := 0x40, result := s.tick }
    | _, _ => s)

/-- RAISE (R133). -/
def evrRaise (n : Nat) (s : State) : State :=
  s.whenHand .evr n 0x11 (fun s => (s.swev (setFld 0#32 0 16 (fld (s.dw .evr n 4) 0 16))).finishDone .evr n 0#32)

/-! ## Semaphores -/

/-- A semaphore's stored fields: STATE, REPAIR, OWNER, PREV_OWNER, WAITERS (RESULT is kept per master, R137). -/
structure Sem where
  state : Nat
  repair : Bool
  owner : Nat
  prev : Nat
  waiters : Nat
  deriving DecidableEq, Repr

/-- Reads the fields of SEM_n (Table EVL-12). -/
def State.sem (s : State) (n : Nat) : Sem :=
  let w := s.reg (A.SEM n)
  ⟨fld w 0 2, bit w 2, fld w 4 4, fld w 8 4, fld w 16 4⟩

/-- The register word of a semaphore. -/
def Sem.word (x : Sem) : Word :=
  setFld (setFld (setFld (setBit (setFld 0#32 0 2 x.state) 2 x.repair) 4 4 x.owner) 8 4 x.prev) 16 4 x.waiters

/-- The RESULT of a master's last command on a semaphore (R137). -/
def State.semResult (s : State) (n m : Nat) : Nat := s.semRes.get (fun _ => 0) (16 * n + m)

/-- Records a RESULT (R137). -/
def State.setSemResult (s : State) (n m r : Nat) : State := { s with semRes := s.semRes.set (fun _ => 0) (16 * n + m) r }

/-- SEM_ORPH0 and SEM_ORPH1 follow the state of a semaphore. -/
def State.syncOrph (s : State) (n : Nat) : State :=
  let a := if n < 32 then A.SEM_ORPH0 else A.SEM_ORPH1
  s.modReg a (fun w => setBit w (n % 32) ((s.sem n).state == 2))

/-- R139: a semaphore that becomes FREE or ORPHANED raises SEM_AVAIL for each waiter and clears WAITERS. -/
def State.semAvail (s : State) (n : Nat) : State :=
  let x := s.sem n
  let s1 := (List.range 4).foldl (fun s c => if x.waiters.testBit c then s.raise (112 + c) else s) s
  s1.setReg (A.SEM n) { x with waiters := 0 }.word

/-- A semaphore's new state, with its orphan bit; SEM_AVAIL when it becomes FREE or ORPHANED, SEM_ORPHANED and the
ORPHANED status when it becomes ORPHANED. -/
def State.putSem (s : State) (n : Nat) (x : Sem) : State :=
  let s1 := (s.setReg (A.SEM n) x.word).syncOrph n
  let s2 := if x.state = 2 then (s1.setBitReg A.SEM_STAT 1).raise 116 else s1
  if x.state = 1 then s2 else s2.semAvail n

/-- R138, R143: a refused semaphore or mailbox command is captured and SEM_ERR raised. -/
def State.semErr (s : State) (idx : Nat) (mbx : Bool) (m reason : Nat) : State :=
  ((s.setBitReg A.SEM_STAT 0).setReg A.SEM_ERR_INFO
    (setFld (setFld (setBit (setFld 0#32 0 6 idx) 6 mbx) 8 4 m) 12 3 reason)).raise 117

/-- A semaphore command of any master: what R136 and R138 do around the command proper. -/
def State.semCmd (s : State) (m n size : Nat) (eff : State → State) : State :=
  s.plainWrite .sem m (A.SEM n) (fun s =>
    if size ≠ 4 then s.semErr n false m 3
    else if 4 ≤ m then (s.setSemResult n m 7).semErr n false m 2
    else eff s)

/-- SEM_ACQUIRE (R136, Table EVL-7). -/
def semAcquire (m n size : Nat) (wait : Bool) (s : State) : State :=
  s.semCmd m n size (fun s =>
    let x := s.sem n
    match x.state with
    | 0 => (s.setReg (A.SEM n) { x with state := 1, repair := false, owner := m }.word).setSemResult n m 1
    | 2 => ((s.setReg (A.SEM n) { x with state := 1, repair := true, owner := m }.word).syncOrph n).setSemResult n m 2
    | _ =>
      if x.owner = m then s.setSemResult n m 4
      else ((if wait then s.setReg (A.SEM n) { x with waiters := x.waiters ||| 2 ^ m }.word else s)).setSemResult n m 3)

/-- SEM_RELEASE (R136, R140). -/
def semRelease (m n size : Nat) (s : State) : State :=
  s.semCmd m n size (fun s =>
    let x := s.sem n
    if x.state = 1 ∧ x.owner = m then
      (if x.repair then s.putSem n { x with state := 2, repair := false, owner := 0xF }
       else s.putSem n { x with state := 0, owner := 0xF }).setSemResult n m 5
    else (s.setSemResult n m 6).semErr n false m 1)

/-- SEM_RELEASE_REPAIRED (R140). -/
def semReleaseRepaired (m n size : Nat) (s : State) : State :=
  s.semCmd m n size (fun s =>
    let x := s.sem n
    if x.state = 1 ∧ x.owner = m then
      (s.putSem n { x with state := 0, repair := false, owner := 0xF, prev := 0xF }).setSemResult n m 5
    else (s.setSemResult n m 6).semErr n false m 1)

/-- SEM_FORCE_ORPHAN (R136). -/
def semForceOrphan (m n size : Nat) (s : State) : State :=
  s.semCmd m n size (fun s =>
    let x := s.sem n
    if s.standsFor m ≠ mH0 then (s.setSemResult n m 7).semErr n false m 2
    else if x.state = 1 then (s.putSem n { x with state := 2, repair := false, owner := 0xF, prev := x.owner }).setSemResult n m 5
    else s.setSemResult n m 5)

/-! ## Mailboxes -/

/-- SENDER of a mailbox. -/
def State.mbxSender (s : State) (k : Nat) : Nat := s.field (A.MBX_CFG k) 0 4
/-- RECEIVER of a mailbox. -/
def State.mbxReceiver (s : State) (k : Nat) : Nat := s.field (A.MBX_CFG k) 4 4
/-- R144: a mailbox whose SENDER or RECEIVER is 0xF. -/
def State.mbxUnset (s : State) (k : Nat) : Bool := s.mbxSender k == 0xF || s.mbxReceiver k == 0xF

/-- MBX_DATA_WRITE (R141, R143, R144). -/
def mbxDataWrite (m k size : Nat) (v : Word) (s : State) : State :=
  s.plainWrite .sem m (A.MBX_DATA k) (fun s =>
    if size ≠ 4 then s.semErr k true m 3
    else if s.mbxUnset k then s.semErr k true m 7
    else if m ≠ s.mbxSender k then s.semErr k true m 4
    else if s.flag (A.MBX_STAT k) 0 then (s.setBitReg (A.MBX_STAT k) 1).semErr k true m 5
    else ((s.setReg (A.MBX_DATA k) v).setBitReg (A.MBX_STAT k) 0).raise (96 + k))

/-- R142 to R144: the clear of FULL. -/
def State.mbxClearFull (s : State) (m k : Nat) : State :=
  if s.mbxUnset k then s.semErr k true m 7
  else if m ≠ s.mbxReceiver k then s.semErr k true m 6
  else if s.flag (A.MBX_STAT k) 0 then (s.clrBitReg (A.MBX_STAT k) 0).raise (104 + k)
  else s

/-- R143, R144: the clear of OVF or DROP. -/
def State.mbxClearSender (s : State) (m k : Nat) (mask : Word) : State :=
  if s.mbxUnset k then s.semErr k true m 7
  else if m ≠ s.mbxSender k then s.semErr k true m 4
  else s.modReg (A.MBX_STAT k) (fun w => w &&& ~~~ (mask &&& 6#32))

/-- A write of MBX_STATm: each bit is judged on its own (R143). -/
def State.mbxStat (s : State) (m k : Nat) (bits : Word) : State :=
  let s1 := if bit bits 0 then s.mbxClearFull m k else s
  if bits &&& 6#32 = 0#32 then s1 else s1.mbxClearSender m k bits

/-! ## One core resets -/

/-- Table EVL-8: that core's event bank clears. -/
def State.clearBank (s : State) (c : Nat) : State :=
  { s with bank := s.bank.resetWhere (fun k =>
      decide (bankKey c A.EVR_THRESH ≤ k ∧ k ≤ bankKey c (A.EVR_PEND 37) ∧ k ≠ bankKey c A.EVR_ACK)) }

/-- Table EVL-8: a semaphore when its owner or a waiter resets; `true` when it became ORPHANED. -/
def State.semOnReset (c : Nat) (s : State) (n : Nat) : State :=
  let x := s.sem n
  if x.state = 1 ∧ x.owner = c then
    let y := { x with state := 2, repair := false, owner := 0xF, prev := c, waiters := x.waiters &&& (15 - 2 ^ c) }
    ((s.setReg (A.SEM n) y.word).syncOrph n).semAvail n
  else if x.waiters.testBit c then s.setReg (A.SEM n) { x with waiters := x.waiters &&& (15 - 2 ^ c) }.word
  else s

/-- Table EVL-8: a mailbox whose receiver resets while it is full. -/
def State.mbxOnReset (c : Nat) (s : State) (k : Nat) : State :=
  if s.mbxReceiver k = c ∧ s.flag (A.MBX_STAT k) 0 then
    ((s.clrBitReg (A.MBX_STAT k) 0).setBitReg (A.MBX_STAT k) 2).raise (104 + k)
  else s

/-- R145, Table EVL-8, R263, R274: one core enters reset; every resource it touches changes and nothing else. -/
def State.coreReset (s : State) (c : Nat) : State :=
  let held := (List.range 64).any (fun n => (s.sem n).state == 1 && (s.sem n).owner == c)
  let s1 := (s.setField A.CORE_STAT (2 * c) 2 1).clrBitReg A.CORE_RDY c
  let s2 := s1.clearBank c
  let s3 := (List.range 64).foldl (State.semOnReset c) s2
  let s4 := if held then (s3.setBitReg A.SEM_STAT 1).raise 116 else s3
  let s5 := { s4 with
    semRes := s4.semRes.resetWhere (fun k => k % 16 == c),
    lr := s4.lr.set (fun _ => none) c none }
  let s6 := (List.range 8).foldl (State.mbxOnReset c) s5
  let s7 := (s6.stallRingsOf c).setBitReg A.RST_CAUSE (8 + c)
  s7.raise (17 + c)

end Sys2Proof.Machine
end

