-- ==== Sys2Proof/Machine/Charge.lean ====
section
/-! DEFINITION. The charge interface: control pilot, proximity, lock, outlet request and mirror, and the inverter output
fault that acts through it (11, R457 to R479; 10, R441 to R446). -/
namespace Sys2Proof.Machine

/-- Changes the charge interface's hidden state. -/
def State.modChg (s : State) (f : ChgSt → ChgSt) : State := { s with chg := f s.chg }

/-- CP_EN. -/
def State.cpEn (s : State) : Bool := s.live .chg && s.flag A.CHG_CTL 0
/-- CP_OUT as it is written: 0 F, 1 constant +12 V, 2 PWM. -/
def State.cpOut (s : State) : Nat := s.field A.CHG_CTL 1 2
/-- CP_STATE. -/
def State.cpState (s : State) : Nat := s.field A.CHG_STAT 0 3
/-- The outlet mirror shows the contactor closed (OC_CLOSED). -/
def State.ocClosed (s : State) : Bool := s.flag A.CHG_STAT 9
/-- The close request line is asserted. -/
def State.requestOn (s : State) : Bool := s.flag A.CHG_STAT 8
/-- LOCK_FB shows locked: its level against FB_POL. -/
def State.lockShown (s : State) : Bool := s.chg.lockFb != s.flag A.LOCK_CFG 24
/-- ZC_OK of PSC_STAT. -/
def State.zcOk (s : State) : Bool := s.flag A.PSC_STAT 12
/-- INVF_STAT: 0 idle, 1 limiting, 2 safe, 3 awaiting the contactor. -/
def State.invfStat (s : State) : Nat := s.field A.INVF_STAT 0 2

/-! ## Interlocks (R473 to R475) -/

/-- A self-test runs (R486); TESTING of RCM_STAT. -/
def State.rcmTesting (s : State) : Bool := (List.range 8).any (fun n => s.logging .rcm n 0x10)

/-- The period of IMD_FREQ in ticks (R492). -/
def State.imdPeriod (s : State) : Nat := 400000000 * 2 ^ (s.field A.RCM_CTL 4 2)

/-- R496: IMD_HEALTHY. -/
def State.imdHealthy (s : State) : Bool :=
  let a := s.field A.IMD_AMPL 0 16
  !s.flag A.RCM_STAT 5 && !s.flag A.RCM_STAT 6 && decide (1900 ≤ a) && decide (a ≤ 2100) &&
    (match s.rcm.imdAt with | some t => decide (s.now < t + 3 * s.imdPeriod) | none => false)

/-- What RCM_STAT reads. -/
def State.rcmStat (s : State) : Word :=
  if s.live .rcm then setBit (setBit (s.reg A.RCM_STAT) 3 s.imdHealthy) 7 s.rcmTesting else s.reg A.RCM_STAT

/-- ILK_STAT (Table CHG-5). -/
def State.ilkBits (s : State) : Word :=
  let c := s.reg A.CHG_CTL
  let st := s.cpState
  let pp := if bit c 9 then s.field A.CHG_STAT 3 3 else 6
  let r := s.rcmStat
  let b : List Bool :=
    [st == 2 || (st == 3 && bit c 7),
     s.flag A.RCM_CTL 0 && bit r 0 && !bit r 1 && bit r 2 && !bit r 7,
     !bit r 8 || bit r 3 || (bit r 9 && s.requestOn),
     s.outletOn,
     !bit c 8 || (s.lockShown && !s.flag A.CHG_ERR 2),
     !bit c 9 || (1 ≤ pp && pp ≤ 4),
     !s.flag A.CHG_ERR 1,
     !s.safe3,
     !s.flag A.LML_STAT 2,
     s.invfStat == 0 || (!s.zcOk && s.requestOn)]
  (List.range 10).foldl (fun w i => setBit w i (b.getD i false)) 0#32

/-- The conditions of the request: Table CHG-5 without bit 3. -/
def ilkMask : Word := 0x3F7#32

/-- R474, R475: the request is disarmed and, if asserted, withdrawn; OPEN_CAUSE takes the cause. -/
def State.withdraw (s : State) (cause : Word) (tell : Bool) : State :=
  let was := s.requestOn
  let s1 := (s.modReg A.CHG_STAT (fun w => setBit (setBit w 7 false) 8 false)).setReg A.OPEN_CAUSE cause
  let s2 := if was then s1.modChg (fun c => { c with mirrorT := s.now, mirrorDue := true }) else s1
  if tell then s2.raise 678 else s2

/-- R473, R474: the interlocks are judged: an asserted request with a failed condition is withdrawn, an armed one with
every condition met is asserted. -/
def State.ilk (s : State) : State :=
  let ok := s.ilkBits &&& ilkMask
  if s.requestOn then
    (if ok = ilkMask then s else s.withdraw (ilkMask &&& ~~~ ok) true)
  else if s.flag A.CHG_STAT 7 ∧ ok = ilkMask then
    (s.setBitReg A.CHG_STAT 8).modChg (fun c => { c with mirrorT := s.now, mirrorDue := true })
  else s

/-! ## Duty (R461 to R463) -/

/-- Round to the nearest integer, a half up. -/
def roundNear (n d : Nat) : Nat := (2 * n + d) / (2 * d)

/-- The rating in 0.1 A of a proximity code (Table CHG-4; 63 A for code 4). -/
def ppRating : Nat → Nat
  | 1 => 130
  | 2 => 200
  | 3 => 320
  | 4 => 630
  | _ => 0

/-- The cable rating in 0.1 A (R461). -/
def State.cableRating (s : State) : Nat :=
  if s.flag A.CHG_CTL 9 then ppRating (s.field A.CHG_STAT 3 3) else 10 * s.field A.PP_CFG 16 8

/-- Table CHG-2: the duty of a current in 0.1 A, in 0.001 %. -/
def ampsDuty (i : Nat) : Nat :=
  if i < 60 then 100000
  else if i ≤ 510 then roundNear (i * 500) 3
  else if i ≤ 524 then 85000
  else if i ≤ 800 then i * 40 + 64000
  else 96000

/-- R461: the derived duty, and the flags AMPS_CAPPED and AMPS_LOW it sets. -/
def State.derivedDuty (s : State) : Nat × Bool × Bool :=
  let v := s.field A.CP_SET 0 17
  if s.flag A.CHG_CTL 3 then
    let r := s.cableRating
    let i := min v r
    (ampsDuty i, decide (r < v), decide (i < 60))
  else (v, false, false)

/-- R461 to R463: the duty that applies from the next cycle start, with its flags set. -/
def State.applyCpDuty (s : State) : State :=
  if s.flag A.CHG_CTL 4 then s.setField A.CP_DUTY_APP 0 17 5000
  else
    let d := s.derivedDuty
    let v := match s.chg.faultDuty with | some f => min d.1 f | none => d.1
    let s1 := if d.2.1 then s.setBitReg A.CHG_ERR 3 else s
    (if d.2.2 then s1.setBitReg A.CHG_ERR 4 else s1).setField A.CP_DUTY_APP 0 17 v

/-! ## The pilot (R457 to R460) -/

/-- XW_CP_PWM at tick `t` of the cycle in progress. -/
def State.cpPwm (s : State) (t : Nat) : Bool :=
  s.cpEn && !s.safe3 &&
    (match s.chg.out with
     | 0 => false
     | 1 => true
     | _ => decide (t < s.chg.t0 + s.chg.high))

/-- Constant output: no edge separates the plateaus (R459, R464). -/
def State.cpConstant (s : State) : Bool := s.safe3 || s.chg.out ≤ 1 || s.chg.high == 0 || decide (s.chg.per ≤ s.chg.high)

/-- CP_STATE takes a value: it is counted and raised, STATE_WAITs for it complete, and the interlocks are judged. -/
def State.setCpState (s : State) (st : Nat) : State :=
  let s0 := s.modChg (fun c => { c with cand := st, candN := 0 })
  if st = s.cpState then s0
  else
    let s1 := ((s0.setField A.CHG_STAT 0 3 st).modReg A.CP_CNT (fun w => satAdd w 16 16 1)).raise 676
    ((List.range 8).foldl (fun s n =>
      if s.logging .chg n 0x12 && bit (s.dw .chg n 4) st then s.finishDone .chg n (wd st) else s) s1).ilk

/-- R503: the cycle that ends gives every CP_LOG that started before it an entry. -/
def State.cpLogCycle (s : State) : State :=
  let half (v : Option Int) : Nat := match v with | some x => ofSigned 16 x | none => 0x8000
  let e := [wd s.chg.t0, setFld (setFld 0#32 0 16 (half s.chg.hiNow)) 16 16 (half s.chg.loNow)]
  (List.range 8).foldl (fun s n =>
    if s.logging .chg n 0x10 && decide ((s.ring .chg n).t0 ≤ s.chg.t0) then s.logEntry .chg n e else s) s

/-- R457 to R459: a cycle starts: pending output, duty and period apply; CPL runs from 0. -/
def State.cpBegin (s : State) : State :=
  let per := s.field A.CP_PER 0 19
  let s1 := s.applyCpDuty
  let s2 := s1.modChg (fun c =>
    { c with t0 := s.now, per := per, high := roundNear (s1.field A.CP_DUTY_APP 0 17 * per) 100000, cycle := c.cycle + 1,
             out := s.cpOut, stale := if c.out = 0 then 0 else if c.hiNow.isNone then c.stale + 1 else 0, hiNow := none, loNow := none })
  let cpl := { s2.ang.cpl with running := true, t := s.now, period := per }
  { s2 with ang := { s2.ang with cpl := cpl } }

/-- CP_CYCLE_START (R457). -/
def cpCycleStart (s : State) : State :=
  if s.cpEn then
    let s1 := s.cpLogCycle.cpBegin
    let cpl := { s1.ang.cpl with cyc := (s1.ang.cpl.cyc + 1) % 256 }
    { s1 with ang := { s1.ang with cpl := cpl } }
  else s

/-- R457, R319: the pilot timer stops: the wire is low, CPL is LOST, CP_STATE reads NONE. -/
def State.cpStop (s : State) : State :=
  let cpl := { s.ang.cpl with running := false }
  let s1 := ({ s with ang := { s.ang with cpl := cpl } }).modChg (fun c => { c with out := 0, high := 0, band := none, lo := none })
  let s2 := if s1.domState 4 = 0 then s1 else s1.setDom 4 1
  s2.setCpState 6

/-- R457: the timer starts with a first cycle at the write. -/
def State.cpStart (s : State) : State :=
  let s1 := (s.modChg (fun c => { c with band := none, lo := none, stale := 0, staleTold := false })).cpBegin
  if s1.domState 4 = 0 then s1 else s1.setDom 4 3

/-! ## IT_ACTIVE (R491, R497) -/

/-- R491: IT_ACTIVE as EARTHING and the transfer readback give it. -/
def State.itNow (s : State) : Bool :=
  match s.field A.CHG_CTL 5 2 with
  | 0 => false
  | 2 => !s.transferOn
  | _ => true

/-- R497: IT_ACTIVE follows; its rise sets IMD_SETTLING. -/
def State.itUpdate (s : State) : State :=
  if !s.live .rcm || s.itNow == s.flag A.RCM_STAT 8 then s
  else if s.itNow then
    (({ s with rcm := { s.rcm with settleAt := s.now } }).modReg A.RCM_STAT (fun w => setBit (setBit w 8 true) 9 true)).ilk
  else (s.modReg A.RCM_STAT (fun w => setBit (setBit w 8 false) 9 false)).ilk

/-- The effect of a write of CHG_CTL (R457, R458, R468, R491). -/
def State.chgCtlEffect (s : State) (v : Word) : State :=
  let was := s.cpEn
  let s1 := s.store A.CHG_CTL v
  let s2 := if !was && s1.cpEn then s1.cpStart else if was && !s1.cpEn then s1.cpStop else s1
  let s3 := if s2.cpOut = 0 ∧ s2.cpEn = true then (s2.modChg (fun c => { c with out := 0 })).setCpState 6 else s2
  s3.itUpdate.ilk

/-- CP_OUT_WRITE (R458): a write of CHG_CTL. -/
def cpOutWrite (m size : Nat) (v : Word) (s : State) : State := s.wpWrite .chg m A.CHG_CTL size v (fun s => s.chgCtlEffect v)

/-! ## Sampling and decoding (R464 to R468) -/

/-- SETTLE in ticks. -/
def State.cpSettle (s : State) : Nat := s.field A.CP_SMPCFG 8 8 * 400

/-- R464: is a sample whose conversion starts at `t` valid? -/
def State.cpValid (s : State) (hi : Bool) (t : Nat) : Bool :=
  let c := s.chg
  if s.cpConstant then s.cpPwm t == hi
  else if !s.cpEn || decide (t < c.t0) then false
  else
    let o := t - c.t0
    if hi then decide (s.cpSettle ≤ o) && decide (o + s.cpSettle ≤ c.high)
    else decide (c.high + s.cpSettle ≤ o) && decide (o + s.cpSettle ≤ c.per)

/-- The lower boundaries of the bands OVER, A, B, C and D in 10 mV (Table CHG-3). -/
def cpBounds : List Int := [1350, 1050, 750, 450, 150]

/-- The band of a sample without hysteresis: a boundary belongs to the band above it (R465). -/
def cpBandOf (v : Int) : Nat := (cpBounds.filter (fun b => decide (v < b))).length

/-- R465: from band `b`, each shared boundary is crossed only by more than HYST. -/
def cpBandFrom (b : Nat) (v h : Int) : Nat :=
  let down := ((cpBounds.drop b).filter (fun x => decide (v < x - h))).length
  let up := ((cpBounds.take b).filter (fun x => decide (x + h < v))).length
  if 0 < down then b + down else b - up

/-- CP_STATE of a band. -/
def cpCode : Nat → Nat
  | 0 => 7
  | b => b - 1

/-- R465 to R467: a valid HI sample is decoded. -/
def State.cpDecode (s : State) (v : Int) : State :=
  let h : Int := s.field A.CP_SMPCFG 24 8
  let b := match s.chg.band with | some b => cpBandFrom b v h | none => cpBandOf v
  let code := cpCode b
  let bad := match s.chg.lo with
    | some (x, n) => decide (1 ≤ code) && decide (code ≤ 3) && decide (s.chg.cycle ≤ n + 1) &&
        decide (toSigned 16 (s.field A.DIODE_LIM 0 16) < x)
    | none => false
  let st := if bad then 5 else code
  let n := if st = s.chg.cand then s.chg.candN + 1 else 1
  let s1 := s.modChg (fun c => { c with band := some b, cand := st, candN := n })
  if s.field A.CP_SMPCFG 0 4 ≤ n ∧ st ≠ s.cpState then s1.setCpState st else s1

/-- PILOT_SAMPLE (R464 to R467): a conversion of `v`, in 10 mV, completes 1 µs after it started. -/
def pilotSample (hi : Bool) (v : Int) (s : State) : State :=
  if !s.live .chg then s
  else if !s.cpValid hi (s.now - 400) then s.modReg A.CP_CNT (fun w => satAdd w 0 16 1)
  else if hi then
    let s1 := (s.setReg A.CP_VHI (wd (ofSigned 16 v))).modChg (fun c => { c with hiNow := some v, stale := 0, staleTold := false })
    if s1.cpEn && s1.cpOut != 0 then s1.cpDecode v else s1
  else (s.setReg A.CP_VLO (wd (ofSigned 16 v))).modChg (fun c => { c with loNow := some v, lo := some (v, c.cycle) })

/-- CP_STALE (R468). -/
def cpStale (s : State) : State :=
  if s.cpEn ∧ s.chg.out ≠ 0 ∧ s.field A.CP_SMPCFG 16 8 ≤ s.chg.stale ∧ s.chg.staleTold = false then
    ((s.modChg (fun c => { c with staleTold := true })).raise 677).setCpState 6
  else s

/-! ## Proximity (R469) -/

/-- Table CHG-4. -/
def ppCode (r : Nat) : Nat :=
  if 4500 < r then 0
  else if 1100 ≤ r ∧ r ≤ 2460 then 1
  else if 400 ≤ r ∧ r ≤ 936 then 2
  else if 164 ≤ r ∧ r ≤ 308 then 3
  else if 75 ≤ r ∧ r ≤ 140 then 4
  else 7

/-- PP_MEASUREMENT (R469): the PP ball stands at `mv` millivolts against 3,300 mV. -/
def ppMeasurement (mv : Nat) (s : State) : State :=
  if !s.live .chg || !s.flag A.CHG_CTL 9 then s
  else
    let open_ := decide (3300 ≤ mv)
    let r := s.field A.PP_CFG 0 16 * mv / (3300 - mv)
    let code := if open_ then 0 else ppCode r
    let n := if code = s.chg.ppCand ∧ 0 < s.chg.ppN then s.chg.ppN + 1 else 1
    let s1 := (s.setReg A.PP_RES (wd (if open_ then 65535 else min r 65535))).modChg (fun c => { c with ppCand := code, ppN := n })
    if 3 ≤ n ∧ code ≠ s1.field A.CHG_STAT 3 3 then ((s1.setField A.CHG_STAT 3 3 code).raise 682).ilk else s1

/-! ## Socket lock (R470 to R472) -/

/-- LOCK_FB takes a level. -/
def State.setLockFb (s : State) (level : Bool) : State := s.modChg (fun c => { c with lockFb := level })

/-- A LOCK_ACT drives or waits on ring `n`. -/
def State.lockRuns (s : State) (n : Nat) : Bool := s.inHand .chg n == some 0x11 && (s.ring .chg n).aux != 0

/-- What LOCK_ACT asks of bridge 3: +LOCK_DUTY to lock, −LOCK_DUTY to unlock, off otherwise (R470). -/
def State.lockDuty (s : State) : Int :=
  let d := toSigned 16 (s.field A.LOCK_CFG 0 16)
  match (List.range 8).find? (fun n => s.lockRuns n && (s.ring .chg n).aux != 2) with
  | some n => if bit (s.dw .chg n 4) 0 then d else max (-32768) (min 32767 (-d))
  | none => 0

/-- The next stage of a LOCK_ACT (1 driving, 2 off for 1 s, 3 driving again). -/
def State.lockStage (s : State) (n stage : Nat) : State :=
  s.modRing .chg n (fun r => { r with aux := stage, t0 := s.now })

/-- LOCK_ACT (R470, R472): with LOCK_FB at `fb`. -/
def lockAct (n : Nat) (fb : Bool) (s : State) : State :=
  s.whenHand .chg n 0x11 (fun s =>
    let lock := bit (s.dw .chg n 4) 0
    let s1 := s.setLockFb fb
    let r := s1.ring .chg n
    let t := s1.field A.LOCK_CFG 16 8 * 4000000
    if r.aux = 0 ∧ lock = false ∧ (s.requestOn || s.ocClosed || s.flag A.CHG_ERR 1) then s.finishBad .chg n 0x14
    else if s1.lockShown = lock then s1.ilk.finishDone .chg n (wd fb.toNat)
    else match r.aux with
      | 0 => (s1.lockStage n 1).ilk
      | 1 => if r.t0 + t ≤ s.now then (s1.lockStage n 2).ilk else s1.ilk
      | 2 => if r.t0 + 400000000 ≤ s.now then (s1.lockStage n 3).ilk else s1.ilk
      | _ => if r.t0 + t ≤ s.now then ((s1.ilk.raise 681).finish .chg n { status := 0x80, result := wd fb.toNat }) else s1.ilk)

/-- LOCK_LOST (R471): LOCK_FB changes to `level`. -/
def lockLost (level : Bool) (s : State) : State :=
  if !s.live .chg then s
  else
    let s1 := s.setLockFb level
    let unlocking := (List.range 8).any (fun n => s.lockRuns n && !bit (s.dw .chg n 4) 0)
    if s.lockShown && !s1.lockShown && !unlocking then ((s1.setBitReg A.CHG_ERR 2).raise 681).ilk else s1.ilk

/-! ## CHG_CMD (R473, R475, R477) -/

/-- The effect of a write of CHG_CMD. -/
def State.chgCmdEffect (s : State) (v : Word) : State :=
  let s1 := if bit v 0 then (s.setBitReg A.CHG_STAT 7).ilk else s
  let s2 := if bit v 1 then s1.withdraw 0x8000#32 false else s1
  if bit v 2 && !s2.ocClosed then (s2.clrBitReg A.CHG_ERR 1).ilk else s2

/-- CLOSE_REQ (R473). -/
def closeReq (m : Nat) (s : State) : State := s.plainWrite .chg m A.CHG_CMD (fun s => s.chgCmdEffect 1#32)
/-- OPEN_REQ (R475). -/
def openReq (m : Nat) (s : State) : State := s.plainWrite .chg m A.CHG_CMD (fun s => s.chgCmdEffect 2#32)
/-- WELD_CLR (R477). -/
def weldClr (m : Nat) (s : State) : State := s.plainWrite .chg m A.CHG_CMD (fun s => s.chgCmdEffect 4#32)

/-- ILK_WITHDRAW (R474): the interlocks are judged. -/
def ilkWithdraw (s : State) : State := if s.live .chg then s.ilk else s

/-- The W1C write of CHG_ERR; WELD clears only by WELD_CLR (R477). -/
def State.chgErrClear (s : State) (bits : Word) : State :=
  (s.modReg A.CHG_ERR (fun old => old &&& ~~~ (bits &&& ~~~ (bitMask 1)))).ilk

/-! ## Mirror contact (R476 to R478) -/

/-- MIRROR_T in ticks. -/
def State.mirrorTicks (s : State) : Nat := s.field A.OC_CFG 16 8 * 4000000

/-- The inverter output-fault sequence ends (R443); the duty is no longer lowered (R463). -/
def State.invfEnd (s : State) : State :=
  ((s.setField A.INVF_STAT 0 2 0).modChg (fun c => { c with faultDuty := none })).ilk

/-- MIRROR_TELEMETRY (R476, R478): the named safety input reports its level over the link. -/
def mirrorTelemetry (input : Nat) (level : Bool) (s : State) : State :=
  let closed := level != s.flag A.OC_CFG 4
  if !s.live .chg || !s.linkUp || input != s.field A.OC_CFG 0 4 || closed == s.ocClosed then s
  else (s.modReg A.CHG_STAT (fun w => setBit w 9 closed)).raise 685

/-- CLOSE_FAIL (R476). -/
def closeFail (s : State) : State :=
  if s.live .chg && s.linkUp && s.requestOn && s.chg.mirrorDue && !s.ocClosed && decide (s.chg.mirrorT + s.mirrorTicks ≤ s.now) then
    (((s.setBitReg A.CHG_ERR 0).raise 679).withdraw 0#32 true)
  else s

/-- WELD_DETECT (R477). -/
def weldDetect (s : State) : State :=
  if s.live .chg && s.linkUp && !s.requestOn && s.chg.mirrorDue && s.ocClosed && decide (s.chg.mirrorT + s.mirrorTicks ≤ s.now) then
    let s1 := ((s.setBitReg A.CHG_ERR 1).raise 680).modChg (fun c => { c with out := 0, mirrorDue := false })
    ((s1.setField A.CHG_CTL 1 2 0).setCpState 6).ilk
  else s

/-! ## Inverter output fault (R441 to R443, R463) -/

/-- INV_FAULT (R441): an INV leg has been limited in FLT_N consecutive periods. -/
def invFault (s : State) : State :=
  if s.live .psc ∧ s.grpState 1 = 2 ∧ s.invfStat = 0 ∧ 0 < s.field A.INVF_CFG 0 16 ∧ s.field A.INVF_CFG 0 16 ≤ (s.grp 1).limitRun then
    let s1 := ((((s.setField A.INVF_STAT 0 2 1).clrBitReg A.PSC_STAT 12).setBitReg A.PSC_ERR 3).modPwr
      (fun p => { p with limFault := true, invfAt := s.now })).raise 587
    let s2 := if s1.live .chg then
        (s1.modChg (fun c => { c with faultDuty := some (s1.field A.FAULT_DUTY 0 17) })).raise (if s1.flag A.CHG_CTL 4 then 683 else 684)
      else s1
    s2.ilk
  else s

/-- ZC_REACHED (R441, R442): every INV phase current has stayed below ZC_I for 1 ms. -/
def zcReached (s : State) : State :=
  if s.live .psc ∧ (s.invfStat = 1 ∨ s.invfStat = 2) then
    ((((s.setBitReg A.PSC_STAT 12).raise 588).setField A.INVF_STAT 0 2 3)).ilk
  else s

/-- VEH_T_EXPIRY (R441): VEH_T has passed without ZC_OK. -/
def vehTExpiry (s : State) : State :=
  if s.live .psc ∧ s.invfStat = 1 ∧ s.pwr.invfAt + s.field A.INVF_VEH 0 16 * 400000 ≤ s.now then
    (s.setField A.INVF_STAT 0 2 2).forceSafe 1
  else s

/-- INVF_SEQUENCE_END (R443): the outlet contactor's readback shows it open. -/
def invfSequenceEnd (s : State) : State :=
  if s.live .psc ∧ s.invfStat ≠ 0 ∧ s.ocClosed = false then s.invfEnd else s

/-- The effect of a write of INVF_STAT: INVF_CLR ends the LIM_FAULT scaling once the sequence has ended (R443). -/
def State.invfStatEffect (s : State) (v : Word) : State :=
  if bit v 8 && s.invfStat == 0 then s.modPwr (fun p => { p with limFault := false }) else s

/-- INVF_CLR (R443). -/
def invfClr (m : Nat) (s : State) : State := s.plainWrite .psc m A.INVF_STAT (fun s => s.invfStatEffect 0x100#32)

/-- XFER_PAR_TMAX (R446). -/
def xferParTmax (s : State) : State :=
  match s.parSince with
  | some t =>
    if t + s.field A.XFER_CFG 16 16 * 400000 ≤ s.now then (s.tripCause 18 2).raise 590 else s
  | none => s

end Sys2Proof.Machine
end

