-- ==== Sys2Proof/Machine/Residual.lean ====
section
/-! DEFINITION. Residual-current and insulation monitor (11, R480 to R497, R503). -/
namespace Sys2Proof.Machine

/-- Changes the monitor's hidden state. -/
def State.modRcm (s : State) (f : RcmSt → RcmSt) : State := { s with rcm := f s.rcm }

/-- RDC_DC in 0.01 mA. -/
def State.rdcDc (s : State) : Int := toSigned 16 (s.field A.RDC_DC 0 16)

/-- The level register of trip level `l`, 0 to 2 (Table CHG-6). -/
def rdcLvl : Nat → Nat
  | 0 => A.RDC_LVL1
  | 1 => A.RDC_LVL2
  | _ => A.RDC_LVL3

/-- R487: ST_VALID clears and ST_EXPIRED is raised. -/
def State.stInvalid (s : State) : State :=
  if s.flag A.RCM_STAT 0 then ((s.clrBitReg A.RCM_STAT 0).raise 710).ilk else s

/-- R481: a trip. -/
def State.rdcTrip (s : State) : State :=
  ((((s.setBitReg A.RCM_STAT 1).setBitReg A.RCM_ERR 0).raise 708).stInvalid).ilk

/-- R481: one level judges an update of magnitude `a`; `true` when its hold time has passed. -/
def State.rdcLevel (a : Nat) (p : State × Bool) (l : Nat) : State × Bool :=
  let s := p.1
  let none' : Nat → Option Nat := fun _ => none
  if s.field (rdcLvl l) 0 16 ≤ a then
    let since := (s.rcm.above.get none' l).getD s.now
    (s.modRcm (fun r => { r with above := r.above.set none' l (some since) }),
     p.2 || decide (since + s.field (rdcLvl l) 16 16 * 4000000 ≤ s.now))
  else (s.modRcm (fun r => { r with above := r.above.del l }), p.2)

/-- R486: an update inside a self-test: the baseline's sum, the comparator, the return. -/
def State.stUpdate (s : State) (v : Int) : State :=
  match (List.range 8).find? (fun n => s.logging .rcm n 0x10) with
  | none => s
  | some n =>
    match (s.ring .rcm n).count with
    | 0 => s.modRcm (fun r => { r with stSum := r.stSum + v, stN := r.stN + 1 })
    | 1 => if s.field A.RDC_LVL1 0 16 ≤ v.natAbs then s.modRcm (fun r => { r with stCmp := true }) else s
    | _ => if (v - s.rcm.stBase).natAbs ≤ 100 then s.modRcm (fun r => { r with stBack := true }) else s

/-- RDC_UPDATE (R480, R481): the 2 ms update brings a mean of `v`, in 0.01 mA. -/
def rdcUpdate (v : Int) (s : State) : State :=
  if !s.live .rcm || !s.flag A.RCM_CTL 0 then s
  else
    let x := max (-32768) (min 32767 v)
    let s1 := (s.setReg A.RDC_DC (wd (ofSigned 16 x))).setBitReg A.RCM_STAT 2
    if s1.rcmTesting then (s1.stUpdate x).ilk
    else if s1.flag A.RCM_STAT 1 then s1.ilk
    else
      let p := (List.range 3).foldl (State.rdcLevel x.natAbs) (s1, false)
      if p.2 then p.1.rdcTrip else p.1.ilk

/-- RDC_SENSOR (R484): three cycles have shown no saturation peak. -/
def rdcSensor (s : State) : State :=
  if !s.live .rcm || !s.flag A.RCM_CTL 0 then s
  else ((((s.clrBitReg A.RCM_STAT 2).setBitReg A.RCM_ERR 1).raise 709).stInvalid).ilk

/-- The W1C write of RCM_ERR: TRIP clears, with TRIPPED, only while RDC_DC is below LVL1 (R485). -/
def State.rcmErrClear (s : State) (bits : Word) : State :=
  let below := decide (s.rdcDc.natAbs < s.field A.RDC_LVL1 0 16)
  let m := if below then bits else bits &&& ~~~ (bitMask 0)
  let s1 := s.modReg A.RCM_ERR (fun old => old &&& ~~~ m)
  if bit bits 0 && below then ((s1.clrBitReg A.RCM_STAT 1).modRcm (fun r => { r with above := [] })).ilk else s1

/-- RDC_TRIP_CLEAR (R485). -/
def rdcTripClear (m : Nat) (s : State) : State := s.plainWrite .rcm m A.RCM_ERR (fun s => s.rcmErrClear 1#32)

/-- A self-test ends (R486). -/
def State.stEnd (s : State) (n : Nat) (pass : Bool) : State :=
  let r := BitVec.ofInt 32 s.rcm.stStep
  let s1 := s.modRcm (fun x => { x with above := [] })
  if pass then
    (((s1.setBitReg A.RCM_STAT 0).modRcm (fun x => { x with stPass := some s.now })).finishDone .rcm n r).ilk
  else
    (((s1.clrBitReg A.RCM_STAT 0).setBitReg A.RCM_ERR 2).finish .rcm n { status := 0x80, result := r }).ilk

/-- The next stage of a self-test: 0 baseline, 1 driving, 2 released (in the ring's count). -/
def State.stStage (s : State) (n k : Nat) : State := s.modRing .rcm n (fun r => { r with aux := 1, count := k, t0 := s.now })

/-- SELFTEST (R486, R488): starts, or takes the stage that is due. -/
def selftest (n : Nat) (s : State) : State :=
  s.whenHand .rcm n 0x10 (fun s =>
    let r := s.ring .rcm n
    let x := s.rcm
    let due (ms : Nat) : Bool := decide (r.t0 + ms * 400000 ≤ s.now)
    if r.aux = 0 then
      (if s.requestOn || s.ocClosed then s.finishBad .rcm n 0x14
       else if s.rcmTesting then s
       else ((s.modRcm (fun x => { x with stSum := 0, stN := 0, stBase := 0, stStep := 0, stCmp := false, stBack := false })).stStage n 0).ilk)
    else match r.count with
      | 0 =>
        if due 20 then
          (s.modRcm (fun x => { x with stBase := if x.stN = 0 then s.rdcDc else (2 * x.stSum + x.stN) / (2 * x.stN) })).stStage n 1
        else s
      | 1 => if due 150 then (s.modRcm (fun x => { x with stStep := s.rdcDc - x.stBase })).stStage n 2 else s
      | _ =>
        let ok := x.stCmp && decide (700 ≤ x.stStep) && decide (x.stStep ≤ 1300)
        if x.stBack then s.stEnd n ok else if due 30 then s.stEnd n false else s)

/-- ST_AGE: seconds since the last pass. -/
def State.stAge (s : State) : Word :=
  match s.rcm.stPass with
  | some t => wd (min 0xFFFFFFFF ((s.now - t) / 400000000))
  | none => 0xFFFFFFFF#32

/-- ST_EXPIRED (R487): ST_AGE has reached ST_INT minutes. -/
def stExpired (s : State) : State :=
  if s.live .rcm ∧ s.field A.ST_CFG 0 11 * 60 ≤ s.stAge.toNat then s.stInvalid else s

/-- The effect of a write of RCM_CTL. -/
def State.rcmCtlEffect (s : State) (v : Word) : State :=
  let was := s.flag A.RCM_CTL 0
  let s1 := s.store A.RCM_CTL v
  if was && !s1.flag A.RCM_CTL 0 then ((s1.modRcm (fun r => { r with above := [] })).stInvalid).ilk else s1.ilk

/-- RDC_AC_UPDATE (R489, R503): the 100 ms rms value, in 0.1 mA; RCM_LOG takes an entry. -/
def rdcAcUpdate (v : Nat) (s : State) : State :=
  if !s.live .rcm then s
  else
    let s1 := if s.flag A.RCM_CTL 1 then s.setReg A.RDC_AC (wd (min v 65535)) else s
    (List.range 8).foldl (fun s n =>
      if s.logging .rcm n 0x11 then s.logEntry .rcm n [s.tick, s.reg A.RDC_DC, s.reg A.RDC_AC, s.reg A.IMD_RES] else s) s1

/-! ## Insulation (R491 to R497) -/

/-- The injection runs (R491). -/
def State.imdRuns (s : State) : Bool := s.live .rcm && !s.pilotForced && s.flag A.RCM_CTL 2 && s.flag A.RCM_STAT 8

/-- R497: IMD_SETTLING clears. -/
def State.settled (s : State) : State := s.clrBitReg A.RCM_STAT 9

/-- R494: one limit judges a result; `low` counts results below it, `good` results above 1.25 times it. -/
def imdJudge (set : Bool) (low good need res lim : Nat) : Bool × Nat × Nat :=
  let l := if res < lim then low + 1 else 0
  let g := if 5 * lim < 4 * res then good + 1 else 0
  (if set then !decide (2 ≤ g) else decide (need ≤ l), l, g)

/-- R493, R494: a settled result is stored and judged. -/
def State.imdResult (s : State) (ohm : Nat) : State :=
  let lim (lo : Nat) : Nat := s.field A.IMD_LIM lo 16 * 1000
  let w := imdJudge (s.flag A.RCM_STAT 4) 0 s.rcm.okWarn 1 ohm (lim 0)
  let a := imdJudge (s.flag A.RCM_STAT 5) s.rcm.low s.rcm.okAlarm 2 ohm (lim 16)
  let s1 := ((s.setReg A.IMD_RES (wd (if 10000000 < ohm then 0xFFFFFF else ohm))).modRcm
    (fun r => { r with low := a.2.1, okWarn := w.2.2, okAlarm := a.2.2, imdAt := some s.now })).raise 714
  let s2 := if w.1 && !s.flag A.RCM_STAT 4 then s1.raise 711 else s1
  let s3 := if a.1 && !s.flag A.RCM_STAT 5 then (s2.raise 712).settled else s2
  s3.modReg A.RCM_STAT (fun v => setBit (setBit v 4 w.1) 5 a.1)

/-- IMD_PERIOD_END (R492 to R497): ΔV_M and ΔU in µV, the larger drift between the halves of a window in µV, the driver's
amplitude in 10 mV and whether PE is continuous. -/
def imdPeriodEnd (dvm du drift : Int) (ampl : Nat) (pe : Bool) (s : State) : State :=
  if !s.imdRuns then s
  else
    let s0 := s.setReg A.IMD_AMPL (wd (min ampl 65535))
    let s1 := if pe then s0.clrBitReg A.RCM_STAT 6
      else if s.flag A.RCM_STAT 6 then s0 else ((s0.setBitReg A.RCM_STAT 6).raise 713).settled
    let s2 :=
      if (dvm.natAbs : Int) < 100 * (drift.natAbs : Int) then s1.setBitReg A.RCM_ERR 3
      else
        let rm : Int := s.field A.IMD_CFG 16 16
        let rc : Int := s.field A.IMD_CFG 0 16 * 100
        if dvm = 0 then s1.imdResult 10000001
        else
          let r := roundDiv (du * rm) dvm - rc - rm
          if r < 0 then (s1.useFree).imdResult (s1.freeNat % 16777216) else s1.imdResult r.toNat
    let s3 := if s2.imdHealthy then s2.settled else s2
    s3.ilk

/-- IMD_CONN_FAIL (R495). -/
def imdConnFail (s : State) : State :=
  if s.imdRuns then (((s.setBitReg A.RCM_STAT 6).raise 713).settled).ilk else s

/-- IT_ACTIVE_CHANGE (R491, R497). -/
def itActiveChange (s : State) : State := s.itUpdate

/-- IMD_SETTLING_END (R497): three periods have passed. -/
def imdSettlingEnd (s : State) : State :=
  if s.live .rcm ∧ s.flag A.RCM_STAT 9 = true ∧ s.rcm.settleAt + 3 * s.imdPeriod ≤ s.now then s.settled.ilk else s

/-! ## Logging descriptors (R503) -/

/-- CP_LOG (R503). -/
def cpLog (n : Nat) (s : State) : State := s.startLog .chg n 0x10

/-- STATE_WAIT (R503): it completes at once if the current state is in the mask. -/
def stateWait (n : Nat) (s : State) : State :=
  let s1 := s.startLog .chg n 0x12
  if s1.logging .chg n 0x12 && bit (s1.dw .chg n 4) s1.cpState then s1.finishDone .chg n (wd s1.cpState) else s1

/-- RCM_LOG (R503). -/
def rcmLog (n : Nat) (s : State) : State := s.startLog .rcm n 0x11

end Sys2Proof.Machine
end

