-- ==== Sys2Proof/Machine/SafetyCore.lean ====
section
/-! DEFINITION. The two safety channels: start, inputs, functions, outputs, cross-compare, commissioning (17). Channel 0 is
SA, channel 1 is SB. -/
namespace Sys2Proof.Machine

/-- One channel. -/
def State.saf1 (s : State) (c : Nat) : SafChan := s.saf.ch.get (fun _ => {}) c
/-- Changes the shared part. -/
def State.modSaf (s : State) (f : SafSt → SafSt) : State := { s with saf := f s.saf }
/-- Changes one channel. -/
def State.modCh (s : State) (c : Nat) (f : SafChan → SafChan) : State :=
  s.modSaf (fun x => { x with ch := x.ch.set (fun _ => {}) c (f (x.ch.get (fun _ => {}) c)) })
/-- One function instance of a channel. -/
def SafChan.fnOf (x : SafChan) (f : Nat) : SafFn := x.fn.get (fun _ => {}) f

/-- The core of channel `c`. -/
def safCore (c : Nat) : Nat := if c = 0 then mSA else mSB
/-- The RAM of channel `c` (Table ARC-10). -/
def safRam (c : Nat) : Nat := if c = 0 then 0x30600000 else 0x30800000
/-- SAF_CTLA or SAF_CTLB. -/
def safCtl (c : Nat) : Nat := if c = 0 then A.SAF_CTLA else A.SAF_CTLB
/-- COMM_REQA or COMM_REQB. -/
def safReq (c : Nat) : Nat := if c = 0 then A.COMM_REQA else A.COMM_REQB
/-- A word of the channel's cross-compare record. -/
def safXc (c i : Nat) : Nat := if c = 0 then A.XC_A i else A.XC_B i

/-- The channel's core runs and has passed steps 1 to 3 of its start; otherwise its lines take the levels of R722. -/
def State.safActive (s : State) (c : Nat) : Bool := s.coreRuns (safCore c) && (s.saf1 c).started

/-! ## Parameter block (R750, R751, Tables SAF-8 to SAF-10) -/

/-- A byte of the channel's parameter block. -/
def State.pb (s : State) (c o : Nat) : Nat := (s.byte (safRam c + o)).toNat
/-- A 16-bit field of the block. -/
def State.ph (s : State) (c o : Nat) : Nat := s.pb c o + 256 * s.pb c (o + 1)
/-- A byte of function entry `f`. -/
def State.fb (s : State) (c f o : Nat) : Nat := s.pb c (0x50 + 32 * f + o)
/-- A 16-bit field of function entry `f`. -/
def State.fh (s : State) (c f o : Nat) : Nat := s.ph c (0x50 + 32 * f + o)
/-- A byte of output entry `n`. -/
def State.ob (s : State) (c n o : Nat) : Nat := s.pb c (0x150 + 16 * n + o)
/-- A 16-bit field of output entry `n`. -/
def State.oh (s : State) (c n o : Nat) : Nat := s.ph c (0x150 + 16 * n + o)
/-- Function entries in use. -/
def State.fnUsed (s : State) (c f : Nat) : Bool := decide (f < s.pb c 6) && s.fb c f 0 != 0
/-- ROLE of an output, 0xFF unused. -/
def State.role (s : State) (c n : Nat) : Nat := s.ob c n 0
/-- The inputs a function entry names. -/
def State.fnInputs (s : State) (c f : Nat) : List Nat := ((List.range 4).map (fun k => s.fb c f (4 + k))).filter (· != 0xFF)

/-- The check value over bytes 0x000 to 0x1FB (R750). -/
def State.safCrc (s : State) (c : Nat) : Word := crc32c ((List.range 127).map (fun i => s.word (safRam c + 4 * i)))

/-- Bytes `lo` to `hi - 1` of the block are 0. -/
def State.pbZero (s : State) (c lo hi : Nat) : Bool := (List.range (hi - lo)).all (fun i => s.pb c (lo + i) == 0)

/-- A number lies in a range. -/
def within (lo hi x : Nat) : Bool := decide (lo ≤ x) && decide (x ≤ hi)
/-- A field that names an input or is 0xFF. -/
def inputOrNone (x : Nat) : Bool := decide (x ≤ 15) || x == 0xFF

/-- R751 for one function entry. -/
def State.fnOk (s : State) (c f : Nat) : Bool :=
  let t := s.fb c f 0
  let i (k : Nat) : Nat := s.fb c f (4 + k)
  let used (k : Nat) : Bool := i k != 0xFF
  s.pbZero c (0x50 + 32 * f + 17) (0x50 + 32 * f + 32) &&
  (!s.fnUsed c f ||
    (within 1 4 t && s.fb c f 1 ≤ 1 && s.fb c f 2 ≤ 1 && s.fb c f 3 ≤ 15 && (t != 3 || s.fb c f 3 == 0) &&
     (List.range 4).all (fun k => inputOrNone (i k)) && within 10 5000 (s.fh c f 8) && within 10 5000 (s.fh c f 10) &&
     (if t = 3 then used 0 && used 1 && used 2 && used 3
      else if t = 2 then used 0 && used 1 && used 2 == used 3
      else used 0 && used 1 && !used 2 && !used 3) &&
     (t != 2 ||
       ((s.fb c f 12 == 0xFF || (s.fnUsed c (s.fb c f 12) && s.fb c (s.fb c f 12) 0 == 3)) && inputOrNone (s.fb c f 13) &&
        s.fh c f 14 ≤ 600 && (s.fb c f 16 == 0xFF || (s.fb c f 16 < 4 && s.role c (s.fb c f 16) == 4))))))

/-- R751 for one output entry. -/
def State.soOk (s : State) (c n : Nat) : Bool :=
  s.ob c n 1 == 0 && s.pbZero c (0x150 + 16 * n + 8) (0x150 + 16 * n + 16) &&
  (s.role c n == 0xFF ||
    (s.role c n ≤ 4 && s.oh c n 2 ≤ 255 && inputOrNone (s.ob c n 4) && s.ob c n 5 ≤ 1 && within 10 1000 (s.oh c n 6)))

/-- R750, R751: the channel's parameter block is valid. -/
def State.paramsOk (s : State) (c : Nat) : Bool :=
  let fs := (List.range 8).filter (s.fnUsed c)
  let uses := fs.flatMap (s.fnInputs c)
  let special := [s.pb c 7] ++ (fs.filter (fun f => s.fb c f 0 == 2)).map (fun f => s.fb c f 13) ++
    ((List.range 4).filter (fun n => s.role c n != 0xFF)).map (fun n => s.ob c n 4)
  let roles := (List.range 4).map (s.role c)
  s.word (safRam c) == 0x50464153#32 && s.ph c 4 == 1 && within 1 8 (s.pb c 6) && inputOrNone (s.pb c 7) &&
  within 10 1000 (s.ph c 8) && within 2 10 (s.pb c 10) && s.pbZero c 11 16 &&
  (List.range 16).all (fun i => (s.pb c (0x10 + 4 * i) == 1 || s.pb c (0x10 + 4 * i) == 3) && s.pb c (0x11 + 4 * i) ≤ 4 &&
    within 1 24 (s.pb c (0x12 + 4 * i)) && s.pb c (0x13 + 4 * i) == 0) &&
  (List.range 8).all (s.fnOk c) && (List.range 4).all (s.soOk c) &&
  s.ph c 0x190 ≤ 255 && s.ph c 0x192 ≤ 255 && s.pbZero c 0x194 0x1FC &&
  decide uses.Nodup && special.all (fun i => i == 0xFF || !uses.contains i) &&
  roles.count 1 ≤ 1 && roles.count 2 ≤ 1 &&
  (s.pb c 7 != 0xFF || fs.all (fun f => s.fb c f 2 == 0)) &&
  s.safCrc c == s.word (safRam c + 0x1FC)

/-! ## Status -/

/-- SAF_STAT.STATE; FAULT while either core has halted. -/
def State.safState (s : State) : Nat :=
  if s.reg A.SAF_HALT ≠ 0#32 then 3
  else if s.safActive 0 && s.safActive 1 && (s.saf1 0).compared && (s.saf1 1).compared then
    (if (s.saf1 0).comm && (s.saf1 1).comm then 2 else 1)
  else 0

/-- SAF_STATE is raised when SAF_STAT.STATE changes. -/
def State.tellState (s0 s : State) : State := if s.safState = s0.safState then s else s.raise 928

/-- R742: the guard counts as OK while its two-hand instance is OK and its selector reads high. -/
def State.jogs (s : State) (c f : Nat) : Bool :=
  s.fnUsed c f && s.fb c f 0 == 2 && s.fb c f 12 != 0xFF && ((s.saf1 c).fnOf (s.fb c f 12)).st == 1 &&
    (s.fb c f 13 == 0xFF || (s.saf1 c).deb.testBit (s.fb c f 13))

/-- The state a function counts as (Table SAF-6, R742). -/
def State.fnState (s : State) (c f : Nat) : Nat := if s.jogs c f then 1 else ((s.saf1 c).fnOf f).st

/-- Every function of a mask is OK or STOPPING (Table SAF-3, GENERAL). -/
def State.maskOk (s : State) (c mask : Nat) : Bool :=
  (List.range 16).all (fun f => !mask.testBit f || (let st := s.fnState c f; st == 1 || st == 2))

/-- R739: any function of a mask is in DEMAND, READY or FAULT. -/
def State.maskTrips (s : State) (c mask : Nat) : Bool := (List.range 8).any (fun f => mask.testBit f && decide (3 ≤ s.fnState c f))

/-- A channel's view of an input fault. -/
def State.inFault (s : State) (c i : Nat) : Bool := (s.saf1 c).tpFault.testBit i || s.saf.diffFault.testBit i

/-- Output faults latched: stuck, drop-out or EDM (R732). -/
def State.soFaults (s : State) : Nat := (s.saf1 0).stuck ||| (s.saf1 1).stuck ||| s.saf.drop ||| s.saf.edm

/-! ## Lines (R716, R722, R731, R739) -/

/-- R274: ENG_RDY sets when its four conditions meet. -/
def State.engReady (s : State) : State :=
  if !s.flag A.BOOT_STAT 3 && s.flag A.CORE_RDY 2 && !s.flag A.LML_STAT 2 && s.flag A.BOOT_STAT 4 && !s.wires.sta && !s.wires.stb then
    (s.setBitReg A.BOOT_STAT 3).setReg A.BOOT_T_ENG (wd (s.now - s.pmu.t0))
  else s

/-- The element lines of a channel: its commands, a TRANSFER element only while the transfer latch is set (R733). -/
def State.elemLines (s : State) (c : Nat) : Nat :=
  (List.range 4).foldl (fun m n =>
    if s.safActive c && s.flag (safCtl c) n && (s.role c n != 2 || (s.saf1 c).latch) then m + 2 ^ n else m) 0

/-- One channel's element lines take their levels; changes are timed. -/
def State.driveElems (s : State) (c : Nat) : State :=
  let s0 := if s.safActive c && s.flag (safCtl c) 6 then s else s.modCh c (fun x => { x with latch := false })
  let m := s0.elemLines c
  let old := (s0.saf1 c).cmd
  let ch := (List.range 4).filter (fun n => m.testBit n != old.testBit n)
  (s0.modCh c (fun x => { x with cmd := m, cmdAt := ch.foldl (fun t n => t.set (fun _ => 0) n s.now) x.cmdAt })).modSaf
    (fun x => { x with edmAt := ch.foldl (fun t n => t.set (fun _ => 0) n s.now) x.edmAt })

/-- Every line of both channels takes its level; a trip line that asserts acts on the engine and on the PWM unit. -/
def State.safDrive (s : State) : State :=
  let s1 := (s.driveElems 0).driveElems 1
  let trip (c b : Nat) : Bool := !s1.safActive c || !(s1.saf1 c).comm || s1.flag (safCtl c) b
  let w := s1.wires
  let wasE := w.sta || w.stb
  let wasP := s1.saf.pta || s1.saf.ptb
  let w' := { w with soa := BitVec.ofNat 4 (s1.saf1 0).cmd, sob := BitVec.ofNat 4 (s1.saf1 1).cmd, sta := trip 0 4, stb := trip 1 4 }
  let s2 := ({ s1 with wires := w' }).modSaf (fun x => { x with pta := trip 0 5, ptb := trip 1 5 })
  let isE := trip 0 4 || trip 1 4
  let s3 := if isE && !wasE then stepPause (s2.slotsTrip.drivePd) else if wasE && !isE then s2.drivePd else s2
  let s4 := if (trip 0 5 || trip 1 5) && !wasP then s3.pwmSafety else s3
  s4.engReady

/-- R721: the core writes its halt code and halts: a CORE reset that lasts until T0. -/
def State.safHalt (s : State) (c code : Nat) : State :=
  if !s.coreRuns (safCore c) then s
  else
    let s1 := s.setField A.SAF_HALT (8 * c) 8 code
    let s2 := if code = 5 then s1.setBitReg A.SAF_ERR 1 else if code = 3 ∨ code = 6 then s1.setBitReg A.SAF_ERR 0 else s1
    let s3 := ((s2.modCh c (fun x => { x with started := false, compared := false })).raise 935).coreReset (safCore c)
    s.tellState s3.safDrive

/-! ## Inputs (R725 to R730) -/

/-- TP_PER in ticks. -/
def State.tpPer (s : State) (c : Nat) : Nat := s.ph c 8 * 400000
/-- TP_W in ticks. -/
def State.tpW (s : State) (c : Nat) : Nat := s.pb c 10 * 40000

/-- Ticks since the latest TPk pulse began, as channel `c` times it (R727). -/
def State.tpSince (s : State) (c k : Nat) : Option Nat :=
  let o := k * s.tpPer c / 4
  if s.tpPer c = 0 ∨ s.now < o then none else some ((s.now - o) % s.tpPer c)

/-- The level of test-pulse output k: driven by SA for TP0 and TP1, by SB for TP2 and TP3; low while that core is down (R722,
R727). -/
def State.tpLevel (s : State) (k : Nat) : Bool :=
  let c := k / 2
  s.safActive c && (match s.tpSince c k with | some t => decide (s.tpW c ≤ t) | none => true)

/-- R729: a regular sample of input `i` now falls into the blanking of its test pulse. -/
def State.blanked (s : State) (c i : Nat) : Bool :=
  match s.pb c (0x11 + 4 * i) with
  | 0 => false
  | k + 1 => match s.tpSince c k with
    | some t => decide (t ≤ s.tpW c + 100000)
    | none => false

/-- R725: one input of a channel takes a sample. -/
def SafChan.debounce (x : SafChan) (i deb : Nat) (v : Bool) : SafChan :=
  if v == x.deb.testBit i then { x with cnt := x.cnt.del i }
  else
    let n := x.cnt.get (fun _ => 0) i + 1
    if deb ≤ n then { x with cnt := x.cnt.del i, deb := x.deb ^^^ 2 ^ i } else { x with cnt := x.cnt.set (fun _ => 0) i n }

/-- R747: RESET_IN's edges: a fall after 100 ms to 5 s high is a manual reset. -/
def SafChan.resetEdge (x : SafChan) (was is : Bool) (now : Nat) : SafChan :=
  if is && !was then { x with rise := some now }
  else if was && !is then
    (match x.rise with
     | some t => { x with rise := none, reset := x.reset || (decide (t + 40000000 ≤ now) && decide (now ≤ t + 2000000000)) }
     | none => x)
  else x

/-- SAF_INPUT_SAMPLE (R717, R725, R729): channel `c` samples its 16 input wires, whose levels are `v`. -/
def safInputSample (c v : Nat) (s : State) : State :=
  if 2 ≤ c then s
  else
    let w := if c = 0 then { s.wires with sia := BitVec.ofNat 16 v } else { s.wires with sib := BitVec.ofNat 16 v }
    let s1 := { s with wires := w }
    if !s1.safActive c then s1
    else
      let x := s1.saf1 c
      let raw := (List.range 16).foldl (fun m i => if (if s1.blanked c i then x.raw.testBit i else v.testBit i) then m + 2 ^ i else m) 0
      let y := (List.range 16).foldl (fun y i => y.debounce i (s1.pb c (0x12 + 4 * i)) (raw.testBit i)) { x with raw := raw }
      let ri := s1.pb c 7
      let z := if ri < 16 then y.resetEdge (x.deb.testBit ri) (y.deb.testBit ri) s.now else y
      s1.modCh c (fun _ => z)

/-- An input fault sets (R726, R728). -/
def State.inputFault (s : State) : State := (s.setBitReg A.SAF_ERR 2).raise 933

/-- R728: the test of one input at a pulse of TPk: `none` when the pulse tests nothing of it. -/
def State.pulseTest (s : State) (c k mid after i : Nat) : Option Bool :=
  let tp := s.pb c (0x11 + 4 * i)
  let before := (s.saf1 c).raw.testBit i
  if tp = 0 then none
  else if tp = k + 1 then (if before then some (!mid.testBit i) else none)
  else if before && after.testBit i then some (mid.testBit i) else none

/-- TEST_PULSE (R728): channel `c` samples its inputs in the middle of a TPk pulse (`mid`) and after it (`after`). -/
def testPulse (c k mid after : Nat) (s : State) : State :=
  if !(decide (c < 2) && decide (k < 4) && s.safActive c) then s
  else
    (List.range 16).foldl (fun s i =>
      match s.pulseTest c k mid after i with
      | none => s
      | some true =>
        let n := (s.saf1 c).tpPass.get (fun _ => 0) i + 1
        s.modCh c (fun x => { x with tpPass := x.tpPass.set (fun _ => 0) i n,
                                     tpFault := if 2 ≤ n ∧ x.tpFault.testBit i then x.tpFault ^^^ 2 ^ i else x.tpFault })
      | some false =>
        let had := (s.saf1 c).tpFault.testBit i
        let s1 := s.modCh c (fun x => { x with tpPass := x.tpPass.del i, tpFault := x.tpFault ||| 2 ^ i })
        if had then s1 else s1.inputFault) s

/-- R726: inputs whose debounced levels differ between the channels for 10 ms are faulted; they clear when they agree. -/
def State.diffCheck (s : State) : State :=
  if !(s.safActive 0 && s.safActive 1) then s
  else
    (List.range 16).foldl (fun s i =>
      let no : Nat → Option Nat := fun _ => none
      if (s.saf1 0).deb.testBit i == (s.saf1 1).deb.testBit i then
        s.modSaf (fun x => { x with diff := x.diff.del i, diffFault := if x.diffFault.testBit i then x.diffFault ^^^ 2 ^ i else x.diffFault })
      else
        let t := (s.saf.diff.get no i).getD s.now
        let s1 := s.modSaf (fun x => { x with diff := x.diff.set no i (some t) })
        if t + 4000000 ≤ s.now ∧ s.saf.diffFault.testBit i = false then
          (s1.modSaf (fun x => { x with diffFault := x.diffFault ||| 2 ^ i })).inputFault
        else s1) s

/-! ## Functions (R740 to R748) -/

/-- A function takes a state; SA publishes it: the events and counts of Tables SAF-14 and SAF-15. -/
def State.setFn (s : State) (c f : Nat) (y : SafFn) : State :=
  let old := ((s.saf1 c).fnOf f).st
  let s1 := s.modCh c (fun x => { x with fn := x.fn.set (fun _ => {}) f y })
  if c ≠ 0 ∨ y.st = old then s1
  else
    let s2 := if (y.st = 2 ∨ y.st = 3) ∧ (old = 1 ∨ old = 4) then
        (s1.raise 929).modReg A.SAF_CNT (fun w => satAdd w 0 16 1) else s1
    if y.st = 2 then s2.raise 930
    else if y.st = 4 then s2.raise 931
    else if y.st = 5 then
      let s3 := (s2.raise 932).modReg A.SAF_CNT (fun w => satAdd w 16 16 1)
      if y.cause = 2 then s3 else s3.setBitReg A.SAF_ERR 3
    else s2

/-- R747, R748: how demand and health move a function that is not in FAULT. -/
def State.fnMove (s : State) (c f : Nat) (y : SafFn) (demand : Bool) : SafFn :=
  match y.st with
  | 2 => if y.since + s.fh c f 10 * 400000 ≤ s.now then { y with st := 3 } else y
  | 1 => if demand then (if s.fb c f 1 = 1 then { y with st := 2, since := s.now } else { y with st := 3 }) else y
  | 4 => if demand then { y with st := 3 } else y
  | _ => if demand then { y with st := 3 }
         else if s.fb c f 2 = 1 ∧ s.fb c f 0 ≠ 3 then { y with st := 4 } else { y with st := 1 }

/-- The tick since which a condition has held. -/
def sinceWhen (now : Nat) (holds : Bool) (old : Option Nat) : Option Nat := if holds then some (old.getD now) else none

/-- A condition has held for `ticks`. -/
def heldFor (now ticks : Nat) : Option Nat → Bool
  | some t => decide (t + ticks ≤ now)
  | none => false

/-- R743: the guard's UNLOCK output is commanded on. -/
def State.unlocked (s : State) (c f : Nat) : Bool := decide (s.fb c f 16 < 4) && (s.saf1 c).cmd.testBit (s.fb c f 16)

/-- ESTOP, GUARD and OSSD (R741 to R743, R745, R746): the doors and the locks of a guard are judged as two pairs. -/
def State.fnStd (s : State) (c f : Nat) (y : SafFn) : SafFn :=
  let used (k : Nat) : Bool := s.fb c f (4 + k) != 0xFF
  let ok (k : Nat) : Bool := (s.saf1 c).deb.testBit (s.fb c f (4 + k)) != (s.fb c f 3).testBit k
  let ins := (List.range 4).filter used
  let y1 := { y with disc0 := sinceWhen s.now (used 0 && used 1 && ok 0 != ok 1) y.disc0,
                     disc1 := sinceWhen s.now (used 2 && used 3 && ok 2 != ok 3) y.disc1 }
  let t := s.fh c f 8 * 400000
  let fin := ins.any (fun k => s.inFault c (s.fb c f (4 + k)))
  let disc := heldFor s.now t y1.disc0 || heldFor s.now t y1.disc1
  if fin || disc then { y1 with st := 5, cause := if y.st = 5 then y.cause else if fin then 2 else 1 }
  else if y.st = 5 then (if ins.all (fun k => !ok k) then { y1 with st := 3, cause := 0 } else y1)
  else s.fnMove c f y1 (!ins.all ok || (s.fb c f 0 == 2 && s.unlocked c f))

/-- TWO_HAND (R744, R746). -/
def State.fnTwo (s : State) (c f : Nat) (y : SafFn) : SafFn :=
  let lv (k : Nat) : Bool := (s.saf1 c).deb.testBit (s.fb c f (4 + k))
  let act (b : Nat) : Bool := lv (2 * b) && !lv (2 * b + 1)
  let rest (b : Nat) : Bool := !lv (2 * b) && lv (2 * b + 1)
  let y1 := { y with disc0 := sinceWhen s.now (!act 0 && !rest 0) y.disc0, disc1 := sinceWhen s.now (!act 1 && !rest 1) y.disc1,
                     act0 := sinceWhen s.now (act 0) y.act0, act1 := sinceWhen s.now (act 1) y.act1,
                     rested := y.rested || (rest 0 && rest 1) }
  let t := s.fh c f 8 * 400000
  let fin := (s.fnInputs c f).any (s.inFault c)
  let near := match y1.act0, y1.act1 with
    | some a, some b => decide (a ≤ b + 200000000) && decide (b ≤ a + 200000000)
    | _, _ => false
  if fin || heldFor s.now t y1.disc0 || heldFor s.now t y1.disc1 then
    { y1 with st := 5, cause := if y.st = 5 then y.cause else if fin then 2 else 3 }
  else match y.st with
    | 5 => if rest 0 && rest 1 then { y1 with st := 3, cause := 0 } else y1
    | 1 => s.fnMove c f y1 (!(act 0 && act 1))
    | 2 => s.fnMove c f y1 true
    | _ => if act 0 && act 1 && near && y1.rested then { y1 with st := 1, rested := false } else { y1 with st := 3 }

/-- Every function of a channel is evaluated once. -/
def State.evalFns (s : State) (c : Nat) : State :=
  ((List.range 8).filter (s.fnUsed c)).foldl (fun s f =>
    let y := (s.saf1 c).fnOf f
    s.setFn c f (if s.fb c f 0 = 3 then s.fnTwo c f y else s.fnStd c f y)) s

/-- R743: since when everything that depends on a guard has been off. -/
def State.guardOff (s : State) (c : Nat) : State :=
  ((List.range 8).filter (fun f => s.fnUsed c f && s.fb c f 0 == 2)).foldl (fun s f =>
    let outs := (List.range 4).all (fun n => !(decide (s.role c n ≤ 3) && (s.oh c n 2).testBit f) || !s.soOn n)
    let eng := !(s.ph c 0x190).testBit f || (if c = 0 then s.wires.sta else s.wires.stb)
    let pwm := !(s.ph c 0x192).testBit f || (if c = 0 then s.saf.pta else s.saf.ptb)
    let y := (s.saf1 c).fnOf f
    s.modCh c (fun x => { x with fn := x.fn.set (fun _ => {}) f { y with offSince := sinceWhen s.now (outs && eng && pwm) y.offSince } })) s

/-! ## Outputs (R731 to R738) -/

/-- An output fault latches: its SAF_ERR bit is set, the output is switched off by both elements. -/
def State.soFault (s : State) (n err : Nat) : State :=
  (((s.setBitReg A.SAF_ERR err).raise 934).clrBitReg A.SAF_CTLA n).clrBitReg A.SAF_CTLB n

/-- R735: a drop-out latches. -/
def State.dropOut (s : State) (n : Nat) : State :=
  (s.modSaf (fun x => { x with drop := x.drop ||| 2 ^ n, dropOff := if x.dropOff.testBit n then x.dropOff ^^^ 2 ^ n else x.dropOff })).soFault n 5

/-- R735, R736: a channel latches STUCK. -/
def State.stuckOn (s : State) (c n : Nat) : State := (s.modCh c (fun x => { x with stuck := x.stuck ||| 2 ^ n })).soFault n 4

/-- The mirror of output `n` shows the released level in channel `c` (R738). -/
def State.released (s : State) (c n : Nat) : Bool := (s.saf1 c).deb.testBit (s.ob c n 4) == (s.ob c n 5 == 0)

/-- R738: an EDM fault latches. -/
def State.edmFault (s : State) (n : Nat) : State := (s.modSaf (fun x => { x with edm := x.edm ||| 2 ^ n })).soFault n 6

/-- The condition of an output's ROLE (Table SAF-3); for TRANSFER the permit. -/
def State.roleHolds (s : State) (c n : Nat) : Bool :=
  match s.role c n with
  | 0 | 2 | 3 => s.maskOk c (s.oh c n 2)
  | 1 => s.maskOk c (s.oh c n 2) && s.requestOn
  | 4 => (List.range 8).any (fun f => s.fnUsed c f && s.fb c f 0 == 2 && s.fb c f 16 == n && s.flag A.SAF_CMD f &&
           heldFor s.now (s.fh c f 14 * 40000000) ((s.saf1 c).fnOf f).offSince)
  | _ => false

/-- R735: a dropped OUTLET output may switch on again after a new assertion of the request. -/
def State.dropRelease (s : State) (c n : Nat) : State :=
  if s.saf.drop.testBit n ∧ s.role c n = 1 then
    (if s.requestOn = false then s.modSaf (fun x => { x with dropOff := x.dropOff ||| 2 ^ n })
     else if s.saf.dropOff.testBit n then s.modSaf (fun x => { x with drop := x.drop ^^^ 2 ^ n, dropOff := x.dropOff ^^^ 2 ^ n })
     else s)
  else s

/-- The command of one element (R732, R738). -/
def State.elemCommand (s : State) (c : Nat) (p : State × Word) (n : Nat) : State × Word :=
  let t := p.1.dropRelease c n
  let want := (s.saf1 c).comm && t.roleHolds c n && !t.soFaults.testBit n
  let edm := t.ob c n 4
  if want && !(t.saf1 c).cmd.testBit n && edm != 0xFF && t.role c n != 0xFF && !t.released c n && t.role c n != 2 then (t.edmFault n, p.2)
  else (t, setBit p.2 n want)

/-- The channel's commands of a cycle, written to SAF_CTLx (Table SAF-2 word 4, R739). -/
def State.safCommands (s : State) (c : Nat) : State :=
  let p := (List.range 4).foldl (s.elemCommand c) (s, 0#32)
  let t := p.1
  let permit := (s.saf1 c).comm && (List.range 4).any (fun n => t.role c n == 2 && t.maskOk c (t.oh c n 2))
  let trip (mask : Nat) : Bool := !(s.saf1 c).comm || t.maskTrips c mask
  let ctl := setBit (setBit (setBit p.2 4 (trip (t.ph c 0x190))) 5 (trip (t.ph c 0x192))) 6 permit
  t.setReg (safCtl c) ctl

/-! ## Cross-compare (R719, R720) -/

/-- The record of Table SAF-2. -/
def State.safRecord (s : State) (c : Nat) : List Word :=
  let x := s.saf1 c
  let flt := (List.range 16).foldl (fun m i => if s.inFault c i then m + 2 ^ i else m) 0
  let st := (List.range 8).foldl (fun w f => setFld w (4 * f) 4 (s.fnState c f)) 0#32
  let rdy := (List.range 8).foldl (fun m f => if s.fnState c f = 4 then m + 2 ^ f else m) 0
  let ws := [wd x.cycle, s.tick, setFld (setFld 0#32 0 16 x.deb) 16 16 flt, st,
    setBit (s.reg (safCtl c)) 7 x.comm, x.crc, setFld (setFld (setFld 0#32 0 4 (x.stuck ||| s.saf.drop)) 4 4 s.saf.edm) 8 8 rdy]
  ws ++ [crc32c ws]

/-- The channel writes its record. -/
def State.putRecord (s : State) (c : Nat) : State :=
  ((List.range 8).zip (s.safRecord c)).foldl (fun s p => s.setReg (safXc c p.1) p.2) s

/-- Both cores have completed their first cross-compare: SAFE_RUN (R752). -/
def State.safeRun (s : State) : State :=
  if (s.saf1 0).compared && (s.saf1 1).compared && !s.flag A.BOOT_STAT 4 then
    ((s.setBitReg A.BOOT_STAT 4).setReg A.BOOT_T_SAFE (wd (s.now - s.pmu.t0))).engReady
  else s

/-- R720, R752 step 4: the channel judges its partner's record. -/
def State.crossCompare (s : State) (c : Nat) : State :=
  let x := s.saf1 c
  let p := 1 - c
  let r (i : Nat) : Word := s.reg (safXc p i)
  let crcOk := r 7 == crc32c ((List.range 7).map r)
  let num := (r 0).toNat
  if !x.compared then
    (if s.safActive p && crcOk && num != 0 then
      (if r 5 = x.crc then (s.modCh c (fun x => { x with compared := true, seen := num })).safeRun else s.safHalt c 3)
     else s)
  else
    let adv := crcOk && num != x.seen
    let lost := if adv then 0 else x.lost + 1
    let own (i : Nat) : Word := s.reg (safXc c i)
    let differ := if adv && (r 3 != own 3 || r 4 != own 4) then x.differ + 1 else if adv then 0 else x.differ
    let s1 := s.modCh c (fun x => { x with seen := if adv then num else x.seen, lost := lost, differ := differ })
    if 3 ≤ lost then s1.safHalt c 5
    else if (adv && r 5 != x.crc) || decide (12 ≤ differ) then s1.safHalt c 6
    else s1

/-! ## The cycle and its checks -/

/-- SAF_CYCLE (R717, R719): channel `c` evaluates once in each ms of the time base. -/
def safCycle (c : Nat) (s : State) : State :=
  let ms := s.now / 400000
  if !(decide (c < 2) && s.safActive c) || (s.saf1 c).lastMs == some ms then s
  else
    let s1 := s.modCh c (fun x => { x with lastMs := some ms, cycle := (x.cycle + 1) % 4294967296, kickAt := s.now })
    let s2 := ((((s1.diffCheck.evalFns c).guardOff c).safCommands c).safDrive).putRecord c
    s.tellState (s2.crossCompare c)

/-- R723: a kick of the channel's watchdog by a write of SAF_WDGx. -/
def State.safKick (s : State) (c : Nat) : State :=
  if s.safActive c && decide (s.now < (s.saf1 c).kickAt + 240000) then s.safHalt c 7 else s.modCh c (fun x => { x with kickAt := s.now })

/-- SAF_WATCHDOG (R723): no kick within 1.6 ms. -/
def safWatchdog (c : Nat) (s : State) : State :=
  if c < 2 ∧ s.safActive c = true ∧ (s.saf1 c).kickAt + 640000 ≤ s.now then s.safHalt c 7 else s

/-- SAF_CLOCK_HALT (R724): clock monitor 5 (SA) or 6 (SB) has failed. -/
def safClockHalt (c : Nat) (s : State) : State := if c < 2 ∧ s.flag A.CLK_ERR (13 + c) = true then s.safHalt c 8 else s

/-- R735, R446: an element's readback takes a level; the interlocks, IT_ACTIVE and the parallel timer follow. -/
def State.setSofb (s : State) (k : Nat) (on : Bool) : State :=
  let was := s.transferOn
  let fb := BitVec.ofNat 8 ((List.range 8).foldl (fun m i => if (if i = k then on else s.wires.sofb.getLsbD i) then m + 2 ^ i else m) 0)
  let s1 := { s with wires := { s.wires with sofb := fb } }
  let s2 := if s1.transferOn && !was then s1.modPwr (fun p => { p with transAt := s.now }) else s1
  if s2.live .chg then s2.itUpdate.ilk else s2

/-- ELEMENT_READBACK (R735): the readback of channel `c`'s element of output `n` is `on`. -/
def elementReadback (c n : Nat) (on : Bool) (s : State) : State :=
  if !(decide (c < 2) && decide (n < 4)) then s
  else
    let s1 := s.setSofb (2 * n + c) on
    let x := s1.saf1 c
    if !s1.safActive c || decide (s.now < x.cmdAt.get (fun _ => 0) n + 400000) || s1.role c n == 0xFF then s1
    else if on && !x.cmd.testBit n then (if x.stuck.testBit n then s1 else (s1.stuckOn c n).safDrive)
    else if !on && x.cmd.testBit n then (s1.dropOut n).safDrive
    else s1

/-- DARK_TEST (R736): channel `c` has switched its element off for 300 µs; it read off in time or not. -/
def darkTest (c n : Nat) (off : Bool) (s : State) : State :=
  if decide (c < 2) && decide (n < 4) && s.safActive c && (s.saf1 c).cmd.testBit n && s.soOn n && !off then
    (((s.dropOut n).stuckOn c n)).safDrive
  else s

/-- EDM_CHECK (R738): the mirror of output `n` has not followed within EDM_T. -/
def edmCheck (n : Nat) (s : State) : State :=
  match [0, 1].find? (fun c => s.safActive c) with
  | none => s
  | some c =>
    let on := (s.saf1 c).cmd.testBit n
    if decide (n < 4) && s.role c n != 0xFF && s.ob c n 4 != 0xFF && s.released c n == on && !s.saf.edm.testBit n &&
        decide (s.saf.edmAt.get (fun _ => 0) n + s.oh c n 6 * 400000 ≤ s.now) then (s.edmFault n).safDrive
    else s

/-- STOP1_EXPIRY (R748): STOP1_T of function `f` has passed. -/
def stop1Expiry (f : Nat) (s : State) : State :=
  let go (s : State) (c : Nat) : State :=
    let y := (s.saf1 c).fnOf f
    if s.safActive c && s.fnUsed c f && y.st == 2 && decide (y.since + s.fh c f 10 * 400000 ≤ s.now) then
      ((s.setFn c f { y with st := 3 }).safCommands c).safDrive
    else s
  go (go s 0) 1

/-! ## Commissioning (R753 to R756) -/

/-- COMM_FAIL (R755). -/
def State.commFail (s : State) : State :=
  ((s.setBitReg A.SAF_ERR 7).raise 937).modReg A.SAF_STAT (fun w => setBit (setBit w 8 false) 9 false)

/-- Both cores are NOT_COMMISSIONED. -/
def State.notComm (s : State) : Bool := s.safState == 1 && !(s.saf1 0).comm && !(s.saf1 1).comm

/-- The effect of a write of SAF_COMM (R755, R759). -/
def State.safCommEffect (s : State) (m : Nat) (v : Word) : State :=
  if m ≠ s.primaryHost then s
  else
    let s1 := s.setReg A.SAF_COMM v
    if s1.notComm && !s1.flag A.SAF_STAT 8 then (s1.modSaf (fun x => { x with commAt := s.now })).setBitReg A.SAF_STAT 9 else s1

/-- SAF_COMM_WRITE (R755). -/
def safCommWrite (m size : Nat) (v : Word) (s : State) : State := s.wpWrite .saf m A.SAF_COMM size v (fun s => s.safCommEffect m v)

/-- R755 steps 2 and 3: a manual reset in time has each core compare the value. -/
def State.commReset (s : State) : State :=
  if !s.flag A.SAF_STAT 9 then s
  else if s.saf.commAt + 4000000000 < s.now then s.commFail
  else
    let v := s.reg A.SAF_COMM
    if v = (s.saf1 0).crc ∧ v = (s.saf1 1).crc then
      (((s.setReg A.COMM_REQA v).setReg A.COMM_REQB v).clrBitReg A.SAF_STAT 9).setBitReg A.SAF_STAT 8
    else s.commFail

/-- MANUAL_RESET (R747, R735, R738, R755). -/
def manualReset (s : State) : State :=
  let chs := [0, 1].filter (fun c => s.safActive c && (s.saf1 c).reset)
  if chs.isEmpty then s
  else
    let one (s : State) (c : Nat) : State :=
      let s1 := (List.range 8).foldl (fun s f =>
        let y := (s.saf1 c).fnOf f
        if y.st = 4 then s.setFn c f { y with st := 1 } else s) s
      let s2 := (List.range 4).foldl (fun s n =>
        let d := if s.saf.drop.testBit n ∧ s.role c n ≠ 1 ∧ s.role c n ≠ 2 then s.modSaf (fun x => { x with drop := x.drop ^^^ 2 ^ n }) else s
        if d.saf.edm.testBit n && d.released c n then d.modSaf (fun x => { x with edm := x.edm ^^^ 2 ^ n }) else d) s1
      s2.modCh c (fun x => { x with reset := false })
    (chs.foldl one s).commReset

/-- A commissioning row is valid: MAGIC and CRC (R756). -/
def State.commRowOk (s : State) (r : Nat) : Bool :=
  let a := 0x08801800 + 64 * r
  s.word a == 0x43464153#32 && s.word (a + 60) == crc32c ((List.range 15).map (fun i => s.word (a + 4 * i)))

/-- R753: the row of the valid record with the highest number. -/
def State.commRow (s : State) : Option Nat :=
  ((List.range 8).filter s.commRowOk).foldl (fun best r =>
    match best with
    | none => some r
    | some b => if (s.word (0x08801800 + 64 * b + 4)).toNat < (s.word (0x08801800 + 64 * r + 4)).toNat then some r else some b) none

/-- R753: confirmed check value and record number, 0 and 0 when no record is valid. -/
def State.commRecord (s : State) : Word × Word :=
  match s.commRow with
  | some r => (s.word (0x08801800 + 64 * r + 8), s.word (0x08801800 + 64 * r + 4))
  | none => (0#32, 0#32)

/-- COMMISSION_PROGRAM (R755, R756): FLC programs the next row; `ok` says the program succeeded. -/
def commissionProgram (ok : Bool) (s : State) : State :=
  if !s.flag A.SAF_STAT 8 then s
  else if !s.domOn 17 || !ok || s.reg A.COMM_REQA != s.reg A.COMM_REQB then s.commFail
  else
    let r := match s.commRow with | some r => (r + 1) % 8 | none => 0
    let v := s.reg A.COMM_REQA
    let ws := [0x43464153#32, s.commRecord.2 + 1#32, v] ++ List.replicate 12 0#32
    let s1 := s.setWords (0x08801800 + 64 * r) (ws ++ [crc32c ws])
    let s2 := ((s1.modCh 0 (fun x => { x with comm := true })).modCh 1 (fun x => { x with comm := true })).setReg A.SAF_CCRC v
    s.tellState ((s2.clrBitReg A.SAF_STAT 8).raise 936)

/-- COMMISSION_TIMEOUT (R755): no manual reset within 10 s. -/
def commissionTimeout (s : State) : State :=
  if s.flag A.SAF_STAT 9 ∧ s.saf.commAt + 4000000000 ≤ s.now then s.commFail else s

/-! ## Start (R752, R753) -/

/-- R271: the section's SHA-256 matches the hash in the hand-off block at the top 64 bytes of the RAM. -/
def State.safSectionOk (s : State) (c : Nat) : Bool :=
  let h := safRam c + 0xC000 - 64
  let len := (s.word h).toNat
  decide (len ≤ 0xC000 - 64) && (shaHash sha256 (s.bytes (safRam c) len) == s.bytes (h + 4) 32)

/-- SAF_START (R752): steps 1 to 3 of a safety core's start; `test` is the outcome of its self-test. -/
def safStart (c : Nat) (test : Bool) (s : State) : State :=
  if !(decide (c < 2) && s.coreRuns (safCore c)) || (s.saf1 c).started then s
  else if !s.safSectionOk c then s.safHalt c 1
  else if !s.paramsOk c then s.safHalt c 2
  else if !test then s.safHalt c 4
  else
    let conf := s.word (safRam c + 0xC000 - 64 + 36)
    let crc := s.safCrc c
    let fns := ((List.range 8).filter (s.fnUsed c)).foldl (fun t f => Tab.set (fun _ => {}) t f ({ st := 3 } : SafFn)) ([] : Tab SafFn)
    let s1 := s.modCh c (fun _ => { started := true, comm := conf == crc, crc := crc, fn := fns, kickAt := s.now })
    let s2 := ((List.range 8).foldl (fun s i => s.setReg (safXc c i) 0#32) s1).setReg (safCtl c) 0#32
    let s3 := s2.setReg (safReq c) 0#32
    let s4 := if c = 0 then (s3.setReg A.SAF_PCRC crc).setReg A.SAF_CCRC conf else s3
    s.tellState s4.safDrive

/-! ## Transfer contactor edges (R445, R733) -/

/-- TCC_CLOSE_EDGE: blocked without SYNC_OK, else each channel with its permit sets its latch. -/
def tccCloseEdge (s : State) : State :=
  if !s.live .psc then s
  else if !s.syncOk then (s.setBitReg A.PSC_ERR 4).raise 589
  else
    let permit (c : Nat) : Bool := s.safActive c && s.flag (safCtl c) 6
    let release (s : State) (n : Nat) : State :=
      if s.saf.drop.testBit n ∧ s.role 0 n = 2 then
        let t := s.modSaf (fun x => { x with drop := x.drop ^^^ 2 ^ n })
        (if permit 0 then t.setBitReg A.SAF_CTLA n else t).modReg A.SAF_CTLB (fun w => if permit 1 then setBit w n true else w)
      else s
    let early := (List.range 4).filter (fun n => s.role 0 n == 2 && s.ob 0 n 4 != 0xFF && permit 0 && !s.released 0 n)
    let s0 := early.foldl State.edmFault ((List.range 4).foldl release s)
    let set (s : State) (c : Nat) : State := if permit c then s.modCh c (fun x => { x with latch := true }) else s
    let s1 := (set (set s0 0) 1).safDrive
    if permit 0 && permit 1 then s1 else (s1.setBitReg A.SAF_ERR 8).raise 938

/-- TCC_OPEN_EDGE (R733, R445): the latches clear. -/
def tccOpenEdge (s : State) : State :=
  ((s.modCh 0 (fun x => { x with latch := false })).modCh 1 (fun x => { x with latch := false })).safDrive

/-! ## Registers (R759) -/

/-- SAF_CMD_UNLOCK (R743): the primary host writes SAF_CMD. -/
def safCmdUnlock (m size : Nat) (v : Word) (s : State) : State :=
  s.plainWrite .saf m A.SAF_CMD (fun s => if m = s.primaryHost then s.rwStore A.SAF_CMD size v else s)

/-- What the SAF window's read-only registers read (Table SAF-15). -/
def State.safRead (s : State) (a : Nat) : Word :=
  let fns := (A.SAF_FN 0 ≤ a && a ≤ A.SAF_FN 7 : Bool)
  if a = A.SAF_STAT then
    let jog := (List.range 8).any (s.jogs 0)
    let w := setFld (s.reg a &&& 0x300#32) 0 2 s.safState
    setBit (setBit (setBit (setBit (setBit (setBit w 2 (s.safActive 0)) 3 (s.safActive 1)) 4 jog) 5 s.wires.sta) 6 s.wires.stb) 7
      (s.saf.pta || s.saf.ptb)
  else if a = A.SAF_IN then setFld (setFld 0#32 0 16 (s.saf1 0).deb) 16 16 (s.saf1 1).deb
  else if a = A.SAF_INFLT then wd ((s.saf1 0).tpFault ||| (s.saf1 1).tpFault ||| s.saf.diffFault)
  else if a = A.SAF_SO then
    let on := (List.range 4).foldl (fun m n => if s.soOn n then m + 2 ^ n else m) 0
    setFld (setFld (setFld (setFld (setFld (setFld 0#32 0 4 (s.saf1 0).cmd) 4 4 (s.saf1 1).cmd) 8 8 s.wires.sofb.toNat) 16 4
      ((s.saf1 0).stuck ||| (s.saf1 1).stuck)) 20 4 s.saf.edm) 24 4 on
  else if a = A.SAF_LINES then
    setBit (setBit (setBit (setBit 0#32 0 s.requestOn) 1 (s.saf1 0).latch) 2 (s.saf1 1).latch) 3
      (decide (s.pb 0 7 < 16) && (s.saf1 0).deb.testBit (s.pb 0 7))
  else if fns then
    let f := (a - A.SAF_FN 0) / 4
    setFld (setFld 0#32 0 3 (s.fnState 0 f)) 4 4 ((s.saf1 0).fnOf f).cause
  else s.reg a

end Sys2Proof.Machine
end

