-- ==== Sys2Proof/Machine/Watchdog.lean ====
section
/-! DEFINITION. The watchdogs' counts (06, R268; 16, R703; 19, R833). -/
namespace Sys2Proof.Machine

/-- R703, R833: watchdog `c` is suspended: watchdog 0 while PARKED is set, and that of a halted core under WDT_FREEZE. -/
def State.wdtSuspended (s : State) (c : Nat) : Bool :=
  (c == 0 && s.flag A.UPD_STAT 2) || (s.coreState c == 3 && s.flag A.DBG_STAT (8 + c) && s.flag A.DBG_STAT 7)

/-- The tick that watchdog `c` counts from. -/
def State.wdtFrom (s : State) (c : Nat) : Nat := s.pmu.wdtAt.get (fun _ => 0) c

/-- Restarts the count of watchdog `c`. -/
def State.wdtRestart (s : State) (c : Nat) : State :=
  let h := if s.wdtSuspended c then some s.now else none
  { s with pmu := { s.pmu with wdtAt := s.pmu.wdtAt.set (fun _ => 0) c s.now, wdtHold := s.pmu.wdtHold.set (fun _ => none) c h } }

/-- A suspension of watchdog `c` begins or ends; the time suspended does not count. -/
def State.wdtSync1 (s : State) (c : Nat) : State :=
  match s.pmu.wdtHold.get (fun _ => none) c, s.wdtSuspended c with
  | none, true => { s with pmu := { s.pmu with wdtHold := s.pmu.wdtHold.set (fun _ => none) c (some s.now) } }
  | some t, false =>
    { s with pmu := { s.pmu with
      wdtAt := s.pmu.wdtAt.set (fun _ => 0) c (s.wdtFrom c + (s.now - t)), wdtHold := s.pmu.wdtHold.set (fun _ => none) c none } }
  | _, _ => s

/-- Every watchdog follows what suspends it. -/
def State.wdtSync (s : State) : State := (List.range 5).foldl State.wdtSync1 s

/-- TIMEOUT of watchdog `c` in ticks. -/
def State.wdtTicks (s : State) (c : Nat) : Nat := s.field (A.WDT_CFG c) 0 16 * 400000

/-- Ticks that watchdog `c` has counted. -/
def State.wdtCounted (s : State) (c : Nat) : Nat := (s.pmu.wdtHold.get (fun _ => none) c).getD s.now - s.wdtFrom c

/-- WDT_LEFTc: milliseconds remaining; the whole timeout while it is not enabled. -/
def State.wdtLeft (s : State) (c : Nat) : Word :=
  if s.flag (A.WDT_CFG c) 16 then wd ((s.wdtTicks c - s.wdtCounted c + 399999) / 400000) else wd (s.field (A.WDT_CFG c) 0 16)

/-- A write of WDT_CFGc (R268): EN cannot be cleared; setting it starts the count. -/
def State.wdtCfgEffect (s : State) (c : Nat) (v : Word) : State :=
  let was := s.flag (A.WDT_CFG c) 16
  let s1 := s.store (A.WDT_CFG c) (if was then setBit v 16 true else v)
  if !was && bit v 16 then s1.wdtRestart c else s1

end Sys2Proof.Machine
end

