-- ==== Sys2Proof/Machine/Update.lean ====
section
/-! DEFINITION. The update unit (16): images, banks and records, verification, cut-in, handover, health windows, fallback
and recovery (R670 to R714). -/
namespace Sys2Proof.Machine

/-- Changes the update unit's hidden state. -/
def State.modUpd (s : State) (f : UpdSt → UpdSt) : State := { s with upd := f s.upd }

/-- UPD_ERR takes a bit and UPD_ERR is raised. -/
def State.updErr (s : State) (i : Nat) : State := (s.setBitReg A.UPD_ERR i).raise 909

/-! ## Images (R670 to R672) -/

/-- Base of a bank: 0 A, 1 B. -/
def bankBase (b : Nat) : Nat := 0x08000000 + 0x400000 * b
/-- The header of a bank's image. -/
def State.imgHeader (s : State) (b : Nat) : List Byte := s.bytes (bankBase b) 1024
/-- A little-endian field of a header or record. -/
def leField (l : List Byte) (o n : Nat) : Nat := leNat ((l.drop o).take n)
/-- Section entries of a header: the first N_SECT of six. -/
def imgSections (h : List Byte) : List (List Byte) :=
  (List.range (min 6 (leField h 6 1))).map (fun i => (h.drop (0xC0 + 80 * i)).take 80)

/-- A section entry as data. -/
def sectOf (bank : Nat) (e : List Byte) : Sect :=
  { bank := bank, stateId := leField e 2 2, off := leField e 4 4, len := leField e 8 4, entry := leField e 12 4,
    accepts := (List.range 4).map (fun i => leField e (16 + 2 * i) 2), hash := (e.drop 32).take 48 }

/-- The section of a TYPE in a bank. -/
def State.section (s : State) (b typ : Nat) : Option Sect :=
  ((imgSections (s.imgHeader b)).find? (fun e => leField e 0 1 == typ)).map (sectOf b)

/-- R671: the section table is valid. -/
def sectionsValid (h : List Byte) : Bool :=
  let es := imgSections h
  let typ (e : List Byte) : Nat := leField e 0 1
  let has (t : Nat) : Bool := es.any (fun e => typ e == t)
  let opts := leField h 7 1
  let lo (e : List Byte) : Nat := leField e 4 4
  let hi (e : List Byte) : Nat := leField e 4 4 + leField e 8 4
  let idx := List.range es.length
  let pair (p : List Byte → List Byte → Bool) : Bool :=
    idx.all (fun i => idx.all (fun j => i == j || p (es.getD i []) (es.getD j [])))
  pair (fun a b => typ a != typ b) && has 1 && has 3 && has 5 && has 6 &&
  (!(opts.testBit 0 || opts.testBit 1) || has 2) && (!(opts.testBit 0 || opts.testBit 2) || has 4) &&
  es.all (fun e => decide (0x400 ≤ lo e) && decide (hi e ≤ leField h 8 4)) &&
  pair (fun a b => decide (hi a ≤ lo b) || decide (hi b ≤ lo a) || leField a 8 4 == 0 || leField b 8 4 == 0) &&
  es.all (fun e => if typ e == 2 || typ e == 3 || typ e == 4 then decide (leField e 8 4 ≤ 65472)
    else if typ e == 5 || typ e == 6 then decide (leField e 8 4 ≤ 49088) else true)

/-! ## Bank records (R675, R676) -/

/-- The address of record row `r` of a bank. -/
def recAddr (b r : Nat) : Nat := 0x08801400 + 0x200 * b + 128 * r
/-- A record row's bytes. -/
def State.recRow (s : State) (b r : Nat) : List Byte := s.bytes (recAddr b r) 128
/-- MAGIC is right and the CRC matches. -/
def recValid (l : List Byte) : Bool :=
  l.take 4 == [0x54#8, 0x48#8, 0x5A#8, 0x52#8] && leField l 124 4 == crcBytes (l.take 124)
/-- SEQ of a record. -/
def recSeq (l : List Byte) : Nat := leField l 4 4
/-- The valid records of a bank, with their rows. -/
def State.recs (s : State) (b : Nat) : List (Nat × List Byte) :=
  ((List.range 4).map (fun r => (r, s.recRow b r))).filter (fun p => recValid p.2)
/-- The latest record of a bank and its row. -/
def State.latest (s : State) (b : Nat) : Option (Nat × List Byte) :=
  (s.recs b).foldl (fun m p => match m with
    | some q => if recSeq q.2 < recSeq p.2 then some p else m
    | none => some p) none
/-- STATE of a bank's latest record: 1 OPEN, 2 STAGED, 3 TRIAL, 4 TRYING, 5 CONFIRMED, 6 REJECTED; 0 without one. -/
def State.bankState (s : State) (b : Nat) : Nat := match s.latest b with | some (_, l) => leField l 9 1 | none => 0
/-- SEQ of a bank's latest record; 0 without one. -/
def State.bankSeq (s : State) (b : Nat) : Nat := match s.latest b with | some (_, l) => recSeq l | none => 0
/-- FLAGS of a bank's latest record. -/
def State.bankFlags (s : State) (b : Nat) : Nat := match s.latest b with | some (_, l) => leField l 10 1 | none => 0
/-- R676: GEN of a bank. -/
def State.bankGen (s : State) (b : Nat) : Nat := match s.latest b with | some (_, l) => leField l 12 4 | none => 0
/-- Bytes 16 to 79 of a bank's latest record: what it says of the image. -/
def State.recInfo (s : State) (b : Nat) : List Byte :=
  match s.latest b with | some (_, l) => (l.drop 16).take 64 | none => zeros 64
/-- Bytes 16 to 79 of a record, from the header of the image in a bank. -/
def State.hdrInfo (s : State) (b : Nat) : List Byte :=
  let h := s.imgHeader b
  (h.drop 8).take 8 ++ (h.drop 0x10).take 1 ++ zeros 7 ++ (h.drop 0x20).take 48
/-- 1 + the highest SEQ in either bank's rows. -/
def State.nextSeq (s : State) : Nat := ((s.recs 0 ++ s.recs 1).foldl (fun m p => max m (recSeq p.2)) 0) + 1

/-- R675: a new record of a bank; `gen` 0 copies GEN from its SEQ (an OPEN record, R676). -/
def State.writeRec (s : State) (b st flags : Nat) (info : List Byte) : State :=
  let row := match s.latest b with | some (r, _) => (r + 1) % 4 | none => 0
  let seq := s.nextSeq
  let gen := if st = 1 then seq else s.bankGen b
  let body := [0x54#8, 0x48#8, 0x5A#8, 0x52#8] ++ natLe 4 seq ++
    [BitVec.ofNat 8 b, BitVec.ofNat 8 st, BitVec.ofNat 8 flags, 0#8] ++ natLe 4 gen ++ info ++ zeros 44
  (s.flashErase (recAddr b row) 128).flashProgram (recAddr b row) (body ++ natLe 4 (crcBytes body))

/-- A record that changes STATE and FLAGS alone. -/
def State.markBank (s : State) (b st flags : Nat) : State := s.writeRec b st flags (s.recInfo b)

/-- A bank is written REJECTED. -/
def State.rejectBank (s : State) (b : Nat) : State := s.markBank b 6 0

/-! ## Anti-rollback and verification (R679 to R681) -/

/-- VSVN in the vault. -/
def State.vsvn (s : State) : Nat := (s.word 0x50000308).toNat
/-- R680: the rollback floor. -/
def State.svnFloor (s : State) : Nat := max s.upd.fuseSvn s.vsvn

/-- R681: what confirmation does to VSVN and to the thermometer. -/
def State.raiseSvn (s : State) (b : Nat) : State :=
  let svn := leField (s.recInfo b) 8 1
  let s1 := if s.vsvn < svn then s.setWord 0x50000308 (wd svn) else s
  if (leField (s.imgHeader b) 0x11 1).testBit 0 then s1.modUpd (fun u => { u with fuseSvn := max u.fuseSvn svn }) else s1

/-- A bank becomes CONFIRMED (R681, R711, R712). -/
def State.confirmBank (s : State) (b flags : Nat) : State :=
  let s1 := s.markBank b 5 flags
  (if flags.testBit 1 then s1 else s1.raiseSvn b).raise 908

/-- The bit of OPTIONS for the fitted option (Table UPD-2). -/
def optionBit (opt : Nat) : Nat := if opt = optGC then 0 else if opt = optEC then 1 else 2

/-- Table UPD-6: the code of the first check that fails; 0 when all pass. -/
def State.verifyImage (s : State) (b : Nat) : Nat :=
  let h := s.imgHeader b
  let len := leField h 8 4
  let key := (h.drop 0x50).take 96
  let sig := (h.drop 0x3A0).take 96
  if h.take 4 ≠ [0x54#8, 0x48#8, 0x5A#8, 0x31#8] ∨ leField h 4 2 ≠ 1 ∨ leField h 6 1 = 0 ∨ 6 < leField h 6 1 ∨ len % 16 ≠ 0 ∨
      4194304 < len then 0x11
  else if shaHash sha384 key ≠ natBe 48 Config.signKeyHash.toNat then 0x12
  else if !(p384.on (p384.dec key) && p384.verify (p384.dec key) (p384.digest (shaHash sha384 (h.take 0x3A0)))
      (beNat (sig.take 48)) (beNat (sig.drop 48))) then 0x13
  else if !(leField h 7 1).testBit (optionBit s.opt) then 0x16
  else if !sectionsValid h then 0x15
  else if shaHash sha384 (s.bytes (bankBase b + 0x400) (len - 0x400)) ≠ (h.drop 0x20).take 48 then 0x14
  else if corePresent s.opt mM && (match s.section b 4 with
      | some x => shaHash sha384 (s.bytes (bankBase b + x.off) x.len) != natBe 48 Config.metHash.toNat
      | none => true) then 0x18
  else if leField h 0x10 1 < s.svnFloor ∨ 64 < leField h 0x10 1 then 0x17
  else 0

/-! ## Running sections, cut-ins and windows -/

/-- The running section of a TYPE. -/
def State.runSect (s : State) (typ : Nat) : Option Sect := s.upd.run.get (fun _ => none) typ
/-- Sets the running section of a TYPE. -/
def State.setRunSect (s : State) (typ : Nat) (x : Option Sect) : State :=
  s.modUpd (fun u => { u with run := u.run.set (fun _ => none) typ x })
/-- The TYPE of the section that runs on a core: 0 H, 2 E, 3 P by master ID. -/
def sectType (c : Nat) : Nat := if c = 0 then 1 else c
/-- The cut-in of a core. -/
def State.cutOf (s : State) (c : Nat) : Option Cutin := s.upd.cuts.get (fun _ => none) c
/-- Sets the cut-in of a core. -/
def State.setCut (s : State) (c : Nat) (x : Option Cutin) : State :=
  s.modUpd (fun u => { u with cuts := u.cuts.set (fun _ => none) c x })
/-- The health window of a core. -/
def State.healthOf (s : State) (c : Nat) : Health := s.upd.health.get (fun _ => {}) c
/-- Sets the health window of a core. -/
def State.setHealth (s : State) (c : Nat) (x : Health) : State :=
  s.modUpd (fun u => { u with health := u.health.set (fun _ => {}) c x })

/-- The cut-in of a core that is armed: its CUTIN_ARM is in hand, or it waits for a cold switch (R693, R714). -/
def State.armedCut (s : State) (c : Nat) : Option Cutin :=
  match s.cutOf c with
  | some x => match x.ring with
    | some n => if s.inHand .upd n == some 0x14 && (s.ring .upd n).aux == 1 then some x else none
    | none => if x.cold then some x else none
  | none => none

/-- A cut-in of the core is armed or in its health window (R688, R695). -/
def State.cutBusy (s : State) (c : Nat) : Bool := (s.armedCut c).isSome || (s.healthOf c).isOpen

/-- The cores with cut-ins and health windows, by master ID: H, E, P. -/
def cutCores : List Nat := [0, 2, 3]

/-- R682: a bank is busy. -/
def State.bankBusy (s : State) (b : Nat) : Bool :=
  s.field A.BOOT_STAT 0 1 == b || (s.coreRuns mH1 && s.upd.h1Bank == some b) ||
  [2, 3].any (fun c => s.coreRuns c && (match s.runSect c with | some x => x.bank == b | none => false)) ||
  cutCores.any (fun c => (match s.armedCut c with | some x => x.sect.bank == b | none => false) ||
    ((s.healthOf c).isOpen && (s.healthOf c).bank == b))

/-- What UPD_STAT reads. -/
def State.updStat (s : State) : Word :=
  cutCores.foldl (fun w c =>
    let i := if c = 0 then 0 else c - 1
    setBit (setBit w (4 + i) (s.healthOf c).isOpen) (8 + i) (s.armedCut c).isSome) (s.reg A.UPD_STAT)

/-- HW_TIME and HW_CYCLES, REV_T and STOP_T, in ticks. -/
def State.hwTime (s : State) : Nat := 400000000 * s.field A.UPD_HCFG 0 16
/-- REV_T in ticks. -/
def State.revT (s : State) : Nat := 400000 * s.field A.UPD_RCFG 0 16
/-- STOP_T in ticks. -/
def State.stopT (s : State) : Nat := 400000 * s.field A.UPD_RCFG 16 16

/-- What UPD_HLEFT reads: seconds, rounded up, until the earliest open window closes by time alone. -/
def State.hLeft (s : State) : Word :=
  let l := (cutCores.filter (fun c => (s.healthOf c).isOpen)).map (fun c =>
    ((s.healthOf c).openAt + s.hwTime - s.now + 399999999) / 400000000)
  match l with
  | [] => 0#32
  | x :: r => wd (r.foldl min x)

/-- R706: a health window opens. -/
def State.openHealth (s : State) (c bank : Nat) (cut : Cutin) (old : Sect) (fromStart : Bool) : State :=
  let x : Health := { isOpen := true, fromStart := fromStart, openAt := s.now, cyc0 := s.ang.crk.ended, bank := bank, cut := cut }
  (s.setHealth c { x with old := old }).raise 903

/-! ## Banks (R682 to R687) -/

/-- The bank of a descriptor's ARG0. -/
def State.updBank (s : State) (n : Nat) : Nat := (s.dw .upd n 4).toNat

/-- BANK_OPEN (R682, R683). -/
def bankOpen (n : Nat) (s : State) : State :=
  s.whenHand .upd n 0x10 (fun s =>
    let b := s.updBank n
    if 1 < b ∨ s.bankBusy b = true then s.finishBad .upd n 0x14
    else
      let s1 := (s.flashErase (bankBase b) 0x400000).writeRec b 1 0 (zeros 64)
      s1.finishDone .upd n (wd (s1.bankGen b)))

/-- Sets the write context of a ring. -/
def State.setWr (s : State) (n : Nat) (x : Option WriteCtx) : State :=
  s.modUpd (fun u => { u with wr := u.wr.set (fun _ => none) n x })

/-- A transit header names this part and the right format (R673, R685). -/
def transitOk (h : List Byte) : Bool :=
  h.take 4 == [0x54#8, 0x48#8, 0x5A#8, 0x54#8] && leField h 4 2 == 1 && (h.drop 24).take 16 == deviceId

/-- The context a fragment works in: a new one with FIRST, the ring's otherwise; or the failing status. -/
def State.writeBegin (s : State) (n b len : Nat) : Sum Nat WriteCtx :=
  let d0 := s.dw .upd n 0
  let r : Sum Nat WriteCtx :=
    if bit d0 12 then
      let h := s.viewBytes (s.ring .upd n).host (s.dw .upd n 3).toNat 64
      let x : WriteCtx := { bank := b, header := h, total := leField h 8 4 }
      if transitOk h && decide (x.total ≤ 4194304) then .inr x else .inl 0x86
    else match s.upd.wr.get (fun _ => none) n with
      | some x => if x.bank = b then .inr x else .inl 0x14
      | none => .inl 0x14
  match r with
  | .inl st => .inl st
  | .inr x =>
    if x.total < x.pos + len ∨ (bit d0 11 = false ∧ x.pos + len ≠ x.total) then .inl 0x86
    else .inr x

/-- IMAGE_WRITE (R673, R682, R684, R685). -/
def imageWrite (n : Nat) (s : State) : State :=
  s.whenHand .upd n 0x11 (fun s =>
    let b := s.updBank n
    let len := (s.dw .upd n 1).toNat
    let host := (s.ring .upd n).host
    let fail (st : Nat) (s : State) : State := (s.setWr n none).finishBad .upd n st
    if bit (s.dw .upd n 0) 11 && len % 16 != 0 then fail 0x11 s
    else if 1 < b ∨ s.bankBusy b = true ∨ s.bankState b ≠ 1 then fail 0x14 s
    else match s.writeBegin n b len with
      | .inl st => fail st s
      | .inr x =>
        match s.obtain .upd n ⟨0xF1, 6, host, [0x02], false⟩ with
        | (s1, .wait) => s1
        | (s1, .bad st) => fail st s1
        | (s1, .got g) =>
          let iv := (x.header.drop 12).take 12
          let c := s1.viewBytes host (s1.dw .upd n 2).toNat len
          let p := ctrStream g.key (iv ++ zeros 4) (2 + x.pos / 16) c
          let s2 := s1.flashProgram (bankBase b + x.pos) p
          let y := { x with pos := x.pos + len, msg := x.msg ++ c }
          if bit (s.dw .upd n 0) 11 then (s2.setWr n (some y)).finishDone .upd n (wd len)
          else if gcmTag g.key iv x.header y.msg = s2.viewBytes host (s2.dw .upd n 3).toNat 16 then
            (s2.setWr n none).finishDone .upd n (wd len)
          else fail 0x23 (s2.rejectBank b))

/-- VERIFY (R679, R682, R686). -/
def verifyBank (n : Nat) (s : State) : State :=
  s.whenHand .upd n 0x12 (fun s =>
    let b := s.updBank n
    if 1 < b ∨ s.bankBusy b = true ∨ ¬ (s.bankState b = 1 ∨ s.bankState b = 6) then s.finishBad .upd n 0x14
    else
      let code := s.verifyImage b
      if code ≠ 0 then s.finish .upd n { status := 0x80, result := wd code }
      else
        let same (t : Nat) : Bool := (s.section b t).map (fun x => x.hash) == (s.runSect t).map (fun x => x.hash)
        let flags := if same 5 && same 6 then 0 else 1
        ((s.writeRec b 2 flags (s.hdrInfo b)).finishDone .upd n (wd (leField (s.imgHeader b) 12 4))).raise 900)

/-- ACTIVATE (R687). -/
def activate (n : Nat) (s : State) : State :=
  s.whenHand .upd n 0x13 (fun s =>
    let b := s.updBank n
    if 1 < b ∨ s.bankState b ≠ 2 then s.finishBad .upd n 0x14
    else
      let s1 := s.markBank b 3 (s.bankFlags b)
      s1.finishDone .upd n (wd (s1.bankSeq b)))

/-- COMMIT (R712). -/
def commitBank (n : Nat) (s : State) : State :=
  s.whenHand .upd n 0x17 (fun s =>
    let b := s.updBank n
    let fits (c : Nat) : Bool :=
      (c == 2 && !corePresent s.opt mE) ||
      (match s.runSect (sectType c) with
       | some x => (x.bank == b && (s.healthOf c).confirmed && (s.healthOf c).bank == b) ||
          (s.section b (sectType c)).map (fun y => y.hash) == some x.hash
       | none => false)
    if 1 < b ∨ s.bankState b ≠ 2 ∨ cutCores.all fits = false then s.finishBad .upd n 0x14
    else
      let f := s.bankFlags b
      let s1 := s.confirmBank b (if f.testBit 0 then f ||| 2 else f)
      s1.finishDone .upd n (wd (s1.bankSeq b)))

/-! ## Arming (R688, R696) -/

/-- The local RAM base of E or P. -/
def coreRam (c : Nat) : Nat := if c = 2 then 0x30000000 else 0x30200000

/-- SWITCH_T in ticks, for a number of bytes copied (R691). -/
def switchT (regions : List (Nat × Nat)) : Nat := 400 + (regions.foldl (fun n r => n + r.2) 0) / 4

/-- The regions of a cut-in descriptor with a length. -/
def cutRegions (d : List Byte) : List (Nat × Nat) :=
  ((List.range 4).map (fun i => (leField d (16 + 8 * i) 4, leField d (20 + 8 * i) 4))).filter (fun r => r.2 != 0)

/-- Step 2 of Table UPD-9. -/
def regionsOk (rs : List (Nat × Nat)) (len : Nat) : Bool :=
  rs.all (fun r => r.1 % 4 == 0 && r.2 % 4 == 0 && decide (r.1 + r.2 ≤ 0xFFC0) && decide (len ≤ r.1)) &&
  decide (rs.foldl (fun n r => n + r.2) 0 ≤ 8192)

/-- Step 4 for E: no arming point or MARK target of a slot owned by E lies in the window. -/
def State.windowFree (s : State) (lo hi : Nat) : Bool :=
  (s.slotsWhere (fun x => x.domain == 0)).all (fun n =>
    let x := s.slot n
    !s.slotOwned n mE || !((x.gated && inWindow lo hi (s.armPoint x)) || (x.kind == 7 && inWindow lo hi (modC x.target))))

/-- Step 4 for P: SWITCH_T + 1 µs fits before the group's next deadline after a period start (R418). -/
def State.periodFits (s : State) (g t : Nat) : Bool :=
  let len := s.field (A.CAR_PER g) 0 18
  let first := if s.flag (A.GRP_CFG g) 1 && !s.flag (A.GRP_CFG g) 0 then len / 2 else len
  decide (g < 3) && decide (t + 400 + 40 ≤ first)

/-- Step 5: every ring the core hosts whose areas lie in its local RAM lies within the regions. -/
def State.ringsInside (s : State) (c : Nat) (rs : List (Nat × Nat)) : Bool :=
  let base := coreRam c
  let inside (a len : Nat) : Bool :=
    !(decide (base ≤ a) && decide (a < base + 0x20000)) ||
      (List.range (len / 4)).all (fun i => rs.any (fun r => decide (base + r.1 ≤ a + 4 * i) && decide (a + 4 * i < base + r.1 + r.2)))
  allRings.all (fun k =>
    let r := s.ring k.1 k.2
    s.ringState k.1 k.2 == 0 || s.ringHost k.1 k.2 != c ||
      (inside r.base.toNat (32 * r.size) && inside r.cpl.toNat (16 * r.size) && inside r.shadow.toNat 4))

/-- SHA-384 of the idle half over [0, len). -/
def State.idleHash (s : State) (c len : Nat) : List Byte :=
  shaHash sha384 ((List.range len).map (fun i => s.byte (s.phys c (coreRam c + 0x10000 + i))))

/-- The running section's layout is one that the new section takes over. -/
def takesOver (new : Sect) (old : Option Sect) : Bool :=
  match old with
  | some o => new.accepts.contains o.stateId && o.stateId != 0xFFFF
  | none => false

/-- Table UPD-9: the first failing status of a cut-in of E or P. -/
def State.cutStatus (s : State) (c bank winLo winHi : Nat) (rs : List (Nat × Nat)) : Option Nat :=
  match s.section bank c with
  | none => some 0x14
  | some x =>
    if !(corePresent s.opt c && s.coreRuns c) || s.cutBusy c || decide (1 < bank) || s.bankState bank != 2 then some 0x14
    else if !regionsOk rs x.len then some 0x13
    else if s.idleHash c x.len ≠ x.hash then some 0x81
    else if !(if c = 2 then s.windowFree winLo winHi else s.periodFits winLo (switchT rs)) then some 0x82
    else if !s.ringsInside c rs then some 0x83
    else if !takesOver x (s.runSect c) then some 0x84
    else none

/-- A core is released: CORE_STAT and its RUN bit of CORE_CTL. -/
def State.runCore (s : State) (c : Nat) : State :=
  let s1 := s.setField A.CORE_STAT (2 * c) 2 2
  if 1 ≤ c ∧ c ≤ 3 then s1.setBitReg A.CORE_CTL c else s1

/-- CUTIN_ARM (R688, R693, R696). -/
def cutinArm (n : Nat) (s : State) : State :=
  s.whenHand .upd n 0x14 (fun s =>
    let d := s.viewBytes (s.ring .upd n).host (s.dw .upd n 2).toNat 64
    let c := leField d 0 1
    let bank := leField d 4 4
    let rs := cutRegions d
    let wait (s : State) : State := s.modRing .upd n (fun r => { r with aux := 1 })
    if (s.ring .upd n).aux = 1 then s
    else if c = 1 then
      match s.section bank 1 with
      | some x =>
        if s.coreState mH1 = 1 ∧ s.domOn 3 = true ∧ bank ≤ 1 ∧ s.bankState bank = 2 ∧ s.bankBusy bank = false ∧
            (s.armedCut 0).isNone = true then
          let s1 := ((s.runCore mH1).setBitReg A.UPD_STAT 1).modUpd (fun u => { u with h1Bank := some bank })
          wait (s1.setCut 0 (some { ring := some n, sect := x }))
        else s.finishBad .upd n 0x14
      | none => s.finishBad .upd n 0x14
    else if c = 2 ∨ c = 3 then
      let lo := leField d 8 4
      let hi := leField d 12 4
      let x : Cutin := { winLo := lo, winHi := hi, regions := rs, sect := (s.section bank c).getD {} }
      match s.cutStatus c bank lo hi rs with
      | none => wait (s.setCut c (some { x with ring := some n }))
      | some 0x84 =>
        let s1 := (s.finishBad .upd n 0x84).raise 902
        if (leField d 1 1).testBit 0 then s1 else s1.setCut c (some { x with cold := true, regions := [] })
      | some st => s.finishBad .upd n st
    else s.finishBad .upd n 0x14)

/-! ## Switches (R689 to R694) -/

/-- A core holds no semaphore. -/
def State.noSem (s : State) (c : Nat) : Bool := (List.range 64).all (fun n => !((s.sem n).state == 1 && (s.sem n).owner == c))

/-- The stop condition of a core (R693), and whether it has held for `t` ticks. -/
def State.stopHeld (s : State) (c t : Nat) : Bool :=
  if c = 2 then decide (s.domState 0 ≤ 1) && decide (s.ang.crk.stopAt + t ≤ s.now)
  else (List.range 3).all (fun g => s.grpState g == 0 && decide ((s.grp g).stateAt + t ≤ s.now))

/-- What waits for a window of a core: its armed cut-in, or the reverse switch of an acknowledged fallback (R708). -/
def State.waiting (s : State) (c : Nat) : Option (Cutin × Bool) :=
  let h := s.healthOf c
  if (s.upd.sw.get (fun _ => none) c).isSome then none
  else if h.revert = 2 then some ({ h.cut with ring := none, cold := false, sect := h.old }, true)
  else match s.armedCut c with
    | some x => if x.cold then none else some (x, false)
    | none => none

/-- R691 step 1: the core stops. -/
def State.switchStart (s : State) (c : Nat) (x : Cutin) (kind : Nat) : State :=
  let w : Switching := { cut := x, kind := kind, at_ := s.now, angle := if c = 2 then s.angleReg 0 else 0#32 }
  (s.setField A.CORE_STAT (2 * c) 2 3).modUpd (fun u => { u with sw := u.sw.set (fun _ => none) c (some w) })

/-- CRK crosses a count in this tick. -/
def State.crkCrosses (s : State) (x : Nat) : Bool :=
  crossed (s.crkAngle (s.now - 1)) (s.crkAngle s.now) x || (s.crkAngle s.now == modC x && s.ang.crk.anchorT.ceil == s.now)

/-- E_SWITCH (R689): a crossing of WIN_LO. -/
def eSwitch (s : State) : State :=
  match s.waiting 2 with
  | some (x, back) =>
    let inTime : Bool := match s.crkInstant x.winHi with | some t => decide (s.now + switchT x.regions ≤ t) | none => false
    if s.crkCrosses x.winLo && s.domState 0 == 3 && s.windowFree x.winLo x.winHi && s.noSem mE && inTime then
      s.switchStart 2 x (if back then 2 else 1)
    else s
  | none => s

/-- The gates of every enabled PWM group found on-time commits at their last 8 deadlines (R690). -/
def State.commitsHeld (s : State) : Bool :=
  (List.range 3).all (fun g => !s.flag A.PWM_CTL g || decide (8 ≤ (s.gate .pwm g).okRun))

/-- P_SWITCH (R690): a period start of the named group. -/
def pSwitch (s : State) : State :=
  match s.waiting 3 with
  | some (x, back) =>
    let g := x.winLo
    if decide (g < 3) && (s.grp g).start / 32 == s.now && s.grpState g == 2 && (back || s.commitsHeld) &&
        s.reg A.TRIP_LATCH == 0#32 && s.noSem mP then s.switchStart 3 x (if back then 2 else 1)
    else s
  | none => s

/-- STOP_SWITCH (R694, R708): an armed cut-in at a stop that has lasted STOP_T; a reverse switch at any stop. -/
def stopSwitch (c : Nat) (s : State) : State :=
  match s.waiting c with
  | some (x, back) =>
    if (c = 2 ∨ c = 3) ∧ s.stopHeld c (if back then 0 else s.stopT) = true then s.switchStart c x (if back then 2 else 3) else s
  | none => s

/-- Table UPD-10: the cut-in block, written in the new active half. -/
def State.cutBlock (s : State) (c kind stateId tick : Nat) (angle : Word) : State :=
  let bytes := [0x43#8, 0x55#8, 0x54#8, 0x4E#8, BitVec.ofNat 8 kind, 0#8, 0#8, 0#8] ++ natLe 2 stateId ++ [0#8, 0#8] ++
    natLe 4 tick ++ natLe 4 angle.toNat ++ zeros 44
  s.putBytes c (coreRam c + 0xFFC0) bytes

/-- The halves of E's or P's RAM swap (R60). -/
def State.swapHalves (s : State) (c : Nat) : State := s.modReg A.UPD_STAT (fun w => setBit w (14 + c) (!bit w (14 + c)))

/-- UPD_RUNBANK of a core. -/
def State.setRunBank (s : State) (c bank : Nat) : State := s.setField A.UPD_RUNBANK (if c = 0 then 0 else 4 * (c - 1)) 1 bank

/-- A cut-in has completed: counters and event (R691, Table UPD-7). -/
def State.cutDone (s : State) : State :=
  ((s.setWord 0x50000314 (s.word 0x50000314 + 1#32)).modReg A.UPD_CNT (fun w => satAdd w 0 16 1)).raise 901

/-- R707: fallback begins for a core: the reset path for a window of a start, the responsive path otherwise. -/
def State.beginRevert (s : State) (c : Nat) : State :=
  ((s.setHealth c { (s.healthOf c) with revert := 1, revAt := s.now }).setBitReg A.UPD_STAT 3).raise 906

/-- REVERT follows the fallbacks in progress. -/
def State.syncRevert (s : State) : State :=
  if cutCores.any (fun c => (s.healthOf c).revert != 0) then s else s.clrBitReg A.UPD_STAT 3

/-- R709: what every fallback from a bank does. -/
def State.fallbackNote (s : State) (b : Nat) : State :=
  let s1 := (s.rejectBank b).setWord 0x50000310 (s.word 0x50000310 + 1#32)
  let s2 := ((s1.modReg A.UPD_CNT (fun w => satAdd w 16 8 1)).updErr 3).raise 905
  cutCores.foldl (fun s c =>
    let h := s.healthOf c
    if h.isOpen && h.bank == b then s.setHealth c { h with isOpen := false } else s) s2

/-- R708, R709: the reverse switch or move of a core is done; completed cut-ins of other cores from that bank follow. -/
def State.fallbackDone (s : State) (c : Nat) : State :=
  let b := (s.healthOf c).bank
  let s1 := s.setHealth c { (s.healthOf c) with isOpen := false, revert := 0, confirmed := false }
  let s2 := if s1.bankState b = 6 then s1 else s1.fallbackNote b
  let s3 := cutCores.foldl (fun s k =>
    let h := s.healthOf k
    let running := match s.runSect (sectType k) with | some x => x.bank == b | none => false
    if k != c && h.bank == b && !h.fromStart && h.revert == 0 && running then s.beginRevert k else s) s2
  s3.syncRevert

/-- CUTIN_SWITCH (R691): regions copied, halves swapped, the block written, the core released. -/
def cutinSwitch (c : Nat) (s : State) : State :=
  match s.upd.sw.get (fun _ => none) c with
  | none => s
  | some w =>
    if ¬ (c = 2 ∨ c = 3) ∨ s.now < w.at_ + switchT w.cut.regions then s
    else
      let base := coreRam c
      let s1 := w.cut.regions.foldl (fun s r => s.putBytes c (base + 0x10000 + r.1) (s.viewBytes c (base + r.1) r.2)) s
      let old := (s1.runSect c).getD {}
      let s2 := ((s1.swapHalves c).cutBlock c w.kind old.stateId (w.at_ % 4294967296) w.angle)
      let s3 := ({ s2 with lr := s2.lr.set (fun _ => none) c none }).runCore c
      let s4 := (s3.setRunSect c (some w.cut.sect)).setRunBank c w.cut.sect.bank
      let s5 := s4.modUpd (fun u => { u with sw := u.sw.set (fun _ => none) c none })
      if w.kind = 2 then s5.fallbackDone c
      else
        let s6 := match w.cut.ring with
          | some n => s5.finishDone .upd n (wd w.at_)
          | none => s5
        (s6.setCut c none).cutDone.openHealth c w.cut.sect.bank w.cut old false

/-- COLD_SWITCH (R693). -/
def coldSwitch (c : Nat) (s : State) : State :=
  match s.armedCut c with
  | some x =>
    if x.cold && (c == 2 || c == 3) && s.stopHeld c s.stopT then
      let angle := if c = 2 then s.angleReg 0 else 0#32
      let old := (s.runSect c).getD {}
      let s1 := ((s.coreReset c).swapHalves c).cutBlock c 4 0xFFFF (s.now % 4294967296) angle
      let s2 := ((s1.runCore c).setRunSect c (some x.sect)).setRunBank c x.sect.bank
      (s2.setCut c none).cutDone.openHealth c x.sect.bank x old false
    else s
  | none => s

/-! ## State blocks (R698) -/

/-- The ring whose waiting descriptor of an opcode started first. -/
def State.firstWaiting (s : State) (op : Nat) : Option Nat :=
  ((List.range 4).filter (fun n => s.inHand .upd n == some op && (s.ring .upd n).aux != 0)).foldl (fun m n => match m with
    | some k => if (s.ring .upd n).aux < (s.ring .upd k).aux then some n else m
    | none => some n) none

/-- A STATE_SEND or STATE_RECV starts; the first of each pair up. -/
def State.stateStart (s : State) (n : Nat) : State :=
  let k := s.upd.started + 1
  let s1 := if (s.ring .upd n).aux = 0 then
      (s.modUpd (fun u => { u with started := k })).modRing .upd n (fun r => { r with aux := k })
    else s
  match s1.firstWaiting 0x15, s1.firstWaiting 0x16 with
  | some a, some b =>
    let len := (s1.dw .upd a 1).toNat
    if (s1.dw .upd b 1).toNat < len then (s1.finishBad .upd a 0x85).finishBad .upd b 0x85
    else
      let data := s1.viewBytes (s1.ring .upd a).host (s1.dw .upd a 2).toNat len
      ((s1.putBytes (s1.ring .upd b).host (s1.dw .upd b 2).toNat data).finishDone .upd a (wd len)).finishDone .upd b (wd len)
  | _, _ => s1

/-- STATE_SEND (R698), on a ring hosted by the primary H core. -/
def stateSend (n : Nat) (s : State) : State :=
  s.whenHand .upd n 0x15 (fun s => if (s.ring .upd n).host = s.primaryHost then s.stateStart n else s.finishBad .upd n 0x14)

/-- STATE_RECV (R698), on a ring hosted by the other H core. -/
def stateRecv (n : Nat) (s : State) : State :=
  s.whenHand .upd n 0x16 (fun s => if (s.ring .upd n).host = s.primaryHost then s.finishBad .upd n 0x14 else s.stateStart n)

/-! ## Ownership (R699 to R704) -/

/-- R699: an UPD_OWN write is refused. -/
def State.ownRefused (s : State) (reason : Nat) : State := (s.setReg A.UPD_OWNINFO (wd reason)).updErr 0

/-- R699 step 1: RING_CFG.HOST of one slot, in the register and in what its START took. -/
def State.hostRing (s : State) (w : Win) (n host : Nat) : State :=
  (s.setField (slotReg w n 0xC) 4 4 host).modRing w n (fun r => { r with cfg := setFld r.cfg 4 4 host })

/-- The move set of R699 and R700 as things stand. -/
def State.moveEntries (s : State) : List MoveEnt :=
  ((allRings.filter (fun k => s.field (slotReg k.1 k.2 0xC) 4 4 == 0 || (s.ringState k.1 k.2 != 0 && s.ringHost k.1 k.2 == 0))).map
    (fun k => MoveEnt.ring k.1.code k.2)) ++
  ((List.range 1216).filter (fun i => bit (s.route i) 0)).map (fun i => MoveEnt.route i (bit (s.route i) 1)) ++
  ((List.range 8).filter (fun k => s.mbxSender k == 0 || s.mbxReceiver k == 0)).map
    (fun k => MoveEnt.mbx k (s.mbxSender k == 0) (s.mbxReceiver k == 0)) ++
  ((List.range 8).filter (fun c => s.field A.TB_CMP_OWN (4 * c) 4 == 0)).map MoveEnt.cmp ++
  (if s.live .ang then ((List.range 8).filter (fun b => s.field A.SLOT_OWN (4 * b) 4 == 0)).map MoveEnt.slotOwn else [])

/-- Sets a route entry. -/
def State.setRoute (s : State) (i : Nat) (w : Word) : State := { s with routes := s.routes.set (fun _ => 0#32) i w }

/-- One entry is rewritten from H0 to H1. -/
def State.moveOne (s : State) : MoveEnt → State
  | .ring w n => match winOfCode w with | some w => s.hostRing w n 1 | none => s
  | .route i _ => s.setRoute i (setBit (setBit (s.route i) 0 false) 1 true)
  | .mbx k a b =>
    let s1 := if a then s.setField (A.MBX_CFG k) 0 4 1 else s
    if b then s1.setField (A.MBX_CFG k) 4 4 1 else s1
  | .cmp c => s.setField A.TB_CMP_OWN (4 * c) 4 1
  | .slotOwn b => s.setField A.SLOT_OWN (4 * b) 4 1

/-- One entry returns to its value before the move. -/
def State.unmoveOne (s : State) : MoveEnt → State
  | .ring w n => match winOfCode w with | some w => s.hostRing w n 0 | none => s
  | .route i h => s.setRoute i (setBit (setBit (s.route i) 0 true) 1 h)
  | .mbx k a b =>
    let s1 := if a then s.setField (A.MBX_CFG k) 0 4 0 else s
    if b then s1.setField (A.MBX_CFG k) 4 4 0 else s1
  | .cmp c => s.setField A.TB_CMP_OWN (4 * c) 4 0
  | .slotOwn b => s.setField A.SLOT_OWN (4 * b) 4 0

/-- R701: every armed check domain is captured again. -/
def State.captureArmed (s : State) : State := s.cfcCapture (s.reg A.CFC_ARM &&& 0xFF#32)

/-- R699: the effect of a write of 1 to UPD_OWN. -/
def State.ownMove (s : State) (m : Nat) : State :=
  let hsem := s.field A.UPD_CTL 0 6
  let holds (n c : Nat) : Bool := (s.sem n).state == 1 && (s.sem n).owner == c
  if m ≠ mH1 then s.ownRefused 1
  else if s.flag A.UPD_OWN 0 then s.ownRefused 5
  else match s.armedCut 0 with
    | none => s.ownRefused 2
    | some x =>
      if !holds hsem mH1 then s.ownRefused 3
      else if (List.range 64).any (fun n => holds n mH0) then s.ownRefused 4
      else
        let es := s.moveEntries
        let s1 := (es.foldl State.moveOne s).modUpd (fun u => { u with moveSet := es })
        let s2 := (s1.modReg A.UPD_STAT (fun w => setBit (setBit (setBit w 0 true) 1 false) 2 true)).setBitReg A.UPD_OWN 0 |>.wdtSync
        let old := (s2.runSect 1).getD {}
        let s3 := ((s2.setRunSect 1 (some x.sect)).setRunBank 0 x.sect.bank).captureArmed
        let s4 := match x.ring with | some n => s3.finishDone .upd n s3.tick | none => s3
        ((s4.setCut 0 none).raise 907).cutDone.openHealth 0 x.sect.bank x old false

/-- R700, R708: the effect of a write of 0 to UPD_OWN: the entries still in the move set return. -/
def State.ownBack (s : State) (m : Nat) : State :=
  if m ≠ mH1 then s.ownRefused 1
  else if !s.flag A.UPD_OWN 0 then s.ownRefused 5
  else
    let s1 := (s.upd.moveSet.foldl State.unmoveOne s).modUpd (fun u => { u with moveSet := [] })
    let s2 := (s1.modReg A.UPD_STAT (fun w => setBit (setBit w 0 false) 2 false)).clrBitReg A.UPD_OWN 0 |>.wdtSync
    let h := s2.healthOf 0
    let s3 := (s2.setRunSect 1 (some h.old)).setRunBank 0 h.old.bank
    if h.revert = 0 then s3 else s3.fallbackDone 0

/-- The effect of a write of UPD_OWN. -/
def State.ownEffect (s : State) (m : Nat) (v : Word) : State := if bit v 0 then s.ownMove m else s.ownBack m

/-- UPD_OWN_MOVE: a WP write of 1 (R699). -/
def updOwnMove (m size : Nat) (s : State) : State := s.wpWrite .upd m A.UPD_OWN size 1#32 (fun s => s.ownEffect m 1#32)

/-- UPD_OWN_MOVE_BACK: a WP write of 0 (R708). -/
def updOwnMoveBack (m size : Nat) (s : State) : State := s.wpWrite .upd m A.UPD_OWN size 0#32 (fun s => s.ownEffect m 0#32)

/-- R704: a HOST reset of H0 while a host cut-in is in hand. -/
def State.hostCutEnd (s : State) : State :=
  match s.armedCut 0 with
  | some x =>
    let s1 := ((s.coreReset mH1).clrBitReg A.UPD_STAT 1).setCut 0 none
    match x.ring with | some n => s1.finishBad .upd n 0x71 | none => s1
  | none => s

/-! ## Health windows and fallback (R705 to R711) -/

/-- A gate is set ESCALATED (Table UPD-11). -/
def State.escalate (s : State) (w : Win) (g : Nat) : State :=
  if !s.live w || s.flag (gateA w g + 4) 3 then s
  else
    let s1 := (s.setBitReg (gateA w g + 4) 3).setGate w g { (s.gate w g) with safe := true, escAt := s.now, okRun := 0 }
    let s2 := match gateDef w g with | some d => s1.raise (d.ovr + 1) | none => s1
    if w = .ang then s2.gateSafeValue g else s2

/-- R710: the reset path begins. -/
def State.resetPath (s : State) (b : Nat) : State :=
  if s.upd.resetAt.isSome then s
  else
    let s1 := (s.fallbackNote b).modUpd (fun u => { u with resetAt := some s.now, resetStage := 0, sw := [] })
    let s2 := if s1.live .chg then s1.chgCmdEffect 2#32 else s1
    (((s2.escalate .ang 0).escalate .ang 1).escalate .lam 0).escalate .hbr 0

/-- RESET_PATH (Table UPD-11): the actions that are due. -/
def resetPathStep (s : State) : State :=
  match s.upd.resetAt with
  | none => s
  | some t =>
    let off (s : State) : State := if s.live .pwm then s.pwmCtlEffect (s.reg A.PWM_CTL &&& 0xFFFFFFF8#32) else s
    let s1 := if s.upd.resetStage = 0 ∧ t + 40000000 ≤ s.now then (off s).modUpd (fun u => { u with resetStage := 1 }) else s
    let due : Bool := if s.opt = optCP then decide (t + 80000000 ≤ s.now)
      else decide (s.domState 0 ≤ 1) || decide (t + s.stopT ≤ s.now)
    if s1.upd.resetStage = 1 ∧ due = true then
      { (s1.modUpd (fun u => { u with resetStage := 2 })) with pmu := { s1.pmu with rstDue := 1 } }
    else s1

/-- R707: fallback of a core begins. -/
def State.fallback (s : State) (c : Nat) : State :=
  if (s.healthOf c).revert ≠ 0 then s
  else if (s.healthOf c).fromStart then s.resetPath (s.healthOf c).bank else s.beginRevert c

/-- The H, E or P core that a writer of UPD_HEALTH or UPD_REVACK is; H is the primary. -/
def State.healthCore (s : State) (m : Nat) : Option Nat :=
  if m = s.primaryHost then some 0 else if m = mE then some 2 else if m = mP then some 3 else none

/-- R711: windows of a start confirmed for every present H, E and P core confirm the bank. -/
def State.startConfirmed (s : State) (b : Nat) : State :=
  if s.bankState b = 4 ∧ cutCores.all (fun c => (c == 2 && !corePresent s.opt mE) ||
      ((s.healthOf c).fromStart && (s.healthOf c).bank == b && (s.healthOf c).confirmed)) = true then
    s.confirmBank b (s.bankFlags b)
  else s

/-- The effect of a write of UPD_HEALTH (R706, R707). -/
def State.healthEffect (s : State) (m : Nat) (v : Word) : State :=
  match s.healthCore m with
  | none => s
  | some c =>
    let h := s.healthOf c
    if !h.isOpen then s
    else if v = 0x600D#32 then
      let s1 := (s.setHealth c { h with isOpen := false, confirmed := true }).raise 904
      if h.fromStart then s1.startConfirmed h.bank else s1
    else if v = 0xBAD0#32 then s.fallback c
    else s

/-- UPD_HEALTH_WRITE (R706, R707). -/
def updHealthWrite (m size : Nat) (v : Word) (s : State) : State :=
  s.plainWrite .upd m A.UPD_HEALTH (fun s => if size = 4 then s.healthEffect m v else s)

/-- HEALTH_WINDOW_CLOSE (R706, R707): a window reaches its end. -/
def healthWindowClose (c : Nat) (s : State) : State :=
  let h := s.healthOf c
  let due := decide (h.openAt + 4 * s.hwTime ≤ s.now) ||
    (decide (h.openAt + s.hwTime ≤ s.now) && decide (h.cyc0 + s.field A.UPD_HCFG 16 16 ≤ s.ang.crk.ended))
  if h.isOpen && due then ((s.setHealth c { h with isOpen := false }).updErr 2).fallback c else s

/-- UPD_REVERT_REQ (R707): a gate that the core hosts has escalated in its open window. -/
def updRevertReq (c : Nat) (s : State) : State :=
  let h := s.healthOf c
  let hit := gateDefs.any (fun d => s.live d.win && s.gateHost d.win d.g == c && s.flag (gateA d.win d.g + 4) 3 &&
    decide (h.openAt ≤ (s.gate d.win d.g).escAt))
  if (c = 2 ∨ c = 3) ∧ h.isOpen = true ∧ hit = true then s.fallback c else s

/-- R707: a watchdog expires in an open window of its core. -/
def State.healthWdt (s : State) (c : Nat) : State :=
  if (s.healthOf c).isOpen then s.resetPath (s.healthOf c).bank else s

/-- The effect of a write of UPD_REVACK (R708). -/
def State.revackEffect (s : State) (m : Nat) (v : Word) : State :=
  match s.healthCore m with
  | none => s
  | some c =>
    let h := s.healthOf c
    if v ≠ 0xACC#32 ∨ h.revert ≠ 1 ∨ h.revAt + s.revT < s.now then s
    else
      let s1 := s.setHealth c { h with revert := 2, revAt := s.now }
      if c = 0 ∨ takesOver h.old (s.runSect c) = true then s1
      else ((s1.setHealth c { h with revert := 0 }).updErr 4).resetPath h.bank

/-- UPD_REVACK (R708). -/
def updRevack (m size : Nat) (v : Word) (s : State) : State :=
  s.plainWrite .upd m A.UPD_REVACK (fun s => if size = 4 then s.revackEffect m v else s)

/-- REVERT_TIMEOUT (R708): the step needed has not come in time. -/
def revertTimeout (c : Nat) (s : State) : State :=
  let h := s.healthOf c
  let t := if h.revert = 2 ∧ c ≠ 0 then s.stopT else s.revT
  if h.revert ≠ 0 ∧ h.revAt + t < s.now ∧ (s.upd.sw.get (fun _ => none) c).isNone = true then
    ((s.setHealth c { h with revert := 0 }).updErr 4).resetPath h.bank
  else s

/-- R705: SAFE_RUN has set. -/
def State.safeRunSet (s : State) : State :=
  let b := s.field A.BOOT_STAT 0 1
  let f := s.bankFlags b
  let s1 := s.modUpd (fun u => { u with safeAt := none })
  if f.testBit 0 then
    let s2 := s1.markBank b (s1.bankState b) 0
    if s2.bankState b = 5 then s2.raiseSvn b else s2
  else s1

/-- SAFE_NEW_TIMEOUT (R705): SAFE_RUN has not set 100 ms after the release of SA and SB. -/
def safeNewTimeout (s : State) : State :=
  match s.upd.safeAt with
  | some t =>
    if s.flag A.BOOT_STAT 4 = false ∧ t + 40000000 ≤ s.now then
      let s1 := (s.rejectBank (s.field A.BOOT_STAT 0 1)).modUpd (fun u => { u with safeAt := none, carry := 0x21 })
      { (s1.setField A.BOOT_STAT 24 8 0x21) with pmu := { s1.pmu with rstDue := 1 } }
    else s
  | none => s

/-! ## Recovery (R713) -/

/-- CRC-16, polynomial 0x1021, initial value 0xFFFF. -/
def crc16 (l : List Byte) : Nat :=
  l.foldl (fun c b => (List.range 8).foldl (fun c _ =>
    if 32768 ≤ c then ((c * 2) % 65536) ^^^ 0x1021 else c * 2) (c ^^^ (b.toNat * 256))) 0xFFFF

/-- The boot ROM answers a frame. -/
def State.recAnswer (s : State) (bytes : List Byte) : State := s.modUpd (fun u => { u with recAns := bytes })

/-- The code of an answer that the spec does not name. -/
def State.recFree (s : State) : State := (s.useFree).recAnswer [0x15#8, byteOf s.freeWord 0]

/-- RECOVERY_DATA (R713): a type 1 frame with its payload and the CRC it carries. -/
def recoveryData (payload : List Byte) (crc : Nat) (s : State) : State :=
  if !s.pmu.recovery then s
  else if 1024 < payload.length ∨ crc16 ([0x01#8] ++ natLe 2 payload.length ++ payload) ≠ crc then s.recFree
  else
    let s1 := if s.upd.recOpen then s else
      ((s.flashErase (bankBase 0) 0x400000).writeRec 0 1 0 (zeros 64)).modUpd (fun u => { u with recOpen := true, recBuf := [] })
    (s1.modUpd (fun u => { u with recBuf := u.recBuf ++ payload })).recAnswer [0x06#8]

/-- RECOVERY_END (R713): a type 2 frame: the bank is decrypted, verified and made TRIAL, and the part restarts. -/
def recoveryEnd (payload : List Byte) (crc : Nat) (s : State) : State :=
  if !s.pmu.recovery then s
  else if crc16 ([0x02#8] ++ natLe 2 payload.length ++ payload) ≠ crc then s.recFree
  else
    let h := s.upd.recBuf.take 64
    let len := leField h 8 4
    let c := (s.upd.recBuf.drop 64).take len
    let iv := (h.drop 12).take 12
    let key := fuseKey "PV-IMG"
    let s0 := s.modUpd (fun u => { u with recOpen := false, recBuf := [] })
    if !(s.upd.recOpen && transitOk h && decide (len ≤ 4194304) && s.upd.recBuf.length == len + 80 &&
        gcmTag key iv h c == s.upd.recBuf.drop (64 + len)) then (s0.rejectBank 0).recAnswer [0x15#8, 0x19#8]
    else
      let s1 := s0.flashProgram (bankBase 0) (ctrStream key (iv ++ zeros 4) 2 c)
      let code := s1.verifyImage 0
      if code ≠ 0 then s1.recAnswer [0x15#8, BitVec.ofNat 8 code]
      else
        let s2 := s1.writeRec 0 2 0 (s1.hdrInfo 0)
        let s3 := (s2.markBank 0 3 0).recAnswer [0x06#8]
        { s3 with pmu := { s3.pmu with rstDue := 1 } }

end Sys2Proof.Machine
end

