-- ==== Sys2Proof/Machine/Power.lean ====
section
/-! DEFINITION. Power domains, supplies, operating modes, core control and the watchdogs (06, R240 to R269, R277 to R280; 20,
R847, R850; 21, R870, R871). -/
namespace Sys2Proof.Machine

/-- Changes the PMU's and SYS's hidden state. -/
def State.modPmu (s : State) (f : PmuSt → PmuSt) : State := { s with pmu := f s.pmu }

/-! ## Domains -/

/-- Domains with a firmware switch (Table PMU-2), in the order of power-up of R243; PER has none. -/
def switchOrder : List Nat := [17, 18, 5, 6, 7, 13, 14, 20, 21, 15, 16, 8, 9, 3, 23]

/-- The windows of a domain. -/
def domainWindows (n : Nat) : List Win := Win.all.filter (fun w => w.domain == n)

/-- A ring of these windows is not OFF. -/
def State.ringsOn (s : State) (ws : List Win) : Bool :=
  ws.any (fun w => (List.range 8).any (fun n => s.ringState w n != 0))

/-- A program or erase is in progress on flash array `k`. -/
def State.flashBusy (s : State) (k : Nat) : Bool :=
  match s.flcRun with | some q => flashArray q.addr == k | none => false

/-- R242, Table PMU-2: the reason to refuse domain `n` off, given what the whole write asks for; 0 none. -/
def State.offReason (s : State) (ask : Word) (n : Nat) : Nat :=
  let rings (ws : List Win) : Bool := s.ringsOn ws
  match n with
  | 13 => if bit ask 8 || bit ask 9 || bit ask 21 then 1 else if rings [.ang] then 2 else 0
  | 14 => if bit ask 9 then 1 else if rings [.pwm, .psc, .egv] then 2 else 0
  | 15 => if rings [.key, .cry, .pke, .trng, .upd] then 2 else 0
  | 16 => if rings [.plm] then 2 else 0
  | 17 => if s.field A.BOOT_STAT 0 1 = 0 ∨ s.flashBusy 0 = true then 3 else 0
  | 18 => if s.field A.BOOT_STAT 0 1 = 1 ∨ s.flashBusy 1 = true then 3 else 0
  | 20 => if bit ask 8 then 1 else if rings [.eng, .edr, .lam, .hbr] then 2 else 0
  | 21 => if rings [.chg, .rcm] then 2 else if s.ocClosed then 4 else 0
  | 23 => if s.flag A.DBG_STAT 2 then 5 else 0
  | _ => 0

/-- What a write of PWR_REQ asks for, bit by bit: only switchable, present domains (R8, R241). -/
def State.asked (s : State) (v : Word) : Word :=
  (List.range 24).foldl (fun w n =>
    if switchOrder.contains n && (domainPresent s.opt n) then setBit w n (bit v n) else w) (s.reg A.PWR_REQ)

/-- R242: a domain refused. -/
def State.domRefuse (s : State) (n reason : Nat) : State :=
  ((s.setReg A.PWR_ERRDOM (setFld (setFld 0#32 0 5 n) 8 3 reason)).setBitReg A.PMU_ERR 0).raise 4

/-- R242: judges a whole write: the refused domains, and the state after the accepted bits took effect. -/
def State.pwrJudge (s : State) (v : Word) : Word × State :=
  let ask := s.asked v
  (List.range 24).foldl (fun p n =>
    if bit ask n == p.2.flag A.PWR_REQ n then p
    else if bit ask n then (p.1, p.2.setBitReg A.PWR_REQ n)
    else
      let r := s.offReason ask n
      if r = 0 then (p.1, p.2.clrBitReg A.PWR_REQ n) else (setBit p.1 n true, p.2.domRefuse n r)) (0#32, s)

/-- PWR_REQ_WRITE (R241, R242). -/
def pwrReqWrite (m size : Nat) (v : Word) (s : State) : State :=
  s.wpWrite .pmu m A.PWR_REQ size v (fun s => (s.pwrJudge v).2)

/-- RAM contents are lost (R244), and read zero once initialised (R183, R246). -/
def State.wipeRam (s : State) (a len : Nat) : State :=
  { s with
    mem := s.mem.filter (fun e => !(decide (a ≤ e.1) && decide (e.1 < a + len)))
    ramEcc := s.ramEcc.resetWhere (fun k => decide (a / 4 ≤ k ∧ k < (a + len) / 4)) }

/-- Every register and ring of a domain's windows returns to its reset value; what lies on the power die stays (R246, R41). -/
def State.resetDomainRegs (s : State) (n : Nat) : State :=
  let here (a : Nat) : Bool := (match winOf a with | some w => w.domain == n | none => false) && !isPd a
  { s with
    regs := s.regs.resetWhere here
    comp := s.comp.resetWhere (fun k => match winOfCode k with | some w => w.domain == n | none => false)
    rings := s.rings.resetWhere (fun k => match winOfCode (k / 8) with | some w => w.domain == n | none => false)
    elems := s.elems.resetWhere (fun k => here (k / 256))
    loops := s.loops.resetWhere here
    gates := s.gates.resetWhere here }

/-- The core of a domain. -/
def domainCore (n : Nat) : Option Nat :=
  match n with | 2 => some 0 | 3 => some 1 | 8 => some 2 | 9 => some 3 | 10 => some 4 | 11 => some 5 | 12 => some 6 | _ => none

/-- The hidden state of a domain's blocks is gone; fuses stay. -/
def State.resetDomainHidden (s : State) (n : Nat) : State :=
  match n with
  | 5 | 6 | 7 => s.wipeRam (0x20000000 + 0x40000 * (n - 4)) 0x40000
  | 8 => s.wipeRam 0x30000000 0x20000
  | 9 => s.wipeRam 0x30200000 0x20000
  | 13 => ({ s with ang := {}, crkPositions := 0 }).driveAo
  | 14 => { s with pwr := {}, egv := {} }
  | 15 => { s with key := { floorP := s.key.floorP }, cry := {} }
  | 16 => { s with plm := {} }
  | 20 => ({ s with eng := {} }).drivePd
  | 21 => { s with chg := {}, rcm := {} }
  | _ => s

/-- A domain loses its power (R244): its core first enters reset. -/
def State.domainOff (s : State) (n : Nat) : State :=
  let s1 := match domainCore n with
    | some c => ((if 2 ≤ s.coreState c then s.coreReset c else s).setField A.CORE_STAT (2 * c) 2 0).modReg A.CORE_CTL
        (fun w => if c = 0 then w else setBit w c false)
    | none => s
  ((s1.resetDomainRegs n).clrBitReg A.PWR_STAT n).resetDomainHidden n

/-- A domain has its power: reset values, RAM initialised, its core in reset (R246). -/
def State.domainOn (s : State) (n : Nat) : State :=
  let s1 := (s.resetDomainRegs n).setBitReg A.PWR_STAT n
  let s2 := match domainCore n with
    | some c => s1.setField A.CORE_STAT (2 * c) 2 1
    | none => s1
  if n = 15 then s2.setField A.TRNG_STAT 0 2 1 else s2

/-- R243: the transition that is next, upwards and downwards. -/
def State.nextUp (s : State) : Option Nat := switchOrder.find? (fun n => s.flag A.PWR_REQ n && !s.flag A.PWR_STAT n)
/-- The next domain to power down. -/
def State.nextDown (s : State) : Option Nat :=
  switchOrder.reverse.find? (fun n => !s.flag A.PWR_REQ n && s.flag A.PWR_STAT n)

/-- DOMAIN_POWER_UP (R243, R246). -/
def domainPowerUp (n : Nat) (s : State) : State := if s.nextUp = some n then (s.domainOn n).raise 56 else s

/-- DOMAIN_POWER_DOWN (R243, R244). -/
def domainPowerDown (n : Nat) (s : State) : State := if s.nextDown = some n then (s.domainOff n).raise 57 else s

/-- OFF_DOMAIN_ACCESS (R245): a read of a window whose domain is off. -/
def offDomainAccess (m a : Nat) (s : State) : State :=
  match winOf a with
  | some w => if s.present w && !s.domOn w.domain then s.offAccess.answer m 0#32 .ok else s
  | none => s

/-- DOMAIN_SET (R278): as a write of PWR_REQ; it completes when no transition is left. -/
def domainSet (n : Nat) (s : State) : State :=
  s.whenHand .pmu n 0x10 (fun s =>
    let on := s.dw .pmu n 4
    let off := s.dw .pmu n 5
    let p := if (s.ring .pmu n).aux = 0 then s.pwrJudge ((s.reg A.PWR_REQ ||| on) &&& ~~~ off) else (wd (s.ring .pmu n).count, s)
    if on &&& off ≠ 0#32 then s.finishBad .pmu n 0x14
    else if p.2.nextUp.isSome || p.2.nextDown.isSome then p.2.modRing .pmu n (fun r => { r with aux := 1, count := p.1.toNat })
    else if p.1 = 0#32 then p.2.finishDone .pmu n 0#32
    else p.2.finishWarn .pmu n 0x80 p.1)

/-- SUPPLY_SNAP (R279): what is measured now: VIN, VIO and VCORE in mV, TEMP_CD in 0.1 °C. -/
def supplySnap (n vin vio vcore : Nat) (temp : Int) (s : State) : State :=
  s.whenHand .pmu n 0x11 (fun s =>
    let s1 := (((s.setReg A.SUP_VIN (wd (vin % 65536))).setReg A.SUP_VIO (wd (vio % 65536))).setReg A.SUP_VCORE (wd (vcore % 65536))).setReg
      A.TEMP_CD (wd (ofSigned 16 temp))
    let l := [s1.reg A.SUP_VIN, s1.reg A.SUP_VIO, s1.reg A.SUP_VCORE, s1.reg A.TEMP_CD]
    (s1.putWords (s.ring .pmu n).host (s.dw .pmu n 2).toNat l).finishDone .pmu n (s1.reg A.TEMP_CD))

/-! ## Cores -/

/-- Physical range of a core's RAM. -/
def ramOf (c : Nat) : Nat × Nat := (coreRam c, 0x20000)

/-- CORE_LOAD (R280, R695): copies a section from flash into the RAM of E or P. -/
def coreLoad (n : Nat) (s : State) : State :=
  s.whenHand .sys n 0x10 (fun s =>
    let len := (s.dw .sys n 1).toNat
    let src := (s.dw .sys n 2).toNat
    let dst := (s.dw .sys n 3).toNat
    let c := (s.dw .sys n 4).toNat
    if ¬ (c = 2 ∨ c = 3) then s.finishBad .sys n 0x14
    else
      let base := (ramOf c).1
      let inRam := decide (base ≤ dst) && decide (dst + len ≤ base + 0x20000)
      let inSrc := decide (0x08000000 ≤ src) && decide (src + len ≤ 0x08800000)
      let half := base + (if s.flag A.UPD_STAT (14 + c) then 0x10000 else 0)
      let active := decide (dst < half + 0x10000) && decide (half < dst + len)
      let on := s.regionOn (regionOf dst) && s.regionOn (regionOf src) && corePresent s.opt c
      if !inRam || !inSrc || !on then s.finishBad .sys n 0x13
      else if (decide (2 ≤ s.coreState c) && active) || s.cutBusy c then s.finishBad .sys n 0x14
      else ((s.setBytes dst (s.bytes src len)).written 0 dst len).finishDone .sys n (wd len))

/-- R266: a RUN bit of 1 for core `c`. -/
def State.coreOn (s : State) (c : Nat) : State :=
  match s.coreState c with
  | 0 => (s.setReg A.PWR_ERRDOM (setFld (setFld 0#32 0 5 ((List.range 24).find? (fun n => domainCore n == some c) |>.getD 0)) 8 3 7)).setBitReg A.PMU_ERR 0
  | 1 =>
    let a := (s.reg A.H1_START).toNat
    let s1 := s.runCore c
    if c = 1 then s1.modUpd (fun u => { u with h1Bank := if inFlash a && decide (a < 0x08800000) then some (flashArray a) else none }) else s1
  | _ => s

/-- R266, R703: a RUN bit of 0 for core `c`; PARKED clears when the primary puts H0 in reset. -/
def State.coreOffBit (s : State) (c : Nat) : State :=
  let s1 := if 2 ≤ s.coreState c then s.coreReset c else s
  let s2 := if c = 0 then s1.clrBitReg A.UPD_STAT 2 else s1.clrBitReg A.CORE_CTL c
  s2.wdtSync

/-- R266, R702: the effect of a CORE_CTL write of master `m`: the RUN bits act; bit 1 is the H core that is not primary. -/
def State.coreCtlEffect (s : State) (m : Nat) (v : Word) : State :=
  if s.standsFor m ≠ mH0 ∨ ¬ (m ≤ 1) then s
  else
    let other := if s.flag A.UPD_STAT 0 then 0 else 1
    [(1, other), (2, 2), (3, 3)].foldl (fun s p => if bit v p.1 then s.coreOn p.2 else s.coreOffBit p.2) s

/-- CORE_CTL_WRITE (R266). -/
def coreCtlWrite (m size : Nat) (v : Word) (s : State) : State :=
  s.wpWrite .sys m A.CORE_CTL size v (fun s => s.coreCtlEffect m v)

/-- CORE_RELEASE (R280). -/
def coreRelease (n : Nat) (s : State) : State :=
  s.whenHand .sys n 0x11 (fun s =>
    let c := (s.dw .sys n 4).toNat
    if 1 ≤ c ∧ c ≤ 3 then (s.coreOn (if c = 1 ∧ s.flag A.UPD_STAT 0 = true then 0 else c)).finishDone .sys n 0#32
    else s.finishBad .sys n 0x14)

/-- R265: a write of SYS_RST_CTL. -/
def State.sysRstEffect (s : State) (m : Nat) (v : Word) : State :=
  if bit v 0 ∧ (s.standsFor m = mH0 ∨ m = mDBG) then s.modPmu (fun p => { p with rstDue := if m = mDBG then 2 else 1 }) else s

/-- SYS_RESET (R265): the reset follows 50 µs later, before the next BOOT_START. -/
def sysReset (m size : Nat) (v : Word) (s : State) : State :=
  s.wpWrite .sys m A.SYS_RST_CTL size v (fun s => s.sysRstEffect m v)

/-- A HOST reset of H0 (R269, R275). -/
def State.hostReset (s : State) : State :=
  (s.hostCutEnd.coreReset mH0).modPmu (fun p => { p with hostRst := true })

/-! ## Watchdogs -/

/-- R269, R703, R707: watchdog `c` expires. -/
def State.wdtFire (s : State) (c : Nat) : State :=
  let s1 := ((s.setBitReg (A.WDT_STAT c) 0).raise 31).setBitReg A.RST_CAUSE 15
  let prim := s.flag A.UPD_STAT 0
  let hc := if prim then (if c = 1 then some 0 else if c = 0 then none else some c) else if c = 1 then none else some c
  let inWin := match hc with | some k => (s.healthOf k).isOpen | none => false
  let s2 := match hc with | some k => s1.healthWdt k | none => s1
  let s3 :=
    if c = 0 ∧ prim = false then s2.hostReset
    else if c = 1 ∧ prim = true then (if inWin then s2 else s2.modPmu (fun p => { p with rstDue := 1 }))
    else if 2 ≤ s2.coreState c then (s2.coreReset c).modReg A.CORE_CTL (fun w => if 1 ≤ c ∧ c ≤ 3 then setBit w c false else w)
    else s2
  (if c = 4 then s3.metStop else s3).wdtRestart c

/-- WDT_EXPIRY (R268, R269): the count of watchdog `c` has reached 0. -/
def wdtExpiry (c : Nat) (s : State) : State :=
  if c < 5 ∧ s.flag (A.WDT_CFG c) 16 = true ∧ s.wdtSuspended c = false ∧ s.wdtTicks c ≤ s.wdtCounted c then s.wdtFire c else s

/-- R268: what a write of WDT_KICKc does. -/
def State.kickEffect (s : State) (m c : Nat) (v : Word) : State :=
  if m ≠ c then s
  else if v = 0x4B1C#32 then s.wdtRestart c
  else (s.setBitReg (A.WDT_STAT c) 1).wdtFire c

/-- WDT_KICK (R268). -/
def wdtKick (m c size : Nat) (v : Word) (s : State) : State :=
  if c < 5 then
    s.plainWrite .sys m (A.WDT_KICK c) (fun s => s.kickEffect m c (w1cBits (A.WDT_KICK c) size v))
  else s

/-! ## Modes -/

/-- R251: domains that must be off before STANDBY. -/
def standbyDomains : List Nat := [3, 8, 9, 13, 14, 15, 16, 20, 21]

/-- R251, R252: what a write of PMU_MODE does. -/
def State.modeEffect (s : State) (v : Word) : State :=
  if fld v 0 2 ≠ 2 ∨ ¬ (s.pmu.mode = .run ∨ s.pmu.mode = .doze) then s
  else match standbyDomains.find? (fun n => s.domOn n) with
    | some n =>
      ((s.setReg A.PWR_ERRDOM (setFld (setFld 0#32 0 5 n) 8 3 6)).setBitReg A.PMU_ERR 1).raise 4
    | none => (s.modPmu (fun p => { p with mode := .entrySave, entryAt := s.now, wakeDue := false })).raise 59

/-- STANDBY_REQUEST (R251, R252). -/
def standbyRequest (m size : Nat) (v : Word) (s : State) : State := s.wpWrite .pmu m A.PMU_MODE size v (fun s => s.modeEffect v)

/-- STANDBY_SAVE_DONE (R252, Table PMU-4): SA and SB enter reset; the power die becomes autonomous. -/
def standbySaveDone (s : State) : State :=
  if s.pmu.mode = .entrySave ∧ (s.flag A.CORE_RDY 4 = false ∨ s.pmu.entryAt + 4000000 ≤ s.now) then
    let stop (s : State) (c : Nat) : State :=
      ((if 2 ≤ s.coreState (safCore c) then s.coreReset (safCore c) else s).modCh c (fun x => { x with started := false, compared := false }))
    ((((stop (stop s 0) 1).safDrive).enterAuton)).modPmu (fun p => { p with mode := .entryOff })
  else s

/-- Bits of PWR_STAT that stay in STANDBY: AON, VLT and the retained banks. -/
def State.standbyKeeps (s : State) (n : Nat) : Bool := n ≤ 1 || (4 ≤ n && n ≤ 7 && s.flag A.SRAM_RET (n - 4))

/-- Every domain but those that STANDBY keeps goes off. -/
def State.standbyOff (s : State) : State :=
  let s1 := (List.range 24).foldl (fun s n => if s.domOn n && !s.standbyKeeps n then s.domainOff n else s) s
  let s2 := if s.flag A.SRAM_RET 0 then s1 else s1.wipeRam 0x20000000 0x40000
  let ms : MetSt := { fuse := s.met.fuse }
  let bs : BilSt := if s.flag A.PMU_CTL 1 then { lcd := s.bil.lcd, digits := s.bil.digits, icons := s.bil.icons } else {}
  ((({ s2 with met := ms, bil := bs, lsw := { s2.lsw with lowPower := true } }).resetPerPorts).wipeRam 0x30400000 0x10000).lsDriveAll

/-- DOZE_ENTRY (R250): whether H0 and H1 execute WFI. -/
def dozeEntry (wfi0 wfi1 : Bool) (s : State) : State :=
  if s.pmu.mode = .run ∧ s.flag A.PMU_CTL 0 = true ∧ (wfi0 = true ∨ s.coreState 0 ≤ 1) ∧ (wfi1 = true ∨ s.coreState 1 ≤ 1) ∧
      s.meip 0 = false ∧ s.meip 1 = false then
    (s.setField A.PMU_MODE 0 2 1).modPmu (fun p => { p with mode := .doze })
  else s

/-- DOZE_EXIT (R250). -/
def dozeExit (s : State) : State :=
  if s.pmu.mode = .doze ∧ (s.meip 0 = true ∨ s.meip 1 = true) then
    (s.setField A.PMU_MODE 0 2 0).modPmu (fun p => { p with mode := .run })
  else s

/-! ## Supplies and temperatures -/

/-- The PF threshold in mV. -/
def State.pfLevel (s : State) : Nat := 100 * s.field A.PF_CFG 0 7

/-- PMU_PF_WARN (R257): VIN falls to `vin` mV. -/
def pmuPfWarn (vin : Nat) (s : State) : State :=
  let s1 := s.setReg A.SUP_VIN (wd (vin % 65536))
  if vin < s.pfLevel ∧ s.flag A.PMU_STAT 2 = true then
    (((s1.clrBitReg A.PMU_STAT 2).setBitReg A.PMU_ERR 3).raise 0).metPfWarn
  else s1

/-- VIN_PF_RISE (R257): VIN rises to `vin` mV. -/
def vinPfRise (vin : Nat) (s : State) : State :=
  let s1 := s.setReg A.SUP_VIN (wd (vin % 65536))
  if s.pfLevel + 200 < vin ∧ s.flag A.PMU_STAT 2 = false then (s1.setBitReg A.PMU_STAT 2).clrBitReg A.PMU_ERR 3 else s1

/-- PMU_VBAT_LOW (R257): VBAT is at `v` mV. -/
def pmuVbatLow (v : Nat) (s : State) : State :=
  let s1 := s.setReg A.SUP_VBAT (wd (v % 65536))
  if v < 2200 ∧ s.flag A.PMU_STAT 5 = true then ((s1.clrBitReg A.PMU_STAT 5).setBitReg A.PMU_ERR 4).raise 1
  else if 2300 < v then s1.setBitReg A.PMU_STAT 5
  else s1

/-- PMU_TEMP_WARN (R260): TEMP_CD is `t`, in 0.1 °C. -/
def pmuTempWarn (t : Int) (s : State) : State :=
  let warn : Int := 10 * (s.field A.TEMP_CFG 0 8 : Nat)
  let s1 := s.setReg A.TEMP_CD (wd (ofSigned 16 t))
  if warn ≤ t ∧ s.pmu.tempWarned = false then ((s1.setBitReg A.PMU_ERR 6).raise 58).modPmu (fun p => { p with tempWarned := true })
  else if t ≤ warn - 50 then s1.modPmu (fun p => { p with tempWarned := false })
  else s1

/-- PMU_AVS_ALARM (R248): AVS_MARGIN is `margin` percent. -/
def pmuAvsAlarm (margin : Nat) (s : State) : State :=
  let s1 := s.setReg A.AVS_MARGIN (wd (min margin 127))
  if margin < 5 then
    let x := s.loop .pmu 0
    let hi := s.loopHi .pmu 0
    (((((s1.setElem .pmu 0 0 hi).setLoop .pmu 0 (x.setPin 0 0)).setBitReg A.PMU_ERR 5).setBitReg A.PMU_STAT 7).raise 3).modPmu
      (fun p => { p with avsAt := some s.now })
  else s1.clrBitReg A.PMU_STAT 7

/-- R247 to R249: one step of the core voltage loop at a margin, in percent. -/
def State.avsStep (s : State) (margin : Nat) : State :=
  let held := match s.pmu.avsAt with | some t => decide (s.now < t + 40000000) | none => false
  if held || !s.linkUp then s
  else
    let pos : Int := s.elem .pmu 0 0
    let want : Int := if 15 ≤ margin then pos - 5 else if margin < 10 then pos + 5 else pos
    (s.setReg A.AVS_MARGIN (wd (min margin 127))).loopStep .pmu 0 [(0, want)]

/-- VIN_FALL_PD_STOP (R850): VIN falls below 4.6 V: a power-die reset, and its drivers and regulators stop. -/
def vinFallPdStop (s : State) : State :=
  let s1 := { s with wires := { s.wires with pdrst := true }, lsw := { s.lsw with lowPower := true } }
  ((pdReset s1).drivePd).lsDriveAll

/-- R849: the power die starts again. -/
def State.pdStart (s : State) : State :=
  (({ s with wires := { s.wires with pdrst := false }, lsw := { s.lsw with lowPower := false } }).drivePd).lsDriveAll

/-- PD_THERMAL_SHUTDOWN (R870): TEMP_PD is `t`, in 0.1 °C. -/
def pdThermalShutdown (t : Int) (s : State) : State :=
  let s1 := s.setReg A.TEMP_PD (wd (ofSigned 16 t))
  if 1600 ≤ t ∧ s.wires.hot = false then
    ((pdFault { s1 with wires := { s1.wires with hot := true } }).drivePd).lsDriveAll
  else s1

/-- PD_THERMAL_RELEASE (R870). -/
def pdThermalRelease (t : Int) (s : State) : State :=
  let s1 := s.setReg A.TEMP_PD (wd (ofSigned 16 t))
  if t ≤ 1400 ∧ s.wires.hot = true then
    (({ s1 with wires := { s1.wires with hot := false, pdflt := false } }).drivePd).lsDriveAll
  else s1

/-- The element of channel `c` and output `n` conducts (R731, R847, R871). -/
def State.elemConducts (s : State) (c n : Nat) : Bool :=
  (if c = 0 then s.wires.soa.getLsbD n else s.wires.sob.getLsbD n) && !s.wires.soHot.testBit (2 * n + c) && s.wires.vsafeOk

/-- SO_THERMAL_OFF (R871): the element's sensor reaches 175 °C; its readback goes off, which its channel judges (R735). -/
def soThermalOff (c n : Nat) (s : State) : State :=
  if c < 2 ∧ n < 4 then
    elementReadback c n false { s with wires := { s.wires with soHot := s.wires.soHot ||| 2 ^ (2 * n + c) } }
  else s

/-- SO_THERMAL_RELEASE (R871). -/
def soThermalRelease (c n : Nat) (s : State) : State :=
  if c < 2 ∧ n < 4 ∧ s.wires.soHot.testBit (2 * n + c) = true then
    let s1 := { s with wires := { s.wires with soHot := s.wires.soHot - 2 ^ (2 * n + c) } }
    elementReadback c n (s1.elemConducts c n) s1
  else s

/-- VSAFE_CHANGE (R847): VSAFE at `v` mV: below 8.0 V the safe outputs do not conduct. -/
def vsafeChange (v : Nat) (s : State) : State :=
  let s1 := { s with wires := { s.wires with vsafeOk := decide (8000 ≤ v) } }
  (List.range 8).foldl (fun s k => elementReadback (k % 2) (k / 2) (s.elemConducts (k % 2) (k / 2)) s) s1

/-- VHB_CHANGE (R847): VHB at `v` mV: below 5.0 V the bridges do not conduct. -/
def vhbChange (v : Nat) (s : State) : State := ({ s with wires := { s.wires with vhbOk := decide (5000 ≤ v) } }).drivePd

end Sys2Proof.Machine
end

