-- ==== Sys2Proof/Machine/Boot.lean ====
section
/-! DEFINITION. Resets and the start sequence (06, R261 to R276; 00, R10, R14; 16, R677, R678, R692, R705; 17, R753; 20,
R849). A start runs in one step; what its steps leave is what BOOT_START leaves. -/
namespace Sys2Proof.Machine

/-! ## Resets from T0 (Table PMU-7) -/

/-- The registers of the VLT domain. -/
def vltReg (a : Nat) : Bool := winOf a == some .vlt

/-- The memories that no reset but a VLT_POR touches: flash and the vault. -/
def lastingMem (a : Nat) : Bool :=
  (decide (0x08000000 ≤ a) && decide (a < 0x08810000)) || (decide (0x50000000 ≤ a) && decide (a < 0x50002000))

/-- The levels that other parts put on the wires, which no reset changes. -/
def Wires.inputs (w : Wires) : Wires :=
  { ({} : Wires) with
    vr := w.vr, hall := w.hall, hbIn := w.hbIn, sia := w.sia, sib := w.sib, sofb := w.sofb, cpv := w.cpv, fgs := w.fgs,
    pdflt := w.pdflt, pdrst := w.pdrst, hot := w.hot, soHot := w.soHot, vsafeOk := w.vsafeOk, vhbOk := w.vhbOk }

/-- A reset that starts from T0: the machine of State.reset, but for the fuses, the flash, the VLT domain, RST_CAUSE, the
levels of the inputs, and what the kind of reset keeps besides: the count, registers, RAM. -/
def State.restart (s : State) (keepTb : Bool) (keepReg keepRam : Nat → Bool) : State :=
  let s0 := (List.range 7).foldl State.stallRingsOf s
  let reg (a : Nat) : Bool := vltReg a || a == A.RST_CAUSE || keepReg a
  let ram (a : Nat) : Bool := lastingMem a || keepRam a
  let t : State := { State.reset with
    opt := s.opt, tb := if keepTb then s.tb else 0, free := s.free,
    regs := s0.regs.filter (fun e => reg e.1),
    rings := s0.rings.filter (fun e => winOfCode (e.1 / 8) == some .vlt),
    mem := s.mem.filter (fun e => ram e.1), ramEcc := s.ramEcc.filter (fun e => keepRam (4 * e.1)),
    flashEcc := s.flashEcc, erases := s.erases, wearTold := s.wearTold,
    wires := s.wires.inputs, key := { floorP := s.key.floorP }, vlt := s.vlt, met := { fuse := s.met.fuse },
    upd := { fuseSvn := s.upd.fuseSvn, carry := s.upd.carry }, dbg := { mode := s.dbg.mode },
    lsw := { lowPower := s.wires.pdrst }, pending := s.pending }
  t.modReg A.LS_STAT (fun w => w ||| (s.reg A.LS_STAT &&& 0xFFFF0000#32))

/-- A part in reset: no core runs, and RSTOUT_N is low (R264). -/
def State.holdReset (s : State) : State :=
  (s.setField A.CORE_STAT 0 2 1).modPmu (fun p => { p with inReset := true, t0Due := false })

/-- T0: SYS releases H0 into the boot ROM. -/
def State.toT0 (s : State) : State :=
  (s.setField A.CORE_STAT 0 2 2).modPmu (fun p => { p with mode := .run, inReset := false, t0Due := true })

/-- Without supply only the VLT domain is powered. -/
def State.unpowered (s : State) : State := ((s.holdReset).setReg A.PWR_STAT 2#32).modPmu (fun p => { p with mode := .off })

/-- A POR or BOR: the time base restarts at 0 (R212). -/
def State.powerReset (s : State) (bit : Nat) : State := (s.restart false (fun _ => false) (fun _ => false)).setBitReg A.RST_CAUSE bit

/-- The always-on SRAM. -/
def aonSramAddr (a : Nat) : Bool := decide (0x20100000 ≤ a) && decide (a < 0x20104000)

/-- The registers that a PIN, SW, DBG or WAKE reset keeps. -/
def softReg (a : Nat) : Bool := a == A.WAKE_CAUSE || a == A.SRAM_RET

/-- A PIN, SW or DBG reset. -/
def State.softReset (s : State) (bit : Nat) : State := (s.restart true softReg aonSramAddr).setBitReg A.RST_CAUSE bit

/-- R255: a bank of host SRAM that SRAM_RET retains in STANDBY. -/
def State.retained (s : State) (a : Nat) : Bool :=
  aonSramAddr a || (decide (0x20000000 ≤ a) && decide (a < 0x20100000) && s.flag A.SRAM_RET ((a - 0x20000000) / 0x40000))

/-- A WAKE reset, and T0 (R254). -/
def State.wakeStart (s : State) : State := ((s.restart true softReg s.retained).setBitReg A.RST_CAUSE 7).toT0

/-- VLT_POR: everything, the vault included; RST_CAUSE loses what it held (R263). -/
def State.vltReset (s : State) : State :=
  let s1 := s.restart false (fun _ => false) (fun _ => false)
  ({ s1 with
    regs := s1.regs.resetWhere (fun a => vltReg a || a == A.RST_CAUSE), rings := [],
    mem := s1.mem.filter (fun e => decide (e.1 < 0x50000000)), vlt := {} }).setBitReg A.RST_CAUSE 0

/-- PIN_RESET (R262): RESET_N has been low for 24 RC16M cycles; the reset lasts while it stays low. -/
def pinReset (s : State) : State :=
  if s.pmu.mode = .off ∨ s.pmu.inReset = true then s else ((s.softReset 4).modPmu (fun p => { p with mode := .run })).holdReset

/-- RESET_N_RELEASE (R262): T0 follows 10 µs later. -/
def resetNRelease (s : State) : State := if s.pmu.mode ≠ .off ∧ s.pmu.inReset = true then s.toT0 else s

/-- BOR_RESET (R257, R261): VIO or VCORE falls below its threshold. -/
def borReset (vio : Bool) (s : State) : State :=
  if s.pmu.mode = .off then s
  else
    let s1 := (s.powerReset (if vio then 2 else 3)).unpowered
    if vio then (s1.clrBitReg A.PMU_STAT 3).setBitReg A.PMU_STAT 6 else s1.clrBitReg A.PMU_STAT 4

/-- Both supplies are good: T0 (R261, R849); the vault draws from VIO (R259). -/
def State.supplied (s : State) : State :=
  ((s.modReg A.PMU_STAT (fun w => setBit (setBit (setBit w 3 true) 4 true) 6 false)).setReg A.PWR_STAT (domainsAtReset s.opt)).toT0

/-- BOR_RELEASE (R261): T0 follows 200 µs later. -/
def borRelease (s : State) : State := if s.pmu.mode = .off then s.supplied else s

/-- VLT_POR (R261): without its vault's supply the part has no supply at all. -/
def vltPor (s : State) : State := s.vltReset.unpowered

/-- VIN_RISE (R849, R257): VIN rises through 5.8 V; `vbat`: VBAT lies within its range. -/
def vinRise (vbat : Bool) (s : State) : State :=
  if s.pmu.mode = .off then
    let s1 := if vbat || s.flag A.PMU_STAT 3 then s else s.vltReset
    let s2 := (s1.powerReset 1).pdStart
    s2.supplied
  else s.pdStart

/-! ## STANDBY and waking -/

/-- STANDBY_ENTERED (R252, R253, R781, R838): a wake event recorded during entry starts the part at once. -/
def standbyEntered (s : State) : State :=
  if s.pmu.mode = .entryOff then
    let s1 := (s.standbyOff).modPmu (fun p => { p with mode := .standby })
    if s.pmu.wakeDue then s1.wakeStart else s1
  else s

/-- R253, R254: a wake source. -/
def State.wake (s : State) (src : Nat) : State :=
  if src < 15 ∧ s.flag A.WAKE_EN src = true then
    match s.pmu.mode with
    | .standby => (s.setBitReg A.WAKE_CAUSE src).wakeStart
    | .entrySave | .entryOff => (s.setBitReg A.WAKE_CAUSE src).modPmu (fun p => { p with wakeDue := true })
    | _ => s
  else s

/-- WAKE_EVENT (R253, R254, R798): an event of a source of Table PMU-5 other than a UART's. -/
def wakeEvent (src : Nat) (s : State) : State := if 4 ≤ src ∧ src ≤ 9 then s else s.wake src

/-- UART_WAKE (R797, R798): port `p` (0, 1 UL; 2 to 5 UQ). On UL a matching address character `ch` on LF32K is saved in the
always-on SRAM and wakes; on UQ a start edge, and the character is lost. -/
def uartWake (p ch : Nat) (s : State) : State :=
  if 6 ≤ p ∨ s.pmu.mode ≠ .standby then s
  else if uartL p then
    let addr := s.reg (uA p A.U_ADDR)
    let matched := ch.testBit 8 && ((ch % 256 == fld addr 0 8) || (ch % 512 == 0x1FF && bit addr 8))
    if s.uCtl p 0 && s.uCtl p 4 && s.uCtl p 5 && s.uNine p && matched && s.flag A.WAKE_EN (4 + p) then
      (((s.setWord (0x20103FFC - 4 * p) (wd (ch % 512) ||| 0x5A000000#32)).written 0 (0x20103FFC - 4 * p) 4).setBitReg A.WAKE_CAUSE (4 + p)).wakeStart
    else s
  else s.wake (4 + p)

/-- LF_FAIL (R224): in STANDBY it is a wake source, and the time base, which counts on, has a gap: GAP and TB_GAP. -/
def lfFailCmd (s : State) : State :=
  let s1 := (s.wake 14).lfFail
  if s.pmu.mode = .standby then (s1.setBitReg A.TB_STAT 1).raise 13 else s1

/-! ## Choice and verification of the image (R677 to R679) -/

/-- R677 rule 1: trials in progress are abandoned. -/
def State.abandonTrials (s : State) : State × Nat :=
  (List.range 2).foldl (fun p b => if p.1.bankState b = 4 then (p.1.rejectBank b, 0x22) else p) (s, 0)

/-- R677 rules 2 to 4: the bank to boot, and whether rule 4 chose it. -/
def State.bootChoice (s : State) : Option (Nat × Bool) :=
  if s.bankState 0 = 3 then some (0, false)
  else if s.bankState 1 = 3 then some (1, false)
  else if s.bankState 0 = 5 ∧ (s.bankState 1 ≠ 5 ∨ s.bankSeq 1 < s.bankSeq 0) then some (0, false)
  else if s.bankState 1 = 5 then some (1, false)
  else if (s.latest 0).isNone && (s.latest 1).isNone then some (0, true)
  else none

/-- R678: verifies a bank; one that fails is written REJECTED, except under rule 4. -/
def State.tryBank (s : State) (b : Nat) (rule4 : Bool) : State × Nat :=
  let code := s.verifyImage b
  if code = 0 ∨ rule4 = true then (s, code) else (s.rejectBank b, code)

/-- R678: a chosen bank, then the other one: the state, the bank that passed, whether it is the fallback, the first failure. -/
def State.tryBanks (s : State) (b : Nat) (rule4 : Bool) : State × Option Nat × Bool × Nat :=
  let p := s.tryBank b rule4
  if p.2 = 0 then (p.1, some b, false, 0)
  else
    let o := 1 - b
    if p.1.bankState o = 5 || (p.1.latest o).isNone then
      let q := p.1.tryBank o rule4
      (q.1, if q.2 = 0 then some o else none, true, p.2)
    else (p.1, none, false, p.2)

/-! ## Steps of the start sequence (Table PMU-8) -/

/-- BOOT_STAT.STEP. -/
def State.bootStep (s : State) (n : Nat) : State := s.setField A.BOOT_STAT 16 8 n

/-- Step 3: the SPLL locks on RC16M at DEPTH 0 and XO25 starts; without lock LIMP (R222). -/
def State.bootSpll (s : State) (ok : Bool) : State :=
  let s1 := s.setReg A.CLK_CTL (if s.opt = optEC then 0x2D#32 else 0x3D#32)
  if ok then ((s1.setBitReg A.CLK_STAT 2).setField A.CLK_STAT 8 2 1).setQual 2 else s1.limp

/-- Step 9: the PLLs' references are switched to XO25 once XO_OK reads 1, and TB_QUAL reads EXACT; else they stay on RC16M. -/
def State.bootXo (s : State) (ok : Bool) : State :=
  let lock (w : Word) : Word := setBit (setBit w 3 true) 4 (decide (s.opt ≠ optEC))
  if s.spllMode = 3 then s
  else if ok then ((s.modReg A.CLK_STAT (fun w => lock (setFld (setBit w 0 true) 5 2 0)))).setQual 0
  else s.modReg A.CLK_STAT lock

/-- Base and size of the RAM of M, SA and SB. -/
def bootRam (c : Nat) : Nat × Nat :=
  if c = mM then (0x30400000, 0x10000) else if c = mSA then (0x30600000, 0xC000) else (0x30800000, 0xC000)

/-- Step 11, R271, R753: a section of M, SA or SB and its hand-off block. -/
def State.bootLoad (s : State) (bank c typ : Nat) : State :=
  if !corePresent s.opt c then s
  else match s.section bank typ with
    | none => s
    | some x =>
      let r := bootRam c
      let top := r.1 + r.2 - 64
      let hash := if c = mM then x.hash else x.hash.take 32 ++ natLe 4 s.commRecord.1.toNat ++ natLe 4 s.commRecord.2.toNat ++ zeros 8
      let block := natLe 4 x.len ++ hash ++ natLe 4 s.opt ++ natLe 4 (s.pmu.t0 % 0x100000000) ++ zeros 4
      ((((s.setBytes r.1 (s.bytes (bankBase bank + x.off) x.len)).written 0 r.1 x.len).setBytes top block).written 0 top 64).setRunSect typ (some x)

/-- Release of M, SA or SB, which closes its load window (R52). -/
def State.bootRelease (s : State) (c : Nat) : State :=
  if corePresent s.opt c then
    let s1 := s.runCore c
    { s1 with loadOpen := s1.loadOpen.set (fun _ => false) c false }
  else s

/-- A section of E or P in half 0 of its RAM, whose top 64 bytes are zeros (R692). -/
def State.engineSection (s : State) (bank c : Nat) : State :=
  let s1 := match s.section bank c with
    | some x => ((s.setBytes (coreRam c) (s.bytes (bankBase bank + x.off) x.len)).written 0 (coreRam c) x.len).setRunSect c (some x)
    | none => s
  (s1.setBytes (coreRam c + 0xFFC0) (zeros 64)).written 0 (coreRam c + 0xFFC0) 64

/-- Step 12: a section of E or P in half 0 of its RAM, whose top 64 bytes are zeros; the core is released. -/
def State.bootEngine (s : State) (bank c : Nat) : State :=
  if !corePresent s.opt c then s
  else
    let s2 := ((s.engineSection bank c).setRunBank c bank).runCore c
    if s2.bankState bank = 4 then s2.openHealth c bank {} {} true else s2

/-- R255: the boot ROM overwrites its workspace with contents that the spec does not state. -/
def State.workspace (s : State) : State :=
  { s with
    mem := Tab.splice memReset s.mem 0x20038000 ((List.range 0x8000).map (fun i => byteOf (Config.freeWord (s.free + i / 4)) (i % 4)))
    free := s.free + 0x2000 }

/-- Steps 10 to 12, and the first of step 14: a bank whose image is valid is loaded and its cores released. -/
def State.bootImage (s : State) (bank : Nat) (fallback : Bool) (code : Nat) : State :=
  let s1 := (((s.setField A.BOOT_STAT 0 1 bank).setField A.BOOT_STAT 1 1 fallback.toNat).setField A.BOOT_STAT 24 8 code).setWord 0x5000030C
    (wd (s.bankSeq bank))
  let s2 := ((((s1.setRunSect 1 (s1.section bank 1)).setRunBank 0 bank).bootLoad bank mSA 5).bootLoad bank mSB 6).bootLoad bank mM 4
  let s3 := ((s2.bootRelease mSA).bootRelease mSB).bootRelease mM
  let s4 := s3.modUpd (fun u => { u with safeAt := if (s3.bankFlags bank).testBit 0 then some s3.now else none })
  let s5 := ((s4.bootEngine bank mE).bootEngine bank mP).resumeEffect mH0
  (s5.bootStep 14).modPmu (fun p => { p with booting := true, relAt := s5.now })

/-- ASCII text. -/
def romText (x : String) : List Byte := x.toList.map (fun c => BitVec.ofNat 8 c.toNat)
/-- A byte as two hexadecimal digits in ASCII. -/
def hexByte (n : Nat) : List Byte :=
  [n / 16 % 16, n % 16].map (fun d => BitVec.ofNat 8 (if d < 10 then 48 + d else 55 + d))

/-- R276, R713: no image: the boot ROM stays in ROM. -/
def State.bootRecovery (s : State) (fallback : Bool) (code : Nat) : State :=
  let c := if fallback then code else 0x30
  (((s.setField A.BOOT_STAT 1 1 fallback.toNat).setField A.BOOT_STAT 24 8 c).modPmu (fun p => { p with recovery := true })).recAnswer
    (romText "PV9420 RECOVERY " ++ hexByte c)

/-- The boot ROM from T0 (R270): option decode, clocks, link, choice and verification of the image, loads and releases. -/
def State.bootRom (s : State) (spllOk linkOk xoOk : Bool) : State :=
  let s0 := ((s.modPmu (fun p => { p with t0Due := false, rstDue := 0, t0 := s.now })).bootStep 1)
  if ¬ (1 ≤ s.opt ∧ s.opt ≤ 3) then (s0.setField A.BOOT_STAT 24 8 1).modPmu (fun p => { p with optionStop := true })
  else
    let s1 := (s0.workspace).bootSpll spllOk
    let s2 := (if linkOk then linkRetrained s1 else s1).bootXo xoOk
    let a := s2.abandonTrials
    let carry := a.1.upd.carry
    let s3 := (a.1.modUpd (fun u => { u with carry := 0 })).bootStep 10
    let first := if carry ≠ 0 then carry else a.2
    match s3.bootChoice with
    | none => s3.bootRecovery (carry ≠ 0) first
    | some (b, rule4) =>
      let s4 := if s3.bankState b = 3 then s3.markBank b 4 (s3.bankFlags b) else s3
      let r := s4.tryBanks b rule4
      let code := if first ≠ 0 then first else r.2.2.2
      let fb := r.2.2.1 || decide (carry ≠ 0)
      match r.2.1 with
      | some k => r.1.bootImage k fb code
      | none => r.1.bootRecovery fb code

/-- BOOT_START (R265, R270, R273): at T0, or at the SW or DBG reset that is due, the start sequence; whether the SPLL locks, the
link trains and XO25 comes up. -/
def bootStart (spllOk linkOk xoOk : Bool) (s : State) : State :=
  if s.pmu.inReset = true ∨ ¬ (s.pmu.mode = .run ∨ s.pmu.mode = .doze) then s
  else if s.pmu.t0Due then s.bootRom spllOk linkOk xoOk
  else if s.pmu.rstDue ≠ 0 then ((s.softReset (4 + s.pmu.rstDue)).toT0).bootRom spllOk linkOk xoOk
  else s

/-! ## Step 14 and host restart -/

/-- The effect of a write to CORE_RDY by master `m`: its own bit alone. -/
def State.coreRdyEffect (s : State) (m size a : Nat) (v : Word) : State :=
  let w := mergeLanes (s.reg A.CORE_RDY) (a % 4) size v
  if m < 7 then (s.setField A.CORE_RDY m 1 (fld w m 1)).engReady else s

/-- CORE_RDY_WRITE (R270, R274). -/
def coreRdyWrite (m size : Nat) (v : Word) (s : State) : State :=
  s.plainWrite .sys m A.CORE_RDY (fun s => s.coreRdyEffect m size A.CORE_RDY v)

/-- Cores that step 14 waits for: SA, SB, M, E and P, present ones. -/
def State.bootWaits (s : State) (c : Nat) : Bool :=
  decide (2 ≤ c) && decide (c ≤ 6) && corePresent s.opt c

/-- BOOT_READY_TIMEOUT (R270): 100 ms have passed since the release of core `c`. -/
def bootReadyTimeout (c : Nat) (s : State) : State :=
  if s.pmu.booting = true ∧ s.bootWaits c = true ∧ s.flag A.CORE_RDY c = false ∧ s.pmu.relAt + 40000000 ≤ s.now then
    s.setBitReg A.BOOT_STAT (8 + c)
  else s

/-- HOST_ENTRY (R264, R270, R705, R706). -/
def hostEntry (s : State) : State :=
  if s.pmu.booting = true ∧ s.upd.safeAt.isNone = true ∧
      ((List.range 7).all (fun c => !s.bootWaits c || s.flag A.CORE_RDY c || s.flag A.BOOT_STAT (8 + c))) = true then
    let b := s.field A.BOOT_STAT 0 1
    let s1 := (s.setReg A.BOOT_T_HOST (wd (s.now - s.pmu.t0))).modPmu (fun p => { p with booting := false, rstoutN := true })
    if s1.bankState b = 4 then s1.openHealth 0 b {} {} true else s1
  else s

/-- HOST_RESTART (R275): the boot ROM verifies the image again and enters the host image; nothing else is touched. An image that
fails is treated as R678 treats it. -/
def hostRestart (s : State) : State :=
  if !s.pmu.hostRst then s
  else
    let b := s.field A.BOOT_STAT 0 1
    let r := s.tryBanks b ((s.latest 0).isNone && (s.latest 1).isNone)
    let s1 := ((r.1.bootStep 10).setBitReg A.BOOT_STAT 2).modPmu (fun p => { p with hostRst := false })
    match r.2.1 with
    | some k =>
      let s2 := (s1.setField A.BOOT_STAT 0 1 k).setField A.CORE_STAT 0 2 2
      if r.2.2.1 then ((s2.setBitReg A.BOOT_STAT 1).setField A.BOOT_STAT 24 8 r.2.2.2).setRunSect 1 (s2.section k 1) else s2
    | none => (s1.bootRecovery r.2.2.1 r.2.2.2).setField A.CORE_STAT 0 2 2

/-- OPTION_REPORT (R14): the report on UL0, once per second. -/
def optionReport (s : State) : State :=
  if s.pmu.optionStop then
    (s.modPmu (fun p => { p with optionReports := p.optionReports + 1 })).recAnswer
      (romText "PV9420 OPTION " ++ hexByte s.opt ++ [0x0D#8, 0x0A#8])
  else s

end Sys2Proof.Machine
end

