-- ==== Sys2Proof/Machine/Plm.lean ====
section
/-! DEFINITION. The pilot-line modem (11, R498 to R503). -/
namespace Sys2Proof.Machine

/-- Changes the modem's hidden state. -/
def State.modPlm (s : State) (f : PlmSt → PlmSt) : State := { s with plm := f s.plm }

/-- The modem runs: its block is live, PLM_CTL.EN is 1 and PLMCLK is not gated. -/
def State.plmOn (s : State) : Bool := s.live .plm && s.flag A.PLM_CTL 0 && !s.gated .plm

/-- R500: the network key, requested for a host. -/
def State.nek (s : State) (host : Nat) : State × KeyAns :=
  s.keyRequest ⟨s.field A.NEK_SLOT 0 6, 5, host, [1], false⟩ false

/-- A frame ends on a failed key request. -/
def State.plmKeyBad (s : State) (n st : Nat) : State := (s.setBitReg A.PLM_ERR 2).finishBad .plm n st

/-- FRAME_TX (R500, R503): the modem has sent the frame in `transmissions`; `ack` says that one was acknowledged. -/
def frameTx (n transmissions : Nat) (ack : Bool) (s : State) : State :=
  s.whenHand .plm n 0x10 (fun s =>
    let arg := s.dw .plm n 4
    if fld arg 2 2 = 3 then s.finishBad .plm n 0x10
    else if !s.plmOn then s
    else
      let send (s : State) : State :=
        let s1 := s.modReg A.PLM_CNT (fun w => wrapAdd w 0 16 1)
        if ack then s1.finishDone .plm n (wd transmissions) else s1.finish .plm n { status := 0x80, result := wd transmissions }
      if bit arg 4 then
        match s.nek (s.ring .plm n).host with
        | (s1, .wait) => s1
        | (s1, .bad st) => s1.plmKeyBad n st
        | (s1, .got _) => send s1
      else send s)

/-- FRAME_RX (R503): the descriptor waits for a frame. -/
def frameRx (n : Nat) (s : State) : State :=
  s.whenHand .plm n 0x11 (fun s => s.modRing .plm n (fun r => if r.aux = 0 then { r with aux := 1, t0 := s.now } else r))

/-- The pending FRAME_RX that has waited longest. -/
def State.rxRing (s : State) : Option Nat :=
  ((List.range 8).filter (fun n => s.logging .plm n 0x11)).foldl (fun b n => match b with
    | none => some n
    | some m => if (s.ring .plm n).t0 < (s.ring .plm m).t0 then some n else some m) none

/-- The profile of a SOUND_CAPTURE (R501): averages of the sounds received; with none, nothing states them. -/
def State.soundProfile (s : State) (n : Nat) : List Byte × State :=
  let k := (s.ring .plm n).count
  if k = 0 then
    let f := s.freeBytes 15
    (f.1.take 58 ++ zeros 6, f.2)
  else
    let sums := s.plm.sums.get (fun _ => []) n
    ((List.range 58).map (fun i => BitVec.ofNat 8 (sums.getD i 0 / k)) ++ [BitVec.ofNat 8 k] ++ zeros 5, s)

/-- A SOUND_CAPTURE writes its profile and completes. -/
def State.soundEnd (n status : Nat) (s : State) : State :=
  let p := s.soundProfile n
  let k := (s.ring .plm n).count
  ((p.2.putBytes (p.2.ring .plm n).host (p.2.dw .plm n 2).toNat p.1).modPlm
    (fun x => { x with sums := x.sums.set (fun _ => []) n [] })).finish .plm n { status := status, result := wd k }

/-- SOUND_CAPTURE (R501): the descriptor starts. -/
def soundCapture (n : Nat) (s : State) : State :=
  s.whenHand .plm n 0x12 (fun s =>
    let k := fld (s.dw .plm n 4) 0 5
    if k = 0 ∨ 30 < k then s.finishBad .plm n 0x11
    else if (s.ring .plm n).aux ≠ 0 then s
    else (s.modPlm (fun x => { x with sums := x.sums.set (fun _ => []) n [] })).startLog .plm n 0x12)

/-- One SOUND_CAPTURE takes a sounding frame that matches its filter. -/
def State.takeSound (id : List Byte) (att : List Nat) (s : State) (n : Nat) : State :=
  if s.logging .plm n 0x12 && s.viewBytes (s.ring .plm n).host (s.dw .plm n 3).toNat 16 == id then
    let old := s.plm.sums.get (fun _ => []) n
    let sums := (List.range 58).map (fun i => old.getD i 0 + att.getD i 0)
    let s1 := (s.modPlm (fun x => { x with sums := x.sums.set (fun _ => []) n sums })).modRing .plm n (fun r => { r with count := r.count + 1 })
    if fld (s.dw .plm n 4) 0 5 ≤ (s1.ring .plm n).count then s1.soundEnd n 0 else s1
  else s

/-- PLM_FRAME_ARRIVAL (R499 to R503): a beacon, or a frame with its decrypted bytes; `sound` is a sounding frame's 16-byte
source address and run identifier and its 58 group attenuations. -/
def plmFrameArrival (beacon : Bool) (frame : List Byte) (encrypted management : Bool) (sound : Option (List Byte × List Nat))
    (s : State) : State :=
  if !s.plmOn then s
  else if beacon then
    let s1 := s.orReg A.PLM_STAT 3#32
    if s.flag A.PLM_STAT 0 then s1 else s1.raise 744
  else
    let s0 := s.modReg A.PLM_CNT (fun w => wrapAdd w 16 16 1)
    let s1 := match sound with
      | some (id, att) => (List.range 8).foldl (State.takeSound id att) s0
      | none => s0
    match s1.rxRing with
    | none => (s1.setBitReg A.PLM_ERR 0).raise 745
    | some n =>
      let put (s : State) : State :=
        (s.putBytes (s.ring .plm n).host (s.dw .plm n 2).toNat frame).finish .plm n
          { status := 0, result := wd frame.length, uflags := encrypted.toNat + 2 * management.toNat }
      if encrypted then
        match s1.nek (s1.ring .plm n).host with
        | (s2, .wait) => put s2
        | (s2, .bad st) => s2.plmKeyBad n st
        | (s2, .got _) => put s2
      else put s1

/-- BEACON_SEND (R499): the coordinator sends a beacon. -/
def beaconSend (s : State) : State :=
  if s.plmOn && s.flag A.PLM_CTL 1 then s.modPlm (fun p => { p with beacons := p.beacons + 1 }) else s

/-- BEACON_LOSS (R499): three beacon periods in a row without a beacon, in the station role. -/
def beaconLoss (s : State) : State :=
  if s.plmOn && !s.flag A.PLM_CTL 1 then
    ((s.modReg A.PLM_STAT (fun w => w &&& ~~~ 3#32)).setBitReg A.PLM_ERR 1).raise 746
  else s

end Sys2Proof.Machine
end

