-- ==== Sys2Proof/Machine/Vault.lean ====
section
/-! DEFINITION. Tamper sources and their responses, the calendar clock, the vault's opcode and the end of a debug session
(14, R618 to R628, R634; 19, R835). -/
namespace Sys2Proof.Machine

/-! ## End of a debug session (R835) -/

/-- A debug session is open: DBG_STAT.SESSION. -/
def State.dbgSession (s : State) : Bool := s.flag A.DBG_STAT 2

/-- The debugger has halted core `c`. -/
def State.dbgHalted (s : State) (c : Nat) : Bool := s.coreState c == 3 && s.flag A.DBG_STAT (8 + c)

/-- A halted core runs again. -/
def State.dbgResume (s : State) (c : Nat) : State :=
  let s1 := if s.dbgHalted c then s.setField A.CORE_STAT (2 * c) 2 2 else s
  s1.clrBitReg A.DBG_STAT (8 + c)

/-- R835: the session ends; every halted core resumes, and DBG_END is raised. -/
def State.endSession (s : State) : State :=
  if s.dbgSession then
    let s1 := (List.range 4).foldl State.dbgResume s
    ((s1.modReg A.DBG_STAT (fun w => w &&& 0x4003#32)).raise 1211).wdtSync
  else s

/-! ## Tamper response (R621, R622, Table KEY-11) -/

/-- The opcodes of a window's rings that use a slot's key. -/
def keyOps : Win → List Nat
  | .key => [0x10, 0x11]
  | .cry => [0x10, 0x11, 0x12, 0x13, 0x14, 0x15, 0x16, 0x1A, 0x1B]
  | .pke => [0x10, 0x12, 0x15]
  | .upd => [0x11]
  | _ => []

/-- The descriptor in hand on a ring uses a slot's key. -/
def State.usesKey (s : State) (w : Win) (n : Nat) : Bool :=
  match s.inHand w n with
  | some op => (keyOps w).contains op || (w == .plm && op == 0x10 && bit (s.dw .plm n 4) 4)
  | none => false

/-- A ring's use of a key ends ABORTED; an image write loses its context. -/
def State.abortKeyUse (s : State) (p : Win × Nat) : State :=
  if s.usesKey p.1 p.2 then
    let s1 := s.finishBad p.1 p.2 0x70
    if p.1 = .upd then s1.setWr p.2 none else s1
  else s

/-- The message context of a ring that holds a slot's key is lost (R645). -/
def State.loseCtx (s : State) (n : Nat) : State :=
  let c := s.cryCtx n
  if c.live && c.key != [] && !c.lost then s.setCtx n { c with lost := true, key := [], msg := [], aad := [] } else s

/-- Table KEY-11, first row: the key bus closes. -/
def State.closeKeyBus (s : State) : State :=
  let s1 := ([Win.key, .cry, .pke, .plm, .upd].flatMap (fun w => (List.range 8).map (fun n => (w, n)))).foldl State.abortKeyUse s
  let s2 := (List.range 8).foldl State.loseCtx s1
  (s2.modCry (fun k => { k with eph := [] })).modKey (fun k => { k with kuOps := [] })

/-- The key vault is zeroed: vault root and ROOT_ID. -/
def State.zeroKeyVault (s : State) : State := (s.setBytes 0x50000000 (zeros 0x200)).clrBitReg A.VLT_STAT 2

/-- A TAMPER entry of the tamper log (Table KEY-14). -/
def State.tamperEntry (s : State) (src act : Nat) : State := s.tampLog 0x01 src [BitVec.ofNat 8 act]

/-- An ERASE event while KEY is powered: every step but the reload of the rows, which KEY_READY does. -/
def State.eraseNow (s : State) (src act : Nat) : State :=
  let s1 := (s.closeKeyBus).zeroKeyVault
  let s2 := ((s1.modKey (fun k => { k with slots := [], patrol := 0 })).clrBitReg A.KEY_STAT 0).raise 884
  (s2.tamperEntry src act).endSession

/-- R620, R621: a tamper event of source `i`. -/
def State.tamperEvent (s : State) (i : Nat) : State :=
  let src := 2 ^ i
  let erase := s.flag A.TAMP_ACT i
  let act := if erase then src else 0
  let s1 := ((s.setBitReg A.VLT_ERR i).setReg A.TAMP_LAST (setFld (setFld 0#32 0 8 src) 8 8 act)).setReg A.TAMP_TIME (wd s.seconds)
  let s2 :=
    if !erase then (s1.tamperEntry src act).raise 884
    else if s1.live .key && s1.pmu.mode != .off then s1.eraseNow src act
    else ((s1.zeroKeyVault).tamperEntry src act).modVlt (fun v => { v with eraseDue := true })
  s2.wake 13

/-- R619: the condition of source `i` stands, or does not. -/
def State.tamperCond (s : State) (i : Nat) (stands : Bool) : State :=
  let was := s.flag A.VLT_STAT (8 + i)
  if !s.flag A.TAMP_EN i || was == stands then s
  else if stands then
    let s1 := s.setBitReg A.VLT_STAT (8 + i)
    if !s.vlt.armedOff.testBit i || decide (s.vlt.absentAt.get (fun _ => 0) i + 400000000 ≤ s.now) then
      (s1.modVlt (fun v => { v with armedOff := v.armedOff ||| 2 ^ i })).tamperEvent i
    else s1
  else (s.clrBitReg A.VLT_STAT (8 + i)).modVlt (fun v => { v with absentAt := v.absentAt.set (fun _ => 0) i s.now })

/-- TAMPER_EVENT (R618 to R620): the condition of a source of Table KEY-10 that is watched continuously, or each ms, begins or
ends: voltage, temperature, clock glitch. The balls and the mesh go by TAMPER_SAMPLE. -/
def tamperEventCmd (i : Nat) (stands : Bool) (s : State) : State := if 5 ≤ i ∧ i ≤ 7 then s.tamperCond i stands else s

/-- The next state of the mesh's LFSR, x^16 + x^14 + x^13 + x^11 + 1; its low bit is driven. -/
def meshNext (x : Nat) : Nat := x / 2 + 32768 * ((x + x / 4 + x / 8 + x / 32) % 2)

/-- One source's sample: declared when it differs twice in a row. -/
def State.tamperSample1 (s : State) (i : Nat) (differs : Bool) : State :=
  let before := s.vlt.differ.testBit i
  let s1 := s.modVlt (fun v => { v with differ := if differs then v.differ ||| 2 ^ i else v.differ - (if before then 2 ^ i else 0) })
  if differs && before then s1.tamperCond i true else if differs then s1 else s1.tamperCond i false

/-- TAMPER_SAMPLE (R618): levels of TAMP0 to TAMP3 and of MESH_IN at a sample. -/
def tamperSample (balls : BitVec 4) (meshIn : Bool) (s : State) : State :=
  let l := meshNext s.vlt.lfsr
  let s1 := s.modVlt (fun v => { v with lfsr := l })
  let s2 := (List.range 4).foldl (fun s i => s.tamperSample1 i (balls.getLsbD i != s.flag A.TAMP_BALL i)) s1
  s2.tamperSample1 4 (meshIn != decide (l % 2 = 1))

/-! ## Calendar clock (R624 to R628, Table KEY-12) -/

/-- R624: LF32K cycles until SUBSEC has advanced by at least `need`, and by how much it has then, at the trim in force. -/
def State.calCycles (s : State) (need : Nat) : Nat × Nat :=
  let t := toSigned 16 (s.field A.CAL_TRIM 0 16)
  if t = 0 then (need, need)
  else
    let a := t.natAbs
    let p := (10000000 + a / 2) / a
    let adv (n : Nat) : Nat :=
      let k := (s.vlt.trimCnt + n) / p
      if 0 < t then n + k else n - k
    let n := ((List.range 64).find? (fun i => decide (need ≤ adv (need - 16 + i)))).getD 16 + (need - 16)
    (n, adv n)

/-- SUBSEC of the calendar state. -/
def State.subsec (s : State) : Nat := (s.word 0x50000204).toNat % 32768

/-- The trim count after `n` cycles. -/
def State.trimAfter (s : State) (n : Nat) : Nat :=
  let a := (toSigned 16 (s.field A.CAL_TRIM 0 16)).natAbs
  if a = 0 then 0 else (s.vlt.trimCnt + n) % ((10000000 + a / 2) / a)

/-- R628: the alarm, at a second. -/
def State.calAlarm (s : State) : State :=
  if s.flag A.CAL_ALARM_CTL 0 = true ∧ (s.reg A.CAL_ALARM).toNat ≤ s.seconds then
    ((s.clrBitReg A.CAL_ALARM_CTL 0).raise 885).wake 12
  else s

/-- CALENDAR_SECOND (R624, R628): SUBSEC wraps. -/
def calendarSecond (s : State) : State :=
  let need := 32768 - s.subsec
  let c := s.calCycles need
  let k := s.trimAfter c.1
  let s1 := ((s.setWord 0x50000204 (wd (c.2 - need))).setWord 0x50000200 (wd (s.seconds + 1))).modVlt (fun v => { v with trimCnt := k })
  s1.calAlarm

/-- CLOCK_SET (R627). -/
def clockSet (n : Nat) (s : State) : State :=
  s.whenHand .vlt n 0x10 (fun s =>
    if s.onLprc then s.finishBad .vlt n 0x14
    else
      let old := s.word 0x50000200
      let new := s.dw .vlt n 4
      let step := new - old
      let entry := decide (2 < step.toInt.natAbs) || !s.calValid
      let s1 := (((s.setWord 0x50000200 new).setWord 0x50000204 (s.dw .vlt n 5 &&& 0x7FFF#32)).setWord 0x5000020C old).setWord
        0x50000210 step
      let s2 := (s1.setWord 0x50000214 (s1.word 0x50000214 + 1#32)).setCalFlags true false
      let s3 := if entry then s2.tampLog 0x04 0 (natLe 4 step.toNat) else s2
      s3.finishDone .vlt n old)

/-- R625: a master latches 0x5000_0204 to 0x5000_021B. -/
def State.calLatch (s : State) (m : Nat) : State :=
  let l := (List.range 6).map (fun i => s.word (0x50000204 + 4 * i))
  s.modVlt (fun v => { v with calLatch := v.calLatch.set (fun _ => none) m (some l) })

/-- A read of the calendar state by a master (R625): SECONDS latches; the words behind it read as latched. -/
def vaultRead (m a size : Nat) (s : State) : State :=
  let i := (a - 0x50000204) / 4
  if a / 4 = 0x50000200 / 4 then s.calLatch m |>.answer m (readLanes (s.word 0x50000200) (a % 4) size) .ok
  else if 0x50000204 ≤ a ∧ a < 0x5000021C then
    let l := (s.vlt.calLatch.get (fun _ => none) m).getD ((List.range 6).map (fun i => s.word (0x50000204 + 4 * i)))
    s.answer m (readLanes (l.getD i 0#32) (a % 4) size) .ok
  else s.answer m (readLanes (s.word (a - a % 4)) (a % 4) size) .ok

/-- CALENDAR_SECONDS_READ (R625): master `m` reads SECONDS when LF32K has gone `sub` cycles into the second. -/
def calendarSecondsRead (m sub : Nat) (s : State) : State :=
  if s.coreReach m .load .calendar then
    let s1 := if s.subsec < sub ∧ sub < 32768 then
        let k := s.trimAfter (s.calCycles (sub - s.subsec)).1
        (s.setWord 0x50000204 (wd sub)).modVlt (fun v => { v with trimCnt := k })
      else s
    vaultRead m 0x50000200 4 s1
  else s

/-! ## Key requests (R606, R607) -/

/-- What the descriptor in hand of a ring needs from KEY. -/
def State.keyNeed (s : State) (w : Win) (n : Nat) : Option KeyNeed :=
  match w, s.inHand w n with
  | .cry, some op => if s.cryCont n then none else cryNeed op (fld (s.dw .cry n 4) 0 8) (s.ring .cry n).host
  | .pke, some op => pkeNeed op (fld (s.dw .pke n 5) 8 8) (s.ring .pke n).host
  | .plm, some op =>
    if op = 0x10 ∧ bit (s.dw .plm n 4) 4 = true then some ⟨s.field A.NEK_SLOT 0 6, 5, (s.ring .plm n).host, [1], false⟩ else none
  | .upd, some op => if op = 0x11 then some ⟨0xF1, 6, (s.ring .upd n).host, [2], false⟩ else none
  | _, _ => none

/-- KEY_REQUEST (R604, R606 to R608): the request of the descriptor in hand of a ring is checked and its key delivered; `upset`
says that the RAM copy of the slot has been disturbed. A request that fails ends the descriptor; one that waits is served later. -/
def keyRequestCmd (w : Win) (n : Nat) (upset : Bool) (s : State) : State :=
  match s.keyNeed w n, (s.ring w n).key with
  | some q, none =>
    match s.keyRequest q upset with
    | (s1, .wait) => s1
    | (s1, .bad st) => if w = .plm then s1.plmKeyBad n st else if w = .cry then s1.cryBad n st else s1.finishBad w n st
    | (s1, .got g) => s1.modRing w n (fun r => { r with key := some g })
  | _, _ => s

end Sys2Proof.Machine
end

