-- ==== Sys2Proof/Machine/BusRead.lean ====
section
/-! DEFINITION. What a read of a peripheral window returns and changes (R3, R5, R28, R63, R99, R100, R105, R245 and the register
tables of every chapter). -/
namespace Sys2Proof.Machine

/-- The bank of a banked EVR register that a master's read sees: its own, or with VIEW_EN, for H0 and DBG, bank BANK
(Table EVL-10). -/
def State.evrBank (s : State) (m : Nat) : Nat :=
  if (s.standsFor m = mH0 ∨ m = mDBG) ∧ s.flag A.EVR_VIEW 4 = true then s.field A.EVR_VIEW 0 4 else m

/-- Reads of the EVR window that are not the register alone. -/
def State.evrValue (s : State) (m o : Nat) : Option Word :=
  let c := s.evrBank m
  if o = 0x008 then some (let i := s.field A.EVR_RT_IDX 0 11; if 1215 < i then 0#32 else s.route i)
  else if o = 0x020 ∨ o = 0x02C ∨ (0x040 ≤ o ∧ o < 0x0D8) then some (if c ≤ 6 then s.banked c (Win.evr.base + o) else 0#32)
  else if o = 0x024 then some (if c ≤ 6 then s.evrTop c else 0#32)
  else if o = 0x010 ∨ o = 0x028 then some 0#32
  else none

/-- SEM_n as a master reads it: RESULT is its own (R137). -/
def State.semRead (s : State) (m n : Nat) : Word := setFld (s.reg (A.SEM n)) 12 3 (s.semResult n m)

/-- Reads of the ANG window that are not the register alone. -/
def State.angValue (s : State) (m o : Nat) : Option Word :=
  if o = 0x058 then some (s.angleReg 0)
  else if o = 0x0AC then some (s.angleReg 1)
  else if o = 0x0D0 then some (s.angleReg 2)
  else if o = 0x0EC then some (s.angleReg 3)
  else if o = 0x100 then some (s.angleReg 4)
  else if o = 0x140 then some (s.banked m A.SLOT_IDX)
  else if o = 0x144 then some ((s.slot (s.banked m A.SLOT_IDX).toNat).stat)
  else if o = 0x148 then some (wd (s.slot (s.banked m A.SLOT_IDX).toNat).lastAt)
  else none

/-- A register of MET or BIL as a master that has latched the window reads it (R552, R590). -/
def latched (l : Option (List Word)) (lo o : Nat) : Option Word :=
  match l with
  | some ws => if lo ≤ o then ws[(o - lo) / 4]? else none
  | none => none

/-- Word `k` of DEVICE_ID, least significant byte first. -/
def deviceWord (k : Nat) : Word :=
  ofBytes (deviceId.getD (4 * k) 0#8) (deviceId.getD (4 * k + 1) 0#8) (deviceId.getD (4 * k + 2) 0#8) (deviceId.getD (4 * k + 3) 0#8)

/-- Reads of the KEY window that are not the register alone. -/
def State.keyValue (s : State) (m o : Nat) : Option Word :=
  if o = 0x004 then some s.keyStat
  else if 0x010 ≤ o ∧ o < 0x020 then some (deviceWord ((o - 0x010) / 4))
  else if o = 0x020 then some (wd s.kuCnt)
  else if o = 0x024 then some (wd s.key.floorP)
  else if o = 0x030 then some (s.banked m A.KEY_SLOT_IDX)
  else if 0x034 ≤ o ∧ o ≤ 0x048 then some (s.kslotReg m o)
  else if o = 0x050 ∨ o = 0x054 then some (s.slotBits 2 (8 * (o - 0x050)))
  else if o = 0x058 ∨ o = 0x05C then some (s.slotBits 3 (8 * (o - 0x058)))
  else none

/-- Reads of the UPD window that are not the register alone. -/
def State.updValue (s : State) (o : Nat) : Option Word :=
  if o = 0x004 then some s.updStat
  else if o = 0x028 then some s.hLeft
  else if o = 0x034 then some (setFld (setFld 0#32 0 7 s.vsvn) 8 7 s.upd.fuseSvn)
  else if o = 0x040 then some (wd (s.bankGen 0))
  else if o = 0x044 then some (wd (s.bankGen 1))
  else none

/-- DBG_STAT as a read shows it (Table SER-15). -/
def State.dbgStat (s : State) : Word :=
  let w := setFld (s.reg A.DBG_STAT) 0 2 s.dbg.mode
  (List.range 6).foldl (fun w c => setBit w (8 + c) (bit w (8 + c) && s.coreState c == 3)) w

/-- Reads of the window's own registers that are not the stored register alone: the value master `m` sees at offset `o`. -/
def State.specialValue (s : State) (w : Win) (m o : Nat) : Option Word :=
  match w with
  | .clk => if o = 0x384 then some (s.pads.get padReset (s.field A.PAD_IDX 0 9)) else none
  | .tmb => if o = 0x008 then some s.tick else if o = 0x00C ∨ o = 0x010 then some (s.banked m (Win.tmb.base + o)) else none
  | .sys => if 0x040 ≤ o ∧ o < 0x090 ∧ o % 0x10 = 0xC then some (s.wdtLeft ((o - 0x040) / 0x10)) else none
  | .evr => s.evrValue m o
  | .sem => if o < 0x100 then some (s.semRead m (o / 4)) else none
  | .ang => s.angValue m o
  | .psc => if o = 0x004 then some s.pscStat else if o = 0x144 then some s.xferStat else none
  | .chg => if o = 0x070 then some s.ilkBits else none
  | .rcm => if o = 0x004 then some s.rcmStat else if o = 0x02C then some s.stAge else none
  | .met =>
    if o = 0x000 then some s.metStat else if o = 0x018 then some s.paramRead
    else latched (s.met.snap.get (fun _ => none) m) 0x024 o
  | .bil => if o = 0x010 then none else latched (s.bil.snap.get (fun _ => none) m) 0x014 o
  | .key => s.keyValue m o
  | .cry => if o = 0x004 then some s.cryStat else none
  | .pke => if o = 0x004 then some s.pkeStat else none
  | .trng => if o = 0x004 then some s.trngStat else none
  | .vlt => if o = 0x000 then some (setBit (s.reg A.VLT_STAT) 2 s.rootPresent) else none
  | .upd => s.updValue o
  | .saf => some (s.safRead (Win.saf.base + o))
  | .ul0 => if o = A.U_STAT then some (s.uStat 0) else none
  | .ul1 => if o = A.U_STAT then some (s.uStat 1) else none
  | .uq0 => if o = A.U_STAT then some (s.uStat 2) else none
  | .uq1 => if o = A.U_STAT then some (s.uStat 3) else none
  | .uq2 => if o = A.U_STAT then some (s.uStat 4) else none
  | .uq3 => if o = A.U_STAT then some (s.uStat 5) else none
  | .usb => if o = 0x004 then some s.usbStat else none
  | .dbg => if o = 0x000 then some s.dbgStat else none
  | _ => none

/-- What master `m` reads at the 4-byte-aligned offset `o` of a window (R63, R100, R105). -/
def State.winValue (s : State) (w : Win) (m o : Nat) : Word :=
  if 0x600 ≤ o ∧ o < 0x700 then 0#32
  else if 0x800 ≤ o then 0#32
  else if 0x700 ≤ o then
    (if (loopDef w ((o - 0x700) / 0x10)).isSome then s.loopRead w ((o - 0x700) / 0x10) (o % 0x10) else 0#32)
  else match (if o < 0x300 then s.specialValue w m o else none) with
    | some v => v
    | none => match regInfo (w.base + o) with
      | some _ => s.reg (w.base + o)
      | none => 0#32

/-- The UART of a window. -/
def uartOf : Win → Option Nat
  | .ul0 => some 0 | .ul1 => some 1 | .uq0 => some 2 | .uq1 => some 3 | .uq2 => some 4 | .uq3 => some 5
  | _ => none

/-- What a read of a window changes beyond its answer: latches (R218, R552, R590) and the flags shown (R792). -/
def State.readSide (s : State) (w : Win) (m o : Nat) : State :=
  match w with
  | .tmb => if o = 0x008 then s.tbLatch m else s
  | .met => if o = 0x020 then metSnapSeqRead m s else s
  | .bil => if o = 0x010 then bilSnapSeqRead m s else s
  | w => match uartOf w with
    | some p => if o = A.U_STAT then s.uStatRead p else s
    | none => s

/-- A read by a master that may issue it, of a window it reaches: absent blocks read 0 but for their ring slots (R3, R5), an off
domain reads 0 and reports (R245). -/
def State.readAt (s : State) (w : Win) (m a : Nat) (eff : State → State) : State :=
  if !s.mayIssue m then s
  else if !windowReach m w then (s.fabDeny m a false false 0).answer m 0#32 .loadFault
  else if !s.present w then (if 0x400 ≤ a % 0x1000 ∧ a % 0x1000 < 0x600 then eff s else s.answer m 0#32 .ok)
  else if !s.domOn w.domain then s.offAccess.answer m 0#32 .ok
  else eff s

/-- A read of a peripheral window by a bus master. -/
def busRead (m a size : Nat) (s : State) : State :=
  match winOf a with
  | none => s.answer m 0#32 .ok
  | some w =>
    let o := a % 0x1000 - a % 4
    s.readAt w m a (fun s =>
      if isPd (a - a % 4) && decide (o < 0x800) then s.pdRead m a size
      else match (if o = A.U_DATA then uartOf w else none) with
        | some p => uDataRead m p s
        | none => (s.readSide w m o).answer m (readLanes (s.winValue w m o) (a % 4) size) .ok)

end Sys2Proof.Machine
end

