-- ==== Sys2Proof/Machine/SafeAct.lean ====
section
/-! DEFINITION. What the SAFE actions of the check domains do as they begin and as they end (Table RING-15), and the commands of
the configuration check that begin and end them. -/
namespace Sys2Proof.Machine

/-- PAUSE of one ring, as under the command (Table RING-15, domain 4). -/
def State.safePause (s : State) (k : Win × Nat) : State :=
  if s.ringState k.1 k.2 = 1 then (s.modRing k.1 k.2 (fun r => { r with wish := .pause })).settle k.1 k.2 else s

/-- The action of one domain, domain 0 apart. -/
def State.safeAct1 (s : State) (d : Nat) : State :=
  match d with
  | 1 => s.driveAo
  | 2 => s.tripCause 15 7
  | 3 => s.ilk
  | 4 => ((cfcWindows 4).flatMap (fun w => (List.range 8).map (fun n => (w, n)))).foldl State.safePause s
  | 5 => s.lsForward
  | 6 => s.portsHeld
  | 7 => s.enterAuton
  | _ => s

/-- A SAFE action begins; domain 0's is that of domains 1, 2 and 3. -/
def safeAct (d : Nat) (s : State) : State := if d = 0 then [1, 2, 3].foldl State.safeAct1 s else s.safeAct1 d

/-- What the end of one domain's action changes at once. Trip latches, paused rings and the power die's autonomous state are left
by firmware (R40, R83, R432). -/
def State.safeStop1 (s : State) (d : Nat) : State :=
  match d with
  | 1 => s.driveAo
  | 3 => s.ilk
  | 5 => s.lsForward
  | 6 => s.portsFree
  | _ => s

/-- A SAFE action ends. -/
def safeStop (d : Nat) (s : State) : State := if d = 0 then [1, 2, 3].foldl State.safeStop1 s else s.safeStop1 d

/-- CFC_PASS_END (R109, R110, R112). -/
def cfcPassEndCmd (s : State) : State := cfcPassEnd safeAct s

/-- CFC_DOMAIN7_RESULT (R112). -/
def cfcDomain7Cmd (timely : Bool) (s : State) : State := cfcDomain7 safeAct timely s

/-- The W1C write of CFC_STAT (R111). -/
def State.cfcStatWrite (s : State) (bits : Word) : State := s.cfcStatClear safeStop bits

end Sys2Proof.Machine
end

