-- ==== Sys2Proof/Machine/BusWrite.lean ====
section
/-! DEFINITION. What a write to a peripheral window does, register by register (R99 to R105 and the register tables of every
chapter), and an access of a core to memory over it. -/
namespace Sys2Proof.Machine

/-! ## The register at a bus address -/

/-- A write on its way to a register: its master, byte address, size and data. -/
structure BusW where
  m : Nat
  a : Nat
  size : Nat
  v : Word
  deriving DecidableEq, Repr

/-- The 4-byte-aligned address. -/
def BusW.ra (b : BusW) : Nat := b.a - b.a % 4
/-- The byte lane. -/
def BusW.lane (b : BusW) : Nat := b.a % 4
/-- The offset in the window. -/
def BusW.o (b : BusW) : Nat := b.a % 0x1000 - b.a % 4
/-- The data in its byte lanes over zeros. -/
def BusW.full (b : BusW) : Word := w1cBits b.a b.size b.v
/-- The index of a register among registers `st` bytes apart from `base`. -/
def BusW.idx (b : BusW) (base st : Nat) : Nat := (b.o - base) / st

/-! ## WP registers: what the write does once the pair has passed -/

/-- WP registers of PMU, CLK, SYS, TMB, EVR, CFC and TLM. -/
def State.wpSystem (s : State) (w : Win) (b : BusW) : State :=
  match w with
  | .pmu => if b.o = 0x004 then s.modeEffect b.v else if b.o = 0x010 then (s.pwrJudge b.v).2 else s.store b.ra b.v
  | .clk =>
    if b.o = 0x000 then s.clkCtlEffect b.v else if b.o = 0x010 then s.sscEffect b.v else if b.o = 0x384 then s.padEffect b.v
    else s.store b.ra b.v
  | .sys =>
    if b.o = 0x008 then s.sysRstEffect b.m b.v else if b.o = 0x010 then s.coreCtlEffect b.m b.v
    else if 0x040 ≤ b.o ∧ b.o < 0x090 then s.wdtCfgEffect (b.idx 0x040 0x10) b.v
    else if b.o = 0x210 then s.lmlCtlEffect b.m b.v else s.store b.ra b.v
  | .tmb =>
    if b.o = 0x020 then (s.store b.ra b.v).leaveMove (fun e => match e with | .cmp _ => true | _ => false) else s.store b.ra b.v
  | .evr => if b.o = 0x008 then s.routeEffect b.m b.v else s.store b.ra b.v
  | .cfc => if b.o = 0x000 then s.cfcCtl b.v else if b.o = 0x00C then s.cfcCapture b.v else s.store b.ra b.v
  | .tlm => { s.store b.ra b.v with tlmListed := false }
  | _ => s.store b.ra b.v

/-- SLOT_OWN (Table EVT-9): H0 writes it; an absent core's value stores 0. -/
def State.slotOwnEffect (s : State) (m : Nat) (v : Word) : State :=
  if s.standsFor m = mH0 then
    (s.store A.SLOT_OWN ((List.range 8).foldl (fun w k =>
      if corePresent s.opt (fld v (4 * k) 4) then w else setFld w (4 * k) 4 0) v)).leaveMove
      (fun e => match e with | .slotOwn _ => true | _ => false)
  else s

/-- WP registers of ANG, ENG, LAM, HBR, PWM and PSC. -/
def State.wpDrive (s : State) (w : Win) (b : BusW) : State :=
  match w with
  | .ang =>
    if b.o = 0x000 then s.angCtlEffect b.v else if b.o = 0x0E0 then s.invCfgEffect b.v else if b.o = 0x0E4 then s.invFreqEffect b.v
    else if b.o = 0x14C then s.slotOwnEffect b.m b.v
    else if 0x180 ≤ b.o ∧ b.o < 0x200 then s.aoRouteEffect (b.idx 0x180 4) b.v else s.store b.ra b.v
  | .eng => if b.o = 0x000 then s.engCtlEffect b.v else s.store b.ra b.v
  | .lam => if b.o = 0x000 then s.lamCtlEffect b.v else s.store b.ra b.v
  | .hbr => if b.o = 0x000 then s.hbCtlEffect b.v else s.store b.ra b.v
  | .pwm =>
    if b.o = 0x000 then s.pwmCtlEffect b.v
    else if 0x010 ≤ b.o ∧ b.o < 0x040 ∧ b.o % 0x10 = 0 then s.grpCfgEffect (b.idx 0x010 0x10) b.v
    else if 0x010 ≤ b.o ∧ b.o < 0x040 ∧ b.o % 0x10 = 4 then s.carPerEffect (b.idx 0x014 0x10) b.v
    else if 0x040 ≤ b.o ∧ b.o < 0x080 then s.chCfgEffect (b.idx 0x040 4) b.v else s.store b.ra b.v
  | .psc => if b.o = 0x000 then s.pscCtlEffect b.v else s.store b.ra b.v
  | _ => s.store b.ra b.v

/-- WP registers of the other windows. -/
def State.wpOther (s : State) (w : Win) (b : BusW) : State :=
  match w with
  | .chg => if b.o = 0x000 then s.chgCtlEffect b.v else (s.store b.ra b.v).ilk
  | .rcm => if b.o = 0x000 then s.rcmCtlEffect b.v else (s.store b.ra b.v).ilk
  | .vlt =>
    let s1 := s.store b.ra b.v
    if b.o = 0x01C then s1.modVlt (fun x => { x with lfsr := s1.field A.MESH_CFG 0 16 }) else s1
  | .upd => if b.o = 0x00C then s.ownEffect b.m b.v else s.store b.ra b.v
  | .saf => if b.o = 0x010 then s.safCommEffect b.m b.v else s.store b.ra b.v
  | .can0 => if b.o = 0x000 then s.canCtlEffect 0 b.v else s.store b.ra b.v
  | .can1 => if b.o = 0x000 then s.canCtlEffect 1 b.v else s.store b.ra b.v
  | w => match uartOf w with
    | some p => s.uStore p b.o b.v
    | none => s.store b.ra b.v

/-- BLK_LOCK.LOCK sets and does not clear (Table RING-13). -/
def State.lockEffect (s : State) (a : Nat) (v : Word) : State := if bit v 0 then s.setBitReg a 0 else s

/-- What a WP write does once its pair has passed and no lock stands. -/
def State.wpEffect (s : State) (w : Win) (b : BusW) : State :=
  if isPd b.ra then s.pdWrite b.m b.a b.size b.v
  else if b.o = 0x3FC then s.lockEffect b.ra b.v
  else if 0x300 ≤ b.o then
    (if 0x700 ≤ b.o then s.boundEffect w (b.idx 0x700 0x10) (b.o % 0x10 == 8) b.v else s.store b.ra b.v)
  else match w with
    | .pmu | .clk | .sys | .tmb | .evr | .cfc | .tlm => s.wpSystem w b
    | .ang | .eng | .lam | .hbr | .pwm | .psc => s.wpDrive w b
    | _ => s.wpOther w b

/-! ## RW registers -/

/-- RING_CTL (Table RING-8): one command bit at a time. -/
def State.ringCtlEffect (s : State) (w : Win) (n m : Nat) (v : Word) : State :=
  match fld v 0 6 with
  | 0 => s
  | 1 => ringStart w n m s
  | 2 => ringStop w n m s
  | 4 => ringPause w n m s
  | 8 => ringResume w n m s
  | 16 => ringAbort w n m s
  | 32 => ringReclaim w n m s
  | _ => s.ringCmdErr w n

/-- The staged values of a gate (Table CTR-4). -/
def State.staged (s : State) (w : Win) (g : Nat) : List Nat :=
  match w with
  | .ang => s.angStaged g
  | .lam => [(s.reg A.LAM_PUMP_STG).toNat]
  | .hbr => s.thrStaged
  | .pwm => s.pwmStaged g
  | _ => []

/-- RW registers that every window holds at the same place: ring slots, gates and loops. -/
def State.rwCommon (s : State) (w : Win) (b : BusW) : State :=
  if 0x700 ≤ b.o then
    let n := b.idx 0x700 0x10
    if b.o % 0x10 = 0 then s.loopCtlEffect w n b.size b.lane b.v
    else if w = .ang then s.shapePoke (s.field (loopA .ang 0) 8 8) (fld b.full 0 16)
    else s.posEffect w n (fld b.full 0 16)
  else if 0x400 ≤ b.o then
    (if b.o % 0x40 = 0x10 then s.ringCtlEffect w (b.idx 0x400 0x40) b.m b.full else s.rwStore b.a b.size b.v)
  else s.gateCommit w (b.idx 0x300 0x10) b.m b.size b.v (s.staged w (b.idx 0x300 0x10))

/-- SEM_n.CMD (Table EVL-7). -/
def semWrite (m n size : Nat) (v : Word) (s : State) : State :=
  match fld v 0 2 with
  | 1 => semAcquire m n size (bit v 4) s
  | 2 => semReleaseRepaired m n size s
  | 3 => semForceOrphan m n size s
  | _ => semRelease m n size s

/-- RW registers of CLK, TMB, SYS, EVR and SEM. -/
def State.rwSystem (s : State) (w : Win) (b : BusW) : State :=
  match w with
  | .clk => if 0x100 ≤ b.o ∧ b.o < 0x170 ∧ b.lane = 0 then s.clkDomEffect (b.idx 0x100 4) b.size b.v else s.rwStore b.a b.size b.v
  | .tmb =>
    let c := b.idx 0x100 0x10
    if b.o % 0x10 = 8 ∧ b.lane = 0 then s.cmpCtlEffect b.m c b.size b.v
    else s.cmpWrite b.m c (fun s => s.rwStore b.a b.size b.v)
  | .sys =>
    if b.o = 0x01C then s.coreRdyEffect b.m b.size b.a b.v
    else if 0x040 ≤ b.o ∧ b.o < 0x090 then s.kickEffect b.m (b.idx 0x040 0x10) b.full else s.rwStore b.a b.size b.v
  | .evr =>
    if b.o = 0x010 then s.swev b.full
    else if b.o = 0x020 then (if b.m ≤ 6 then s.setBanked b.m A.EVR_THRESH (b.full &&& 0xF#32) else s)
    else if b.o = 0x028 then s.evrAck b.m (fld b.full 0 11) else s.rwStore b.a b.size b.v
  | .sem =>
    if b.o < 0x100 then semWrite b.m (b.o / 4) b.size b.full s
    else if b.o % 0x10 = 0 then
      (s.rwStore b.a b.size b.v).leaveMove (fun e => match e with | .mbx k _ _ => k == b.idx 0x200 0x10 | _ => false)
    else mbxDataWrite b.m (b.idx 0x204 0x10) b.size b.v s
  | _ => s.rwStore b.a b.size b.v

/-- RW registers of ANG, ENG, LAM, HBR, PWM and CHG. -/
def State.rwDrive (s : State) (w : Win) (b : BusW) : State :=
  match w with
  | .ang =>
    if b.o = 0x054 then s.crkCmdEffect b.full
    else if b.o = 0x140 then s.setBanked b.m A.SLOT_IDX (b.full &&& 0xFF#32)
    else s.stagingEffect b.m b.a b.size b.v
  | .eng => if b.o = 0x084 then s.sarSwtrigEffect b.full else s.rwStore b.a b.size b.v
  | .lam => s.pumpStgEffect b.m b.size b.lane b.v
  | .hbr => s.hbStgEffect b.m (b.idx 0x020 4) b.size b.lane b.v
  | .pwm => s.dutyStgEffect b.m (b.idx 0x080 4) b.size b.lane b.v
  | .chg => if b.o = 0x00C then s.chgCmdEffect b.full else s.rwStore b.a b.size b.v
  | _ => s.rwStore b.a b.size b.v

/-- KEY SLOT_IDX (Table KEY-17): a number that names no slot stores 0. -/
def keySlotStored (v : Nat) : Nat := if v < 64 ∨ v = 0xF0 ∨ v = 0xF1 then v else 0

/-- RW registers of the SAF window, each by its writer (R759). -/
def State.rwSaf (s : State) (b : BusW) : State :=
  let a := b.ra
  let c := if (0x100 ≤ b.o ∧ b.o < 0x120) ∨ (0x140 ≤ b.o ∧ b.o % 8 = 0) then 0 else 1
  if b.o = 0x014 then (if b.m = s.primaryHost then s.rwStore b.a b.size b.v else s)
  else if b.m ≠ (if c = 0 then mSA else mSB) then s
  else if a = A.SAF_WDGA ∨ a = A.SAF_WDGB then s.safKick c
  else if a = A.SAF_CTLA ∨ a = A.SAF_CTLB then (s.rwStore b.a b.size b.v).safDrive
  else s.rwStore b.a b.size b.v

/-- RW registers of the other windows. -/
def State.rwOther (s : State) (w : Win) (b : BusW) : State :=
  match w with
  | .bil => if b.m = mH0 ∨ b.m = mH1 then s.rwStore b.a b.size b.v else s
  | .key => s.setBanked b.m A.KEY_SLOT_IDX (wd (keySlotStored (fld b.full 0 8)))
  | .trng => if bit b.full 0 then s.trngRestart else s
  | .upd =>
    if b.size ≠ 4 then s else if b.o = 0x014 then s.healthEffect b.m b.v else s.revackEffect b.m b.v
  | .saf => s.rwSaf b
  | .lsw =>
    if b.o = 0x008 then s.lsCommand b.m true b.full else if b.o = 0x00C then s.lsCommand b.m false b.full
    else lsLclr b.m 4 b.full s
  | .can0 => s.canCmdEffect 0 b.full
  | .can1 => s.canCmdEffect 1 b.full
  | .usb => if b.o = 0x010 then s.usbCmdEffect b.full else s.rwStore b.a b.size b.v
  | w => match uartOf w with
    | some p => if b.o = A.U_DATA then s.uDataEffect p b.full else s.rwStore b.a b.size b.v
    | none => s.rwStore b.a b.size b.v

/-- What a write to an RW register does. -/
def State.rwEffect (s : State) (w : Win) (b : BusW) : State :=
  if isPd b.ra then s.pdWrite b.m b.a b.size b.v
  else if w ≠ .clk ∧ 0x300 ≤ b.o then s.rwCommon w b
  else match w with
    | .clk | .tmb | .sys | .evr | .sem => s.rwSystem w b
    | .ang | .eng | .lam | .hbr | .pwm | .chg => s.rwDrive w b
    | _ => s.rwOther w b

/-! ## W1C registers -/

/-- What a write of 1s to a W1C register does. -/
def State.w1cEffect (s : State) (w : Win) (b : BusW) : State :=
  let v := b.full
  let clr (s : State) : State := s.modReg b.ra (fun old => old &&& ~~~ v)
  if 0x300 ≤ b.o ∧ b.o < 0x380 then s.gateStatClear w (b.idx 0x300 0x10) v
  else match w with
    | .cfc => s.cfcStatWrite v
    | .sem => if 0x200 ≤ b.o then s.mbxStat b.m (b.idx 0x208 0x10) v else clr s
    | .evr =>
      if 0x040 ≤ b.o ∧ b.o < 0x0D8 then (if b.m ≤ 6 then s.setBanked b.m b.ra (s.banked b.m b.ra &&& ~~~ v) else s) else clr s
    | .hbr => if b.o = 0x008 then (clr s).drivePd else clr s
    | .pwm => if b.o = 0x104 then s.tripLatchClear v else clr s
    | .chg => if b.o = 0x008 then s.chgErrClear v else clr s
    | .rcm => if b.o = 0x008 then s.rcmErrClear v else clr s
    | .saf => if b.m = s.primaryHost then clr s else s
    | _ => clr s

/-! ## The bus -/

/-- What a write to a read-only register does: nothing, but that M writes the published registers of MET and BIL (R505) and
INVF_STAT takes its clear command (R443). -/
def State.roEffect (s : State) (w : Win) (b : BusW) : State :=
  match w with
  | .met | .bil => if b.m = mM ∧ b.o < 0x300 then s.rwStore b.a b.size b.v else s
  | .psc => if b.o = 0x13C then s.invfStatEffect b.full else s
  | _ => s

/-- A write of a peripheral window by a bus master. -/
def busWrite (m a size : Nat) (v : Word) (s : State) : State :=
  match winOf a with
  | none => s
  | some w =>
    let b : BusW := ⟨m, a, size, v⟩
    if 0x800 ≤ b.o then s.compWrite w m a size v
    else if b.o = 0x600 then doorbell w m size b.full s
    else match regInfo b.ra with
      | none => s.plainWrite w m b.ra id
      | some r => match r.acc with
        | .wp => s.wpWrite w m b.ra size v (fun s => s.wpEffect w b)
        | .ro => s.plainWrite w m b.ra (fun s => s.roEffect w b)
        | .rw => s.plainWrite w m b.ra (fun s => s.rwEffect w b)
        | .w1c => s.plainWrite w m b.ra (fun s => s.w1cEffect w b)
        | .sl => s.plainWrite w m b.ra (fun s => if size = 4 then s.slEffect v else s)

/-- CORE_MEMORY_ACCESS: a load, store or fetch of a core or of the debugger. -/
def coreMemoryAccess (m : Nat) (k : AccKind) (user : Bool) (a size : Nat) (v : Word) (s : State) : State :=
  coreAccess busRead busWrite vaultRead m k user a size v s

end Sys2Proof.Machine
end

