-- ==== Sys2Proof/Machine/Debug.lean ====
section
/-! DEFINITION. The test access port: authorisation, debug access, boundary scan and the end of a session
(19, R830 to R835). -/
namespace Sys2Proof.Machine

/-- R831, R833: is a scope granted? Bit `i` of the session's scope, or any under OPEN; nothing while the DBG domain is off. -/
def State.dbgMay (s : State) (i : Nat) : Bool :=
  s.domOn 23 && (s.dbg.mode == 0 || (s.dbg.mode == 1 && s.dbgSession && s.flag A.DBG_STAT (3 + i)))

/-- The scope bit that halting core `c` needs; M, SA and SB can never be halted (R833). -/
def haltScope (c : Nat) : Option Nat := if c ≤ 1 then some 0 else if c ≤ 3 then some 1 else none

/-- AUTH acts only under DBG_MODE AUTH with the DBG domain on (R831). -/
def State.authOn (s : State) : Bool := s.domOn 23 && s.dbg.mode == 1

/-- R832: the debugger reads the challenge: DEVICE_ID and 32 fresh DRBG bytes, all zero while the TRNG is not READY. -/
def State.authChallenge (s : State) : State :=
  match s.drbgBytes false 32 with
  | some (b, s1) => { s1 with dbg := { s1.dbg with challenge := Sys2Proof.Machine.deviceId ++ b } }
  | none => { s with dbg := { s.dbg with challenge := [] } }

/-- R832: a failed response; the third locks AUTH until the next start from T0. -/
def State.authFail (s : State) : State :=
  let n := s.dbg.fails + 1
  let s1 := ({ s with dbg := { s.dbg with fails := n } }).raise 1209
  if 3 ≤ n then s1.setBitReg A.DBG_STAT 14 else s1

/-- The bytes of a word, least significant first. -/
def wordBytes (w : Word) : List Byte := (List.range 4).map (byteOf w)

/-- R832: does the response open a session? -/
def State.authOk (s : State) (scope : Word) (key sig : List Byte) : Bool :=
  let q := p384.dec key
  decide (s.dbg.challenge.length = 48) && decide (key.length = 96) && decide (sig.length = 96) && s.trngReady &&
    decide (beNat (shaHash sha384 key) = Config.debugKeyHash.toNat) && p384.on q &&
    p384.verify q (p384.digest (shaHash sha384 (s.dbg.challenge ++ wordBytes scope))) (beNat (sig.take 48)) (beNat (sig.drop 48))

/-- R832: a response arrives. -/
def State.authResponse (s : State) (scope : Word) (key sig : List Byte) : State :=
  if s.flag A.DBG_STAT 14 ∨ s.trngReady = false then s
  else if s.authOk scope key sig then
    ((({ s with dbg := { s.dbg with challenge := [] } }).modReg A.DBG_STAT
      (fun w => setFld (setBit w 2 true) 3 5 (fld scope 0 5))).raise 1208).wdtSync
  else s.authFail

/-- JTAG_AUTH (R832): with no response, a read of the challenge; else a response. -/
def jtagAuth (response : Option (Word × List Byte × List Byte)) (s : State) : State :=
  if !s.authOn then s
  else match response with
    | none => s.authChallenge
    | some (scope, key, sig) => s.authResponse scope key sig

/-- R833: halts a running core. -/
def State.dbgHalt (s : State) (c : Nat) : State :=
  if s.coreState c = 2 then
    ((((s.setField A.CORE_STAT (2 * c) 2 3).setBitReg A.DBG_STAT (8 + c)).raise 1210)).wdtSync
  else s

/-- JTAG_DBG_ACCESS (R833): halt, run, step and register access of a core, or a bus access as H0. The registers of a core and
what one of its instructions does are no state of this model: a step leaves it unchanged and a register reads free. -/
def jtagDbgAccess (o : DbgOp) (s : State) : State :=
  match o with
  | .halt c => (match haltScope c with | some i => if s.dbgMay i then s.dbgHalt c else s | none => s)
  | .run c => (match haltScope c with | some i => if s.dbgMay i then (s.dbgResume c).wdtSync else s | none => s)
  | .step _ => s
  | .register c => (match haltScope c with
      | some i => if s.dbgMay i && s.dbgHalted c then s.useFree.answer mDBG s.freeWord .ok else s
      | none => s)
  | .access k a size v => if s.dbgMay 2 then coreMemoryAccess mDBG k false a.toNat size.bytes v s else s

/-- A safety core enters a CORE reset (R834). -/
def State.safCoreReset (s : State) (c : Nat) : State :=
  (if 2 ≤ s.coreState (safCore c) then s.coreReset (safCore c) else s).modCh c (fun x => { x with started := false, compared := false })

/-- JTAG_BOUNDARY_SCAN (R834): EXTEST, CLAMP or HIGHZ. -/
def jtagBoundaryScan (s : State) : State :=
  if s.dbgMay 3 then (({ s with dbg := { s.dbg with bscan := true } }.safCoreReset 0).safCoreReset 1).safDrive else s

/-- DBG_END (R835). -/
def dbgEnd (s : State) : State := s.endSession

end Sys2Proof.Machine
end

