-- ==== Sys2Proof/Machine/Logging.lean ====
section
/-! DEFINITION. Commands that one rule gives to many units: the timeout of a logging descriptor (R198, R409, R455, R503, R554,
R782), the deadline of a commit gate (R173) and the step of an adaptive loop (R151). -/
namespace Sys2Proof.Machine

/-- How a logging opcode measures its timeout: the descriptor word that holds it and the ticks of one unit. Rows that carry no
timeout of this kind answer `none`. -/
def logTimeout (w : Win) (n op : Nat) : Option (Nat × Nat) :=
  let ms := 400000
  let sec := 400000000
  match w, op with
  | .tlm, 0x10 => some (5, ms)
  | .ang, 0x11 => some (4, ms)
  | .eng, 0x10 | .eng, 0x11 => some (5, ms)
  | .edr, 0x10 | .edr, 0x11 => some (5, ms)
  | .lam, 0x10 => some (5, ms)
  | .pwm, 0x11 => some (5, ms)
  | .psc, 0x10 => some (5, ms)
  | .egv, 0x10 => some (5, sec)
  | .chg, 0x10 | .chg, 0x12 => some (5, ms)
  | .rcm, 0x11 => some (5, sec)
  | .met, 0x11 => some (5, ms)
  | .lsw, 0x10 | .lsw, 0x11 => some (5, ms)
  | .ul0, 0x11 | .ul1, 0x11 | .uq0, 0x11 | .uq1, 0x11 | .uq2, 0x11 | .uq3, 0x11 => if n = 1 then some (5, ms) else none
  | .can0, 0x11 | .can1, 0x11 => if n = 1 then some (5, ms) else none
  | .i2c0, 0x18 | .i2c0, 0x19 | .i2c1, 0x18 | .i2c1, 0x19 => if n = 1 then some (5, ms) else none
  | _, _ => none

/-- What has been written so far, as the RESULT of the opcode tells it; WAVE_CAPTURE tells the tick of its first set. -/
def State.logResult (s : State) (w : Win) (n : Nat) : Word :=
  let r := s.ring w n
  if w = .met then (if r.aux = 2 then s.met.waveAt.get (fun _ => 0#32) n else 0#32) else wd r.count

/-- LOGGING_TIMEOUT (R409): a started logging descriptor whose timeout has passed completes TIMEOUT with what it wrote. -/
def loggingTimeout (w : Win) (n : Nat) (s : State) : State :=
  match s.inHand w n with
  | none => s
  | some op =>
    match logTimeout w n op with
    | none => s
    | some (k, unit) =>
      let r := s.ring w n
      if r.aux = 0 ∨ s.now < r.t0 + fld (s.dw w n k) 0 16 * unit then s
      else s.finish w n { status := 0x40, result := s.logResult w n }

/-- GATE_DEADLINE (R173 to R178): the deadline of gate `g` of a window, as the window's own boundary makes it. -/
def gateDeadlineCmd (w : Win) (g : Nat) (s : State) : State :=
  match gateDef w g with
  | none => s
  | some _ =>
    if !s.live w then s
    else match w with
      | .ang => slotArmingPoint (5 + g) s
      | .lam => if s.flag A.LAM_CTL 0 then s.lamDeadline else s
      | .hbr => match s.thrBridge with
        | some b => if s.flag A.HB_CTL b && !(s.flag A.HB_CTL 6 && (b == 1 || b == 2)) && !(s.flag A.HB_CTL 7 && b == 3) then
            (s.thrDeadline b).drivePd else s
        | none => s
      | .pwm => s.pwmDeadline g
      | _ => s

/-- LOOP_STEP (R151 to R158): a step of loop `n` in which no element is asked to move, so that a pending mode and moved bounds
take effect; the core voltage loop steps by the margin it reads, in percent (R247). The steps that move the elements of the
other loops are those of their units. -/
def loopStepCmd (w : Win) (n margin : Nat) (s : State) : State :=
  match loopDef w n with
  | none => s
  | some _ => if !s.live w then s else if w = .pmu then s.avsStep margin else s.loopStep w n []

end Sys2Proof.Machine
end

