-- ==== Sys2Proof/Machine/Commands.lean ====
section
/-! DEFINITION. Commands whose meaning joins several units: accesses named by their register, wires, one core's reset, and the
order of happenings in one cycle (01, R19, R20, R28, R29, R40; 02, R99, R102, R880; 03, R145; 04, R155 to R158, R170, R177). -/
namespace Sys2Proof.Machine

/-- What a command answers: its effect on the part. The queue is not the part's, and the ordering option is fused (R13): no
command changes either. -/
def act (f : State → State) (s : State) : Res := .next { f s with opt := s.opt, pending := s.pending }

/-! ## Accesses -/

/-- A naturally aligned access of a whole register or a part of one. -/
def aligned (a size : Nat) : Bool := a % size == 0

/-- REGISTER_WRITE (R99): the write acts as the register's access type gives. -/
def registerWrite (m a size : Nat) (v : Word) (s : State) : State := if aligned a size then busWrite m a size v s else s

/-- WP_REGISTER_WRITE (R102). -/
def wpRegisterWrite (m a size : Nat) (v : Word) (s : State) : State :=
  if isWp (a - a % 4) then registerWrite m a size v s else s

/-- COMPLEMENT_WRITE (R102 to R105): the complement port of the register at offset `off`. -/
def complementWrite (m : Nat) (w : Win) (off size : Nat) (v : Word) (s : State) : State :=
  if off < 0x800 then registerWrite m (w.base + 0x800 + off) size v s else s

/-- PAIR_WINDOW_EXPIRY (R102, R103): the pair fails with REASON 3; the register whose complement was pending is captured. -/
def pairWindowExpiry (w : Win) (s : State) : State :=
  match s.pendingComp w with
  | some (m, a, _) => s.pairFail w m a 3
  | none => s

/-- Is this a register of the power die? -/
def pdRegister (a : Nat) : Bool := isPd (a - a % 4) && decide (a % 0x1000 < 0x800)

/-- PD_REGISTER_READ (R28). -/
def pdRegisterRead (m a size : Nat) (s : State) : State := if pdRegister a && aligned a size then busRead m a size s else s

/-- PD_REGISTER_WRITE (R29). -/
def pdRegisterWrite (m a size : Nat) (v : Word) (s : State) : State :=
  if pdRegister a && aligned a size then busWrite m a size v s else s

/-- RESUME (R40): a write of LML_CTL as it stands with RESUME set. -/
def resumeWrite (m : Nat) (s : State) : State := busWrite m A.LML_CTL 4 (setBit (s.reg A.LML_CTL) 0 true) s

/-- A write of the one command bit of RING_CTL that `eff` carries out (R82, R86). -/
def ringCommand (w : Win) (n m : Nat) (eff : State → State) (s : State) : State := s.plainWrite w m (slotReg w n 0x10) eff

/-- A write to a register of a loop's window, where the spec puts a loop. -/
def loopWindowWrite (m : Nat) (w : Win) (n off size : Nat) (v : Word) (s : State) : State :=
  if (loopDef w n).isSome then busWrite m (loopA w n + off) size v s else s

/-- A write to a register of a commit gate, where the spec puts one. -/
def gateWrite (m : Nat) (w : Win) (g off size : Nat) (v : Word) (s : State) : State :=
  if (gateDef w g).isSome then busWrite m (gateA w g + off) size v s else s

/-- CORE_MEMORY_ACCESS (R45 to R53): an access, or a machine-mode write of a PMP region of H0 or H1; any other core or mode has
no such register. -/
def coreOperation (m : Nat) (o : CoreOp) (user : Bool) (a : Word) (size : Nat) (v : Word) (s : State) : State :=
  match o with
  | .access k => coreMemoryAccess m k user a.toNat size v s
  | .pmp i cfg =>
    if !s.mayIssue m then s
    else if user ∨ 1 < m then s.answer m 0#32 .illegal
    else (s.pmpWrite m i (cfg.toNat / 8 % 4) a (cfg.getLsbD 0) (cfg.getLsbD 1) (cfg.getLsbD 2) (cfg.getLsbD 7)).answer m 0#32 .ok

/-! ## Wires -/

/-- SAFETY_TRIP_WIRE (R19, R21): XW_STA (`b` false) or XW_STB asserts. -/
def safetyTripWire (b : Bool) (s : State) : State :=
  let w := if b then { s.wires with stb := true } else { s.wires with sta := true }
  let s1 := { s with wires := w }
  if s.tripWire then s1 else stepPause (s1.slotsTrip.drivePd)

/-- DWELL_ABORT_WIRE (R20, R21): XW_DWA of channel `c` asserts. -/
def dwellAbortWire (c : Nat) (s : State) : State := ({ s with wires := { s.wires with dwa := bit4 s.wires.dwa c true } }).drivePd

/-- SAFETY_PWM_TRIP (R433): the PWM trip line of SA (`b` false) or SB asserts. -/
def safetyPwmTrip (b : Bool) (s : State) : State :=
  let s1 := s.modSaf (fun x => if b then { x with ptb := true } else { x with pta := true })
  if s.saf.pta || s.saf.ptb then s1 else s1.pwmSafety

/-- HB_PERIOD (R399, R404): a bridge's period, with the duty the lock asks of bridge 3. -/
def bridgePeriod (b : Nat) (cur : Int) (s : State) : State := s.hbPeriod b cur s.lockDuty

/-! ## Cores -/

/-- M_STOP (R507, R586): core M enters reset or halts. -/
def mStop (s : State) : State := if s.measRun || s.mRuns then s.metStop else s

/-- CORE_RESET (R145): one core that runs or is halted enters reset while the others run; H0's is a HOST reset (R275). -/
def oneCoreReset (c : Nat) (s : State) : State :=
  if s.coreState c < 2 then s
  else match c with
    | 0 => if s.flag A.UPD_STAT 0 then s.coreReset mH0 else s.hostReset
    | 4 => (s.coreReset mM).metStop
    | 5 => (s.safCoreReset 0).safDrive
    | 6 => (s.safCoreReset 1).safDrive
    | c => (s.coreReset c).clrBitReg A.CORE_CTL c

/-- R705: the update unit takes note when SAFE_RUN sets. -/
def noteSafeRun (f : State → State) (s : State) : State :=
  let s1 := f s
  if !s.flag A.BOOT_STAT 4 && s1.flag A.BOOT_STAT 4 then s1.safeRunSet else s1

/-! ## Happenings in one cycle (R880) -/

/-- Step 1: an asynchronous path acts. -/
def AsyncPath.act (s : State) : AsyncPath → State
  | .trip i => tripInput i s
  | .tripWire b => safetyTripWire b s
  | .dwellAbort c => dwellAbortWire c s
  | .pwmTrip b => safetyPwmTrip b s

/-- Step 2: a comparison, deadline or sample. -/
def CycleSample.act (s : State) : CycleSample → State
  | .gate w g => gateDeadlineCmd w g s
  | .compare c => tbCmpFire c s
  | .passStart => cfcPassStart s
  | .input c v => safInputSample c v.toNat s

/-- Step 3: an access of a master. -/
def BusAccess.act (s : State) (b : BusAccess) : State := coreMemoryAccess b.m b.kind b.user b.a.toNat b.size.bytes b.v s

/-- Step 4: an update by hardware. -/
def HwUpdate.act (s : State) : HwUpdate → State
  | .telemetry => tlmFrame s
  | .conversion c v => sarConversionDone c v.toNat s
  | .sigmaDelta k x => sdOutput k x s
  | .current n code seq => lsCurrentSample n code.toNat seq.toNat s
  | .event src => eventAssert src s

/-- The accesses of one cycle in ascending master number (R880 step 3). -/
def byMaster (l : List BusAccess) : List BusAccess := (List.range 8).flatMap (fun m => l.filter (fun b => b.m.val == m))

/-- HAPPENINGS_ORDER (R880): what falls in one cycle, applied in the fixed order; outputs and events follow within each. -/
def happeningsOrder (paths : List AsyncPath) (samples : List CycleSample) (accesses : List BusAccess) (updates : List HwUpdate)
    (s : State) : State :=
  updates.foldl HwUpdate.act ((byMaster accesses).foldl BusAccess.act (samples.foldl CycleSample.act (paths.foldl AsyncPath.act s)))

end Sys2Proof.Machine
end

