-- ==== Sys2Proof/Machine/CmdAngle.lean ====
section
/-! DEFINITION. The meanings of the commands of the angle domains (07). -/
namespace Sys2Proof.Machine

/-- ANG_CTL_WRITE (R283). -/
def execAngCtlWrite (m : Fin 8) (z : AccSize) (v : Word) (s : State) : Res := act (angCtlWrite m z.bytes v) s

/-- CRK_EDGE (R291). -/
def execCrkEdge (s : State) : Res := act crkEdge s

/-- VIRTUAL_TOOTH (R292). -/
def execVirtualTooth (d : Fin 2) (s : State) : Res := act (virtualTooth d) s

/-- CRK_STALL (R295). -/
def execCrkStall (s : State) : Res := act crkStall s

/-- CAM_EDGE (R298). -/
def execCamEdge (s : State) : Res := act camEdge s

/-- PHASE_FLIP (R300). -/
def execPhaseFlip (m : Fin 8) (s : State) : Res := act (crkCmd m 2#32) s

/-- RESYNC (R301). -/
def execResync (m : Fin 8) (s : State) : Res := act (crkCmd m 1#32) s

/-- CLR_CNT (R288). -/
def execClrCnt (m : Fin 8) (s : State) : Res := act (crkCmd m 4#32) s

/-- PARTNER_EDGE (R310). -/
def execPartnerEdge (s : State) : Res := act partnerEdge s

/-- PARTNER_MISS (R312). -/
def execPartnerMiss (s : State) : Res := act partnerMiss s

/-- ALT_EDGE (R313). -/
def execAltEdge (ph : Fin 3) (rise : Bool) (s : State) : Res := act (altEdge ph rise) s

/-- GRD_UPDATE (R315). -/
def execGrdUpdate (ampl : Nat) (mhz : Nat) (angle : Nat) (pherr : Int) (s : State) : Res :=
  act (grdUpdate ampl mhz angle pherr) s

/-- INV_FREQ_WRITE (R317). -/
def execInvFreqWrite (m : Fin 8) (z : AccSize) (v : Word) (s : State) : Res := act (invFreqWrite m z.bytes v) s

/-- INV_CYCLE (R318). -/
def execInvCycle (s : State) : Res := act invCycle s

/-- SYNC_SNAP (R322). -/
def execSyncSnap (n : Fin 8) (s : State) : Res := act (syncSnap n) s

/-- TOOTH_LOG (R323). -/
def execToothLog (n : Fin 8) (s : State) : Res := act (toothLogStart n) s

/-- SHAPE_SAVE (R324). -/
def execShapeSave (n : Fin 8) (s : State) : Res := act (shapeSave n) s

/-- SHAPE_LOAD (R324). -/
def execShapeLoad (n : Fin 8) (s : State) : Res := act (shapeLoad n) s

end Sys2Proof.Machine
end

