-- ==== Sys2Proof/Machine/CmdBilling.lean ====
section
/-! DEFINITION. The meanings of the commands of billing and display (13). -/
namespace Sys2Proof.Machine

/-- TARIFF_SWITCH (R562). -/
def execTariffSwitch (s : State) : Res := act tariffSwitch s

/-- DST_CHANGE (R564). -/
def execDstChange (s : State) : Res := act dstChange s

/-- CAL_LOAD (R560). -/
def execCalLoad (n : Fin 8) (s : State) : Res := act (calLoad n) s

/-- CALENDAR_ACTIVATION (R565). -/
def execCalendarActivation (s : State) : Res := act calendarActivation s

/-- MD_PERIOD_END (R566). -/
def execMdPeriodEnd (s : State) : Res := act mdPeriodEnd s

/-- MD_RESET (R568). -/
def execMdReset (n : Fin 8) (s : State) : Res := act (mdReset n) s

/-- SESSION_START (R569). -/
def execSessionStart (n : Fin 8) (s : State) : Res := act (sessionStart n) s

/-- SESSION_END (R571). -/
def execSessionEnd (n : Fin 8) (s : State) : Res := act (sessionEnd n) s

/-- SIGN_RETRY (R573). -/
def execSignRetry (s : State) : Res := act signRetry s

/-- RECORD_READ (R574). -/
def execRecordRead (n : Fin 8) (s : State) : Res := act (recordRead n) s

/-- JOURNAL_ENTRY (R577). -/
def execJournalEntry (ok : Bool) (s : State) : Res := act (journalEntry ok) s

/-- PF_SAVE (R578). -/
def execPfSave (ok : Bool) (s : State) : Res := act (pfSave ok) s

/-- BILLING_RESTORE (R579). -/
def execBillingRestore (s : State) : Res := act billingRestore s

/-- RESTORED_SESSION_END (R580). -/
def execRestoredSessionEnd (s : State) : Res := act restoredSessionEnd s

/-- DISP_LIST (R583). -/
def execDispList (n : Fin 8) (s : State) : Res := act (dispListCmd n) s

/-- DISPLAY_DWELL_EXPIRY (R583). -/
def execDisplayDwellExpiry (s : State) : Res := act displayDwellExpiry s

/-- DISP_STEP (R584). -/
def execDispStep (s : State) : Res := act dispStep s

/-- INFO_SET (R585). -/
def execInfoSet (n : Fin 8) (s : State) : Res := act (infoSet n) s

/-- BIL_SNAP (R587). -/
def execBilSnap (n : Fin 8) (s : State) : Res := act (bilSnap n) s

/-- BIL_SNAP_SEQ_READ (R590). -/
def execBilSnapSeqRead (m : Fin 8) (s : State) : Res := act (busRead m A.BIL_SNAP_SEQ 4) s

end Sys2Proof.Machine
end

