-- ==== Sys2Proof/Machine/CmdCharge.lean ====
section
/-! DEFINITION. The meanings of the commands of the charging interface, residual current and the modem (11). -/
namespace Sys2Proof.Machine

/-- CP_CYCLE_START (R457). -/
def execCpCycleStart (s : State) : Res := act cpCycleStart s

/-- CP_OUT_WRITE (R458). -/
def execCpOutWrite (m : Fin 8) (z : AccSize) (v : Word) (s : State) : Res := act (cpOutWrite m z.bytes v) s

/-- PILOT_SAMPLE (R465). -/
def execPilotSample (hi : Bool) (v : Int) (s : State) : Res := act (pilotSample hi v) s

/-- CP_STALE (R468). -/
def execCpStale (s : State) : Res := act cpStale s

/-- PP_MEASUREMENT (R469). -/
def execPpMeasurement (mv : Nat) (s : State) : Res := act (ppMeasurement mv) s

/-- LOCK_ACT (R470). -/
def execLockAct (n : Fin 8) (fb : Bool) (s : State) : Res := act (lockAct n fb) s

/-- LOCK_LOST (R471). -/
def execLockLost (level : Bool) (s : State) : Res := act (lockLost level) s

/-- CLOSE_REQ (R473). -/
def execCloseReq (m : Fin 8) (s : State) : Res := act (closeReq m) s

/-- ILK_WITHDRAW (R474). -/
def execIlkWithdraw (s : State) : Res := act ilkWithdraw s

/-- OPEN_REQ (R475). -/
def execOpenReq (m : Fin 8) (s : State) : Res := act (openReq m) s

/-- WELD_CLR (R477). -/
def execWeldClr (m : Fin 8) (s : State) : Res := act (weldClr m) s

/-- MIRROR_TELEMETRY (R476). -/
def execMirrorTelemetry (input : Fin 16) (level : Bool) (s : State) : Res := act (mirrorTelemetry input level) s

/-- CLOSE_FAIL (R476). -/
def execCloseFail (s : State) : Res := act closeFail s

/-- WELD_DETECT (R477). -/
def execWeldDetect (s : State) : Res := act weldDetect s

/-- RDC_UPDATE (R480). -/
def execRdcUpdate (v : Int) (s : State) : Res := act (rdcUpdate v) s

/-- RDC_SENSOR (R484). -/
def execRdcSensor (s : State) : Res := act rdcSensor s

/-- RDC_TRIP_CLEAR (R485). -/
def execRdcTripClear (m : Fin 8) (s : State) : Res := act (rdcTripClear m) s

/-- SELFTEST (R486). -/
def execSelftest (n : Fin 8) (s : State) : Res := act (selftest n) s

/-- ST_EXPIRED (R487). -/
def execStExpired (s : State) : Res := act stExpired s

/-- RDC_AC_UPDATE (R489). -/
def execRdcAcUpdate (v : Nat) (s : State) : Res := act (rdcAcUpdate v) s

/-- IMD_PERIOD_END (R492). -/
def execImdPeriodEnd (dvm : Int) (du : Int) (drift : Int) (ampl : Nat) (pe : Bool) (s : State) : Res :=
  act (imdPeriodEnd dvm du drift ampl pe) s

/-- IMD_CONN_FAIL (R495). -/
def execImdConnFail (s : State) : Res := act imdConnFail s

/-- IT_ACTIVE_CHANGE (R497). -/
def execItActiveChange (s : State) : Res := act itActiveChange s

/-- IMD_SETTLING_END (R497). -/
def execImdSettlingEnd (s : State) : Res := act imdSettlingEnd s

/-- BEACON_SEND (R499). -/
def execBeaconSend (s : State) : Res := act beaconSend s

/-- BEACON_LOSS (R499). -/
def execBeaconLoss (s : State) : Res := act beaconLoss s

/-- FRAME_TX (R503). -/
def execFrameTx (n : Fin 8) (transmissions : Nat) (ack : Bool) (s : State) : Res := act (frameTx n transmissions ack) s

/-- FRAME_RX (R503). -/
def execFrameRx (n : Fin 8) (s : State) : Res := act (frameRx n) s

/-- PLM_FRAME_ARRIVAL (R503). -/
def execPlmFrameArrival (beacon : Bool) (frame : List Byte) (encrypted : Bool) (management : Bool) (sound : Option (List Byte × List Nat)) (s : State) : Res :=
  act (plmFrameArrival beacon frame encrypted management sound) s

/-- SOUND_CAPTURE (R501). -/
def execSoundCapture (n : Fin 8) (s : State) : Res := act (soundCapture n) s

/-- CP_LOG (R503). -/
def execCpLog (n : Fin 8) (s : State) : Res := act (cpLog n) s

/-- STATE_WAIT (R503). -/
def execStateWait (n : Fin 8) (s : State) : Res := act (stateWait n) s

/-- RCM_LOG (R503). -/
def execRcmLog (n : Fin 8) (s : State) : Res := act (rcmLog n) s

end Sys2Proof.Machine
end

