-- ==== Sys2Proof/Machine/CmdCheck.lean ====
section
/-! DEFINITION. The meanings of the commands of the configuration check (02). -/
namespace Sys2Proof.Machine

/-- CFC_PASS_START (R109). -/
def execCfcPassStart (s : State) : Res := act cfcPassStart s

/-- CFC_PASS_END (R110). -/
def execCfcPassEnd (s : State) : Res := act cfcPassEndCmd s

/-- CFC_DOMAIN7_RESULT (R112). -/
def execCfcDomain7Result (timely : Bool) (s : State) : Res := act (cfcDomain7Cmd timely) s

/-- CFC_CAPTURE (R113). -/
def execCfcCapture (m : Fin 8) (z : AccSize) (v : Word) (s : State) : Res := act (busWrite m A.CFC_CMD z.bytes v) s

/-- CFC_CTL_WRITE (R109). -/
def execCfcCtlWrite (m : Fin 8) (z : AccSize) (v : Word) (s : State) : Res := act (busWrite m A.CFC_CTL z.bytes v) s

/-- MISMATCH_CLEAR (R111). -/
def execMismatchClear (m : Fin 8) (z : AccSize) (v : Word) (s : State) : Res := act (busWrite m A.CFC_STAT z.bytes v) s

end Sys2Proof.Machine
end

