-- ==== Sys2Proof/Machine/CmdCipher.lean ====
section
/-! DEFINITION. The meanings of the commands of the cipher engines (15). -/
namespace Sys2Proof.Machine

/-- GCM_ENC (R640). -/
def execGcmEnc (n : Fin 8) (s : State) : Res := act (cryRun n 0x10) s

/-- GCM_DEC (R646). -/
def execGcmDec (n : Fin 8) (s : State) : Res := act (cryRun n 0x11) s

/-- CCM_ENC (R640). -/
def execCcmEnc (n : Fin 8) (s : State) : Res := act (cryRun n 0x12) s

/-- CCM_DEC (R646). -/
def execCcmDec (n : Fin 8) (s : State) : Res := act (cryRun n 0x13) s

/-- CTR_ENC (R640). -/
def execCtrEnc (n : Fin 8) (s : State) : Res := act (cryRun n 0x14) s

/-- CTR_DEC (R641). -/
def execCtrDec (n : Fin 8) (s : State) : Res := act (cryRun n 0x15) s

/-- CMAC (R647). -/
def execCmac (n : Fin 8) (s : State) : Res := act (cryRun n 0x16) s

/-- SHA256 (R648). -/
def execSha256 (n : Fin 8) (s : State) : Res := act (cryRun n 0x18) s

/-- SHA384 (R648). -/
def execSha384 (n : Fin 8) (s : State) : Res := act (cryRun n 0x19) s

/-- HMAC256 (R648). -/
def execHmac256 (n : Fin 8) (s : State) : Res := act (cryRun n 0x1A) s

/-- HMAC384 (R648). -/
def execHmac384 (n : Fin 8) (s : State) : Res := act (cryRun n 0x1B) s

/-- CRY_CTX_LOST (R645). -/
def execCryCtxLost (n : Fin 8) (s : State) : Res := act (cryCtxLost n) s

/-- ECDSA_SIGN (R653). -/
def execEcdsaSign (n : Fin 8) (faulty : Bool) (s : State) : Res := act (ecdsaSign n faulty) s

/-- ECDSA_VERIFY (R654). -/
def execEcdsaVerify (n : Fin 8) (s : State) : Res := act (ecdsaVerify n) s

/-- ECDH (R654). -/
def execEcdh (n : Fin 8) (s : State) : Res := act (ecdh n) s

/-- EPH_GEN (R655). -/
def execEphGen (n : Fin 8) (s : State) : Res := act (ephGen n) s

/-- ECDH_EPH (R655). -/
def execEcdhEph (n : Fin 8) (s : State) : Res := act (ecdhEph n) s

/-- ED448_SIGN (R651). -/
def execEd448Sign (n : Fin 8) (faulty : Bool) (s : State) : Res := act (ed448Sign n faulty) s

/-- ED448_VERIFY (R651). -/
def execEd448Verify (n : Fin 8) (s : State) : Res := act (ed448Verify n) s

/-- RAND (R664). -/
def execRand (n : Fin 8) (s : State) : Res := act (rand n) s

/-- TRNG_STARTUP (R660). -/
def execTrngStartup (health : Bool) (kat : Bool) (s : State) : Res := act (trngStartup health kat) s

/-- TRNG_HEALTH (R658). -/
def execTrngHealth (apt : Bool) (s : State) : Res := act (trngHealth apt) s

/-- DRBG_RESEED (R662). -/
def execDrbgReseed (s : State) : Res := act drbgReseed s

end Sys2Proof.Machine
end

