-- ==== Sys2Proof/Machine/CmdClocks.lean ====
section
/-! DEFINITION. The meanings of the commands of clocks and the time base (05). -/
namespace Sys2Proof.Machine

/-- CLK_DOM_WRITE (R203). -/
def execClkDomWrite (m : Fin 8) (n : Fin 28) (z : AccSize) (v : Word) (s : State) : Res := act (clkDomWrite m n z.bytes v) s

/-- SSC_BOUNDARY (R209). -/
def execSscBoundary (s : State) : Res := act sscBoundary s

/-- CLK_MONITOR_GATE (R220). -/
def execClkMonitorGate (n : Fin 7) (count : BitVec 16) (s : State) : Res := act (clkMonitorGate n count.toNat) s

/-- XO_FAIL (R221). -/
def execXoFail (s : State) : Res := act xoFail s

/-- RC_RELOCK (R221). -/
def execRcRelock (s : State) : Res := act rcRelock s

/-- PLL_UNLOCK (R222). -/
def execPllUnlock (k : Fin 3) (s : State) : Res := act (pllUnlock k) s

/-- PLL_RELOCK (R222). -/
def execPllRelock (k : Fin 3) (s : State) : Res := act (pllRelock k) s

/-- CLK_LIMP (R222). -/
def execClkLimp (s : State) : Res := act clkLimp s

/-- UPLL_RECOVERED (R223). -/
def execUpllRecovered (s : State) : Res := act upllRecovered s

/-- LF_FAIL (R224). -/
def execLfFail (s : State) : Res := act lfFailCmd s

/-- XO_READOPT (R225). -/
def execXoReadopt (m : Fin 8) (z : AccSize) (v : Word) (s : State) : Res := act (xoReadopt m z.bytes v) s

/-- XO_RELOCK (R225). -/
def execXoRelock (s : State) : Res := act xoRelock s

/-- LF_MEASUREMENT (R217). -/
def execLfMeasurement (ticks : Word) (s : State) : Res := act (lfMeasurement ticks.toNat) s

/-- TB_LO_READ (R218). -/
def execTbLoRead (m : Fin 8) (s : State) : Res := act (busRead m A.TB_LO 4) s

/-- TB_CMP_FIRE (R238). -/
def execTbCmpFire (c : Fin 8) (s : State) : Res := act (tbCmpFire c) s

/-- TB_CMP_ARM (R238). -/
def execTbCmpArm (m : Fin 8) (c : Fin 8) (z : AccSize) (v : Word) (s : State) : Res := act (tbCmpArm m c z.bytes v) s

/-- PAD_CFG_WRITE (R230). -/
def execPadCfgWrite (m : Fin 8) (z : AccSize) (v : Word) (s : State) : Res := act (padCfgWrite m z.bytes v) s

/-- MEASURE (R234). -/
def execMeasure (n : Fin 8) (count : Nat) (s : State) : Res := act (measure n count) s

/-- ALARM (R235). -/
def execAlarm (n : Fin 8) (s : State) : Res := act (alarm n) s

/-- SNAPSHOT (R236). -/
def execSnapshot (n : Fin 8) (s : State) : Res := act (snapshot n) s

end Sys2Proof.Machine
end

