-- ==== Sys2Proof/Machine/CmdContracts.lean ====
section
/-! DEFINITION. The meanings of the commands of adaptive loops, commit gates, scrubbing, flash and telemetry (04). -/
namespace Sys2Proof.Machine

/-- LOOP_STEP (R151). -/
def execLoopStep (w : Win) (n : Fin 16) (margin : Nat) (s : State) : Res := act (loopStepCmd w n margin) s

/-- LOOP_BOUND_WRITE (R155). -/
def execLoopBoundWrite (m : Fin 8) (w : Win) (n : Fin 16) (hi : Bool) (z : AccSize) (v : Word) (s : State) : Res :=
  act (loopWindowWrite m w n (if hi then 8 else 4) z.bytes v) s

/-- LOOP_POS_WRITE (R157). -/
def execLoopPosWrite (m : Fin 8) (w : Win) (n : Fin 16) (z : AccSize) (v : Word) (s : State) : Res :=
  act (loopWindowWrite m w n 12 z.bytes v) s

/-- LOOP_MODE_WRITE (R158). -/
def execLoopModeWrite (m : Fin 8) (w : Win) (n : Fin 16) (z : AccSize) (v : Word) (s : State) : Res :=
  act (loopWindowWrite m w n 0 z.bytes v) s

/-- FAIRNESS_SLOT (R163). -/
def execFairnessSlot (w : Win) (s : State) : Res := act (fairnessSlot w) s

/-- GATE_CMT (R170). -/
def execGateCmt (m : Fin 8) (w : Win) (g : Fin 3) (z : AccSize) (v : Word) (s : State) : Res :=
  act (gateWrite m w g 8 z.bytes v) s

/-- GATE_DEADLINE (R173). -/
def execGateDeadline (w : Win) (g : Fin 3) (s : State) : Res := act (gateDeadlineCmd w g) s

/-- ESCALATED_CLEAR (R177). -/
def execEscalatedClear (m : Fin 8) (w : Win) (g : Fin 3) (z : AccSize) (v : Word) (s : State) : Res :=
  act (gateWrite m w g 4 z.bytes v) s

/-- SCR_PASS_START (R180). -/
def execScrPassStart (s : State) : Res := act scrPassStart s

/-- SCR_WORD_READ (R181). -/
def execScrWordRead (s : State) : Res := act scrWordRead s

/-- SCR_PASS_LATE (R184). -/
def execScrPassLate (s : State) : Res := act scrPassLate s

/-- SCRUB_RANGE (R185). -/
def execScrubRange (n : Fin 8) (s : State) : Res := act (scrubRange n) s

/-- FL_PROGRAM (R189). -/
def execFlProgram (n : Fin 8) (s : State) : Res := act (flProgram n) s

/-- FL_ERASE (R195). -/
def execFlErase (n : Fin 8) (s : State) : Res := act (flErase n) s

/-- FL_WEAR (R195). -/
def execFlWear (n : Fin 8) (s : State) : Res := act (flWear n) s

/-- FLC_STEP_DONE (R188). -/
def execFlcStepDone (ok : Bool) (last : Bool) (s : State) : Res := act (flcStepDone ok last) s

/-- FLC_REFRESH_SPAN (R193). -/
def execFlcRefreshSpan (diff : Nat) (s : State) : Res := act (flcRefreshSpan diff) s

/-- TLM_FRAME (R196). -/
def execTlmFrame (s : State) : Res := act tlmFrame s

/-- TLM_LIST_FORWARD (R196). -/
def execTlmListForward (s : State) : Res := act tlmListForward s

/-- PD_TELEMETRY_SEND (R196). -/
def execPdTelemetrySend (n : Fin 16) (value : BitVec 16) (s : State) : Res := act (pdTelemetrySend n value.toNat) s

/-- TLM_STALE (R197). -/
def execTlmStale (n : Fin 16) (s : State) : Res := act (tlmStale n) s

/-- TLM_STREAM (R198). -/
def execTlmStream (n : Fin 8) (s : State) : Res := act (tlmStream n) s

end Sys2Proof.Machine
end

