-- ==== Sys2Proof/Machine/CmdDebug.lean ====
section
/-! DEFINITION. The meanings of the commands of the test access port (19). -/
namespace Sys2Proof.Machine

/-- JTAG_AUTH (R832). -/
def execJtagAuth (response : Option (Word × List Byte × List Byte)) (s : State) : Res := act (jtagAuth response) s

/-- JTAG_DBG_ACCESS (R833). -/
def execJtagDbgAccess (o : DbgOp) (s : State) : Res := act (jtagDbgAccess o) s

/-- JTAG_BOUNDARY_SCAN (R834). -/
def execJtagBoundaryScan (s : State) : Res := act jtagBoundaryScan s

/-- DBG_END (R835). -/
def execDbgEnd (s : State) : Res := act dbgEnd s

end Sys2Proof.Machine
end

