-- ==== Sys2Proof/Machine/CmdEngine.lean ====
section
/-! DEFINITION. The meanings of the commands of the engine units (09). -/
namespace Sys2Proof.Machine

/-- VR_EDGE (R363). -/
def execVrEdge (n : Fin 2) (peak : BitVec 16) (noise : BitVec 16) (s : State) : Res := act (vrEdge n peak.toNat noise.toNat) s

/-- HALL_EDGE (R367). -/
def execHallEdge (h : Fin 4) (level : Bool) (s : State) : Res := act (hallEdge h level) s

/-- SENS_FAULT (R368). -/
def execSensFault (n : Fin 2) (code : Fin 4) (s : State) : Res := act (sensFault n code) s

/-- SAR_TRIGGER (R371). -/
def execSarTrigger (line : Fin 4) (delay : Fin 3) (s : State) : Res := act (sarTrigger line delay) s

/-- SAR_CONVERSION_DONE (R373). -/
def execSarConversionDone (c : Fin 2) (value : BitVec 12) (s : State) : Res := act (sarConversionDone c value.toNat) s

/-- SAR_PERIODIC (R370). -/
def execSarPeriodic (s : State) : Res := act sarPeriodic s

/-- SAR_SWTRIG (R370). -/
def execSarSwtrig (m : Fin 8) (z : AccSize) (v : Word) (s : State) : Res := act (sarSwtrig m z.bytes v) s

/-- SAR_CAL_STEP (R372). -/
def execSarCalStep (fits : Bool) (s : State) : Res := act (sarCalStep fits) s

/-- KNOCK_SAMPLE (R374). -/
def execKnockSample (x : Int) (y0 : Int) (y1 : Int) (s : State) : Res := act (knockSample x y0 y1) s

/-- KNOCK_WINDOW_CLOSE (R376). -/
def execKnockWindowClose (s : State) : Res := act knockWindowClose s

/-- KNOCK_WINDOW (R376). -/
def execKnockWindow (n : Fin 8) (s : State) : Res := act (knockWindow n) s

/-- SAR_STREAM (R409). -/
def execSarStream (n : Fin 8) (s : State) : Res := act (sarStream n) s

/-- OPD_LOG (R409). -/
def execOpdLog (n : Fin 8) (s : State) : Res := act (opdLog n) s

/-- COIL_LOG (R409). -/
def execCoilLog (n : Fin 8) (s : State) : Res := act (coilLog n) s

/-- LAM_LOG (R409). -/
def execLamLog (n : Fin 8) (s : State) : Res := act (lamLog n) s

/-- LAM_PERIOD (R379). -/
def execLamPeriod (nernst : Nat) (ri : Nat) (nb : Nat) (sat : Bool) (s : State) : Res := act (lamPeriod nernst ri nb sat) s

/-- LAM_PUMP_STG_WRITE (R381). -/
def execLamPumpStgWrite (m : Fin 8) (z : AccSize) (v : Word) (s : State) : Res := act (lamPumpStgWrite m z.bytes v) s

/-- INJECTOR_OVERCURRENT (R385). -/
def execInjectorOvercurrent (c : Fin 4) (s : State) : Res := act (injectorOvercurrent c) s

/-- INJ_DIAG_CHANGE (R386). -/
def execInjDiagChange (c : Fin 4) (st : Fin 5) (s : State) : Res := act (injDiagChange c st) s

/-- OPENING_POINT_FRAME (R389). -/
def execOpeningPointFrame (c : Fin 4) (lost : Bool) (s : State) : Res := act (openingPointFrame c lost) s

/-- OPENING_DELAY_STEP (R388). -/
def execOpeningDelayStep (c : Fin 4) (measured : Nat) (s : State) : Res := act (openingDelayStep c measured) s

/-- FUEL_INJECTION_END (R390). -/
def execFuelInjectionEnd (s : State) : Res := act fuelInjectionEnd s

/-- FUEL_CYCLE (R391). -/
def execFuelCycle (s : State) : Res := act fuelCycle s

/-- IGN_TMAX (R397). -/
def execIgnTmax (c : Fin 4) (s : State) : Res := act (ignTmax c) s

/-- IGN_DIAG_CHANGE (R397). -/
def execIgnDiagChange (c : Fin 4) (st : Fin 5) (s : State) : Res := act (ignDiagChange c st) s

/-- SOFT_ABORT_RAMP_END (R396). -/
def execSoftAbortRampEnd (c : Fin 4) (s : State) : Res := act (softAbortRampEnd c) s

/-- HB_PERIOD (R399). -/
def execHbPeriod (b : Fin 4) (cur : Int) (s : State) : Res := act (bridgePeriod b cur) s

/-- HB_STG_WRITE (R400). -/
def execHbStgWrite (m : Fin 8) (b : Fin 4) (z : AccSize) (v : Word) (s : State) : Res := act (hbStgWrite m b z.bytes v) s

/-- HB_OVERCURRENT (R401). -/
def execHbOvercurrent (b : Fin 4) (s : State) : Res := act (hbOvercurrent b) s

/-- HB_FAULT (R401). -/
def execHbFault (b : Fin 4) (ot : Bool) (s : State) : Res := act (hbFault b ot) s

/-- STEP_MOVE (R410). -/
def execStepMove (n : Fin 8) (k : Nat) (s : State) : Res := act (stepMove n k) s

/-- STEP_PAUSE (R403). -/
def execStepPause (s : State) : Res := act stepPause s

end Sys2Proof.Machine
end

