-- ==== Sys2Proof/Machine/CmdEvents.lean ====
section
/-! DEFINITION. The meanings of the commands of the event router, semaphores and mailboxes (03). -/
namespace Sys2Proof.Machine

/-- EVENT_ASSERT (R124). -/
def execEventAssert (src : Fin 1216) (s : State) : Res := act (eventAssert src) s

/-- EVR_ACK (R128). -/
def execEvrAck (m : Fin 8) (z : AccSize) (v : Word) (s : State) : Res := act (busWrite m A.EVR_ACK z.bytes v) s

/-- EVR_SWEV (R130). -/
def execEvrSwev (m : Fin 8) (z : AccSize) (v : Word) (s : State) : Res := act (busWrite m A.EVR_SWEV z.bytes v) s

/-- EVR_ROUTE_WRITE (R120). -/
def execEvrRouteWrite (m : Fin 8) (z : AccSize) (v : Word) (s : State) : Res := act (busWrite m A.EVR_RT_DATA z.bytes v) s

/-- WAIT (R131). -/
def execWait (n : Fin 8) (s : State) : Res := act (evrWait n) s

/-- WAIT_SOURCE_ASSERTED (R131). -/
def execWaitSourceAsserted (n : Fin 8) (s : State) : Res := act (evrWaitHit n) s

/-- WAIT_TIMEOUT (R131). -/
def execWaitTimeout (n : Fin 8) (s : State) : Res := act (evrWaitTimeout n) s

/-- RAISE (R133). -/
def execRaise (n : Fin 8) (s : State) : Res := act (evrRaise n) s

/-- SEM_ACQUIRE (R136). -/
def execSemAcquire (m : Fin 8) (n : Fin 64) (z : AccSize) (wait : Bool) (s : State) : Res := act (semAcquire m n z.bytes wait) s

/-- SEM_RELEASE (R136). -/
def execSemRelease (m : Fin 8) (n : Fin 64) (z : AccSize) (s : State) : Res := act (semRelease m n z.bytes) s

/-- SEM_RELEASE_REPAIRED (R140). -/
def execSemReleaseRepaired (m : Fin 8) (n : Fin 64) (z : AccSize) (s : State) : Res := act (semReleaseRepaired m n z.bytes) s

/-- SEM_FORCE_ORPHAN (R136). -/
def execSemForceOrphan (m : Fin 8) (n : Fin 64) (z : AccSize) (s : State) : Res := act (semForceOrphan m n z.bytes) s

/-- MBX_DATA_WRITE (R141). -/
def execMbxDataWrite (m : Fin 8) (k : Fin 8) (z : AccSize) (v : Word) (s : State) : Res := act (mbxDataWrite m k z.bytes v) s

/-- MBX_FULL_CLEAR (R142). -/
def execMbxFullClear (m : Fin 8) (k : Fin 8) (s : State) : Res := act (busWrite m (A.MBX_STAT k) 4 1#32) s

/-- MBX_OVF_DROP_CLEAR (R143). -/
def execMbxOvfDropClear (m : Fin 8) (k : Fin 8) (ovf : Bool) (drop : Bool) (s : State) : Res :=
  act (busWrite m (A.MBX_STAT k) 4 (setBit (setBit 0#32 1 ovf) 2 drop)) s

/-- CORE_RESET (R145). -/
def execCoreReset (c : Fin 7) (s : State) : Res := act (oneCoreReset c) s

end Sys2Proof.Machine
end

