-- ==== Sys2Proof/Machine/CmdFabric.lean ====
section
/-! DEFINITION. The meanings of the commands of core accesses (01) and the order within a cycle (R880). -/
namespace Sys2Proof.Machine

/-- CORE_MEMORY_ACCESS (R53). -/
def execCoreMemoryAccess (m : Fin 8) (o : CoreOp) (user : Bool) (a : Word) (z : AccSize) (v : Word) (s : State) : Res :=
  act (coreOperation m o user a z.bytes v) s

/-- AMO_INSTRUCTION (R47). -/
def execAmoInstruction (m : Fin 8) (o : AmoOp) (a : Word) (v : Word) (s : State) : Res := act (amoInstruction m o a.toNat v) s

/-- FENCE_I (R50). -/
def execFenceI (m : Fin 8) (s : State) : Res := act (fun s => if s.mayIssue m then fenceI m s else s) s

/-- TIME_CSR_WRITE (R48). -/
def execTimeCsrWrite (m : Fin 8) (s : State) : Res := act (fun s => if s.mayIssue m then timeCsrWrite m s else s) s

/-- MISALIGNED_ACCESS (R46). -/
def execMisalignedAccess (m : Fin 8) (isStore : Bool) (s : State) : Res :=
  act (fun s => if s.mayIssue m then misalignedAccess m isStore s else s) s

/-- HAPPENINGS_ORDER (R880). -/
def execHappeningsOrder (paths : List AsyncPath) (samples : List CycleSample) (accesses : List BusAccess) (updates : List HwUpdate) (s : State) : Res :=
  act (happeningsOrder paths samples accesses updates) s

end Sys2Proof.Machine
end

