-- ==== Sys2Proof/Machine/CmdKeyVault.lean ====
section
/-! DEFINITION. The meanings of the commands of keys, tamper and the calendar (14). -/
namespace Sys2Proof.Machine

/-- KEY_READY (R603). -/
def execKeyReady (s : State) : Res := act keyReadyCmd s

/-- ROOT_NEW (R595). -/
def execRootNew (s : State) : Res := act rootNew s

/-- KEY_REQUEST (R606). -/
def execKeyRequest (w : Win) (n : Fin 8) (upset : Bool) (s : State) : Res := act (keyRequestCmd w n upset) s

/-- KEY_PATROL (R609). -/
def execKeyPatrol (upset : Bool) (s : State) : Res := act (keyPatrol upset) s

/-- KEY_UPDATE (R614). -/
def execKeyUpdate (n : Fin 8) (ok : Bool) (s : State) : Res := act (keyUpdate n ok) s

/-- PUBKEY_READ (R632). -/
def execPubkeyRead (n : Fin 8) (s : State) : Res := act (pubkeyRead n) s

/-- TAMPER_EVENT (R620). -/
def execTamperEvent (src : Fin 8) (stands : Bool) (s : State) : Res := act (tamperEventCmd src stands) s

/-- TAMPER_SAMPLE (R618). -/
def execTamperSample (balls : BitVec 4) (meshIn : Bool) (s : State) : Res := act (tamperSample balls meshIn) s

/-- CALENDAR_SECOND (R624). -/
def execCalendarSecond (s : State) : Res := act calendarSecond s

/-- CLOCK_SET (R627). -/
def execClockSet (n : Fin 8) (s : State) : Res := act (clockSet n) s

/-- CALENDAR_SECONDS_READ (R625). -/
def execCalendarSecondsRead (m : Fin 8) (sub : BitVec 15) (s : State) : Res :=
  act (fun s => if s.mayIssue m then calendarSecondsRead m sub.toNat s else s) s

end Sys2Proof.Machine
end

