-- ==== Sys2Proof/Machine/CmdLink.lean ====
section
/-! DEFINITION. The meanings of the commands of the Lameo link and the dies' wires (01). -/
namespace Sys2Proof.Machine

/-- PD_REGISTER_READ (R28). -/
def execPdRegisterRead (m : Fin 8) (a : Word) (z : AccSize) (s : State) : Res := act (pdRegisterRead m a.toNat z.bytes) s

/-- PD_REGISTER_WRITE (R29). -/
def execPdRegisterWrite (m : Fin 8) (a : Word) (z : AccSize) (v : Word) (s : State) : Res :=
  act (pdRegisterWrite m a.toNat z.bytes v) s

/-- LINK_REQUEST_SEND (R30). -/
def execLinkRequestSend (s : State) : Res := act linkRequestSend s

/-- LINK_RESPONSE_FRAME (R26). -/
def execLinkResponseFrame (crcOk : Bool) (s : State) : Res := act (linkResponseFrame crcOk) s

/-- LINK_RESPONSE_TIMEOUT (R26). -/
def execLinkResponseTimeout (s : State) : Res := act linkResponseTimeout s

/-- PD_REQUEST_FRAME (R27). -/
def execPdRequestFrame (crcOk : Bool) (s : State) : Res := act (pdRequestFrame crcOk) s

/-- KEEPALIVE_SEND (R23). -/
def execKeepaliveSend (fromPd : Bool) (s : State) : Res := act (keepaliveSend fromPd) s

/-- KEEPALIVE_RECEIVED (R35). -/
def execKeepaliveReceived (atPd : Bool) (s : State) : Res := act (keepaliveReceived atPd) s

/-- LINK_LOSS_CD (R36). -/
def execLinkLossCd (s : State) : Res := act linkLossCd s

/-- LINK_LOSS_PD (R35). -/
def execLinkLossPd (s : State) : Res := act linkLossPd s

/-- LINK_RETRAINED (R36). -/
def execLinkRetrained (s : State) : Res := act linkRetrained s

/-- GRACE_EXPIRY (R39). -/
def execGraceExpiry (s : State) : Res := act graceExpiry s

/-- PD_RESET (R41). -/
def execPdReset (s : State) : Res := act pdReset s

/-- RESUME (R40). -/
def execResume (m : Fin 8) (s : State) : Res := act (resumeWrite m) s

/-- LML_CTL_WRITE (R40). -/
def execLmlCtlWrite (m : Fin 8) (z : AccSize) (v : Word) (s : State) : Res := act (busWrite m A.LML_CTL z.bytes v) s

/-- SAFETY_TRIP_WIRE (R19). -/
def execSafetyTripWire (b : Bool) (s : State) : Res := act (safetyTripWire b) s

/-- DWELL_ABORT_WIRE (R20). -/
def execDwellAbortWire (c : Fin 4) (s : State) : Res := act (dwellAbortWire c) s

/-- PD_FAULT (R43). -/
def execPdFault (s : State) : Res := act pdFault s

end Sys2Proof.Machine
end

