-- ==== Sys2Proof/Machine/CmdLoad.lean ====
section
/-! DEFINITION. The meanings of the commands of the load switches (18). -/
namespace Sys2Proof.Machine

/-- LS_SET (R763). -/
def execLsSet (m : Fin 8) (z : AccSize) (v : Word) (s : State) : Res := act (lsSet m z.bytes v) s

/-- LS_CLR (R763). -/
def execLsClr (m : Fin 8) (z : AccSize) (v : Word) (s : State) : Res := act (lsClr m z.bytes v) s

/-- LS_LCLR (R769). -/
def execLsLclr (m : Fin 8) (z : AccSize) (v : Word) (s : State) : Res := act (lsLclr m z.bytes v) s

/-- LS_FORWARD (R765). -/
def execLsForward (s : State) : Res := act lsForwardCmd s

/-- LSIN_EDGE (R762). -/
def execLsinEdge (n : Fin 16) (level : Bool) (s : State) : Res := act (lsinEdge n level) s

/-- LS_CURRENT_LIMIT (R766). -/
def execLsCurrentLimit (n : Fin 16) (limited : Bool) (temp : Int) (s : State) : Res := act (lsCurrentLimit n limited temp) s

/-- LS_RESTART (R767). -/
def execLsRestart (n : Fin 16) (temp : Int) (s : State) : Res := act (lsRestart n temp) s

/-- RST_CNT_CLEAR (R768). -/
def execRstCntClear (n : Fin 16) (s : State) : Res := act (rstCntClear n) s

/-- LS_DERATE_STEP (R770). -/
def execLsDerateStep (n : Fin 16) (temp : Int) (s : State) : Res := act (lsDerateStep n temp) s

/-- LS_OVERLOAD (R771). -/
def execLsOverload (n : Fin 16) (s : State) : Res := act (lsOverload n) s

/-- LS_OFF_TEST (R774). -/
def execLsOffTest (n : Fin 16) (stbHigh : Bool) (olHigh : Bool) (s : State) : Res := act (lsOffTest n stbHigh olHigh) s

/-- LS_CURRENT_SAMPLE (R777). -/
def execLsCurrentSample (n : Fin 16) (code : BitVec 12) (seq : BitVec 8) (s : State) : Res :=
  act (lsCurrentSample n code.toNat seq.toNat) s

/-- CUR_STREAM (R783). -/
def execCurStream (n : Fin 8) (s : State) : Res := act (curStream n) s

/-- DIAG_WAIT (R783). -/
def execDiagWait (n : Fin 8) (s : State) : Res := act (diagWait n) s

/-- DIAG_SNAP (R783). -/
def execDiagSnap (n : Fin 8) (s : State) : Res := act (diagSnap n) s

end Sys2Proof.Machine
end

