-- ==== Sys2Proof/Machine/CmdMeter.lean ====
section
/-! DEFINITION. The meanings of the commands of metrology (12). -/
namespace Sys2Proof.Machine

/-- MET_CONVERTER_START (R512). -/
def execMetConverterStart (cal : List (Int × Int × Int)) (s : State) : Res := act (metConverterStart cal) s

/-- MET_SAMPLE (R528). -/
def execMetSample (codes : List Int) (delayed : List Int) (s : State) : Res := act (metSample codes delayed) s

/-- MET_WINDOW (R526). -/
def execMetWindow (freq : Nat) (qs : List Int) (s : State) : Res := act (metWindow freq qs) s

/-- REEL_PHASE (R513). -/
def execReelPhase (avg : Int) (s : State) : Res := act (reelPhase avg) s

/-- REEL_OVERLAP_START (R518). -/
def execReelOverlapStart (s : State) : Res := act reelOverlapStart s

/-- REEL_TAKEOVER (R515). -/
def execReelTakeover (delay : Int) (s : State) : Res := act (reelTakeover delay) s

/-- CONVERTER_STUCK (R522). -/
def execConverterStuck (c : Fin 7) (s : State) : Res := act (converterStuck c) s

/-- CLK_DOUBT_CHG (R533). -/
def execClkDoubtChg (s : State) : Res := act clkDoubtChg s

/-- SEAL_OPENING (R536). -/
def execSealOpening (ok : Bool) (s : State) : Res := act (sealOpening ok) s

/-- SEAL_CLOSING (R541). -/
def execSealClosing (s : State) : Res := act sealClosing s

/-- SL_WRITE (R540). -/
def execSlWrite (m : Fin 8) (z : AccSize) (v : Word) (s : State) : Res := act (slWrite m z.bytes v) s

/-- MET_PARAM_DATA_WRITE (R544). -/
def execMetParamDataWrite (m : Fin 8) (v : Word) (s : State) : Res := act (slWrite m 4 v) s

/-- CAL_STEP (R545). -/
def execCalStep (n : Fin 8) (meas : Int) (h1 : Int) (h2 : Int) (freq : Nat) (s : State) : Res :=
  act (calStep n meas h1 h2 freq) s

/-- CAL_COMMIT (R546). -/
def execCalCommit (n : Fin 8) (s : State) : Res := act (calCommit n) s

/-- MET_SNAP (R554). -/
def execMetSnap (n : Fin 8) (s : State) : Res := act (metSnap n) s

/-- WAVE_CAPTURE (R554). -/
def execWaveCapture (n : Fin 8) (s : State) : Res := act (waveCapture n) s

/-- LOG_READ (R554). -/
def execLogRead (n : Fin 8) (s : State) : Res := act (logRead n) s

/-- MET_SNAP_SEQ_READ (R552). -/
def execMetSnapSeqRead (m : Fin 8) (s : State) : Res := act (busRead m A.MET_SNAP_SEQ 4) s

/-- M_STOP (R507). -/
def execMStop (s : State) : Res := act mStop s

end Sys2Proof.Machine
end

