-- ==== Sys2Proof/Machine/CmdPort.lean ====
section
/-! DEFINITION. The meanings of the commands of Ethernet, SPI, I2C and USB (19). -/
namespace Sys2Proof.Machine

/-- ETH_TX (R816). -/
def execEthTx (outcome : Fin 3) (sfd : Nat) (s : State) : Res := act (ethTx outcome sfd) s

/-- ETH_RX (R818). -/
def execEthRx (s : State) : Res := act ethRx s

/-- ETH_FRAME_RECEIVED (R817). -/
def execEthFrameReceived (frame : List Byte) (fcsOk : Bool) (sfd : Nat) (s : State) : Res :=
  act (ethFrameReceived frame fcsOk sfd) s

/-- MDIO (R819). -/
def execMdio (data : BitVec 16) (s : State) : Res := act (mdio data.toNat) s

/-- SPI_XFER (R821). -/
def execSpiXfer (p : Fin 3) (n : Fin 2) (rx : List Byte) (filled : Bool) (s : State) : Res := act (spiXfer p n rx filled) s

/-- SPI_PSEL_RISE (R822). -/
def execSpiPselRise (p : Fin 3) (n : Fin 2) (s : State) : Res := act (spiPselRise p n) s

/-- SPI_PERIPHERAL_WORD (R822). -/
def execSpiPeripheralWord (p : Fin 3) (s : State) : Res := act (spiPeripheralWord p) s

/-- I2C_WRITE (R824). -/
def execI2cWrite (p : Fin 2) (e : I2cEnd) (s : State) : Res := act (i2cWrite p e) s

/-- I2C_READ (R824). -/
def execI2cRead (p : Fin 2) (e : I2cEnd) (rx : List Byte) (s : State) : Res := act (i2cRead p e rx) s

/-- I2C_WRITE_READ (R824). -/
def execI2cWriteRead (p : Fin 2) (e : I2cEnd) (rx : List Byte) (s : State) : Res := act (i2cWriteRead p e rx) s

/-- BUS_CLEAR (R824). -/
def execBusClear (p : Fin 2) (sda : Bool) (s : State) : Res := act (i2cBusClear p sda) s

/-- I2C_SCL_TIMEOUT (R824). -/
def execI2cSclTimeout (p : Fin 2) (s : State) : Res := act (i2cSclTimeout p) s

/-- I2C_TARGET_ADDRESSED (R825). -/
def execI2cTargetAddressed (p : Fin 2) (addr : BitVec 10) (general : Bool) (rd : Bool) (s : State) : Res :=
  act (i2cTargetAddressed p addr.toNat general rd) s

/-- TGT_RX (R825). -/
def execTgtRx (p : Fin 2) (data : List Byte) (s : State) : Res := act (tgtRx p data) s

/-- TGT_TX (R825). -/
def execTgtTx (p : Fin 2) (k : Nat) (s : State) : Res := act (tgtTx p k) s

/-- SETUP_WAIT (R829). -/
def execSetupWait (pkt : List Byte) (s : State) : Res := act (setupWait pkt) s

/-- EP0_IN (R829). -/
def execEp0In (s : State) : Res := act ep0In s

/-- EP0_OUT (R829). -/
def execEp0Out (pkt : List Byte) (s : State) : Res := act (ep0Out pkt) s

/-- IN_XFER (R829). -/
def execInXfer (n : Fin 4) (s : State) : Res := act (inXfer n) s

/-- OUT_XFER (R829). -/
def execOutXfer (n : Fin 4) (pkt : List Byte) (s : State) : Res := act (outXfer n pkt) s

/-- USB_BUS_RESET (R827). -/
def execUsbBusReset (s : State) : Res := act usbBusReset s

/-- USB_SUSPEND (R827). -/
def execUsbSuspend (s : State) : Res := act usbSuspend s

/-- USB_RESUME (R827). -/
def execUsbResume (m : Fin 8) (z : AccSize) (v : Word) (s : State) : Res := act (usbResume m z.bytes v) s

/-- USB_HOST_RESUME (R827). -/
def execUsbHostResume (s : State) : Res := act usbHostResume s

/-- USB_SOF (R827). -/
def execUsbSof (frame : BitVec 11) (s : State) : Res := act (usbSof frame.toNat) s

/-- USB_ADDR_WRITE (R828). -/
def execUsbAddrWrite (s : State) : Res := act usbAddrWrite s

/-- USB_VBUS_CHANGE (R827). -/
def execUsbVbusChange (level : Bool) (s : State) : Res := act (usbVbusChange level) s

/-- PORT_CLK_LOST (R836). -/
def execPortClkLost (p : Fin 4) (s : State) : Res := act (portClkLost p) s

/-- PORT_CLK_RESTORED (R836). -/
def execPortClkRestored (p : Fin 4) (s : State) : Res := act (portClkRestored p) s

end Sys2Proof.Machine
end

