-- ==== Sys2Proof/Machine/CmdPower.lean ====
section
/-! DEFINITION. The meanings of the commands of power, resets and start (06, 20, 21). -/
namespace Sys2Proof.Machine

/-- PWR_REQ_WRITE (R242). -/
def execPwrReqWrite (m : Fin 8) (z : AccSize) (v : Word) (s : State) : Res := act (pwrReqWrite m z.bytes v) s

/-- DOMAIN_POWER_UP (R246). -/
def execDomainPowerUp (n : Fin 24) (s : State) : Res := act (domainPowerUp n) s

/-- DOMAIN_POWER_DOWN (R244). -/
def execDomainPowerDown (n : Fin 24) (s : State) : Res := act (domainPowerDown n) s

/-- DOMAIN_SET (R278). -/
def execDomainSet (n : Fin 8) (s : State) : Res := act (domainSet n) s

/-- SUPPLY_SNAP (R279). -/
def execSupplySnap (n : Fin 8) (vin : Nat) (vio : Nat) (vcore : Nat) (temp : Int) (s : State) : Res :=
  act (supplySnap n vin vio vcore temp) s

/-- CORE_LOAD (R280). -/
def execCoreLoad (n : Fin 8) (s : State) : Res := act (coreLoad n) s

/-- CORE_RELEASE (R280). -/
def execCoreRelease (n : Fin 8) (s : State) : Res := act (coreRelease n) s

/-- CORE_CTL_WRITE (R266). -/
def execCoreCtlWrite (m : Fin 8) (z : AccSize) (v : Word) (s : State) : Res := act (coreCtlWrite m z.bytes v) s

/-- SYS_RESET (R265). -/
def execSysReset (m : Fin 8) (z : AccSize) (v : Word) (s : State) : Res := act (sysReset m z.bytes v) s

/-- PIN_RESET (R262). -/
def execPinReset (s : State) : Res := act pinReset s

/-- RESET_N_RELEASE (R262). -/
def execResetNRelease (s : State) : Res := act resetNRelease s

/-- BOR_RESET (R261). -/
def execBorReset (vio : Bool) (s : State) : Res := act (borReset vio) s

/-- BOR_RELEASE (R261). -/
def execBorRelease (s : State) : Res := act borRelease s

/-- VLT_POR (R261). -/
def execVltPor (s : State) : Res := act vltPor s

/-- WDT_KICK (R268). -/
def execWdtKick (m : Fin 8) (c : Fin 5) (z : AccSize) (v : Word) (s : State) : Res := act (wdtKick m c z.bytes v) s

/-- WDT_EXPIRY (R269). -/
def execWdtExpiry (c : Fin 5) (s : State) : Res := act (wdtExpiry c) s

/-- STANDBY_REQUEST (R251). -/
def execStandbyRequest (m : Fin 8) (z : AccSize) (v : Word) (s : State) : Res := act (standbyRequest m z.bytes v) s

/-- STANDBY_SAVE_DONE (R252). -/
def execStandbySaveDone (s : State) : Res := act standbySaveDone s

/-- STANDBY_ENTERED (R252). -/
def execStandbyEntered (s : State) : Res := act standbyEntered s

/-- WAKE_EVENT (R254). -/
def execWakeEvent (src : Fin 15) (s : State) : Res := act (wakeEvent src) s

/-- DOZE_ENTRY (R250). -/
def execDozeEntry (wfi0 : Bool) (wfi1 : Bool) (s : State) : Res := act (dozeEntry wfi0 wfi1) s

/-- DOZE_EXIT (R250). -/
def execDozeExit (s : State) : Res := act dozeExit s

/-- PMU_PF_WARN (R257). -/
def execPmuPfWarn (vin : Nat) (s : State) : Res := act (pmuPfWarn vin) s

/-- VIN_PF_RISE (R257). -/
def execVinPfRise (vin : Nat) (s : State) : Res := act (vinPfRise vin) s

/-- PMU_VBAT_LOW (R257). -/
def execPmuVbatLow (v : Nat) (s : State) : Res := act (pmuVbatLow v) s

/-- PMU_TEMP_WARN (R260). -/
def execPmuTempWarn (t : Int) (s : State) : Res := act (pmuTempWarn t) s

/-- PMU_AVS_ALARM (R248). -/
def execPmuAvsAlarm (margin : Nat) (s : State) : Res := act (pmuAvsAlarm margin) s

/-- OPTION_REPORT (R14). -/
def execOptionReport (s : State) : Res := act optionReport s

/-- BOOT_START (R270). -/
def execBootStart (spllOk : Bool) (linkOk : Bool) (xoOk : Bool) (s : State) : Res := act (bootStart spllOk linkOk xoOk) s

/-- CORE_RDY_WRITE (R274). -/
def execCoreRdyWrite (m : Fin 8) (z : AccSize) (v : Word) (s : State) : Res := act (coreRdyWrite m z.bytes v) s

/-- BOOT_READY_TIMEOUT (R270). -/
def execBootReadyTimeout (c : Fin 7) (s : State) : Res := act (bootReadyTimeout c) s

/-- HOST_ENTRY (R270). -/
def execHostEntry (s : State) : Res := act hostEntry s

/-- HOST_RESTART (R275). -/
def execHostRestart (s : State) : Res := act hostRestart s

/-- VIN_RISE (R849). -/
def execVinRise (vbat : Bool) (s : State) : Res := act (vinRise vbat) s

/-- VIN_FALL_PD_STOP (R850). -/
def execVinFallPdStop (s : State) : Res := act vinFallPdStop s

/-- PD_THERMAL_SHUTDOWN (R870). -/
def execPdThermalShutdown (t : Int) (s : State) : Res := act (pdThermalShutdown t) s

/-- PD_THERMAL_RELEASE (R870). -/
def execPdThermalRelease (t : Int) (s : State) : Res := act (pdThermalRelease t) s

/-- SO_THERMAL_OFF (R871). -/
def execSoThermalOff (c : Fin 2) (n : Fin 4) (s : State) : Res := act (soThermalOff c n) s

/-- SO_THERMAL_RELEASE (R871). -/
def execSoThermalRelease (c : Fin 2) (n : Fin 4) (s : State) : Res := act (soThermalRelease c n) s

/-- VSAFE_CHANGE (R847). -/
def execVsafeChange (v : Nat) (s : State) : Res := act (vsafeChange v) s

/-- VHB_CHANGE (R847). -/
def execVhbChange (v : Nat) (s : State) : Res := act (vhbChange v) s

end Sys2Proof.Machine
end

