-- ==== Sys2Proof/Machine/CmdPowerStage.lean ====
section
/-! DEFINITION. The meanings of the commands of the power stage (10). -/
namespace Sys2Proof.Machine

/-- CARRIER_PERIOD_START (R413). -/
def execCarrierPeriodStart (g : Fin 3) (peak : Bool) (s : State) : Res := act (carrierPeriodStart g peak) s

/-- RESYNC_TRIGGER (R414). -/
def execResyncTrigger (g : Fin 3) (frac : Fin 32) (s : State) : Res := act (resyncTrigger g frac) s

/-- DUTY_STG_WRITE (R417). -/
def execDutyStgWrite (m : Fin 8) (l : Fin 8) (z : AccSize) (v : Word) (s : State) : Res := act (dutyStgWrite m l z.bytes v) s

/-- GRP_EN_WRITE (R419). -/
def execGrpEnWrite (m : Fin 8) (z : AccSize) (v : Word) (s : State) : Res := act (grpEnWrite m z.bytes v) s

/-- DEAD_TIME_STEP (R421). -/
def execDeadTimeStep (g : Fin 3) (delays : List (Option Nat)) (s : State) : Res := act (deadTimeStep g delays) s

/-- DELAY_LINE_SWAP (R423). -/
def execDelayLineSwap (k : Fin 16) (forced : Bool) (s : State) : Res := act (delayLineSwap k forced) s

/-- SD_OUTPUT (R425). -/
def execSdOutput (k : Fin 12) (sum : Nat) (s : State) : Res := act (sdOutput k sum) s

/-- SD_FAIL (R428). -/
def execSdFail (k : Fin 12) (s : State) : Res := act (sdFail k) s

/-- FAST_COMPARATOR_CROSSING (R429). -/
def execFastComparatorCrossing (k : Fin 12) (sum : Nat) (s : State) : Res := act (fastComparatorCrossing k sum) s

/-- TRIP_INPUT (R430). -/
def execTripInput (ch : Fin 14) (s : State) : Res := act (tripInput ch) s

/-- TRIP_INPUT_RELEASE (R432). -/
def execTripInputRelease (ch : Fin 14) (s : State) : Res := act (tripInputRelease ch) s

/-- SAFETY_PWM_TRIP (R433). -/
def execSafetyPwmTrip (b : Bool) (s : State) : Res := act (safetyPwmTrip b) s

/-- TRIP_LATCH_CLEAR (R432). -/
def execTripLatchClear (m : Fin 8) (z : AccSize) (v : Word) (s : State) : Res := act (busWrite m A.TRIP_LATCH z.bytes v) s

/-- PLAUSIBILITY_CHECK (R436). -/
def execPlausibilityCheck (g : Fin 3) (s : State) : Res := act (plausibilityCheck g) s

/-- OPEN_PHASE_CHECK (R440). -/
def execOpenPhaseCheck (s : State) : Res := act openPhaseCheck s

/-- INV_FAULT (R441). -/
def execInvFault (s : State) : Res := act invFault s

/-- ZC_REACHED (R441). -/
def execZcReached (s : State) : Res := act zcReached s

/-- VEH_T_EXPIRY (R441). -/
def execVehTExpiry (s : State) : Res := act vehTExpiry s

/-- INVF_SEQUENCE_END (R443). -/
def execInvfSequenceEnd (s : State) : Res := act invfSequenceEnd s

/-- INVF_CLR (R443). -/
def execInvfClr (m : Fin 8) (s : State) : Res := act (invfClr m) s

/-- TCC_CLOSE_EDGE (R445). -/
def execTccCloseEdge (s : State) : Res := act tccCloseEdge s

/-- XFER_PAR_TMAX (R446). -/
def execXferParTmax (s : State) : Res := act xferParTmax s

/-- REC_MOTOR_WRITE (R447). -/
def execRecMotorWrite (m : Fin 8) (z : AccSize) (v : Word) (s : State) : Res := act (recMotorWrite m z.bytes v) s

/-- CRANK_END (R448). -/
def execCrankEnd (s : State) : Res := act crankEnd s

/-- EGV_HALF_SWITCH (R450). -/
def execEgvHalfSwitch (s : State) : Res := act egvHalfSwitch s

/-- EGV_PERIOD_END (R451). -/
def execEgvPeriodEnd (s : State) : Res := act egvPeriodEnd s

/-- DUTY_STAGE (R455). -/
def execDutyStage (n : Fin 8) (s : State) : Res := act (dutyStage n) s

/-- TRIP_WAIT (R455). -/
def execTripWait (n : Fin 8) (s : State) : Res := act (tripWait n) s

/-- SD_STREAM (R455). -/
def execSdStream (n : Fin 8) (s : State) : Res := act (sdStream n) s

/-- PSC_SNAP (R455). -/
def execPscSnap (n : Fin 8) (s : State) : Res := act (pscSnap n) s

/-- EGV_LOG (R455). -/
def execEgvLog (n : Fin 8) (s : State) : Res := act (egvLog n) s

end Sys2Proof.Machine
end

