-- ==== Sys2Proof/Machine/CmdRegisters.lean ====
section
/-! DEFINITION. The meanings of the commands of register accesses (02). -/
namespace Sys2Proof.Machine

/-- REGISTER_WRITE (R99). -/
def execRegisterWrite (m : Fin 8) (a : Word) (z : AccSize) (v : Word) (s : State) : Res :=
  act (registerWrite m a.toNat z.bytes v) s

/-- COMPLEMENT_WRITE (R102). -/
def execComplementWrite (m : Fin 8) (w : Win) (off : BitVec 12) (z : AccSize) (v : Word) (s : State) : Res :=
  act (complementWrite m w off.toNat z.bytes v) s

/-- WP_REGISTER_WRITE (R102). -/
def execWpRegisterWrite (m : Fin 8) (a : Word) (z : AccSize) (v : Word) (s : State) : Res :=
  act (wpRegisterWrite m a.toNat z.bytes v) s

/-- PAIR_WINDOW_EXPIRY (R102). -/
def execPairWindowExpiry (w : Win) (s : State) : Res := act (pairWindowExpiry w) s

/-- BLK_LOCK_SET (R101). -/
def execBlkLockSet (m : Fin 8) (w : Win) (z : AccSize) (v : Word) (s : State) : Res :=
  act (busWrite m (w.base + 0x3FC) z.bytes v) s

/-- OFF_DOMAIN_ACCESS (R245). -/
def execOffDomainAccess (m : Fin 8) (a : Word) (s : State) : Res := act (offDomainAccess m a.toNat) s

end Sys2Proof.Machine
end

