-- ==== Sys2Proof/Machine/CmdRings.lean ====
section
/-! DEFINITION. The meanings of the commands of descriptor rings (02, R409). -/
namespace Sys2Proof.Machine

/-- DOORBELL (R89). -/
def execDoorbell (w : Win) (m : Fin 8) (z : AccSize) (v : Word) (s : State) : Res := act (doorbell w m z.bytes v) s

/-- DESCRIPTOR_FETCH (R72). -/
def execDescriptorFetch (w : Win) (n : Fin 8) (s : State) : Res := act (fetchDesc w n) s

/-- DESCRIPTOR_COMPLETE (R74). -/
def execDescriptorComplete (w : Win) (n : Fin 8) (s : State) : Res := act (completeDesc w n) s

/-- PREEMPTED_COMPLETION (R77). -/
def execPreemptedCompletion (w : Win) (n : Fin 8) (s : State) : Res := act (preempted w n) s

/-- RING_START (R81). -/
def execRingStart (w : Win) (n : Fin 8) (m : Fin 8) (s : State) : Res := act (ringCommand w n m (ringStart w n m)) s

/-- RING_STOP (R83). -/
def execRingStop (w : Win) (n : Fin 8) (m : Fin 8) (s : State) : Res := act (ringCommand w n m (ringStop w n m)) s

/-- RING_PAUSE (R83). -/
def execRingPause (w : Win) (n : Fin 8) (m : Fin 8) (s : State) : Res := act (ringCommand w n m (ringPause w n m)) s

/-- RING_RESUME (R83). -/
def execRingResume (w : Win) (n : Fin 8) (m : Fin 8) (s : State) : Res := act (ringCommand w n m (ringResume w n m)) s

/-- RING_ABORT (R83). -/
def execRingAbort (w : Win) (n : Fin 8) (m : Fin 8) (s : State) : Res := act (ringCommand w n m (ringAbort w n m)) s

/-- RING_RECLAIM (R97). -/
def execRingReclaim (w : Win) (n : Fin 8) (m : Fin 8) (s : State) : Res := act (ringCommand w n m (ringReclaim w n m)) s

/-- LOGGING_TIMEOUT (R409). -/
def execLoggingTimeout (w : Win) (n : Fin 8) (s : State) : Res := act (loggingTimeout w n) s

end Sys2Proof.Machine
end

