-- ==== Sys2Proof/Machine/CmdSafety.lean ====
section
/-! DEFINITION. The meanings of the commands of machine safety (17). -/
namespace Sys2Proof.Machine

/-- SAF_CYCLE (R717). -/
def execSafCycle (c : Fin 2) (s : State) : Res := act (noteSafeRun (safCycle c)) s

/-- SAF_INPUT_SAMPLE (R725). -/
def execSafInputSample (c : Fin 2) (v : BitVec 16) (s : State) : Res := act (safInputSample c v.toNat) s

/-- TEST_PULSE (R728). -/
def execTestPulse (c : Fin 2) (k : Fin 4) (mid : BitVec 16) (after : BitVec 16) (s : State) : Res :=
  act (testPulse c k mid.toNat after.toNat) s

/-- SAF_WATCHDOG (R723). -/
def execSafWatchdog (c : Fin 2) (s : State) : Res := act (safWatchdog c) s

/-- SAF_CLOCK_HALT (R724). -/
def execSafClockHalt (c : Fin 2) (s : State) : Res := act (safClockHalt c) s

/-- ELEMENT_READBACK (R735). -/
def execElementReadback (c : Fin 2) (n : Fin 4) (on : Bool) (s : State) : Res := act (elementReadback c n on) s

/-- DARK_TEST (R736). -/
def execDarkTest (c : Fin 2) (n : Fin 4) (off : Bool) (s : State) : Res := act (darkTest c n off) s

/-- EDM_CHECK (R738). -/
def execEdmCheck (n : Fin 4) (s : State) : Res := act (edmCheck n) s

/-- MANUAL_RESET (R747). -/
def execManualReset (s : State) : Res := act manualReset s

/-- STOP1_EXPIRY (R748). -/
def execStop1Expiry (f : Fin 8) (s : State) : Res := act (stop1Expiry f) s

/-- SAF_COMM_WRITE (R755). -/
def execSafCommWrite (m : Fin 8) (z : AccSize) (v : Word) (s : State) : Res := act (safCommWrite m z.bytes v) s

/-- COMMISSION_PROGRAM (R755). -/
def execCommissionProgram (ok : Bool) (s : State) : Res := act (commissionProgram ok) s

/-- COMMISSION_TIMEOUT (R755). -/
def execCommissionTimeout (s : State) : Res := act commissionTimeout s

/-- SAF_START (R752). -/
def execSafStart (c : Fin 2) (test : Bool) (s : State) : Res := act (noteSafeRun (safStart c test)) s

/-- SAF_CMD_UNLOCK (R743). -/
def execSafCmdUnlock (m : Fin 8) (z : AccSize) (v : Word) (s : State) : Res := act (safCmdUnlock m z.bytes v) s

/-- TCC_OPEN_EDGE (R733). -/
def execTccOpenEdge (s : State) : Res := act tccOpenEdge s

end Sys2Proof.Machine
end

