-- ==== Sys2Proof/Machine/CmdSerial.lean ====
section
/-! DEFINITION. The meanings of the commands of UARTs and CAN (19). -/
namespace Sys2Proof.Machine

/-- UART_CHAR_RECEIVED (R788). -/
def execUartCharReceived (p : Fin 6) (ch : BitVec 9) (pe : Bool) (fe : Bool) (brk : Bool) (s : State) : Res :=
  act (uartCharReceived p ch.toNat pe fe brk) s

/-- UART_CHAR_SENT (R790). -/
def execUartCharSent (p : Fin 6) (s : State) : Res := act (uartCharSent p) s

/-- U_DATA_READ (R792). -/
def execUDataRead (m : Fin 8) (p : Fin 6) (s : State) : Res := act (busRead m (uA p A.U_DATA) 4) s

/-- U_DATA_WRITE (R790). -/
def execUDataWrite (m : Fin 8) (p : Fin 6) (z : AccSize) (v : Word) (s : State) : Res := act (uDataWrite m p z.bytes v) s

/-- UART_WAKE (R797). -/
def execUartWake (p : Fin 6) (ch : BitVec 9) (s : State) : Res := act (uartWake p ch.toNat) s

/-- FLOW_SEND (R800). -/
def execFlowSend (p : Fin 6) (s : State) : Res := act (flowSend p) s

/-- XOFF_TMO (R801). -/
def execXoffTmo (p : Fin 6) (s : State) : Res := act (xoffTmo p) s

/-- UART_TX (R807). -/
def execUartTx (p : Fin 6) (s : State) : Res := act (uartTx p) s

/-- UART_RX (R807). -/
def execUartRx (p : Fin 6) (s : State) : Res := act (uartRx p) s

/-- UART_RX_IDLE (R807). -/
def execUartRxIdle (p : Fin 6) (s : State) : Res := act (uartRxIdle p) s

/-- BREAK (R807). -/
def execUartBreak (p : Fin 6) (s : State) : Res := act (uartBreak p) s

/-- KLINE_INIT_FAST (R804). -/
def execKlineInitFast (p : Fin 6) (s : State) : Res := act (klineInitFast p) s

/-- KLINE_INIT_5BAUD (R805). -/
def execKlineInit5Baud (p : Fin 6) (sound : Bool) (period : Nat) (s : State) : Res := act (klineInit5Baud p sound period) s

/-- KLINE_ECHO_MISMATCH (R803). -/
def execKlineEchoMismatch (p : Fin 6) (s : State) : Res := act (klineEchoMismatch p) s

/-- CAN_TX (R811). -/
def execCanTx (c : Fin 2) (outcome : Fin 3) (errs : BitVec 5) (sof : Nat) (s : State) : Res :=
  act (canTx c outcome errs.toNat sof) s

/-- CAN_RX (R811). -/
def execCanRx (c : Fin 2) (s : State) : Res := act (canRx c) s

/-- CAN_FRAME_RECEIVED (R810). -/
def execCanFrameReceived (c : Fin 2) (w0 : Word) (w1 : Word) (data : List Byte) (sof : Nat) (errs : Nat) (s : State) : Res :=
  act (canFrameReceived c w0 w1 data sof errs) s

/-- CAN_BUS_OFF (R814). -/
def execCanBusOff (c : Fin 2) (s : State) : Res := act (canBusOff c) s

/-- CAN_RECOVER (R814). -/
def execCanRecover (m : Fin 8) (c : Fin 2) (z : AccSize) (v : Word) (s : State) : Res := act (canRecover m c z.bytes v) s

/-- CAN_RECOVERY_DONE (R814). -/
def execCanRecoveryDone (c : Fin 2) (s : State) : Res := act (canRecoveryDone c) s

/-- CAN_SYNCHRONISED (R836). -/
def execCanSynchronised (c : Fin 2) (s : State) : Res := act (canSynchronised c) s

end Sys2Proof.Machine
end

