-- ==== Sys2Proof/Machine/CmdSlots.lean ====
section
/-! DEFINITION. The meanings of the commands of angle events (08). -/
namespace Sys2Proof.Machine

/-- SLOT_SET (R327). -/
def execSlotSet (n : Fin 8) (s : State) : Res := act (slotSet n) s

/-- SLOT_CLEAR (R331). -/
def execSlotClear (n : Fin 8) (s : State) : Res := act (slotClear n) s

/-- SLOT_WAIT (R360). -/
def execSlotWait (n : Fin 8) (s : State) : Res := act (slotWait n) s

/-- SLOT_WAIT_TIMEOUT (R360). -/
def execSlotWaitTimeout (n : Fin 8) (s : State) : Res := act (slotWaitTimeout n) s

/-- SLOT_READ (R361). -/
def execSlotRead (n : Fin 8) (s : State) : Res := act (slotRead n) s

/-- SLOT_ARMING_POINT (R333). -/
def execSlotArmingPoint (ign : Bool) (s : State) : Res := act (slotArmingPoint (if ign then 6 else 5)) s

/-- SLOT_FIRE (R337). -/
def execSlotFire (slot : Fin 256) (s : State) : Res := act (slotFire slot) s

/-- DWELL_START (R343). -/
def execDwellStart (slot : Fin 256) (s : State) : Res := act (dwellStart slot) s

/-- DWELL_MAX (R345). -/
def execDwellMax (slot : Fin 256) (s : State) : Res := act (dwellMaxReached slot) s

/-- DWA_HOLD_EXPIRY (R346). -/
def execDwaHoldExpiry (c : Fin 4) (s : State) : Res := act (dwaHoldExpiry c) s

/-- OUTPUT_END (R349). -/
def execOutputEnd (slot : Fin 256) (s : State) : Res := act (outputEnd slot) s

/-- AO_ROUTE_WRITE (R355). -/
def execAoRouteWrite (m : Fin 8) (k : Fin 32) (z : AccSize) (v : Word) (s : State) : Res := act (aoRouteWrite m k z.bytes v) s

/-- STAGING_WRITE (R335). -/
def execStagingWrite (m : Fin 8) (r : Fin 3) (c : Fin 4) (z : AccSize) (v : Word) (s : State) : Res :=
  act (stagingWrite m r c z.bytes v) s

end Sys2Proof.Machine
end

