-- ==== Sys2Proof/Machine/CmdUpdate.lean ====
section
/-! DEFINITION. The meanings of the commands of update and handover (16). -/
namespace Sys2Proof.Machine

/-- BANK_OPEN (R683). -/
def execBankOpen (n : Fin 8) (s : State) : Res := act (bankOpen n) s

/-- IMAGE_WRITE (R684). -/
def execImageWrite (n : Fin 8) (s : State) : Res := act (imageWrite n) s

/-- VERIFY (R686). -/
def execVerify (n : Fin 8) (s : State) : Res := act (verifyBank n) s

/-- ACTIVATE (R687). -/
def execActivate (n : Fin 8) (s : State) : Res := act (activate n) s

/-- COMMIT (R712). -/
def execCommit (n : Fin 8) (s : State) : Res := act (commitBank n) s

/-- CUTIN_ARM (R688). -/
def execCutinArm (n : Fin 8) (s : State) : Res := act (cutinArm n) s

/-- E_SWITCH (R689). -/
def execESwitch (s : State) : Res := act eSwitch s

/-- P_SWITCH (R690). -/
def execPSwitch (s : State) : Res := act pSwitch s

/-- CUTIN_SWITCH (R691). -/
def execCutinSwitch (c : Fin 4) (s : State) : Res := act (cutinSwitch c) s

/-- COLD_SWITCH (R693). -/
def execColdSwitch (c : Fin 4) (s : State) : Res := act (coldSwitch c) s

/-- STOP_SWITCH (R694). -/
def execStopSwitch (c : Fin 4) (s : State) : Res := act (stopSwitch c) s

/-- STATE_SEND (R698). -/
def execStateSend (n : Fin 8) (s : State) : Res := act (stateSend n) s

/-- STATE_RECV (R698). -/
def execStateRecv (n : Fin 8) (s : State) : Res := act (stateRecv n) s

/-- UPD_OWN_MOVE (R699). -/
def execUpdOwnMove (m : Fin 8) (z : AccSize) (s : State) : Res := act (updOwnMove m z.bytes) s

/-- UPD_OWN_MOVE_BACK (R708). -/
def execUpdOwnMoveBack (m : Fin 8) (z : AccSize) (s : State) : Res := act (updOwnMoveBack m z.bytes) s

/-- UPD_HEALTH_WRITE (R706). -/
def execUpdHealthWrite (m : Fin 8) (z : AccSize) (v : Word) (s : State) : Res := act (updHealthWrite m z.bytes v) s

/-- HEALTH_WINDOW_CLOSE (R706). -/
def execHealthWindowClose (c : Fin 4) (s : State) : Res := act (healthWindowClose c) s

/-- UPD_REVERT_REQ (R707). -/
def execUpdRevertReq (c : Fin 4) (s : State) : Res := act (updRevertReq c) s

/-- UPD_REVACK (R708). -/
def execUpdRevack (m : Fin 8) (z : AccSize) (v : Word) (s : State) : Res := act (updRevack m z.bytes v) s

/-- REVERT_TIMEOUT (R708). -/
def execRevertTimeout (c : Fin 4) (s : State) : Res := act (revertTimeout c) s

/-- RESET_PATH (R710). -/
def execResetPath (s : State) : Res := act resetPathStep s

/-- SAFE_NEW_TIMEOUT (R705). -/
def execSafeNewTimeout (s : State) : Res := act safeNewTimeout s

/-- RECOVERY_DATA (R713). -/
def execRecoveryData (payload : List Byte) (crc : BitVec 16) (s : State) : Res := act (recoveryData payload crc.toNat) s

/-- RECOVERY_END (R713). -/
def execRecoveryEnd (payload : List Byte) (crc : BitVec 16) (s : State) : Res := act (recoveryEnd payload crc.toNat) s

end Sys2Proof.Machine
end

