-- ==== Sys2Proof/Machine/Dispatch.lean ====
section
/-! DEFINITION. The meaning of every command, one arm each. -/
namespace Sys2Proof.Machine

def exec (i : Instr) (s : State) : Host.Outcome State Fault Refusal :=
  match i with
  | .optionReport => Sys2Proof.Machine.execOptionReport s
  | .pdRegisterRead m a z => Sys2Proof.Machine.execPdRegisterRead m a z s
  | .pdRegisterWrite m a z v => Sys2Proof.Machine.execPdRegisterWrite m a z v s
  | .linkRequestSend => Sys2Proof.Machine.execLinkRequestSend s
  | .linkResponseFrame crcOk => Sys2Proof.Machine.execLinkResponseFrame crcOk s
  | .linkResponseTimeout => Sys2Proof.Machine.execLinkResponseTimeout s
  | .pdRequestFrame crcOk => Sys2Proof.Machine.execPdRequestFrame crcOk s
  | .keepaliveSend fromPd => Sys2Proof.Machine.execKeepaliveSend fromPd s
  | .linkLossCd => Sys2Proof.Machine.execLinkLossCd s
  | .linkLossPd => Sys2Proof.Machine.execLinkLossPd s
  | .linkRetrained => Sys2Proof.Machine.execLinkRetrained s
  | .graceExpiry => Sys2Proof.Machine.execGraceExpiry s
  | .pdReset => Sys2Proof.Machine.execPdReset s
  | .resume m => Sys2Proof.Machine.execResume m s
  | .lmlCtlWrite m z v => Sys2Proof.Machine.execLmlCtlWrite m z v s
  | .safetyTripWire b => Sys2Proof.Machine.execSafetyTripWire b s
  | .dwellAbortWire c => Sys2Proof.Machine.execDwellAbortWire c s
  | .pdFault => Sys2Proof.Machine.execPdFault s
  | .coreMemoryAccess m o user a z v => Sys2Proof.Machine.execCoreMemoryAccess m o user a z v s
  | .amoInstruction m o a v => Sys2Proof.Machine.execAmoInstruction m o a v s
  | .fenceI m => Sys2Proof.Machine.execFenceI m s
  | .timeCsrWrite m => Sys2Proof.Machine.execTimeCsrWrite m s
  | .misalignedAccess m isStore => Sys2Proof.Machine.execMisalignedAccess m isStore s
  | .registerWrite m a z v => Sys2Proof.Machine.execRegisterWrite m a z v s
  | .doorbell w m z v => Sys2Proof.Machine.execDoorbell w m z v s
  | .descriptorFetch w n => Sys2Proof.Machine.execDescriptorFetch w n s
  | .descriptorComplete w n => Sys2Proof.Machine.execDescriptorComplete w n s
  | .preemptedCompletion w n => Sys2Proof.Machine.execPreemptedCompletion w n s
  | .ringStart w n m => Sys2Proof.Machine.execRingStart w n m s
  | .ringStop w n m => Sys2Proof.Machine.execRingStop w n m s
  | .ringPause w n m => Sys2Proof.Machine.execRingPause w n m s
  | .ringResume w n m => Sys2Proof.Machine.execRingResume w n m s
  | .ringAbort w n m => Sys2Proof.Machine.execRingAbort w n m s
  | .ringReclaim w n m => Sys2Proof.Machine.execRingReclaim w n m s
  | .complementWrite m w off z v => Sys2Proof.Machine.execComplementWrite m w off z v s
  | .wpRegisterWrite m a z v => Sys2Proof.Machine.execWpRegisterWrite m a z v s
  | .pairWindowExpiry w => Sys2Proof.Machine.execPairWindowExpiry w s
  | .blkLockSet m w z v => Sys2Proof.Machine.execBlkLockSet m w z v s
  | .happeningsOrder paths samples accesses updates => Sys2Proof.Machine.execHappeningsOrder paths samples accesses updates s
  | .cfcPassStart => Sys2Proof.Machine.execCfcPassStart s
  | .cfcPassEnd => Sys2Proof.Machine.execCfcPassEnd s
  | .cfcDomain7Result timely => Sys2Proof.Machine.execCfcDomain7Result timely s
  | .cfcCapture m z v => Sys2Proof.Machine.execCfcCapture m z v s
  | .cfcCtlWrite m z v => Sys2Proof.Machine.execCfcCtlWrite m z v s
  | .mismatchClear m z v => Sys2Proof.Machine.execMismatchClear m z v s
  | .eventAssert src => Sys2Proof.Machine.execEventAssert src s
  | .evrAck m z v => Sys2Proof.Machine.execEvrAck m z v s
  | .evrSwev m z v => Sys2Proof.Machine.execEvrSwev m z v s
  | .evrRouteWrite m z v => Sys2Proof.Machine.execEvrRouteWrite m z v s
  | .wait n => Sys2Proof.Machine.execWait n s
  | .waitSourceAsserted n => Sys2Proof.Machine.execWaitSourceAsserted n s
  | .waitTimeout n => Sys2Proof.Machine.execWaitTimeout n s
  | .raise n => Sys2Proof.Machine.execRaise n s
  | .semAcquire m n z wait => Sys2Proof.Machine.execSemAcquire m n z wait s
  | .semRelease m n z => Sys2Proof.Machine.execSemRelease m n z s
  | .semReleaseRepaired m n z => Sys2Proof.Machine.execSemReleaseRepaired m n z s
  | .semForceOrphan m n z => Sys2Proof.Machine.execSemForceOrphan m n z s
  | .mbxDataWrite m k z v => Sys2Proof.Machine.execMbxDataWrite m k z v s
  | .mbxFullClear m k => Sys2Proof.Machine.execMbxFullClear m k s
  | .mbxOvfDropClear m k ovf drop => Sys2Proof.Machine.execMbxOvfDropClear m k ovf drop s
  | .coreReset c => Sys2Proof.Machine.execCoreReset c s
  | .loopStep w n margin => Sys2Proof.Machine.execLoopStep w n margin s
  | .loopBoundWrite m w n hi z v => Sys2Proof.Machine.execLoopBoundWrite m w n hi z v s
  | .loopPosWrite m w n z v => Sys2Proof.Machine.execLoopPosWrite m w n z v s
  | .loopModeWrite m w n z v => Sys2Proof.Machine.execLoopModeWrite m w n z v s
  | .fairnessSlot w => Sys2Proof.Machine.execFairnessSlot w s
  | .gateCmt m w g z v => Sys2Proof.Machine.execGateCmt m w g z v s
  | .gateDeadline w g => Sys2Proof.Machine.execGateDeadline w g s
  | .escalatedClear m w g z v => Sys2Proof.Machine.execEscalatedClear m w g z v s
  | .scrPassStart => Sys2Proof.Machine.execScrPassStart s
  | .scrWordRead => Sys2Proof.Machine.execScrWordRead s
  | .scrPassLate => Sys2Proof.Machine.execScrPassLate s
  | .scrubRange n => Sys2Proof.Machine.execScrubRange n s
  | .flProgram n => Sys2Proof.Machine.execFlProgram n s
  | .flErase n => Sys2Proof.Machine.execFlErase n s
  | .flWear n => Sys2Proof.Machine.execFlWear n s
  | .flcStepDone ok last => Sys2Proof.Machine.execFlcStepDone ok last s
  | .flcRefreshSpan diff => Sys2Proof.Machine.execFlcRefreshSpan diff s
  | .tlmFrame => Sys2Proof.Machine.execTlmFrame s
  | .tlmListForward => Sys2Proof.Machine.execTlmListForward s
  | .pdTelemetrySend n value => Sys2Proof.Machine.execPdTelemetrySend n value s
  | .tlmStale n => Sys2Proof.Machine.execTlmStale n s
  | .tlmStream n => Sys2Proof.Machine.execTlmStream n s
  | .loggingTimeout w n => Sys2Proof.Machine.execLoggingTimeout w n s
  | .clkDomWrite m n z v => Sys2Proof.Machine.execClkDomWrite m n z v s
  | .sscBoundary => Sys2Proof.Machine.execSscBoundary s
  | .clkMonitorGate n count => Sys2Proof.Machine.execClkMonitorGate n count s
  | .xoFail => Sys2Proof.Machine.execXoFail s
  | .rcRelock => Sys2Proof.Machine.execRcRelock s
  | .pllUnlock k => Sys2Proof.Machine.execPllUnlock k s
  | .clkLimp => Sys2Proof.Machine.execClkLimp s
  | .upllRecovered => Sys2Proof.Machine.execUpllRecovered s
  | .lfFail => Sys2Proof.Machine.execLfFail s
  | .xoReadopt m z v => Sys2Proof.Machine.execXoReadopt m z v s
  | .xoRelock => Sys2Proof.Machine.execXoRelock s
  | .lfMeasurement ticks => Sys2Proof.Machine.execLfMeasurement ticks s
  | .tbLoRead m => Sys2Proof.Machine.execTbLoRead m s
  | .tbCmpFire c => Sys2Proof.Machine.execTbCmpFire c s
  | .tbCmpArm m c z v => Sys2Proof.Machine.execTbCmpArm m c z v s
  | .padCfgWrite m z v => Sys2Proof.Machine.execPadCfgWrite m z v s
  | .measure n count => Sys2Proof.Machine.execMeasure n count s
  | .alarm n => Sys2Proof.Machine.execAlarm n s
  | .snapshot n => Sys2Proof.Machine.execSnapshot n s
  | .pwrReqWrite m z v => Sys2Proof.Machine.execPwrReqWrite m z v s
  | .domainPowerUp n => Sys2Proof.Machine.execDomainPowerUp n s
  | .domainPowerDown n => Sys2Proof.Machine.execDomainPowerDown n s
  | .offDomainAccess m a => Sys2Proof.Machine.execOffDomainAccess m a s
  | .domainSet n => Sys2Proof.Machine.execDomainSet n s
  | .supplySnap n vin vio vcore temp => Sys2Proof.Machine.execSupplySnap n vin vio vcore temp s
  | .coreLoad n => Sys2Proof.Machine.execCoreLoad n s
  | .coreRelease n => Sys2Proof.Machine.execCoreRelease n s
  | .coreCtlWrite m z v => Sys2Proof.Machine.execCoreCtlWrite m z v s
  | .sysReset m z v => Sys2Proof.Machine.execSysReset m z v s
  | .pinReset => Sys2Proof.Machine.execPinReset s
  | .borReset vio => Sys2Proof.Machine.execBorReset vio s
  | .vltPor => Sys2Proof.Machine.execVltPor s
  | .wdtKick m c z v => Sys2Proof.Machine.execWdtKick m c z v s
  | .wdtExpiry c => Sys2Proof.Machine.execWdtExpiry c s
  | .standbyRequest m z v => Sys2Proof.Machine.execStandbyRequest m z v s
  | .standbySaveDone => Sys2Proof.Machine.execStandbySaveDone s
  | .standbyEntered => Sys2Proof.Machine.execStandbyEntered s
  | .wakeEvent src => Sys2Proof.Machine.execWakeEvent src s
  | .dozeEntry wfi0 wfi1 => Sys2Proof.Machine.execDozeEntry wfi0 wfi1 s
  | .dozeExit => Sys2Proof.Machine.execDozeExit s
  | .pmuPfWarn vin => Sys2Proof.Machine.execPmuPfWarn vin s
  | .pmuVbatLow v => Sys2Proof.Machine.execPmuVbatLow v s
  | .pmuTempWarn t => Sys2Proof.Machine.execPmuTempWarn t s
  | .pmuAvsAlarm margin => Sys2Proof.Machine.execPmuAvsAlarm margin s
  | .bootStart spllOk linkOk xoOk => Sys2Proof.Machine.execBootStart spllOk linkOk xoOk s
  | .coreRdyWrite m z v => Sys2Proof.Machine.execCoreRdyWrite m z v s
  | .bootReadyTimeout c => Sys2Proof.Machine.execBootReadyTimeout c s
  | .hostEntry => Sys2Proof.Machine.execHostEntry s
  | .hostRestart => Sys2Proof.Machine.execHostRestart s
  | .angCtlWrite m z v => Sys2Proof.Machine.execAngCtlWrite m z v s
  | .crkEdge => Sys2Proof.Machine.execCrkEdge s
  | .virtualTooth d => Sys2Proof.Machine.execVirtualTooth d s
  | .crkStall => Sys2Proof.Machine.execCrkStall s
  | .camEdge => Sys2Proof.Machine.execCamEdge s
  | .phaseFlip m => Sys2Proof.Machine.execPhaseFlip m s
  | .resync m => Sys2Proof.Machine.execResync m s
  | .clrCnt m => Sys2Proof.Machine.execClrCnt m s
  | .partnerEdge => Sys2Proof.Machine.execPartnerEdge s
  | .altEdge ph rise => Sys2Proof.Machine.execAltEdge ph rise s
  | .grdUpdate ampl mhz angle pherr => Sys2Proof.Machine.execGrdUpdate ampl mhz angle pherr s
  | .invFreqWrite m z v => Sys2Proof.Machine.execInvFreqWrite m z v s
  | .invCycle => Sys2Proof.Machine.execInvCycle s
  | .syncSnap n => Sys2Proof.Machine.execSyncSnap n s
  | .toothLog n => Sys2Proof.Machine.execToothLog n s
  | .shapeSave n => Sys2Proof.Machine.execShapeSave n s
  | .shapeLoad n => Sys2Proof.Machine.execShapeLoad n s
  | .slotSet n => Sys2Proof.Machine.execSlotSet n s
  | .slotClear n => Sys2Proof.Machine.execSlotClear n s
  | .slotWait n => Sys2Proof.Machine.execSlotWait n s
  | .slotWaitTimeout n => Sys2Proof.Machine.execSlotWaitTimeout n s
  | .slotRead n => Sys2Proof.Machine.execSlotRead n s
  | .slotArmingPoint ign => Sys2Proof.Machine.execSlotArmingPoint ign s
  | .slotFire slot => Sys2Proof.Machine.execSlotFire slot s
  | .dwellStart slot => Sys2Proof.Machine.execDwellStart slot s
  | .dwellMax slot => Sys2Proof.Machine.execDwellMax slot s
  | .dwaHoldExpiry c => Sys2Proof.Machine.execDwaHoldExpiry c s
  | .outputEnd slot => Sys2Proof.Machine.execOutputEnd slot s
  | .aoRouteWrite m k z v => Sys2Proof.Machine.execAoRouteWrite m k z v s
  | .stagingWrite m r c z v => Sys2Proof.Machine.execStagingWrite m r c z v s
  | .vrEdge n peak noise => Sys2Proof.Machine.execVrEdge n peak noise s
  | .hallEdge h level => Sys2Proof.Machine.execHallEdge h level s
  | .sensFault n code => Sys2Proof.Machine.execSensFault n code s
  | .sarTrigger line delay => Sys2Proof.Machine.execSarTrigger line delay s
  | .sarConversionDone c value => Sys2Proof.Machine.execSarConversionDone c value s
  | .sarPeriodic => Sys2Proof.Machine.execSarPeriodic s
  | .sarSwtrig m z v => Sys2Proof.Machine.execSarSwtrig m z v s
  | .sarCalStep fits => Sys2Proof.Machine.execSarCalStep fits s
  | .knockSample x y0 y1 => Sys2Proof.Machine.execKnockSample x y0 y1 s
  | .knockWindowClose => Sys2Proof.Machine.execKnockWindowClose s
  | .knockWindow n => Sys2Proof.Machine.execKnockWindow n s
  | .sarStream n => Sys2Proof.Machine.execSarStream n s
  | .opdLog n => Sys2Proof.Machine.execOpdLog n s
  | .coilLog n => Sys2Proof.Machine.execCoilLog n s
  | .lamLog n => Sys2Proof.Machine.execLamLog n s
  | .lamPeriod nernst ri nb sat => Sys2Proof.Machine.execLamPeriod nernst ri nb sat s
  | .lamPumpStgWrite m z v => Sys2Proof.Machine.execLamPumpStgWrite m z v s
  | .injectorOvercurrent c => Sys2Proof.Machine.execInjectorOvercurrent c s
  | .injDiagChange c st => Sys2Proof.Machine.execInjDiagChange c st s
  | .openingPointFrame c lost => Sys2Proof.Machine.execOpeningPointFrame c lost s
  | .openingDelayStep c measured => Sys2Proof.Machine.execOpeningDelayStep c measured s
  | .fuelInjectionEnd => Sys2Proof.Machine.execFuelInjectionEnd s
  | .fuelCycle => Sys2Proof.Machine.execFuelCycle s
  | .ignTmax c => Sys2Proof.Machine.execIgnTmax c s
  | .ignDiagChange c st => Sys2Proof.Machine.execIgnDiagChange c st s
  | .hbPeriod b cur => Sys2Proof.Machine.execHbPeriod b cur s
  | .hbStgWrite m b z v => Sys2Proof.Machine.execHbStgWrite m b z v s
  | .hbOvercurrent b => Sys2Proof.Machine.execHbOvercurrent b s
  | .stepMove n k => Sys2Proof.Machine.execStepMove n k s
  | .stepPause => Sys2Proof.Machine.execStepPause s
  | .carrierPeriodStart g peak => Sys2Proof.Machine.execCarrierPeriodStart g peak s
  | .resyncTrigger g frac => Sys2Proof.Machine.execResyncTrigger g frac s
  | .dutyStgWrite m l z v => Sys2Proof.Machine.execDutyStgWrite m l z v s
  | .grpEnWrite m z v => Sys2Proof.Machine.execGrpEnWrite m z v s
  | .deadTimeStep g delays => Sys2Proof.Machine.execDeadTimeStep g delays s
  | .delayLineSwap k forced => Sys2Proof.Machine.execDelayLineSwap k forced s
  | .sdOutput k sum => Sys2Proof.Machine.execSdOutput k sum s
  | .sdFail k => Sys2Proof.Machine.execSdFail k s
  | .fastComparatorCrossing k sum => Sys2Proof.Machine.execFastComparatorCrossing k sum s
  | .tripInput ch => Sys2Proof.Machine.execTripInput ch s
  | .safetyPwmTrip b => Sys2Proof.Machine.execSafetyPwmTrip b s
  | .tripLatchClear m z v => Sys2Proof.Machine.execTripLatchClear m z v s
  | .plausibilityCheck g => Sys2Proof.Machine.execPlausibilityCheck g s
  | .openPhaseCheck => Sys2Proof.Machine.execOpenPhaseCheck s
  | .invFault => Sys2Proof.Machine.execInvFault s
  | .zcReached => Sys2Proof.Machine.execZcReached s
  | .vehTExpiry => Sys2Proof.Machine.execVehTExpiry s
  | .invfSequenceEnd => Sys2Proof.Machine.execInvfSequenceEnd s
  | .invfClr m => Sys2Proof.Machine.execInvfClr m s
  | .tccCloseEdge => Sys2Proof.Machine.execTccCloseEdge s
  | .tccOpenEdge => Sys2Proof.Machine.execTccOpenEdge s
  | .xferParTmax => Sys2Proof.Machine.execXferParTmax s
  | .recMotorWrite m z v => Sys2Proof.Machine.execRecMotorWrite m z v s
  | .crankEnd => Sys2Proof.Machine.execCrankEnd s
  | .egvHalfSwitch => Sys2Proof.Machine.execEgvHalfSwitch s
  | .egvPeriodEnd => Sys2Proof.Machine.execEgvPeriodEnd s
  | .dutyStage n => Sys2Proof.Machine.execDutyStage n s
  | .tripWait n => Sys2Proof.Machine.execTripWait n s
  | .sdStream n => Sys2Proof.Machine.execSdStream n s
  | .pscSnap n => Sys2Proof.Machine.execPscSnap n s
  | .egvLog n => Sys2Proof.Machine.execEgvLog n s
  | .cpCycleStart => Sys2Proof.Machine.execCpCycleStart s
  | .cpOutWrite m z v => Sys2Proof.Machine.execCpOutWrite m z v s
  | .pilotSample hi v => Sys2Proof.Machine.execPilotSample hi v s
  | .cpStale => Sys2Proof.Machine.execCpStale s
  | .ppMeasurement mv => Sys2Proof.Machine.execPpMeasurement mv s
  | .lockAct n fb => Sys2Proof.Machine.execLockAct n fb s
  | .lockLost level => Sys2Proof.Machine.execLockLost level s
  | .closeReq m => Sys2Proof.Machine.execCloseReq m s
  | .ilkWithdraw => Sys2Proof.Machine.execIlkWithdraw s
  | .openReq m => Sys2Proof.Machine.execOpenReq m s
  | .weldClr m => Sys2Proof.Machine.execWeldClr m s
  | .mirrorTelemetry input level => Sys2Proof.Machine.execMirrorTelemetry input level s
  | .closeFail => Sys2Proof.Machine.execCloseFail s
  | .weldDetect => Sys2Proof.Machine.execWeldDetect s
  | .rdcUpdate v => Sys2Proof.Machine.execRdcUpdate v s
  | .rdcSensor => Sys2Proof.Machine.execRdcSensor s
  | .rdcTripClear m => Sys2Proof.Machine.execRdcTripClear m s
  | .selftest n => Sys2Proof.Machine.execSelftest n s
  | .stExpired => Sys2Proof.Machine.execStExpired s
  | .rdcAcUpdate v => Sys2Proof.Machine.execRdcAcUpdate v s
  | .imdPeriodEnd dvm du drift ampl pe => Sys2Proof.Machine.execImdPeriodEnd dvm du drift ampl pe s
  | .imdConnFail => Sys2Proof.Machine.execImdConnFail s
  | .itActiveChange => Sys2Proof.Machine.execItActiveChange s
  | .imdSettlingEnd => Sys2Proof.Machine.execImdSettlingEnd s
  | .beaconSend => Sys2Proof.Machine.execBeaconSend s
  | .beaconLoss => Sys2Proof.Machine.execBeaconLoss s
  | .frameTx n transmissions ack => Sys2Proof.Machine.execFrameTx n transmissions ack s
  | .frameRx n => Sys2Proof.Machine.execFrameRx n s
  | .plmFrameArrival beacon frame encrypted management sound => Sys2Proof.Machine.execPlmFrameArrival beacon frame encrypted management sound s
  | .soundCapture n => Sys2Proof.Machine.execSoundCapture n s
  | .cpLog n => Sys2Proof.Machine.execCpLog n s
  | .stateWait n => Sys2Proof.Machine.execStateWait n s
  | .rcmLog n => Sys2Proof.Machine.execRcmLog n s
  | .metConverterStart cal => Sys2Proof.Machine.execMetConverterStart cal s
  | .metSample codes delayed => Sys2Proof.Machine.execMetSample codes delayed s
  | .metWindow freq qs => Sys2Proof.Machine.execMetWindow freq qs s
  | .reelPhase avg => Sys2Proof.Machine.execReelPhase avg s
  | .reelOverlapStart => Sys2Proof.Machine.execReelOverlapStart s
  | .reelTakeover delay => Sys2Proof.Machine.execReelTakeover delay s
  | .converterStuck c => Sys2Proof.Machine.execConverterStuck c s
  | .clkDoubtChg => Sys2Proof.Machine.execClkDoubtChg s
  | .sealOpening ok => Sys2Proof.Machine.execSealOpening ok s
  | .sealClosing => Sys2Proof.Machine.execSealClosing s
  | .slWrite m z v => Sys2Proof.Machine.execSlWrite m z v s
  | .metParamDataWrite m v => Sys2Proof.Machine.execMetParamDataWrite m v s
  | .calStep n meas h1 h2 freq => Sys2Proof.Machine.execCalStep n meas h1 h2 freq s
  | .calCommit n => Sys2Proof.Machine.execCalCommit n s
  | .metSnap n => Sys2Proof.Machine.execMetSnap n s
  | .waveCapture n => Sys2Proof.Machine.execWaveCapture n s
  | .logRead n => Sys2Proof.Machine.execLogRead n s
  | .metSnapSeqRead m => Sys2Proof.Machine.execMetSnapSeqRead m s
  | .mStop => Sys2Proof.Machine.execMStop s
  | .tariffSwitch => Sys2Proof.Machine.execTariffSwitch s
  | .dstChange => Sys2Proof.Machine.execDstChange s
  | .calLoad n => Sys2Proof.Machine.execCalLoad n s
  | .calendarActivation => Sys2Proof.Machine.execCalendarActivation s
  | .mdPeriodEnd => Sys2Proof.Machine.execMdPeriodEnd s
  | .mdReset n => Sys2Proof.Machine.execMdReset n s
  | .sessionStart n => Sys2Proof.Machine.execSessionStart n s
  | .sessionEnd n => Sys2Proof.Machine.execSessionEnd n s
  | .signRetry => Sys2Proof.Machine.execSignRetry s
  | .recordRead n => Sys2Proof.Machine.execRecordRead n s
  | .journalEntry ok => Sys2Proof.Machine.execJournalEntry ok s
  | .pfSave ok => Sys2Proof.Machine.execPfSave ok s
  | .billingRestore => Sys2Proof.Machine.execBillingRestore s
  | .restoredSessionEnd => Sys2Proof.Machine.execRestoredSessionEnd s
  | .dispList n => Sys2Proof.Machine.execDispList n s
  | .displayDwellExpiry => Sys2Proof.Machine.execDisplayDwellExpiry s
  | .dispStep => Sys2Proof.Machine.execDispStep s
  | .infoSet n => Sys2Proof.Machine.execInfoSet n s
  | .bilSnap n => Sys2Proof.Machine.execBilSnap n s
  | .bilSnapSeqRead m => Sys2Proof.Machine.execBilSnapSeqRead m s
  | .keyReady => Sys2Proof.Machine.execKeyReady s
  | .rootNew => Sys2Proof.Machine.execRootNew s
  | .keyRequest w n upset => Sys2Proof.Machine.execKeyRequest w n upset s
  | .keyPatrol upset => Sys2Proof.Machine.execKeyPatrol upset s
  | .keyUpdate n ok => Sys2Proof.Machine.execKeyUpdate n ok s
  | .pubkeyRead n => Sys2Proof.Machine.execPubkeyRead n s
  | .tamperEvent src stands => Sys2Proof.Machine.execTamperEvent src stands s
  | .tamperSample balls meshIn => Sys2Proof.Machine.execTamperSample balls meshIn s
  | .calendarSecond => Sys2Proof.Machine.execCalendarSecond s
  | .clockSet n => Sys2Proof.Machine.execClockSet n s
  | .gcmEnc n => Sys2Proof.Machine.execGcmEnc n s
  | .gcmDec n => Sys2Proof.Machine.execGcmDec n s
  | .ccmEnc n => Sys2Proof.Machine.execCcmEnc n s
  | .ccmDec n => Sys2Proof.Machine.execCcmDec n s
  | .ctrEnc n => Sys2Proof.Machine.execCtrEnc n s
  | .ctrDec n => Sys2Proof.Machine.execCtrDec n s
  | .cmac n => Sys2Proof.Machine.execCmac n s
  | .sha256 n => Sys2Proof.Machine.execSha256 n s
  | .sha384 n => Sys2Proof.Machine.execSha384 n s
  | .hmac256 n => Sys2Proof.Machine.execHmac256 n s
  | .hmac384 n => Sys2Proof.Machine.execHmac384 n s
  | .cryCtxLost n => Sys2Proof.Machine.execCryCtxLost n s
  | .ecdsaSign n faulty => Sys2Proof.Machine.execEcdsaSign n faulty s
  | .ecdsaVerify n => Sys2Proof.Machine.execEcdsaVerify n s
  | .ecdh n => Sys2Proof.Machine.execEcdh n s
  | .ephGen n => Sys2Proof.Machine.execEphGen n s
  | .ecdhEph n => Sys2Proof.Machine.execEcdhEph n s
  | .ed448Sign n faulty => Sys2Proof.Machine.execEd448Sign n faulty s
  | .ed448Verify n => Sys2Proof.Machine.execEd448Verify n s
  | .rand n => Sys2Proof.Machine.execRand n s
  | .trngStartup health kat => Sys2Proof.Machine.execTrngStartup health kat s
  | .trngHealth apt => Sys2Proof.Machine.execTrngHealth apt s
  | .drbgReseed => Sys2Proof.Machine.execDrbgReseed s
  | .bankOpen n => Sys2Proof.Machine.execBankOpen n s
  | .imageWrite n => Sys2Proof.Machine.execImageWrite n s
  | .verify n => Sys2Proof.Machine.execVerify n s
  | .activate n => Sys2Proof.Machine.execActivate n s
  | .commit n => Sys2Proof.Machine.execCommit n s
  | .cutinArm n => Sys2Proof.Machine.execCutinArm n s
  | .eSwitch => Sys2Proof.Machine.execESwitch s
  | .pSwitch => Sys2Proof.Machine.execPSwitch s
  | .cutinSwitch c => Sys2Proof.Machine.execCutinSwitch c s
  | .coldSwitch c => Sys2Proof.Machine.execColdSwitch c s
  | .stopSwitch c => Sys2Proof.Machine.execStopSwitch c s
  | .stateSend n => Sys2Proof.Machine.execStateSend n s
  | .stateRecv n => Sys2Proof.Machine.execStateRecv n s
  | .updOwnMove m z => Sys2Proof.Machine.execUpdOwnMove m z s
  | .updOwnMoveBack m z => Sys2Proof.Machine.execUpdOwnMoveBack m z s
  | .updHealthWrite m z v => Sys2Proof.Machine.execUpdHealthWrite m z v s
  | .healthWindowClose c => Sys2Proof.Machine.execHealthWindowClose c s
  | .updRevertReq c => Sys2Proof.Machine.execUpdRevertReq c s
  | .updRevack m z v => Sys2Proof.Machine.execUpdRevack m z v s
  | .revertTimeout c => Sys2Proof.Machine.execRevertTimeout c s
  | .resetPath => Sys2Proof.Machine.execResetPath s
  | .safeNewTimeout => Sys2Proof.Machine.execSafeNewTimeout s
  | .recoveryData payload crc => Sys2Proof.Machine.execRecoveryData payload crc s
  | .recoveryEnd payload crc => Sys2Proof.Machine.execRecoveryEnd payload crc s
  | .safCycle c => Sys2Proof.Machine.execSafCycle c s
  | .safInputSample c v => Sys2Proof.Machine.execSafInputSample c v s
  | .testPulse c k mid after => Sys2Proof.Machine.execTestPulse c k mid after s
  | .safWatchdog c => Sys2Proof.Machine.execSafWatchdog c s
  | .safClockHalt c => Sys2Proof.Machine.execSafClockHalt c s
  | .elementReadback c n on => Sys2Proof.Machine.execElementReadback c n on s
  | .darkTest c n off => Sys2Proof.Machine.execDarkTest c n off s
  | .edmCheck n => Sys2Proof.Machine.execEdmCheck n s
  | .manualReset => Sys2Proof.Machine.execManualReset s
  | .stop1Expiry f => Sys2Proof.Machine.execStop1Expiry f s
  | .safCommWrite m z v => Sys2Proof.Machine.execSafCommWrite m z v s
  | .commissionProgram ok => Sys2Proof.Machine.execCommissionProgram ok s
  | .commissionTimeout => Sys2Proof.Machine.execCommissionTimeout s
  | .safStart c test => Sys2Proof.Machine.execSafStart c test s
  | .safCmdUnlock m z v => Sys2Proof.Machine.execSafCmdUnlock m z v s
  | .lsSet m z v => Sys2Proof.Machine.execLsSet m z v s
  | .lsClr m z v => Sys2Proof.Machine.execLsClr m z v s
  | .lsLclr m z v => Sys2Proof.Machine.execLsLclr m z v s
  | .lsForward => Sys2Proof.Machine.execLsForward s
  | .lsinEdge n level => Sys2Proof.Machine.execLsinEdge n level s
  | .lsCurrentLimit n limited temp => Sys2Proof.Machine.execLsCurrentLimit n limited temp s
  | .lsRestart n temp => Sys2Proof.Machine.execLsRestart n temp s
  | .lsDerateStep n temp => Sys2Proof.Machine.execLsDerateStep n temp s
  | .lsOverload n => Sys2Proof.Machine.execLsOverload n s
  | .lsOffTest n stbHigh olHigh => Sys2Proof.Machine.execLsOffTest n stbHigh olHigh s
  | .lsCurrentSample n code seq => Sys2Proof.Machine.execLsCurrentSample n code seq s
  | .curStream n => Sys2Proof.Machine.execCurStream n s
  | .diagWait n => Sys2Proof.Machine.execDiagWait n s
  | .diagSnap n => Sys2Proof.Machine.execDiagSnap n s
  | .uartCharReceived p ch pe fe brk => Sys2Proof.Machine.execUartCharReceived p ch pe fe brk s
  | .uDataRead m p => Sys2Proof.Machine.execUDataRead m p s
  | .uDataWrite m p z v => Sys2Proof.Machine.execUDataWrite m p z v s
  | .uartWake p ch => Sys2Proof.Machine.execUartWake p ch s
  | .flowSend p => Sys2Proof.Machine.execFlowSend p s
  | .xoffTmo p => Sys2Proof.Machine.execXoffTmo p s
  | .uartTx p => Sys2Proof.Machine.execUartTx p s
  | .uartRx p => Sys2Proof.Machine.execUartRx p s
  | .uartRxIdle p => Sys2Proof.Machine.execUartRxIdle p s
  | .uartBreak p => Sys2Proof.Machine.execUartBreak p s
  | .klineInitFast p => Sys2Proof.Machine.execKlineInitFast p s
  | .klineInit5Baud p sound period => Sys2Proof.Machine.execKlineInit5Baud p sound period s
  | .klineEchoMismatch p => Sys2Proof.Machine.execKlineEchoMismatch p s
  | .canTx c outcome errs sof => Sys2Proof.Machine.execCanTx c outcome errs sof s
  | .canRx c => Sys2Proof.Machine.execCanRx c s
  | .canFrameReceived c w0 w1 data sof errs => Sys2Proof.Machine.execCanFrameReceived c w0 w1 data sof errs s
  | .canBusOff c => Sys2Proof.Machine.execCanBusOff c s
  | .canRecover m c z v => Sys2Proof.Machine.execCanRecover m c z v s
  | .canRecoveryDone c => Sys2Proof.Machine.execCanRecoveryDone c s
  | .ethTx outcome sfd => Sys2Proof.Machine.execEthTx outcome sfd s
  | .ethRx => Sys2Proof.Machine.execEthRx s
  | .ethFrameReceived frame fcsOk sfd => Sys2Proof.Machine.execEthFrameReceived frame fcsOk sfd s
  | .mdio data => Sys2Proof.Machine.execMdio data s
  | .spiXfer p n rx filled => Sys2Proof.Machine.execSpiXfer p n rx filled s
  | .spiPselRise p n => Sys2Proof.Machine.execSpiPselRise p n s
  | .i2cWrite p e => Sys2Proof.Machine.execI2cWrite p e s
  | .i2cRead p e rx => Sys2Proof.Machine.execI2cRead p e rx s
  | .i2cWriteRead p e rx => Sys2Proof.Machine.execI2cWriteRead p e rx s
  | .busClear p sda => Sys2Proof.Machine.execBusClear p sda s
  | .i2cSclTimeout p => Sys2Proof.Machine.execI2cSclTimeout p s
  | .tgtRx p data => Sys2Proof.Machine.execTgtRx p data s
  | .tgtTx p k => Sys2Proof.Machine.execTgtTx p k s
  | .setupWait pkt => Sys2Proof.Machine.execSetupWait pkt s
  | .ep0In => Sys2Proof.Machine.execEp0In s
  | .ep0Out pkt => Sys2Proof.Machine.execEp0Out pkt s
  | .inXfer n => Sys2Proof.Machine.execInXfer n s
  | .outXfer n pkt => Sys2Proof.Machine.execOutXfer n pkt s
  | .usbBusReset => Sys2Proof.Machine.execUsbBusReset s
  | .usbSuspend => Sys2Proof.Machine.execUsbSuspend s
  | .usbResume m z v => Sys2Proof.Machine.execUsbResume m z v s
  | .usbSof frame => Sys2Proof.Machine.execUsbSof frame s
  | .usbAddrWrite => Sys2Proof.Machine.execUsbAddrWrite s
  | .portClkLost p => Sys2Proof.Machine.execPortClkLost p s
  | .portClkRestored p => Sys2Proof.Machine.execPortClkRestored p s
  | .jtagAuth response => Sys2Proof.Machine.execJtagAuth response s
  | .jtagDbgAccess o => Sys2Proof.Machine.execJtagDbgAccess o s
  | .jtagBoundaryScan => Sys2Proof.Machine.execJtagBoundaryScan s
  | .dbgEnd => Sys2Proof.Machine.execDbgEnd s
  | .vinRise vbat => Sys2Proof.Machine.execVinRise vbat s
  | .vinFallPdStop => Sys2Proof.Machine.execVinFallPdStop s
  | .pdThermalShutdown t => Sys2Proof.Machine.execPdThermalShutdown t s
  | .pdThermalRelease t => Sys2Proof.Machine.execPdThermalRelease t s
  | .soThermalOff c n => Sys2Proof.Machine.execSoThermalOff c n s
  | .pllRelock k => Sys2Proof.Machine.execPllRelock k s
  | .soThermalRelease c n => Sys2Proof.Machine.execSoThermalRelease c n s
  | .rstCntClear n => Sys2Proof.Machine.execRstCntClear n s
  | .softAbortRampEnd c => Sys2Proof.Machine.execSoftAbortRampEnd c s
  | .hbFault b ot => Sys2Proof.Machine.execHbFault b ot s
  | .tripInputRelease ch => Sys2Proof.Machine.execTripInputRelease ch s
  | .partnerMiss => Sys2Proof.Machine.execPartnerMiss s
  | .canSynchronised c => Sys2Proof.Machine.execCanSynchronised c s
  | .usbVbusChange level => Sys2Proof.Machine.execUsbVbusChange level s
  | .usbHostResume => Sys2Proof.Machine.execUsbHostResume s
  | .vinPfRise vin => Sys2Proof.Machine.execVinPfRise vin s
  | .resetNRelease => Sys2Proof.Machine.execResetNRelease s
  | .borRelease => Sys2Proof.Machine.execBorRelease s
  | .vsafeChange v => Sys2Proof.Machine.execVsafeChange v s
  | .vhbChange v => Sys2Proof.Machine.execVhbChange v s
  | .i2cTargetAddressed p addr general rd => Sys2Proof.Machine.execI2cTargetAddressed p addr general rd s
  | .spiPeripheralWord p => Sys2Proof.Machine.execSpiPeripheralWord p s
  | .uartCharSent p => Sys2Proof.Machine.execUartCharSent p s
  | .keepaliveReceived atPd => Sys2Proof.Machine.execKeepaliveReceived atPd s
  | .calendarSecondsRead m sub => Sys2Proof.Machine.execCalendarSecondsRead m sub s

end Sys2Proof.Machine
end

