-- ==== Sys2Proof/Machine/Step.lean ====
section
/-! DEFINITION. One step of the part: the command at the front of the queue, or, with none waiting, what passes by itself. -/
namespace Sys2Proof.Machine

/-- Takes the command at the front of the queue and runs it on the state with the rest of the queue. With none waiting, one cycle
of the time base passes. -/
def step (s : State) : Host.Outcome State Fault Refusal :=
  match s.pending with
  | c :: rest => exec c { s with pending := rest }
  | [] => .next s.tbIdle

/-- The state with the command that a word spells at the front of its queue; the table gives no command bits, so a word spells
none. -/
def State.withFetchWord (s : State) (nbits w : Nat) : State :=
  match decodeTableWord nbits w with
  | some c => { s with pending := c :: s.pending }
  | none => s

end Sys2Proof.Machine
end

