-- ==== Sys2Proof/Safety.lean ====
section
/-! DEFINITION. The terms that statements about the part are made in: which writes reach a register, what a register leaves
unchanged, and what counts as a sound state. -/
namespace Sys2Proof.Machine

/-- Master `m` may write the window `w` now: it may issue an access, it reaches the window, the block is present and powered,
and no rule of the handover or the vault sets its write aside (R3, R51, R245, R634, R697). -/
abbrev State.CanWrite (s : State) (w : Win) (m : Nat) : Prop :=
  s.mayIssue m = true ∧ windowWrites m w = true ∧ s.shadowed m w = false ∧ (w = .vlt → s.standsFor m = mH0) ∧ s.live w = true

/-- Master `m` may read the window `w` now (R3, R51, R245). -/
abbrev State.CanRead (s : State) (w : Win) (m : Nat) : Prop :=
  s.mayIssue m = true ∧ windowReach m w = true ∧ s.live w = true

/-- A write of `v` by master `m` to the register at `a` reaches it unhindered: no pair of the window is pending, and no lock
covers the register (R102, R104, Table RING-12). -/
abbrev State.Unhindered (s : State) (w : Win) (m a : Nat) : Prop :=
  s.CanWrite w m ∧ s.pendingComp w = none ∧ (isLk a = true → s.locked w = false)

/-- A 4-byte write of `v` by master `m` completes the pair of the WP register at `a`: its complement has been written, and no lock
covers the register (R102, R103, R881). -/
abbrev State.PairReady (s : State) (w : Win) (m a : Nat) (v : Word) : Prop :=
  s.CanWrite w m ∧ s.pendingComp w = some (m, a, ~~~ v) ∧ (isLk a = true → s.locked w = false)

/-- The registers that a pair leaves outside `ks` are as they were. -/
def RegsSame (ks : List Nat) (s t : State) : Prop := ∀ a, a ∉ ks → t.reg a = s.reg a

/-- Every bus port but those of the masters `ms` shows what it showed. -/
def PortsSame (ms : List Nat) (s t : State) : Prop := ∀ m, m ∉ ms → t.port m = s.port m

/-- The bytes of `n` words from `a` in core `host`'s view, word by word. -/
def State.span (s : State) (host a n : Nat) : List (Nat × Nat) := (List.range n).map (fun i => (s.phys host (a + 4 * i), 4))

/-- The reservations are as they were, but that those on a word which meets one of the ranges `rs` may have ended. -/
def HoldsSame (rs : List (Nat × Nat)) (s t : State) : Prop :=
  ∀ c, t.lr.get (fun _ => none) c = s.lr.get (fun _ => none) c ∨
    (t.lr.get (fun _ => none) c = none ∧ ∃ p, s.lr.get (fun _ => none) c = some p ∧ ∃ r ∈ rs, r.1 < p + 4 ∧ p < r.1 + r.2)

/-- Every byte of memory outside the ranges `rs` (address, length) is as it was, and so is the ECC error of its word, and the
reservations on words outside them. -/
def BytesSame (rs : List (Nat × Nat)) (s t : State) : Prop :=
  (∀ b, (∀ r ∈ rs, ¬ (r.1 ≤ b ∧ b < r.1 + r.2)) → t.byte b = s.byte b ∧ t.ecc b = s.ecc b) ∧ HoldsSame rs s t

/-- The event of source `n` has been heard: every core that its route names, and that is not in reset, has it pending
(R114, R119, R124). -/
def Heard (n : Nat) (s t : State) : Prop :=
  s.sourceLive n = true → ∀ c, c < 7 → bit (s.route n) c = true → 2 ≤ s.coreState c →
    bit (t.banked c (pendAddr n)) (n % 32) = true

/-- No core's copy of a banked register has changed, but EVR_MISS and the words that hold the pending bits of the sources `ns`. -/
def BanksSame (ns : List Nat) (s t : State) : Prop :=
  ∀ c a, a < 0x100000000 → a ≠ A.EVR_MISS → (∀ n ∈ ns, a ≠ pendAddr n) → t.banked c a = s.banked c a

/-- A list filled up with zero bytes to `n`. -/
def padTo (n : Nat) (l : List Byte) : List Byte := l ++ List.replicate (n - l.length) 0#8

/-- A descriptor with opcode `op` is in hand on ring `n` of the window, and nothing has decided its completion. -/
abbrev InHand (s : State) (w : Win) (n op : Nat) : Prop := s.inHand w n = some op

/-- The descriptor in hand on ring `n` of the window has been decided with this completion. -/
abbrev Decided (t : State) (w : Win) (n : Nat) (c : Cpl) : Prop := (t.ring w n).done = some c

/-- What every step keeps: memory in its canonical form. -/
abbrev State.Sound (s : State) : Prop := Memory.wf s.mem = true

end Sys2Proof.Machine
end

