-- ==== Sys2Proof/Certificates/Slice0/Obligations.lean ====
section
/-! DEFINITION. The statements about the part, for the provers: each is a proposition over every state it names. -/
open Sys2Proof Sys2Proof.Machine

/-- PD_REGISTER_READ and PD_REGISTER_WRITE (R28, R29, R37), LML_CTL_WRITE (R102) and RESUME (R40). -/
def Obligations.LinkRegisterAccesses : Prop :=
  (∀ (s : State) (w : Win) (m : Fin 8) (a : Word) (z : AccSize), winOf a.toNat = some w → pdRegister a.toNat = true →
    aligned a.toNat z.bytes = true → s.CanRead w m → s.linkUp = true →
    ∃ t, exec (.pdRegisterRead m a z) s = .next t ∧
      t = { s with link := { s.link with
        queue := s.link.queue ++ [⟨m, a.toNat - a.toNat % 4, true, a.toNat % 4, z.bytes, 0#32, false⟩] } }) ∧
  (∀ (s : State) (w : Win) (m : Fin 8) (a : Word) (z : AccSize), winOf a.toNat = some w → pdRegister a.toNat = true →
    aligned a.toNat z.bytes = true → s.CanRead w m → s.linkUp = false →
    ∃ t, exec (.pdRegisterRead m a z) s = .next t ∧ t.port m = ⟨0#32, .ok⟩ ∧ bit (t.reg A.LML_ERR) 3 = true ∧
      t.reg A.LML_FAIL_ADDR = a ∧ RegsSame [A.LML_ERR, A.LML_FAIL_ADDR] s t ∧
      t = { s with regs := t.regs, bank := t.bank, waitHits := t.waitHits, ports := t.ports }) ∧
  (∀ (s : State) (w : Win) (m : Fin 8) (a : Word) (z : AccSize) (v : Word) (r : RegInfo), winOf a.toNat = some w →
    regInfo (a.toNat - a.toNat % 4) = some r → r.acc = .rw → pdRegister a.toNat = true → aligned a.toNat z.bytes = true →
    s.Unhindered w m (a.toNat - a.toNat % 4) → s.linkUp = true →
    ∃ t, exec (.pdRegisterWrite m a z v) s = .next t ∧
      t.link = { s.link with queue := s.link.queue ++ [⟨m, a.toNat - a.toNat % 4, false, a.toNat % 4, z.bytes, v, false⟩] } ∧
      fld (t.reg A.LML_STAT) 8 8 = min 16 t.linkHeld ∧ RegsSame [A.LML_STAT] s t ∧
      t = { s with regs := t.regs, link := t.link }) ∧
  (∀ (s : State) (w : Win) (m : Fin 8) (a v : Word) (r : RegInfo), winOf a.toNat = some w → a.toNat % 4 = 0 →
    regInfo a.toNat = some r → r.acc = .wp → pdRegister a.toNat = true → s.PairReady w m a.toNat v → s.linkUp = false →
    ∃ t, exec (.pdRegisterWrite m a .word v) s = .next t ∧ t.link = s.link ∧ bit (t.reg A.LML_ERR) 2 = true ∧
      t.reg A.LML_FAIL_ADDR = a ∧ RegsSame [A.LML_ERR, A.LML_FAIL_ADDR] s t ∧
      t = { s with regs := t.regs, bank := t.bank, waitHits := t.waitHits, comp := t.comp }) ∧
  (∀ (s : State) (m : Fin 8) (v : Word), s.PairReady .sys m A.LML_CTL v → bit v 0 = false →
    ∃ t, exec (.lmlCtlWrite m .word v) s = .next t ∧ fld (t.reg A.LML_CTL) 8 8 = clampNat 1 255 (fld v 8 8) ∧
      fld (t.reg A.LML_CTL) 16 4 = clampNat 0 3 (fld v 16 4) ∧ RegsSame [A.LML_CTL] s t ∧
      t = { s with regs := t.regs, comp := t.comp }) ∧
  (∀ (s : State) (m : Fin 8), s.PairReady .sys m A.LML_CTL (setBit (s.reg A.LML_CTL) 0 true) → m.val = s.primaryHost →
    s.linkUp = true → s.flag A.LML_STAT 2 = true → s.safeHolds 7 = false →
    ∃ t, exec (.resume m) s = .next t ∧
      t.link = { s.link with queue := s.link.queue ++ [⟨m, A.LML_CTL, false, 0, 4, 0#32, true⟩] } ∧
      RegsSame [A.LML_CTL, A.LML_STAT] s t ∧ t = { s with regs := t.regs, comp := t.comp, link := t.link })

/-- LINK_REQUEST_SEND, PD_REQUEST_FRAME, LINK_RESPONSE_FRAME, LINK_RESPONSE_TIMEOUT, KEEPALIVE_SEND, KEEPALIVE_RECEIVED. -/
def Obligations.LinkFrames : Prop :=
  (∀ (s : State) (r : LinkReq) (rest : List LinkReq), s.link.flight = none → s.link.queue = r :: rest → s.linkUp = true →
    ∃ t, exec .linkRequestSend s = .next t ∧
      t = { s with link := { s.link with queue := rest, flight := some ⟨r, s.link.tag, 0⟩, tag := (s.link.tag + 1) % 16 } }) ∧
  (∀ (s : State) (f : Flight), s.link.flight = some f → s.link.pdTag ≠ some f.tag → f.req.isRead = true →
    ∃ t, exec (.pdRequestFrame true) s = .next t ∧
      t = { s with link := { s.link with pdTag := some f.tag, pdData := s.pdValue f.req.addr, validPd := s.now } }) ∧
  (∀ (s : State), ∃ t, exec (.pdRequestFrame false) s = .next t ∧ t = s) ∧
  (∀ (s : State) (f : Flight), s.link.flight = some f → s.link.pdTag = some f.tag → f.req.isRead = true →
    ∃ t, exec (.linkResponseFrame true) s = .next t ∧ t.link = { s.link with flight := none, fails := 0, validCd := s.now } ∧
      t.port f.req.master = ⟨readLanes s.link.pdData f.req.lane f.req.size, .ok⟩ ∧
      PortsSame [f.req.master] s t ∧ RegsSame [A.LML_STAT] s t ∧
      t = { s with regs := t.regs, link := t.link, ports := t.ports }) ∧
  (∀ (s : State) (f : Flight), s.link.flight = some f → s.link.pdTag = some f.tag → f.retries < s.field A.LML_CTL 16 4 →
    ∃ t, exec (.linkResponseFrame false) s = .next t ∧ t.link = { s.link with flight := some { f with retries := f.retries + 1 } } ∧
      bit (t.reg A.LML_ERR) 0 = true ∧ RegsSame [A.LML_ERR, A.LML_CNT] s t ∧ t = { s with regs := t.regs, link := t.link }) ∧
  (∀ (s : State) (f : Flight), s.link.flight = some f → f.retries < s.field A.LML_CTL 16 4 →
    ∃ t, exec .linkResponseTimeout s = .next t ∧ t.link = { s.link with flight := some { f with retries := f.retries + 1 } } ∧
      t.reg A.LML_CNT = satAdd (s.reg A.LML_CNT) 16 16 1 ∧ RegsSame [A.LML_CNT] s t ∧ t = { s with regs := t.regs, link := t.link }) ∧
  (∀ (s : State), s.link.flight = none →
    ∃ t, exec (.keepaliveSend true) s = .next t ∧ t = { s with link := { s.link with seqPd := (s.link.seqPd + 1) % 4096 } }) ∧
  (∀ (s : State), s.link.flight = none →
    ∃ t, exec (.keepaliveSend false) s = .next t ∧ t = { s with link := { s.link with seqCd := (s.link.seqCd + 1) % 4096 } }) ∧
  (∀ (s : State), ∃ t, exec (.keepaliveReceived true) s = .next t ∧ t = { s with link := { s.link with validPd := s.now } }) ∧
  (∀ (s : State), ∃ t, exec (.keepaliveReceived false) s = .next t ∧ t = { s with link := { s.link with validCd := s.now } })

/-- LINK_LOSS_CD, LINK_LOSS_PD, LINK_RETRAINED, GRACE_EXPIRY, PD_RESET, SAFETY_TRIP_WIRE, DWELL_ABORT_WIRE, PD_FAULT. -/
def Obligations.LinkLossAndReset : Prop :=
  (∀ (s : State), s.linkUp = true → s.link.validCd + 16000 ≤ s.now →
    ∃ t, exec .linkLossCd s = .next t ∧ t.link.queue = [] ∧ t.link.flight = none ∧ t.linkUp = false ∧
      bit (t.reg A.LML_STAT) 1 = true ∧ RegsSame [A.LML_ERR, A.LML_STAT, A.LML_FAIL_ADDR] s t ∧
      t = { s with regs := t.regs, bank := t.bank, waitHits := t.waitHits, link := t.link, lsw := t.lsw, ports := t.ports }) ∧
  (∀ (s : State), s.link.validPd + 16000 ≤ s.now →
    ∃ t, exec .linkLossPd s = .next t ∧ t = { s with link := { s.link with pdLoss := true } }) ∧
  (∀ (s : State), s.link.pdResetToReport = false →
    ∃ t, exec .linkRetrained s = .next t ∧ t.linkUp = true ∧ t.link.pdLoss = false ∧ t.link.fails = 0 ∧
      RegsSame [A.LML_STAT] s t ∧ t = { s with regs := t.regs, link := t.link, chg := t.chg }) ∧
  (∀ (s : State), s.link.pdLoss = true → s.link.pdAuton = false →
    ∃ t, exec .graceExpiry s = .next t ∧ t.link = { s.link with pdLoss := false, pdAuton := true } ∧
      bit (t.reg A.LML_STAT) 2 = true ∧ bit (t.reg A.LML_ERR) 6 = true ∧ t.wires.injOut = 0 ∧
      t = { s with regs := t.regs, bank := t.bank, waitHits := t.waitHits, link := t.link, wires := t.wires, eng := t.eng,
                   free := t.free, rings := t.rings, mem := t.mem, ramEcc := t.ramEcc, lr := t.lr }) ∧
  (∀ (s : State), s.linkUp = false →
    ∃ t, exec .pdReset s = .next t ∧ t.link = { s.link with pdAuton := true, pdLoss := false, pdTag := none, pdResetToReport := true } ∧
      t.wires.injOut = 0 ∧ t.lsw.mode = 0#32 ∧ t.lsw.cmd = 0#32 ∧
      t = { s with regs := t.regs, elems := t.elems, loops := t.loops, link := t.link, wires := t.wires, eng := t.eng, free := t.free,
                   rings := t.rings, mem := t.mem, ramEcc := t.ramEcc, lr := t.lr, lsw := t.lsw }) ∧
  (∀ (s : State), ∃ t, exec (.safetyTripWire false) s = .next t ∧ t.wires.sta = true ∧
    t = { s with regs := t.regs, bank := t.bank, waitHits := t.waitHits, ang := t.ang, eng := t.eng, free := t.free, mem := t.mem, ramEcc := t.ramEcc, lr := t.lr,
                 rings := t.rings, wires := t.wires }) ∧
  (∀ (s : State), ∃ t, exec (.safetyTripWire true) s = .next t ∧ t.wires.stb = true ∧
    t = { s with regs := t.regs, bank := t.bank, waitHits := t.waitHits, ang := t.ang, eng := t.eng, free := t.free, mem := t.mem, ramEcc := t.ramEcc, lr := t.lr,
                 rings := t.rings, wires := t.wires }) ∧
  (∀ (s : State) (c : Fin 4), ∃ t, exec (.dwellAbortWire c) s = .next t ∧ t.wires.dwa.getLsbD c = true ∧
    (s.present .edr = true → t.wires.coil.getLsbD c = false) ∧
    t = { s with regs := t.regs, wires := t.wires, eng := t.eng, free := t.free, rings := t.rings, mem := t.mem, ramEcc := t.ramEcc, lr := t.lr }) ∧
  (∀ (s : State), s.wires.pdflt = false →
    ∃ t, exec .pdFault s = .next t ∧ t.wires = { s.wires with pdflt := true } ∧ Heard 29 s t ∧ BanksSame [29] s t ∧
      t = { s with wires := t.wires, bank := t.bank, waitHits := t.waitHits })

/-- CORE_MEMORY_ACCESS, AMO_INSTRUCTION, FENCE_I, TIME_CSR_WRITE and MISALIGNED_ACCESS. -/
def Obligations.CoreAccesses : Prop :=
  (∀ (s : State) (m : Fin 8) (a : Word) (z : AccSize) (v : Word), s.mayIssue m = true → a.toNat % z.bytes = 0 →
    s.pmpAllows m false .store a.toNat = true → s.coreReach m .store (regionOf (s.phys m a.toNat)) = true →
    s.regionOn (regionOf (s.phys m a.toNat)) = true → s.regionAbsent (regionOf (s.phys m a.toNat)) = false →
    (ramArray (s.phys m a.toNat)).isSome = true → s.ecc (s.phys m a.toNat) ≠ 2 →
    ∃ t, exec (.coreMemoryAccess m (.access .store) false a z v) s = .next t ∧ t.port m = ⟨0#32, .ok⟩ ∧
      readLanes (t.word (s.phys m a.toNat - s.phys m a.toNat % 4)) (s.phys m a.toNat % 4) z.bytes = readLanes v 0 z.bytes ∧
      BytesSame [(s.phys m a.toNat, z.bytes)] s t ∧ PortsSame [m] s t ∧
      t = { s with mem := t.mem, ramEcc := t.ramEcc, lr := t.lr, ports := t.ports }) ∧
  (∀ (s : State) (m : Fin 8) (a : Word) (z : AccSize), s.mayIssue m = true → a.toNat % z.bytes = 0 →
    s.pmpAllows m false .load a.toNat = true → s.coreReach m .load (regionOf (s.phys m a.toNat)) = true →
    s.regionOn (regionOf (s.phys m a.toNat)) = true → s.regionAbsent (regionOf (s.phys m a.toNat)) = false →
    (ramArray (s.phys m a.toNat)).isSome = true → s.ecc (s.phys m a.toNat) ≠ 2 →
    ∃ t, exec (.coreMemoryAccess m (.access .load) false a z 0#32) s = .next t ∧
      t.port m = ⟨readLanes (s.word (s.phys m a.toNat - s.phys m a.toNat % 4)) (s.phys m a.toNat % 4) z.bytes, .ok⟩ ∧
      PortsSame [m] s t ∧ t = { s with ports := t.ports }) ∧
  (∀ (s : State) (m : Fin 8) (a : Word) (z : AccSize), s.mayIssue m = true → a.toNat % z.bytes = 0 →
    s.pmpAllows m false .load a.toNat = true → s.coreReach m .load (regionOf (s.phys m a.toNat)) = false → s.flag A.FAB_STAT 0 = false →
    ∃ t, exec (.coreMemoryAccess m (.access .load) false a z 0#32) s = .next t ∧ t.port m = ⟨0#32, .loadFault⟩ ∧
      t.reg A.FAB_DENY_ADDR = a ∧ fld (t.reg A.FAB_DENY_INFO) 0 4 = m ∧ bit (t.reg A.FAB_STAT) 0 = true ∧
      t.reg A.FAB_DENY_CNT = satAdd (s.reg A.FAB_DENY_CNT) 0 32 1 ∧ Heard 30 s t ∧ BanksSame [30] s t ∧
      RegsSame [A.FAB_DENY_ADDR, A.FAB_DENY_INFO, A.FAB_STAT, A.FAB_DENY_CNT] s t ∧
      t = { s with regs := t.regs, bank := t.bank, waitHits := t.waitHits, ports := t.ports }) ∧
  (∀ (s : State) (m : Fin 8) (i : Fin 16) (cfg : BitVec 8) (a v : Word), s.mayIssue m = true → m.val ≤ 1 →
    (s.pmp.get (fun _ => {}) (m * 16 + i)).locked = false → cfg.toNat / 8 % 4 ≠ 2 →
    ∃ t, exec (.coreMemoryAccess m (.pmp i cfg) false a .word v) s = .next t ∧ t.port m = ⟨0#32, .ok⟩ ∧
      (t.pmp.get (fun _ => {}) (m * 16 + i)).addr = a ∧ (t.pmp.get (fun _ => {}) (m * 16 + i)).locked = cfg.getLsbD 7 ∧
      (t.pmp.get (fun _ => {}) (m * 16 + i)).w = cfg.getLsbD 1 ∧ PortsSame [m] s t ∧
      t = { s with pmp := t.pmp, ports := t.ports }) ∧
  (∀ (s : State) (m : Fin 8) (a v : Word), s.mayIssue m = true → m.val < 4 → a.toNat % 4 = 0 →
    amoRegion m (regionOf (s.phys m a.toNat)) = true → s.regionOn (regionOf (s.phys m a.toNat)) = true →
    s.ecc (s.phys m a.toNat) ≠ 2 →
    ∃ t, exec (.amoInstruction m .add a v) s = .next t ∧ t.port m = ⟨s.word (s.phys m a.toNat), .ok⟩ ∧
      t.word (s.phys m a.toNat) = s.word (s.phys m a.toNat) + v ∧ BytesSame [(s.phys m a.toNat, 4)] s t ∧ PortsSame [m] s t ∧
      t = { s with mem := t.mem, ramEcc := t.ramEcc, lr := t.lr, ports := t.ports }) ∧
  (∀ (s : State) (m : Fin 8) (a : Word), s.mayIssue m = true → m.val < 4 → a.toNat % 4 = 0 →
    amoRegion m (regionOf (s.phys m a.toNat)) = true → s.regionOn (regionOf (s.phys m a.toNat)) = true →
    s.ecc (s.phys m a.toNat) ≠ 2 →
    ∃ t, exec (.amoInstruction m .lr a 0#32) s = .next t ∧ t.port m = ⟨s.word (s.phys m a.toNat), .ok⟩ ∧
      t.lr.get (fun _ => none) m = some (s.phys m a.toNat) ∧ t = { s with lr := t.lr, ports := t.ports }) ∧
  (∀ (s : State) (m : Fin 8) (a v : Word), s.mayIssue m = true → m.val < 4 → a.toNat % 4 = 0 →
    amoRegion m (regionOf (s.phys m a.toNat)) = true → s.regionOn (regionOf (s.phys m a.toNat)) = true →
    s.ecc (s.phys m a.toNat) ≠ 2 → s.lr.get (fun _ => none) m ≠ some (s.phys m a.toNat) →
    ∃ t, exec (.amoInstruction m .sc a v) s = .next t ∧ t.port m = ⟨1#32, .ok⟩ ∧ t.lr.get (fun _ => none) m = none ∧
      t = { s with lr := t.lr, ports := t.ports }) ∧
  (∀ (s : State) (m : Fin 8), s.mayIssue m = true →
    ∃ t, exec (.fenceI m) s = .next t ∧ t = { s with icache := s.icache.filter (fun e => e.1 / 0x100000000 ≠ m.val) }) ∧
  (∀ (s : State) (m : Fin 8), s.mayIssue m = true →
    ∃ t, exec (.timeCsrWrite m) s = .next t ∧ t.port m = ⟨0#32, .illegal⟩ ∧ PortsSame [m] s t ∧ t = { s with ports := t.ports }) ∧
  (∀ (s : State) (m : Fin 8) (store : Bool), s.mayIssue m = true →
    ∃ t, exec (.misalignedAccess m store) s = .next t ∧ t.port m = ⟨0#32, if store then .storeMisaligned else .loadMisaligned⟩ ∧
      PortsSame [m] s t ∧ t = { s with ports := t.ports })

/-- HAPPENINGS_ORDER. -/
def Obligations.HappeningsInOrder : Prop :=
  (∀ (s : State) (paths : List AsyncPath) (samples : List CycleSample) (accesses : List BusAccess) (updates : List HwUpdate),
    ∃ t1 t2 t3 t, exec (.happeningsOrder paths [] [] []) s = .next t1 ∧ exec (.happeningsOrder [] samples [] []) t1 = .next t2 ∧
      exec (.happeningsOrder [] [] accesses []) t2 = .next t3 ∧ exec (.happeningsOrder [] [] [] updates) t3 = .next t ∧
      exec (.happeningsOrder paths samples accesses updates) s = .next t) ∧
  (∀ (s : State) (x y : BusAccess), x.m.val < y.m.val →
    ∃ t, exec (.happeningsOrder [] [] [y, x] []) s = .next t ∧ exec (.happeningsOrder [] [] [x, y] []) s = .next t) ∧
  (∀ (s : State), ∃ t, exec (.happeningsOrder [] [] [] []) s = .next t ∧ t = s)

/-- REGISTER_WRITE, WP_REGISTER_WRITE, COMPLEMENT_WRITE, PAIR_WINDOW_EXPIRY, BLK_LOCK_SET and OFF_DOMAIN_ACCESS. -/
def Obligations.RegisterWrites : Prop :=
  (∀ (s : State) (m : Fin 8) (a : Word) (z : AccSize) (v : Word) (r : RegInfo), winOf a.toNat = some .sys →
    aligned a.toNat z.bytes = true → a.toNat % 0x1000 < 0x600 → regInfo (a.toNat - a.toNat % 4) = some r → r.acc = .ro →
    s.Unhindered .sys m (a.toNat - a.toNat % 4) → ∃ t, exec (.registerWrite m a z v) s = .next t ∧ t = s) ∧
  (∀ (s : State) (m : Fin 8) (a : Word) (z : AccSize) (v : Word), a.toNat - a.toNat % 4 = A.LML_ERR → aligned a.toNat z.bytes = true →
    s.Unhindered .sys m A.LML_ERR →
    ∃ t, exec (.registerWrite m a z v) s = .next t ∧
      t.reg A.LML_ERR = s.reg A.LML_ERR &&& ~~~ (w1cBits a.toNat z.bytes v) ∧ RegsSame [A.LML_ERR] s t ∧ t = { s with regs := t.regs }) ∧
  (∀ (s : State) (m : Fin 8) (z : AccSize) (v : Word), s.Unhindered .evr m A.EVR_RT_IDX →
    ∃ t, exec (.registerWrite m (wd A.EVR_RT_IDX) z v) s = .next t ∧
      fld (t.reg A.EVR_RT_IDX) 0 8 = fld v 0 8 ∧ RegsSame [A.EVR_RT_IDX] s t ∧ t = { s with regs := t.regs }) ∧
  (∀ (s : State) (w : Win) (m : Fin 8) (a v : Word), winOf a.toNat = some w → a.toNat % 4 = 0 → isWp a.toNat = true →
    isLk a.toNat = true → isPd a.toNat = false → a.toNat % 0x1000 < 0x600 → s.CanWrite w m → s.pendingComp w = some (m.val, a.toNat, ~~~ v) → s.locked w = true →
    ∃ t, exec (.wpRegisterWrite m a .word v) s = .next t ∧ t.reg A.CFC_LOCK_ADDR = a ∧ bit (t.reg A.CFC_STAT) 9 = true ∧
      t.pendingComp w = none ∧ RegsSame [A.CFC_LOCK_ADDR, A.CFC_STAT] s t ∧ Heard 122 s t ∧ BanksSame [122] s t ∧
      t = { s with regs := t.regs, comp := t.comp, bank := t.bank, waitHits := t.waitHits }) ∧
  (∀ (s : State) (m : Fin 8) (v : Word), s.PairReady .cfc m A.CFC_ARM v →
    ∃ t, exec (.wpRegisterWrite m (wd A.CFC_ARM) .word v) s = .next t ∧ fld (t.reg A.CFC_ARM) 0 8 = fld v 0 8 ∧
      t.pendingComp .cfc = none ∧ RegsSame [A.CFC_ARM] s t ∧ t = { s with regs := t.regs, comp := t.comp }) ∧
  (∀ (s : State) (w : Win) (m : Fin 8) (a v : Word), winOf a.toNat = some w → a.toNat % 4 = 0 → isWp a.toNat = true →
    a.toNat % 0x1000 < 0x800 → a.toNat % 0x1000 ≠ 0x600 → s.CanWrite w m → s.pendingComp w = none →
    ∃ t, exec (.wpRegisterWrite m a .word v) s = .next t ∧ t.reg A.CFC_PAIR_ADDR = a ∧ fld (t.reg A.CFC_PAIR_INFO) 4 4 = 1 ∧
      fld (t.reg A.CFC_PAIR_INFO) 0 4 = m ∧ bit (t.reg A.CFC_STAT) 8 = true ∧ Heard 120 s t ∧ BanksSame [120] s t ∧
      RegsSame [A.CFC_PAIR_ADDR, A.CFC_PAIR_INFO, A.CFC_STAT] s t ∧
      t = { s with regs := t.regs, comp := t.comp, bank := t.bank, waitHits := t.waitHits }) ∧
  (∀ (s : State) (w : Win) (m : Fin 8) (off : BitVec 12) (v : Word), off.toNat < 0x800 → off.toNat % 4 = 0 →
    isWp (w.base + off.toNat) = true → s.CanWrite w m → s.pendingComp w = none →
    ∃ t, exec (.complementWrite m w off .word v) s = .next t ∧ t.pendingComp w = some (m.val, w.base + off.toNat, v) ∧
      t = { s with comp := t.comp }) ∧
  (∀ (s : State) (w : Win) (m a : Nat) (c : Word), s.pendingComp w = some (m, a, c) → m < 16 →
    ∃ t, exec (.pairWindowExpiry w) s = .next t ∧ t.pendingComp w = none ∧ t.reg A.CFC_PAIR_ADDR = wd a ∧
      fld (t.reg A.CFC_PAIR_INFO) 4 4 = 3 ∧ fld (t.reg A.CFC_PAIR_INFO) 0 4 = m ∧ bit (t.reg A.CFC_STAT) 8 = true ∧ Heard 120 s t ∧
      RegsSame [A.CFC_PAIR_ADDR, A.CFC_PAIR_INFO, A.CFC_STAT] s t ∧
      t = { s with regs := t.regs, comp := t.comp, bank := t.bank, waitHits := t.waitHits }) ∧
  (∀ (s : State) (m : Fin 8) (w : Win) (v : Word), s.PairReady w m (w.base + 0x3FC) v → bit v 0 = true →
    ∃ t, exec (.blkLockSet m w .word v) s = .next t ∧ t.locked w = true ∧ t.pendingComp w = none ∧
      RegsSame [w.base + 0x3FC] s t ∧ t = { s with regs := t.regs, comp := t.comp }) ∧
  (∀ (s : State) (m : Fin 8) (w : Win) (a : Word), winOf a.toNat = some w → s.mayIssue m = true → windowReach m w = true →
    s.present w = true → s.domOn w.domain = false →
    ∃ t, exec (.offDomainAccess m a) s = .next t ∧ bit (t.reg A.PMU_ERR) 2 = true ∧ t.port m = ⟨0#32, .ok⟩ ∧ Heard 5 s t ∧
      BanksSame [5] s t ∧ RegsSame [A.PMU_ERR] s t ∧
      t = { s with regs := t.regs, bank := t.bank, waitHits := t.waitHits, ports := t.ports })

/-- RING_START, RING_PAUSE, RING_ABORT, RING_STOP, RING_RESUME, RING_RECLAIM (R81 to R87, R97). -/
def Obligations.RingCommands : Prop :=
  (∀ (s : State) (w : Win) (n m : Fin 8), s.Unhindered w m (slotReg w n 0x10) → s.ringMayCommand w n m = true →
    s.ringState w n = 0 → s.setupStatus w n = 0 → w ≠ .cry → w ≠ .pke → w ≠ .upd →
    ∃ t, exec (.ringStart w n m) s = .next t ∧ t.ringState w n = 1 ∧ t.pidx w n = 0 ∧ t.cidx w n = 0 ∧ t.fidx w n = 0 ∧
      t.ring w n = { base := s.reg (slotReg w n 0), cpl := s.reg (slotReg w n 4), shadow := s.reg (slotReg w n 8),
                     cfg := s.reg (slotReg w n 0xC) } ∧
      t.word (s.phys (s.field (slotReg w n 0xC) 4 4) (s.reg (slotReg w n 8)).toNat) = 0#32 ∧
      BytesSame (s.span (s.field (slotReg w n 0xC) 4 4) (s.reg (slotReg w n 8)).toNat 1) s t ∧
      RegsSame [ringStatA w n, ringPidxA w n, ringCidxA w n] s t ∧
      t = { s with regs := t.regs, rings := t.rings, mem := t.mem, ramEcc := t.ramEcc, lr := t.lr, upd := t.upd }) ∧
  (∀ (s : State) (w : Win) (n m : Fin 8), s.Unhindered w m (slotReg w n 0x10) → s.ringMayCommand w n m = true →
    s.ringState w n = 1 → (s.ring w n).desc = [] →
    ∃ t, exec (.ringPause w n m) s = .next t ∧ t.ringState w n = 2 ∧ RegsSame [ringStatA w n] s t ∧
      t = { s with regs := t.regs, rings := t.rings }) ∧
  (∀ (s : State) (w : Win) (n m : Fin 8), s.Unhindered w m (slotReg w n 0x10) → s.ringMayCommand w n m = true →
    s.ringState w n = 1 → (s.ring w n).desc ≠ [] → (s.ring w n).done = none → w ≠ .cry →
    ∃ t, exec (.ringAbort w n m) s = .next t ∧
      t.ring w n = { s.ring w n with wish := .abort, done := some { status := 0x70, result := wd (s.ring w n).count } } ∧
      t = { s with rings := t.rings }) ∧
  (∀ (s : State) (w : Win) (n m : Fin 8), s.Unhindered w m (slotReg w n 0x10) → s.ringMayCommand w n m = true →
    (s.ringState w n = 1 ∨ s.ringState w n = 2) → (s.ring w n).desc = [] → (s.ring w n).held = none →
    (s.ring w n).shadowDue = false → s.cidx w n = s.pidx w n → w ≠ .cry → w ≠ .pke → w ≠ .upd →
    s.cplReach w (s.ring w n).host (s.ring w n).shadow.toNat 4 = true →
    ∃ t, exec (.ringStop w n m) s = .next t ∧ t.ringState w n = 0 ∧
      fld (t.word (s.phys (s.ring w n).host (s.ring w n).shadow.toNat)) 0 16 = s.cidx w n ∧
      BytesSame (s.span (s.ring w n).host (s.ring w n).shadow.toNat 1) s t ∧ RegsSame [ringStatA w n] s t ∧
      t = { s with regs := t.regs, rings := t.rings, mem := t.mem, ramEcc := t.ramEcc, lr := t.lr }) ∧
  (∀ (s : State) (w : Win) (n m : Fin 8), s.Unhindered w m (slotReg w n 0x10) → s.ringMayCommand w n m = true →
    s.ringState w n = 2 → (s.ring w n).held = none → (s.ring w n).shadowDue = false →
    ∃ t, exec (.ringResume w n m) s = .next t ∧ t.ringState w n = 1 ∧ RegsSame [ringStatA w n] s t ∧ t = { s with regs := t.regs }) ∧
  (∀ (s : State) (w : Win) (n m : Fin 8), s.Unhindered w m (slotReg w n 0x10) → s.ringState w n = 3 → s.standsFor m = mH0 →
    (s.ring w n).desc = [] → (s.ring w n).held = none → (s.ring w n).shadowDue = false → s.cidx w n = s.pidx w n →
    ∃ t, exec (.ringReclaim w n m) s = .next t ∧ t.ringState w n = 2 ∧ Heard 1155 s t ∧ BanksSame [1155] s t ∧
      RegsSame [ringStatA w n, A.EVR_RWIN (w.code / 32)] s t ∧
      t = { s with regs := t.regs, rings := t.rings, bank := t.bank, waitHits := t.waitHits }) ∧
  (∀ (s : State) (w : Win) (n m : Fin 8), s.Unhindered w m (slotReg w n 0x10) → s.ringState w n ≠ 0 →
    ∃ t, exec (.ringStart w n m) s = .next t ∧ bit (t.reg (ringErrA w n)) 2 = true ∧ t.ringState w n = s.ringState w n ∧
      RegsSame [ringErrA w n, ringStatA w n] s t ∧ t = { s with regs := t.regs })

/-- DOORBELL, DESCRIPTOR_FETCH, DESCRIPTOR_COMPLETE, PREEMPTED_COMPLETION and LOGGING_TIMEOUT. -/
def Obligations.DescriptorFlow : Prop :=
  (∀ (s : State) (w : Win) (m : Fin 8) (v : Word), s.Unhindered w m (w.base + 0x600) → fld v 16 4 < 8 →
    s.ringState w (fld v 16 4) ≠ 0 →
    (s.pidx w (fld v 16 4) + 65536 - s.cidx w (fld v 16 4)) % 65536 ≤ (fld v 0 16 + 65536 - s.cidx w (fld v 16 4)) % 65536 →
    (fld v 0 16 + 65536 - s.cidx w (fld v 16 4)) % 65536 ≤ (s.ring w (fld v 16 4)).size →
    ∃ t, exec (.doorbell w m .word v) s = .next t ∧ t.pidx w (fld v 16 4) = fld v 0 16 ∧ RegsSame [ringPidxA w (fld v 16 4)] s t ∧
      t = { s with regs := t.regs }) ∧
  (∀ (s : State) (w : Win) (n : Fin 8), (s.ring w n).desc = [] → s.fidx w n ≠ s.pidx w n → (s.ring w n).held = none →
    s.ringState w n = 1 → s.safeHolds 4 = false → (s.ring w n).wish ≠ .abort → s.fetchHeld w = false →
    s.rangeReach w (s.ring w n).host .load ((s.ring w n).descAddr (s.fidx w n)) 32 = true →
    s.badRead (s.ring w n).host ((s.ring w n).descAddr (s.fidx w n)) 32 = none →
    s.badSource w n (s.ring w n).host (s.viewWords (s.ring w n).host ((s.ring w n).descAddr (s.fidx w n)) 8) = none →
    ∃ t, exec (.descriptorFetch w n) s = .next t ∧ t.fidx w n = (s.fidx w n + 1) % 65536 ∧ t.cidx w n = s.cidx w n ∧
      (t.ring w n).desc = s.viewWords (s.ring w n).host ((s.ring w n).descAddr (s.fidx w n)) 8 ∧ (t.ring w n).t0 = s.now ∧
      bit (t.reg (ringStatA w n)) 16 = true ∧ RegsSame [ringCidxA w n, ringStatA w n] s t ∧
      t = { s with regs := t.regs, rings := t.rings }) ∧
  (∀ (s : State) (w : Win) (n : Fin 8) (d0 : Word) (ds : List Word) (c : Cpl), (s.ring w n).done = some c →
    (s.ring w n).desc = d0 :: ds → s.ringState w n = 1 → (s.ring w n).wish = .none → (s.ring w n).stopOnErr = false →
    s.cplReach w (s.ring w n).host ((s.ring w n).cplAddr ((s.fidx w n + 65535) % 65536)) 16 = true →
    s.cplReach w (s.ring w n).host (s.ring w n).shadow.toNat 4 = true →
    overlap (s.phys (s.ring w n).host ((s.ring w n).cplAddr ((s.fidx w n + 65535) % 65536) + 4)) 4
      (s.phys (s.ring w n).host (s.ring w n).shadow.toNat) 4 = false →
    overlap (s.phys (s.ring w n).host ((s.ring w n).cplAddr ((s.fidx w n + 65535) % 65536))) 4
      (s.phys (s.ring w n).host ((s.ring w n).cplAddr ((s.fidx w n + 65535) % 65536) + 4)) 4 = false →
    overlap (s.phys (s.ring w n).host ((s.ring w n).cplAddr ((s.fidx w n + 65535) % 65536) + 8)) 4
      (s.phys (s.ring w n).host ((s.ring w n).cplAddr ((s.fidx w n + 65535) % 65536) + 4)) 4 = false →
    overlap (s.phys (s.ring w n).host ((s.ring w n).cplAddr ((s.fidx w n + 65535) % 65536) + 12)) 4
      (s.phys (s.ring w n).host ((s.ring w n).cplAddr ((s.fidx w n + 65535) % 65536) + 4)) 4 = false →
    ∃ t, exec (.descriptorComplete w n) s = .next t ∧ (t.ring w n).desc = [] ∧ (t.ring w n).done = none ∧
      t.cidx w n = ((s.fidx w n + 65535) % 65536 + 1) % 65536 ∧
      t.word (s.phys (s.ring w n).host ((s.ring w n).cplAddr ((s.fidx w n + 65535) % 65536) + 4)) = c.result ∧
      BytesSame (s.span (s.ring w n).host ((s.ring w n).cplAddr ((s.fidx w n + 65535) % 65536)) 4 ++
        s.span (s.ring w n).host (s.ring w n).shadow.toNat 1) s t ∧
      RegsSame [ringCidxA w n, ringStatA w n] s t ∧ BanksSame [w.ringSource + n] s t ∧
      t = { s with regs := t.regs, rings := t.rings, mem := t.mem, ramEcc := t.ramEcc, lr := t.lr, bank := t.bank, waitHits := t.waitHits }) ∧
  (∀ (s : State) (w : Win) (n : Fin 8), (s.inHand w n).isSome = true → bit ((s.ring w n).desc.getD 0 0#32) 10 = false →
    ∃ t, exec (.preemptedCompletion w n) s = .next t ∧ t.ring w n = { s.ring w n with resumed := true } ∧
      t = { s with rings := t.rings }) ∧
  (∀ (s : State) (w : Win) (n : Fin 8) (op k unit : Nat), s.inHand w n = some op → logTimeout w n op = some (k, unit) →
    (s.ring w n).aux ≠ 0 → (s.ring w n).t0 + fld (s.dw w n k) 0 16 * unit ≤ s.now →
    ∃ t, exec (.loggingTimeout w n) s = .next t ∧
      t.ring w n = { s.ring w n with done := some { status := 0x40, result := s.logResult w n } } ∧ t = { s with rings := t.rings })

/-- CFC_PASS_START, CFC_PASS_END, CFC_DOMAIN7_RESULT, CFC_CAPTURE, CFC_CTL_WRITE and MISMATCH_CLEAR. -/
def Obligations.ConfigurationCheck : Prop :=
  (∀ (s : State), s.flag A.CFC_CTL 0 = true → s.cfc.passOn = false →
    ∃ t, exec .cfcPassStart s = .next t ∧ t.cfc.passOn = true ∧ t.cfc.bound = fld (s.reg A.CFC_CMD) 0 8 ∧
      t.cfc.startCrc = (List.range 8).map (fun d => (s.domainCrc d).toNat) ∧ t = { s with cfc := t.cfc }) ∧
  (∀ (s : State), s.cfc.passOn = true → s.cfc.stale ≠ 2 → fld (s.reg A.CFC_ARM) 0 7 = 0 → s.cfc.bound = 0 →
    ∃ t, exec .cfcPassEnd s = .next t ∧ t.cfc.passOn = false ∧ t.reg A.CFC_PASS = s.reg A.CFC_PASS + 1#32 ∧
      RegsSame [A.CFC_PASS, A.CFC_CRC 0, A.CFC_CRC 1, A.CFC_CRC 2, A.CFC_CRC 3, A.CFC_CRC 4, A.CFC_CRC 5, A.CFC_CRC 6] s t ∧
      t = { s with regs := t.regs, free := s.free + 7, cfc := t.cfc }) ∧
  (∀ (s : State), s.flag A.CFC_ARM 7 = false → s.cfc.bound = 0 → s.cfc.start7 = (s.domainCrc 7).toNat →
    ∃ t, exec (.cfcDomain7Result true) s = .next t ∧ t.cfc.stale = 0 ∧ t.reg (A.CFC_CRC 7) = s.domainCrc 7 ∧
      RegsSame [A.CFC_CRC 7] s t ∧ t = { s with regs := t.regs, cfc := t.cfc }) ∧
  (∀ (s : State) (m : Fin 8) (v : Word), s.PairReady .cfc m A.CFC_CMD v →
    ∃ t, exec (.cfcCapture m .word v) s = .next t ∧ fld (t.reg A.CFC_CMD) 0 8 = fld (s.reg A.CFC_CMD ||| v) 0 8 ∧
      RegsSame [A.CFC_CMD] s t ∧ t = { s with regs := t.regs, comp := t.comp, cfc := t.cfc }) ∧
  (∀ (s : State) (m : Fin 8) (v : Word), s.PairReady .cfc m A.CFC_CTL v → bit v 0 = false →
    ∃ t, exec (.cfcCtlWrite m .word v) s = .next t ∧ t.flag A.CFC_CTL 0 = false ∧ t.cfc = { s.cfc with passOn := false, bound := 0 } ∧
      RegsSame [A.CFC_CTL] s t ∧ t = { s with regs := t.regs, comp := t.comp, cfc := t.cfc }) ∧
  (∀ (s : State) (m : Fin 8) (z : AccSize) (v : Word), s.Unhindered .cfc m A.CFC_STAT → fld (s.reg A.CFC_SAFE) 0 8 = 0 →
    ∃ t, exec (.mismatchClear m z v) s = .next t ∧
      fld (t.reg A.CFC_STAT) 0 8 = fld (s.reg A.CFC_STAT &&& ~~~ v) 0 8 ∧ RegsSame [A.CFC_STAT] s t ∧ t = { s with regs := t.regs })

/-- CFC_DOMAIN7_RESULT against an armed reference (R110). -/
def Obligations.MismatchActsAtOnce : Prop :=
  (∀ (s : State), s.flag A.CFC_ARM 7 = true → s.flag A.CFC_CMD 7 = false → s.reg (A.CFC_REF 7) ≠ s.domainCrc 7 →
    s.field A.CFC_ACT 14 2 = 1 → s.cfc.start7 = (s.domainCrc 7).toNat →
    ∃ t, exec (.cfcDomain7Result true) s = .next t ∧ bit (t.reg A.CFC_STAT) 7 = true ∧ t.reg (A.CFC_CRC 7) = s.domainCrc 7 ∧
      Heard 121 s t ∧ BanksSame [121] s t ∧ RegsSame [A.CFC_CRC 7, A.CFC_STAT, A.CFC_MMCNT] s t ∧
      t = { s with regs := t.regs, cfc := t.cfc, bank := t.bank, waitHits := t.waitHits })

/-- EVENT_ASSERT, EVR_ACK, EVR_SWEV, EVR_ROUTE_WRITE, WAIT, WAIT_SOURCE_ASSERTED, WAIT_TIMEOUT and RAISE. -/
def Obligations.EventRouting : Prop :=
  (∀ (s : State) (src : Fin 1216),
    ∃ t, exec (.eventAssert src) s = .next t ∧ Heard src s t ∧ BanksSame [src.val] s t ∧ t = { s with bank := t.bank, waitHits := t.waitHits }) ∧
  (∀ (s : State) (m : Fin 8) (v : Word), s.Unhindered .evr m A.EVR_ACK → m.val ≤ 6 → fld v 0 11 ≤ 1215 →
    ∃ t, exec (.evrAck m .word v) s = .next t ∧
      t.banked m (pendAddr (fld v 0 11)) = s.banked m (pendAddr (fld v 0 11)) &&& ~~~ (bitMask (fld v 0 11 % 32)) ∧
      BanksSame [fld v 0 11] s t ∧ t = { s with bank := t.bank }) ∧
  (∀ (s : State) (m : Fin 8) (v : Word), s.Unhindered .evr m A.EVR_SWEV →
    ∃ t, exec (.evrSwev m .word v) s = .next t ∧ (bit v 0 = true → Heard 72 s t) ∧ (bit v 3 = true → Heard 75 s t) ∧
      (bit v 15 = true → Heard 87 s t) ∧ BanksSame [72] s t ∧ t = { s with bank := t.bank, waitHits := t.waitHits }) ∧
  (∀ (s : State) (m : Fin 8) (v : Word), s.PairReady .evr m A.EVR_RT_DATA v → s.standsFor m = mH0 → s.field A.EVR_RT_IDX 0 11 ≤ 1215 →
    ∃ t, exec (.evrRouteWrite m .word v) s = .next t ∧ t.route (s.field A.EVR_RT_IDX 0 11) = routeStored s.opt v ∧
      t = { s with routes := t.routes, comp := t.comp, upd := t.upd }) ∧
  (∀ (s : State) (n : Fin 8), InHand s .evr n 0x10 → fld (s.dw .evr n 5) 0 24 ≠ 0 → fld (s.dw .evr n 4) 0 11 ≤ 1215 →
    ∃ t, exec (.wait n) s = .next t ∧ t.ring .evr n = { s.ring .evr n with aux := 1, t0 := s.now } ∧
      t.waitHits.get (fun _ => none) n = none ∧ t = { s with rings := t.rings, waitHits := t.waitHits }) ∧
  (∀ (s : State) (n : Fin 8) (at_ : Nat), InHand s .evr n 0x10 → (s.ring .evr n).aux = 1 → s.waitHits.get (fun _ => none) n = some at_ →
    ∃ t, exec (.waitSourceAsserted n) s = .next t ∧ Decided t .evr n { status := 0, result := wd at_ } ∧ t = { s with rings := t.rings }) ∧
  (∀ (s : State) (n : Fin 8), InHand s .evr n 0x10 → (s.ring .evr n).aux = 1 → s.waitHits.get (fun _ => none) n = none →
    ∃ t, exec (.waitTimeout n) s = .next t ∧ Decided t .evr n { status := 0x40, result := s.tick } ∧ t = { s with rings := t.rings }) ∧
  (∀ (s : State) (n : Fin 8), InHand s .evr n 0x11 →
    ∃ t, exec (.raise n) s = .next t ∧ Decided t .evr n { status := 0 } ∧ (bit (s.dw .evr n 4) 3 = true → Heard 75 s t) ∧
      BanksSame [72] s t ∧ t = { s with rings := t.rings, bank := t.bank, waitHits := t.waitHits })

/-- SEM_ACQUIRE, SEM_RELEASE, SEM_RELEASE_REPAIRED, SEM_FORCE_ORPHAN, MBX_DATA_WRITE, MBX_FULL_CLEAR and MBX_OVF_DROP_CLEAR. -/
def Obligations.SemaphoresAndMailboxes : Prop :=
  (∀ (s : State) (m : Fin 8) (n : Fin 64) (wait : Bool), s.Unhindered .sem m (A.SEM n) → m.val < 4 → (s.sem n).state = 0 →
    ∃ t, exec (.semAcquire m n .word wait) s = .next t ∧ (t.sem n).state = 1 ∧ (t.sem n).owner = m ∧ (t.sem n).repair = false ∧
      t.semResult n m = 1 ∧ RegsSame [A.SEM n] s t ∧ t = { s with regs := t.regs, semRes := t.semRes }) ∧
  (∀ (s : State) (m : Fin 8) (n : Fin 64), s.Unhindered .sem m (A.SEM n) → m.val < 4 → (s.sem n).state = 1 → (s.sem n).owner ≠ m →
    ∃ t, exec (.semAcquire m n .word false) s = .next t ∧ t.semResult n m = 3 ∧ t = { s with semRes := t.semRes }) ∧
  (∀ (s : State) (m : Fin 8) (n : Fin 64), s.Unhindered .sem m (A.SEM n) → m.val < 4 → (s.sem n).state = 1 → (s.sem n).owner = m →
    (s.sem n).repair = false →
    ∃ t, exec (.semRelease m n .word) s = .next t ∧ (t.sem n).state = 0 ∧ (t.sem n).owner = 0xF ∧ (t.sem n).waiters = 0 ∧
      t.semResult n m = 5 ∧ RegsSame [A.SEM n, A.SEM_ORPH0, A.SEM_ORPH1] s t ∧
      t = { s with regs := t.regs, semRes := t.semRes, bank := t.bank, waitHits := t.waitHits }) ∧
  (∀ (s : State) (m : Fin 8) (n : Fin 64), s.Unhindered .sem m (A.SEM n) → m.val < 4 → (s.sem n).state = 1 → (s.sem n).owner = m →
    ∃ t, exec (.semReleaseRepaired m n .word) s = .next t ∧ (t.sem n).state = 0 ∧ (t.sem n).repair = false ∧ (t.sem n).prev = 0xF ∧
      t.semResult n m = 5 ∧ RegsSame [A.SEM n, A.SEM_ORPH0, A.SEM_ORPH1] s t ∧
      t = { s with regs := t.regs, semRes := t.semRes, bank := t.bank, waitHits := t.waitHits }) ∧
  (∀ (s : State) (m : Fin 8) (n : Fin 64), s.Unhindered .sem m (A.SEM n) → m.val < 4 → s.standsFor m = mH0 → (s.sem n).state = 1 →
    ∃ t, exec (.semForceOrphan m n .word) s = .next t ∧ (t.sem n).state = 2 ∧ (t.sem n).prev = (s.sem n).owner ∧
      bit (t.reg (if n.val < 32 then A.SEM_ORPH0 else A.SEM_ORPH1)) (n % 32) = true ∧ Heard 116 s t ∧
      RegsSame [A.SEM n, A.SEM_ORPH0, A.SEM_ORPH1, A.SEM_STAT] s t ∧
      t = { s with regs := t.regs, semRes := t.semRes, bank := t.bank, waitHits := t.waitHits }) ∧
  (∀ (s : State) (m k : Fin 8) (v : Word), s.Unhindered .sem m (A.MBX_DATA k) → s.mbxUnset k = false → m.val = s.mbxSender k →
    s.flag (A.MBX_STAT k) 0 = false →
    ∃ t, exec (.mbxDataWrite m k .word v) s = .next t ∧ t.reg (A.MBX_DATA k) = v ∧ t.flag (A.MBX_STAT k) 0 = true ∧
      Heard (96 + k) s t ∧ BanksSame [96 + k.val] s t ∧ RegsSame [A.MBX_DATA k, A.MBX_STAT k] s t ∧
      t = { s with regs := t.regs, bank := t.bank, waitHits := t.waitHits }) ∧
  (∀ (s : State) (m k : Fin 8), s.Unhindered .sem m (A.MBX_STAT k) → s.mbxUnset k = false → m.val = s.mbxReceiver k →
    s.flag (A.MBX_STAT k) 0 = true →
    ∃ t, exec (.mbxFullClear m k) s = .next t ∧ t.flag (A.MBX_STAT k) 0 = false ∧ Heard (104 + k) s t ∧
      BanksSame [104 + k.val] s t ∧ RegsSame [A.MBX_STAT k] s t ∧ t = { s with regs := t.regs, bank := t.bank, waitHits := t.waitHits }) ∧
  (∀ (s : State) (m k : Fin 8), s.Unhindered .sem m (A.MBX_STAT k) → s.mbxUnset k = false → m.val = s.mbxSender k →
    ∃ t, exec (.mbxOvfDropClear m k true true) s = .next t ∧ t.reg (A.MBX_STAT k) = s.reg (A.MBX_STAT k) &&& ~~~ 6#32 ∧
      RegsSame [A.MBX_STAT k] s t ∧ t = { s with regs := t.regs })

/-- CORE_RESET of E and P (R145, Table EVL-8). -/
def Obligations.OneCoreResets : Prop :=
  (∀ (s : State) (c : Fin 7), (c.val = 2 ∨ c.val = 3) → 2 ≤ s.coreState c →
    ∃ t, exec (.coreReset c) s = .next t ∧ t.coreState c = 1 ∧ bit (t.reg A.RST_CAUSE) (8 + c) = true ∧ t.coreState 0 = s.coreState 0 ∧ t.coreState 4 = s.coreState 4 ∧
      (t.banked c A.EVR_THRESH = 0#32 ∧ (c.val = 2 → t.lr.get (fun _ => none) 2 = none)) ∧
      t = { s with regs := t.regs, bank := t.bank, waitHits := t.waitHits, rings := t.rings, lr := t.lr, semRes := t.semRes,
                   cry := t.cry, upd := t.upd }) ∧
  (∀ (s : State) (c : Fin 7), s.coreState c < 2 → ∃ t, exec (.coreReset c) s = .next t ∧ t = s)

/-- LOOP_STEP, LOOP_BOUND_WRITE, LOOP_POS_WRITE, LOOP_MODE_WRITE and FAIRNESS_SLOT. -/
def Obligations.LoopsAndSlots : Prop :=
  (∀ (s : State) (n : Fin 16) (margin : Nat) (l : LoopDef), loopDef .pwm n = some l → s.live .pwm = true →
    s.field (loopA .pwm n) 0 2 = 0 → s.loopLo .pwm n ≤ s.loopHi .pwm n →
    ∃ t, exec (.loopStep .pwm n margin) s = .next t ∧ (t.loop .pwm n).mode = 0 ∧
      t.elem .pwm n 0 = clampNat (s.loopLo .pwm n) (s.loopHi .pwm n) l.dflt ∧ RegsSame [loopA .pwm n] s t ∧
      t = { s with regs := t.regs, elems := t.elems, loops := t.loops, bank := t.bank, waitHits := t.waitHits }) ∧
  (∀ (s : State) (m : Fin 8) (w : Win) (n : Fin 16) (v : Word) (l : LoopDef), loopDef w n = some l → l.pd = false →
    s.PairReady w m (loopLoA w n) v →
    ∃ t, exec (.loopBoundWrite m w n false .word v) s = .next t ∧ t.loopLo w n = clampNat l.lo l.hi (fld v 0 16) ∧
      t.loopHi w n = s.loopHi w n ∧ RegsSame [loopLoA w n, loopA w n] s t ∧
      t = { s with regs := t.regs, loops := t.loops, comp := t.comp, bank := t.bank, waitHits := t.waitHits }) ∧
  (∀ (s : State) (m : Fin 8) (w : Win) (n : Fin 16) (v : Word) (l : LoopDef), loopDef w n = some l → l.pd = false → w ≠ .ang →
    s.Unhindered w m (loopA w n + 12) → (s.loop w n).mode ≠ 0 → s.loopLo w n ≤ s.loopHi w n →
    ∃ t, exec (.loopPosWrite m w n .word v) s = .next t ∧
      t.elem w n (s.field (loopA w n) 8 8) = clampNat (s.loopLo w n) (s.loopHi w n) (fld v 0 16) ∧
      RegsSame [loopA w n] s t ∧
      t = { s with regs := t.regs, elems := t.elems, loops := t.loops, bank := t.bank, waitHits := t.waitHits }) ∧
  (∀ (s : State) (m : Fin 8) (w : Win) (n : Fin 16) (v : Word) (l : LoopDef), loopDef w n = some l → l.pd = false →
    s.Unhindered w m (loopA w n + 12) → (s.loop w n).mode = 0 →
    ∃ t, exec (.loopPosWrite m w n .word v) s = .next t ∧ t.flag (loopA w n) 19 = true ∧ RegsSame [loopA w n] s t ∧
      t = { s with regs := t.regs }) ∧
  (∀ (s : State) (m : Fin 8) (w : Win) (n : Fin 16) (v : Word) (l : LoopDef), loopDef w n = some l → l.pd = false →
    s.Unhindered w m (loopA w n) → fld v 0 2 ≠ 3 →
    ∃ t, exec (.loopModeWrite m w n .word v) s = .next t ∧ t.field (loopA w n) 0 2 = fld v 0 2 ∧ t.loops = s.loops ∧
      RegsSame [loopA w n] s t ∧ t = { s with regs := t.regs }) ∧
  (∀ (s : State) (w : Win), w.background = true → s.live w = true → 63 ≤ s.field (w.base + 0x3F0) 0 7 →
    ∃ t, exec (.fairnessSlot w) s = .next t ∧ t.flag (w.base + 0x3F0) 7 = true ∧ t.field (w.base + 0x3F0) 0 7 = 0 ∧
      RegsSame [w.base + 0x3F0] s t ∧ t = { s with regs := t.regs })

/-- GATE_CMT, GATE_DEADLINE and ESCALATED_CLEAR. -/
def Obligations.CommitGates : Prop :=
  (∀ (s : State) (m : Fin 8) (v : Word), s.Unhindered .lam m (gateA .lam 0 + 8) → m.val = s.gateHost .lam 0 →
    fld v 0 8 = s.gateSeq .lam 0 →
    ∃ t, exec (.gateCmt m .lam 0 .word v) s = .next t ∧
      t.gate .lam 0 = { s.gate .lam 0 with commit := some [(s.reg A.LAM_PUMP_STG).toNat] } ∧ t = { s with gates := t.gates }) ∧
  (∀ (s : State) (m : Fin 8) (w : Win) (g : Fin 3) (v : Word), (gateDef w g).isSome = true → s.Unhindered w m (gateA w g + 8) →
    m.val ≠ s.gateHost w g →
    ∃ t, exec (.gateCmt m w g .word v) s = .next t ∧ t.flag (gateA w g + 4) 2 = true ∧ RegsSame [gateA w g + 4] s t ∧
      t = { s with regs := t.regs }) ∧
  (∀ (s : State) (vs : List Nat), s.live .lam = true → s.flag A.LAM_CTL 0 = true → (s.gate .lam 0).commit = some vs →
    s.flag (gateA .lam 0 + 4) 3 = false →
    ∃ t, exec (.gateDeadline .lam 0) s = .next t ∧ t.field A.LAM_PUMP 0 16 = vs.headD 0 % 65536 ∧
      (t.gate .lam 0).applied = vs ∧ (t.gate .lam 0).commit = none ∧ t.gateSeq .lam 0 = (s.gateSeq .lam 0 + 1) % 256 ∧
      RegsSame [A.LAM_PUMP, gateA .lam 0 + 12] s t ∧ t = { s with regs := t.regs, gates := t.gates, eng := t.eng }) ∧
  (∀ (s : State) (m : Fin 8) (w : Win) (g : Fin 3) (v : Word), (gateDef w g).isSome = true → s.Unhindered w m (gateA w g + 4) →
    (s.gate w g).lastOk = true →
    ∃ t, exec (.escalatedClear m w g .word v) s = .next t ∧
      t.reg (gateA w g + 4) = s.reg (gateA w g + 4) &&& ~~~ v ∧ RegsSame [gateA w g + 4] s t ∧ t = { s with regs := t.regs })

/-- SCR_PASS_START, SCR_WORD_READ, SCR_PASS_LATE, SCRUB_RANGE, FL_PROGRAM, FL_ERASE, FL_WEAR, FLC_STEP_DONE and FLC_REFRESH_SPAN. -/
def Obligations.ScrubAndFlash : Prop :=
  (∀ (s : State), s.flag A.SCR_CTL 0 = true → s.scrOn = false →
    ∃ t, exec .scrPassStart s = .next t ∧ t = { s with scrOn := true, scrNext := 0, scrCorrTold := 0 }) ∧
  (∀ (s : State) (c i : Nat), s.scrOn = true → scrPlace s.scrNext 0 arrayWords = some (c, i) → s.domOn (arrayDomain c) = true →
    s.ecc (arrayBase c + 4 * i) = 1 → (scrPlace (s.scrNext + 1) 0 arrayWords).isSome = true →
    ∃ t, exec .scrWordRead s = .next t ∧ t.ecc (arrayBase c + 4 * i) = 0 ∧ t.scrNext = s.scrNext + 1 ∧ bit (t.reg A.SCR_ERR) 0 = true ∧
      t.reg A.SCR_CNT = satAdd (s.reg A.SCR_CNT) 0 16 1 ∧
      RegsSame [A.SCR_ERR, A.SCR_CNT, A.SCR_STAT, Win.scr.base + 0x3F0] s t ∧
      t = { s with regs := t.regs, ramEcc := t.ramEcc, scrNext := t.scrNext, scrCorrTold := t.scrCorrTold, bank := t.bank, waitHits := t.waitHits }) ∧
  (∀ (s : State), s.scrOn = true →
    ∃ t, exec .scrPassLate s = .next t ∧ bit (t.reg A.SCR_ERR) 2 = true ∧ Heard 1195 s t ∧ BanksSame [1195] s t ∧
      RegsSame [A.SCR_ERR] s t ∧ t = { s with regs := t.regs, bank := t.bank, waitHits := t.waitHits }) ∧
  (∀ (s : State) (n : Fin 8), InHand s .scr n 0x10 → (s.dw .scr n 1).toNat = 8 → s.dw .scr n 2 = 0x20000000#32 →
    s.ecc 0x20000000 = 0 → s.ecc 0x20000004 = 0 →
    ∃ t, exec (.scrubRange n) s = .next t ∧ Decided t .scr n { status := 0 } ∧ t = { s with rings := t.rings }) ∧
  (∀ (s : State), InHand s .flc 0 0x10 → (s.ring .flc 0).aux ≠ 1 → s.flcRun = none → s.flcWait = [] →
    flcRange 0 (s.dw .flc 0 3).toNat (s.dw .flc 0 1).toNat false = true →
    (List.range ((s.dw .flc 0 1).toNat / 16)).all (fun i => s.lineErased ((s.dw .flc 0 3).toNat + 16 * i)) = true →
    ∃ t, exec (.flProgram 0) s = .next t ∧
      t.flcRun = some { req := 4, win := Win.flc.code, ring := 0, addr := (s.dw .flc 0 3).toNat, idx := s.fidx .flc 0 } ∧ (t.ring .flc 0).aux = 1 ∧
      RegsSame [A.FLC_STAT] s t ∧ t = { s with regs := t.regs, rings := t.rings, flcRun := t.flcRun, flcWait := t.flcWait }) ∧
  (∀ (s : State), InHand s .flc 1 0x11 → (s.ring .flc 1).aux ≠ 1 → s.flcRun = none → s.flcWait = [] →
    (s.dw .flc 1 3).toNat % 4096 = 0 → flcRange 1 (s.dw .flc 1 3).toNat 4096 true = true →
    (calCopy (s.dw .flc 1 3).toNat 4096 = true → s.sealOpen = true) → bit (s.dw .flc 1 0) 12 = false →
    ∃ t, exec (.flErase 1) s = .next t ∧
      t.flcRun = some { req := 3, win := Win.flc.code, ring := 1, addr := (s.dw .flc 1 3).toNat, erase := true, idx := s.fidx .flc 1 } ∧
      RegsSame [A.FLC_STAT] s t ∧ t = { s with regs := t.regs, rings := t.rings, flcRun := t.flcRun, flcWait := t.flcWait }) ∧
  (∀ (s : State) (n : Fin 8), InHand s .flc n 0x12 → inFlash (s.dw .flc n 3).toNat = true →
    ∃ t, exec (.flWear n) s = .next t ∧ Decided t .flc n { status := 0, result := wd (s.eraseCount (s.dw .flc n 3).toNat) } ∧
      t = { s with rings := t.rings }) ∧
  (∀ (s : State) (q : FlcReq), s.flcRun = some q → q.erase = false → (s.ring .flc q.ring).done = none → (s.ring .flc q.ring).desc ≠ [] →
    s.fidx .flc q.ring = q.idx →
    s.flcWait = [] → (s.dw .flc q.ring 1).toNat ≤ (s.ring .flc q.ring).count + 16 →
    ∃ t, exec (.flcStepDone true true) s = .next t ∧ t.flcRun = none ∧
      Decided t .flc q.ring { status := 0, result := s.dw .flc q.ring 1 } ∧
      t.bytes (q.addr + (s.ring .flc q.ring).count) 16 =
        s.viewBytes (s.ring .flc q.ring).host ((s.dw .flc q.ring 2).toNat + (s.ring .flc q.ring).count) 16 ∧
      BytesSame [(q.addr + (s.ring .flc q.ring).count, 16)] s t ∧ RegsSame [A.FLC_STAT, Win.flc.base + 0x3F0] s t ∧
      t = { s with regs := t.regs, rings := t.rings, flcRun := t.flcRun, mem := t.mem, ramEcc := t.ramEcc, lr := t.lr }) ∧
  (∀ (s : State) (diff : Nat), s.flag A.FLC_CTL 0 = true → s.flcRun = none → s.flashEcc = [] → s.field A.FLC_STAT 16 16 < 2063 →
    ∃ t, exec (.flcRefreshSpan diff) s = .next t ∧ t.field A.FLC_STAT 16 16 = s.field A.FLC_STAT 16 16 + 1 ∧
      t.reg A.FLC_CNT = satAdd (s.reg A.FLC_CNT) 16 16 (min 256 diff) ∧ RegsSame [A.FLC_STAT, A.FLC_CNT] s t ∧ t = { s with regs := t.regs })

/-- TLM_FRAME, TLM_LIST_FORWARD, PD_TELEMETRY_SEND, TLM_STALE and TLM_STREAM. -/
def Obligations.Telemetry : Prop :=
  (∀ (s : State), s.linkUp = true → ∃ t, exec .tlmListForward s = .next t ∧ t = { s with tlmListed := true }) ∧
  (∀ (s : State) (n : Fin 16) (v : BitVec 16), s.flag A.TLM_CTL 0 = true → s.tlmListed = true → s.linkUp = true → tlmCode s n ≠ 0xFF →
    tlmReg (tlmCode s n) = none →
    ∃ t, exec (.pdTelemetrySend n v) s = .next t ∧ t = { s with tlmOut := s.tlmOut ++ [(tlmCode s n, v.toNat)] }) ∧
  (∀ (s : State) (c v : Nat) (rest : List (Nat × Nat)), s.tlmOut = (c, v) :: rest →
    (List.range 16).filter (fun n => tlmCode s n == c) = [0] → s.inHand .tlm 0 = none → s.inHand .tlm 1 = none →
    ∃ t, exec .tlmFrame s = .next t ∧ t.tlmOut = rest ∧ t.reg A.TLM_CNT = s.reg A.TLM_CNT + 1#32 ∧
      t.field (A.TLM_VAL 0) 0 16 = v % 65536 ∧ t.flag (A.TLM_VAL 0) 31 = false ∧ RegsSame [A.TLM_CNT, A.TLM_VAL 0] s t ∧
      t = { s with regs := t.regs, tlmOut := t.tlmOut, tlmTold := t.tlmTold, link := t.link }) ∧
  (∀ (s : State) (n : Fin 16), s.flag A.TLM_CTL 0 = true → tlmCode s n ≠ 0xFF → s.tlmTold.testBit n = false →
    ∃ t, exec (.tlmStale n) s = .next t ∧ t.flag (A.TLM_VAL n) 31 = true ∧ bit (t.reg A.TLM_ERR) n = true ∧ Heard 1186 s t ∧
      BanksSame [1186] s t ∧ RegsSame [A.TLM_VAL n, A.TLM_ERR] s t ∧
      t = { s with regs := t.regs, tlmTold := t.tlmTold, bank := t.bank, waitHits := t.waitHits }) ∧
  (∀ (s : State) (n : Fin 8), InHand s .tlm n 0x10 → (s.ring .tlm n).aux = 0 → fld (s.dw .tlm n 5) 0 16 ≠ 0 → fld (s.dw .tlm n 4) 0 16 ≠ 0 →
    ∃ t, exec (.tlmStream n) s = .next t ∧ t.ring .tlm n = { s.ring .tlm n with aux := 1, t0 := s.now } ∧ t = { s with rings := t.rings })

/-- CLK_DOM_WRITE, SSC_BOUNDARY, CLK_MONITOR_GATE, XO_FAIL, RC_RELOCK, PLL_UNLOCK, PLL_RELOCK, CLK_LIMP, UPLL_RECOVERED, LF_FAIL, XO_READOPT, XO_RELOCK. -/
def Obligations.ClockControl : Prop :=
  (∀ (s : State) (m : Fin 8) (n : Fin 28) (v : Word), s.Unhindered .clk m (A.CLK_DOM n) → clockPresent s.opt n = true →
    firmwareGate n = true → n.val ≠ 17 → n.val ≠ 18 → n.val ≠ 19 → n.val ≠ 20 →
    ∃ t, exec (.clkDomWrite m n .word v) s = .next t ∧ t.flag (A.CLK_DOM n) 0 = bit v 0 ∧ t.flag (A.CLK_DOM n) 8 = bit v 0 ∧
      RegsSame [A.CLK_DOM n] s t ∧ t = { s with regs := t.regs }) ∧
  (∀ (s : State), s.spllMode = 1 →
    ∃ t, exec .sscBoundary s = .next t ∧ t.clk.sscAct = s.reg A.SSC_CFG ∧ t.clk.seedDue = false ∧
      fld (t.reg A.SSC_STAT) 20 2 = fld (s.reg A.SSC_CFG) 0 2 ∧ RegsSame [A.SSC_STAT] s t ∧ t = { s with clk := t.clk, regs := t.regs }) ∧
  (∀ (s : State) (count : BitVec 16), s.spllMode ≠ 0 → s.domOn 19 = true → (s.monLimits 5).1 ≤ count.toNat → count.toNat ≤ (s.monLimits 5).2 →
    ∃ t, exec (.clkMonitorGate 5 count) s = .next t ∧ t.reg (A.MON_CNT 5) = wd count.toNat ∧ RegsSame [A.MON_CNT 5] s t ∧ t = { s with regs := t.regs }) ∧
  (∀ (s : State), s.spllMode ≠ 3 →
    ∃ t, exec .xoFail s = .next t ∧ t.spllMode = 2 ∧ t.qual = 1 ∧ t.flag A.CLK_STAT 0 = false ∧ t.flag A.CLK_STAT 2 = false ∧
      t.field A.CLK_STAT 5 2 = 1 ∧ t.flag A.CLK_STAT 10 = true ∧ bit (t.reg A.CLK_ERR) 0 = true ∧ t.flag (A.CLK_DOM 17) 8 = false ∧
      RegsSame [A.CLK_STAT, A.CLK_ERR, A.TB_AUX, A.TB_STAT, A.CLK_DOM 17, A.CLK_DOM 18, A.CLK_DOM 19, A.CLK_DOM 20] s t ∧ t = { s with bank := t.bank, clk := t.clk, regs := t.regs, waitHits := t.waitHits }) ∧
  (∀ (s : State), s.field A.CLK_STAT 5 2 = 1 → s.spllMode = 2 →
    ∃ t, exec .rcRelock s = .next t ∧ t.spllMode = 1 ∧ t.qual = 2 ∧ t.flag A.CLK_STAT 2 = true ∧ t.flag A.CLK_STAT 3 = true ∧
      RegsSame [A.CLK_STAT, A.TB_AUX, A.TB_STAT] s t ∧ t = { s with bank := t.bank, regs := t.regs, waitHits := t.waitHits }) ∧
  (∀ (s : State), s.flag A.CLK_STAT 2 = true → s.spllMode ≠ 3 →
    ∃ t, exec (.pllUnlock 0) s = .next t ∧ t.spllMode = 2 ∧ t.qual = 1 ∧ bit (t.reg A.CLK_ERR) 2 = true ∧ t.flag A.CLK_STAT 2 = false ∧
      RegsSame [A.CLK_STAT, A.CLK_ERR, A.TB_AUX, A.TB_STAT] s t ∧ t = { s with regs := t.regs, bank := t.bank, waitHits := t.waitHits }) ∧
  (∀ (s : State), s.spllMode = 2 →
    ∃ t, exec (.pllRelock 0) s = .next t ∧ t.spllMode = 1 ∧ t.flag A.CLK_STAT 2 = true ∧ t.qual = (if s.field A.CLK_STAT 5 2 = 0 then 0 else 2) ∧
      RegsSame [A.CLK_STAT, A.TB_AUX, A.TB_STAT] s t ∧ t = { s with bank := t.bank, regs := t.regs, waitHits := t.waitHits }) ∧
  (∀ (s : State), s.spllMode = 2 →
    ∃ t, exec .clkLimp s = .next t ∧ t.spllMode = 3 ∧ t.qual = 5 ∧ bit (t.reg A.CLK_ERR) 5 = true ∧
      RegsSame [A.CLK_STAT, A.CLK_ERR, A.TB_AUX, A.TB_STAT] s t ∧ t = { s with bank := t.bank, regs := t.regs, waitHits := t.waitHits }) ∧
  (∀ (s : State), s.flag A.CLK_STAT 10 = true → s.flag A.CLK_STAT 3 = true → s.field A.CLK_STAT 5 2 = 0 → 10 ≤ s.clk.mon4Passes →
    ∃ t, exec .upllRecovered s = .next t ∧ t.flag A.CLK_STAT 10 = false ∧ t.flag (A.CLK_DOM 18) 8 = s.flag (A.CLK_DOM 18) 0 ∧
      Heard 11 s t ∧ BanksSame [11] s t ∧
      RegsSame [A.CLK_STAT, A.CLK_DOM 17, A.CLK_DOM 18, A.CLK_DOM 19, A.CLK_DOM 20] s t ∧ t = { s with bank := t.bank, regs := t.regs, waitHits := t.waitHits }) ∧
  (∀ (s : State), s.pmu.mode = .run ∨ s.pmu.mode = .doze →
    ∃ t, exec .lfFail s = .next t ∧ t.calValid = false ∧ t.onLprc = true ∧ t.clk.lcdOnLprc = true ∧ bit (t.reg A.CLK_ERR) 1 = true ∧
      bit (t.reg A.VLT_ERR) 9 = true ∧ BytesSame [(0x50000208, 4)] s t ∧
      RegsSame [A.CLK_ERR, A.CLK_STAT, A.VLT_STAT, A.VLT_ERR] s t ∧
      t = { s with bank := t.bank, clk := t.clk, lr := t.lr, mem := t.mem, ramEcc := t.ramEcc, regs := t.regs,
                   waitHits := t.waitHits }) ∧
  (∀ (s : State) (m : Fin 8) (v : Word), s.PairReady .clk m A.CLK_CTL v → bit v 8 = true → s.flag A.CLK_ERR 0 = true →
    ∃ t, exec (.xoReadopt m .word v) s = .next t ∧ t.clk = { s.clk with readopt := true, mon0Passes := 0 } ∧ RegsSame [A.CLK_CTL] s t ∧
      t = { s with regs := t.regs, comp := t.comp, clk := t.clk }) ∧
  (∀ (s : State), s.clk.readopt = true → 10 ≤ s.clk.mon0Passes → s.spllMode ≠ 3 →
    ∃ t, exec .xoRelock s = .next t ∧ t.field A.CLK_STAT 5 2 = 0 ∧ t.spllMode = 1 ∧ t.qual = 0 ∧ t.flag A.CLK_STAT 10 = false ∧ t.clk.readopt = false ∧
      RegsSame [A.CLK_STAT, A.TB_AUX, A.TB_STAT, A.CLK_DOM 17, A.CLK_DOM 18, A.CLK_DOM 19, A.CLK_DOM 20] s t ∧ t = { s with bank := t.bank, clk := t.clk, regs := t.regs, waitHits := t.waitHits })

/-- LF_MEASUREMENT, TB_LO_READ, TB_CMP_FIRE, TB_CMP_ARM, PAD_CFG_WRITE, MEASURE, ALARM, SNAPSHOT. -/
def Obligations.TimeBaseAndPads : Prop :=
  (∀ (s : State) (ticks : Word), s.flag A.TB_CTL 0 = true → s.qual = 0 →
    ∃ t, exec (.lfMeasurement ticks) s = .next t ∧ t.reg A.LF_PERIOD = wd (ticks.toNat * 64) ∧ RegsSame [A.LF_PERIOD] s t ∧ t = { s with regs := t.regs }) ∧
  (∀ (s : State) (m : Fin 8), s.CanRead .tmb m →
    ∃ t, exec (.tbLoRead m) s = .next t ∧ t.port m = ⟨s.tick, .ok⟩ ∧ t.banked m A.TB_HI = (s.tb >>> 32).setWidth 32 ∧ PortsSame [m] s t ∧
      t = { s with ports := t.ports, bank := t.bank, free := s.free + 1 }) ∧
  (∀ (s : State) (c : Fin 8), s.flag (A.TB_CMP_CTL c) 0 = true → s.cmpTarget c ≤ s.now → s.reg (A.TB_CMP_RELOAD c) = 0#32 →
    ∃ t, exec (.tbCmpFire c) s = .next t ∧ t.flag (A.TB_CMP_CTL c) 0 = false ∧ Heard (44 + c) s t ∧ BanksSame [44 + c.val] s t ∧
      RegsSame [A.TB_CMP_CTL c] s t ∧ t = { s with bank := t.bank, regs := t.regs, waitHits := t.waitHits }) ∧
  (∀ (s : State) (c : Fin 8), s.flag (A.TB_CMP_CTL c) 0 = true → s.cmpTarget c ≤ s.now → s.reg (A.TB_CMP_RELOAD c) ≠ 0#32 →
    ∃ t, exec (.tbCmpFire c) s = .next t ∧ t.reg (A.TB_CMP_LO c) = wd (s.cmpTarget c + (s.reg (A.TB_CMP_RELOAD c)).toNat) ∧
      t.flag (A.TB_CMP_CTL c) 0 = true ∧ Heard (44 + c) s t ∧ RegsSame [A.TB_CMP_LO c, A.TB_CMP_HI c] s t ∧ t = { s with bank := t.bank, regs := t.regs, waitHits := t.waitHits }) ∧
  (∀ (s : State) (m c : Fin 8) (v : Word), s.Unhindered .tmb m (A.TB_CMP_CTL c) → m.val = s.cmpOwner c → s.now < s.cmpTarget c → bit v 0 = true →
    ∃ t, exec (.tbCmpArm m c .word v) s = .next t ∧ t.flag (A.TB_CMP_CTL c) 0 = true ∧ RegsSame [A.TB_CMP_CTL c] s t ∧ t = { s with regs := t.regs }) ∧
  (∀ (s : State) (m : Fin 8) (v : Word), s.PairReady .clk m A.PAD_CFG v → padDigital (s.field A.PAD_IDX 0 9) = true →
    ∃ t, exec (.padCfgWrite m .word v) s = .next t ∧ t.pads.get padReset (s.field A.PAD_IDX 0 9) = v &&& 0x7313#32 ∧
      t = { s with pads := t.pads, comp := t.comp }) ∧
  (∀ (s : State) (n : Fin 8) (count : Nat), InHand s .clk n 0x10 → fld (s.dw .clk n 4) 0 5 < 27 →
    clockPresent s.opt (fld (s.dw .clk n 4) 0 5) = true → s.clockRuns (fld (s.dw .clk n 4) 0 5) = true →
    ∃ t, exec (.measure n count) s = .next t ∧ Decided t .clk n { status := 0, result := wd count } ∧ t = { s with rings := t.rings }) ∧
  (∀ (s : State) (n : Fin 8), InHand s .tmb n 0x10 → (s.ring .tmb n).t0 ≤ s.alarmTarget n → s.alarmTarget n ≤ s.now →
    ∃ t, exec (.alarm n) s = .next t ∧ Decided t .tmb n { status := 0, result := s.tick } ∧ t = { s with rings := t.rings }) ∧
  (∀ (s : State) (n : Fin 8), InHand s .tmb n 0x11 → (s.ring .tmb n).host = 0 → (s.dw .tmb n 2).toNat % 4 = 0 →
    ∃ t, exec (.snapshot n) s = .next t ∧ Decided t .tmb n { status := 0, result := s.tick } ∧ t.word (s.dw .tmb n 2).toNat = s.tick ∧
      t.word ((s.dw .tmb n 2).toNat + 12) = s.reg A.CORR_CNT ∧ BytesSame (s.span 0 (s.dw .tmb n 2).toNat 4) s t ∧ t = { s with free := t.free, lr := t.lr, mem := t.mem, ramEcc := t.ramEcc, rings := t.rings })

/-- PWR_REQ_WRITE, DOMAIN_POWER_UP, DOMAIN_POWER_DOWN, DOMAIN_SET, SUPPLY_SNAP, CORE_LOAD, CORE_RELEASE, CORE_CTL_WRITE, SYS_RESET. -/
def Obligations.DomainsAndCores : Prop :=
  (∀ (s : State) (m : Fin 8) (v : Word), s.PairReady .pmu m A.PWR_REQ v →
    (∀ n : Fin 24, bit (s.asked v) n = false → s.offReason (s.asked v) n = 0) →
    ∃ t, exec (.pwrReqWrite m .word v) s = .next t ∧ (∀ n : Fin 24, t.flag A.PWR_REQ n = bit (s.asked v) n) ∧
      RegsSame [A.PWR_REQ] s t ∧ t = { s with regs := t.regs, comp := t.comp }) ∧
  (∀ (s : State) (n : Fin 24), s.nextUp = some n.val →
    ∃ t, exec (.domainPowerUp n) s = .next t ∧ t.flag A.PWR_STAT n = true ∧ (∀ k : Fin 24, k ≠ n → t.flag A.PWR_STAT k = s.flag A.PWR_STAT k) ∧
      t.mem = s.mem ∧
      t = { s with bank := t.bank, comp := t.comp, elems := t.elems, gates := t.gates, loops := t.loops, regs := t.regs,
                   rings := t.rings, waitHits := t.waitHits }) ∧
  (∀ (s : State) (n : Fin 24), s.nextDown = some n.val → (n.val = 16 ∨ n.val = 21 ∨ n.val = 18) →
    ∃ t, exec (.domainPowerDown n) s = .next t ∧ t.flag A.PWR_STAT n = false ∧ (∀ k : Fin 24, k ≠ n → t.flag A.PWR_STAT k = s.flag A.PWR_STAT k) ∧
      t.mem = s.mem ∧
      t = { s with regs := t.regs, comp := t.comp, rings := t.rings, elems := t.elems, loops := t.loops, gates := t.gates,
                   plm := t.plm, chg := t.chg, rcm := t.rcm, bank := t.bank, waitHits := t.waitHits }) ∧
  (∀ (s : State) (n : Fin 8), InHand s .pmu n 0x10 → (s.ring .pmu n).aux = 0 → s.dw .pmu n 4 = 0#32 → s.dw .pmu n 5 = 0#32 →
    s.asked (s.reg A.PWR_REQ) = s.reg A.PWR_REQ → s.nextUp = none → s.nextDown = none →
    ∃ t, exec (.domainSet n) s = .next t ∧ Decided t .pmu n { status := 0 } ∧ t = { s with rings := t.rings }) ∧
  (∀ (s : State) (n : Fin 8) (vin vio vcore : Nat) (temp : Int), InHand s .pmu n 0x11 → (s.ring .pmu n).host = 0 → (s.dw .pmu n 2).toNat % 4 = 0 →
    vin < 65536 → vio < 65536 → vcore < 65536 →
    ∃ t, exec (.supplySnap n vin vio vcore temp) s = .next t ∧ (t.ring .pmu n).done.isSome = true ∧
      t.word (s.dw .pmu n 2).toNat = wd vin ∧ t.word ((s.dw .pmu n 2).toNat + 4) = wd vio ∧ t.word ((s.dw .pmu n 2).toNat + 8) = wd vcore ∧
      BytesSame (s.span 0 (s.dw .pmu n 2).toNat 4) s t ∧ RegsSame [A.SUP_VIN, A.SUP_VIO, A.SUP_VCORE, A.TEMP_CD] s t ∧ t = { s with lr := t.lr, mem := t.mem, ramEcc := t.ramEcc, regs := t.regs, rings := t.rings }) ∧
  (∀ (s : State) (n : Fin 8), InHand s .sys n 0x10 → s.dw .sys n 4 = 3#32 → corePresent s.opt 3 = true → 0x30200000 ≤ (s.dw .sys n 3).toNat →
    (s.dw .sys n 3).toNat + (s.dw .sys n 1).toNat ≤ 0x30220000 → 0x08000000 ≤ (s.dw .sys n 2).toNat →
    (s.dw .sys n 2).toNat + (s.dw .sys n 1).toNat ≤ 0x08800000 → s.domOn 9 = true → s.domOn 17 = true → s.domOn 18 = true →
    (s.dw .sys n 3).toNat < 0x30220000 → (s.dw .sys n 2).toNat < 0x08800000 → s.coreState 3 < 2 → s.cutBusy 3 = false →
    ∃ t, exec (.coreLoad n) s = .next t ∧ Decided t .sys n { status := 0, result := wd (s.dw .sys n 1).toNat } ∧
      t.bytes (s.dw .sys n 3).toNat (s.dw .sys n 1).toNat = s.bytes (s.dw .sys n 2).toNat (s.dw .sys n 1).toNat ∧
      BytesSame [((s.dw .sys n 3).toNat, (s.dw .sys n 1).toNat)] s t ∧ t = { s with lr := t.lr, mem := t.mem, ramEcc := t.ramEcc, rings := t.rings }) ∧
  (∀ (s : State) (n : Fin 8), InHand s .sys n 0x11 → s.dw .sys n 4 = 3#32 → s.coreState 3 = 1 →
    ∃ t, exec (.coreRelease n) s = .next t ∧ t.coreState 3 = 2 ∧ t.flag A.CORE_CTL 3 = true ∧ Decided t .sys n { status := 0 } ∧
      RegsSame [A.CORE_STAT, A.CORE_CTL] s t ∧ t = { s with regs := t.regs, rings := t.rings }) ∧
  (∀ (s : State) (m : Fin 8) (v : Word), s.PairReady .sys m A.CORE_CTL v → m.val = 0 → s.standsFor 0 = 0 → bit v 3 = true → bit v 1 = false →
    bit v 2 = false → s.coreState 3 = 1 → s.coreState 1 < 2 → s.coreState 2 < 2 →
    ∃ t, exec (.coreCtlWrite m .word v) s = .next t ∧ t.coreState 3 = 2 ∧ t.coreState 1 = s.coreState 1 ∧ t.coreState 2 = s.coreState 2 ∧
      RegsSame [A.CORE_CTL, A.CORE_STAT] s t ∧ t = { s with regs := t.regs, comp := t.comp, pmu := t.pmu }) ∧
  (∀ (s : State) (m : Fin 8) (v : Word), s.PairReady .sys m A.SYS_RST_CTL v → bit v 0 = true → s.standsFor m = mH0 →
    ∃ t, exec (.sysReset m .word v) s = .next t ∧ t.pmu = { s.pmu with rstDue := if m.val = 7 then 2 else 1 } ∧
      t = { s with comp := t.comp, pmu := t.pmu })

/-- PIN_RESET, RESET_N_RELEASE, BOR_RESET, BOR_RELEASE, VLT_POR, BOOT_START, OPTION_REPORT, CORE_RDY_WRITE, BOOT_READY_TIMEOUT, HOST_ENTRY, HOST_RESTART, VIN_RISE, VIN_FALL_PD_STOP. -/
def Obligations.ResetsAndStart : Prop :=
  (∀ (s : State), s.pmu.mode ≠ .off → s.pmu.inReset = false →
    ∃ t, exec .pinReset s = .next t ∧ t.tb = s.tb ∧ t.coreState 0 = 1 ∧ t.pmu.inReset = true ∧ bit (t.reg A.RST_CAUSE) 4 = true ∧
      t.vlt = s.vlt ∧ t.pending = s.pending ∧ t.reg A.LF_PERIOD = s.reg A.LF_PERIOD ∧ t.flashEcc = s.flashEcc) ∧
  (∀ (s : State), s.pmu.mode ≠ .off → s.pmu.inReset = true →
    ∃ t, exec .resetNRelease s = .next t ∧ t.coreState 0 = 2 ∧ t.pmu = { s.pmu with mode := .run, inReset := false, t0Due := true } ∧
      RegsSame [A.CORE_STAT] s t ∧ t = { s with pmu := t.pmu, regs := t.regs }) ∧
  (∀ (s : State) (vio : Bool), s.pmu.mode ≠ .off →
    ∃ t, exec (.borReset vio) s = .next t ∧ t.tb = 0 ∧ t.pmu.mode = .off ∧ t.reg A.PWR_STAT = 2#32 ∧
      bit (t.reg A.RST_CAUSE) (if vio then 2 else 3) = true ∧ t.vlt = s.vlt ∧ t.rings.all (fun e => winOfCode (e.1 / 8) == some .vlt) = true) ∧
  (∀ (s : State), s.pmu.mode = .off →
    ∃ t, exec .borRelease s = .next t ∧ t.coreState 0 = 2 ∧ t.pmu.mode = .run ∧ t.pmu.t0Due = true ∧ t.reg A.PWR_STAT = domainsAtReset s.opt ∧
      RegsSame [A.PMU_STAT, A.PWR_STAT, A.CORE_STAT] s t ∧ t = { s with pmu := t.pmu, regs := t.regs }) ∧
  (∀ (s : State), ∃ t, exec .vltPor s = .next t ∧ t.tb = 0 ∧ t.pmu.mode = .off ∧ t.vlt = {} ∧ bit (t.reg A.RST_CAUSE) 0 = true ∧
    t.mem.all (fun e => decide (e.1 < 0x50000000)) = true) ∧
  (∀ (s : State), s.pmu.inReset = false → s.pmu.mode = .run → s.pmu.t0Due = true → ¬ (1 ≤ s.opt ∧ s.opt ≤ 3) →
    ∃ t, exec (.bootStart true true true) s = .next t ∧ t.field A.BOOT_STAT 24 8 = 1 ∧ t.pmu.optionStop = true ∧ t.pmu.t0Due = false ∧
      RegsSame [A.BOOT_STAT] s t ∧ t = { s with regs := t.regs, pmu := t.pmu }) ∧
  (∀ (s : State) (a b c : Bool), s.pmu.inReset = false → s.pmu.mode = .run → s.pmu.t0Due = true → 1 ≤ s.opt → s.opt ≤ 3 →
    ∃ t, exec (.bootStart a b c) s = .next t ∧ t.pmu.t0Due = false ∧ t.pmu.rstDue = 0 ∧ (t.pmu.booting = true ∨ t.pmu.recovery = true)) ∧
  (∀ (s : State), s.pmu.optionStop = true →
    ∃ t, exec .optionReport s = .next t ∧ t.pmu.optionReports = s.pmu.optionReports + 1 ∧
      t.upd.recAns = romText "PV9420 OPTION " ++ hexByte s.opt ++ [0x0D#8, 0x0A#8] ∧ t = { s with pmu := t.pmu, upd := t.upd }) ∧
  (∀ (s : State) (m : Fin 8) (v : Word), s.Unhindered .sys m A.CORE_RDY → m.val < 2 →
    ∃ t, exec (.coreRdyWrite m .word v) s = .next t ∧ t.flag A.CORE_RDY m = bit v m ∧
      (∀ k : Fin 32, k.val ≠ m.val → t.flag A.CORE_RDY k = s.flag A.CORE_RDY k)) ∧
  (∀ (s : State) (c : Fin 7), s.pmu.booting = true → s.bootWaits c = true → s.flag A.CORE_RDY c = false → s.pmu.relAt + 40000000 ≤ s.now →
    ∃ t, exec (.bootReadyTimeout c) s = .next t ∧ t.flag A.BOOT_STAT (8 + c) = true ∧ RegsSame [A.BOOT_STAT] s t ∧ t = { s with regs := t.regs }) ∧
  (∀ (s : State), s.pmu.booting = true → s.upd.safeAt = none → (∀ c : Fin 7, s.bootWaits c = true → s.flag A.CORE_RDY c = true) →
    s.bankState (s.field A.BOOT_STAT 0 1) ≠ 4 →
    ∃ t, exec .hostEntry s = .next t ∧ t.reg A.BOOT_T_HOST = wd (s.now - s.pmu.t0) ∧ t.pmu = { s.pmu with booting := false, rstoutN := true } ∧
      RegsSame [A.BOOT_T_HOST] s t ∧ t = { s with regs := t.regs, pmu := t.pmu }) ∧
  (∀ (s : State), s.pmu.hostRst = true →
    ∃ t, exec .hostRestart s = .next t ∧ t.pmu.hostRst = false ∧ t.coreState 0 = 2 ∧ t.flag A.BOOT_STAT 2 = true ∧
      t = { s with bank := t.bank, erases := t.erases, flashEcc := t.flashEcc, lr := t.lr, mem := t.mem, pmu := t.pmu,
                   ramEcc := t.ramEcc, regs := t.regs, upd := t.upd, waitHits := t.waitHits, wearTold := t.wearTold }) ∧
  (∀ (s : State) (vbat : Bool), s.pmu.mode = .off →
    ∃ t, exec (.vinRise vbat) s = .next t ∧ t.coreState 0 = 2 ∧ t.pmu.mode = .run ∧ t.pmu.t0Due = true ∧ t.tb = 0 ∧
      bit (t.reg A.RST_CAUSE) 1 = true ∧ t.wires.pdrst = false) ∧
  (∀ (s : State), ∃ t, exec .vinFallPdStop s = .next t ∧ t.wires.pdrst = true ∧ t.lsw.lowPower = true ∧ t.link.pdAuton = true ∧
    t.wires.injOut = 0 ∧
      t = { s with bank := t.bank, elems := t.elems, eng := t.eng, free := t.free, link := t.link, loops := t.loops,
                   lr := t.lr, lsw := t.lsw, mem := t.mem, ramEcc := t.ramEcc, regs := t.regs, rings := t.rings,
                   waitHits := t.waitHits, wires := t.wires })

/-- STANDBY_REQUEST, STANDBY_SAVE_DONE, STANDBY_ENTERED, WAKE_EVENT, DOZE_ENTRY, DOZE_EXIT, PMU_PF_WARN, VIN_PF_RISE, PMU_VBAT_LOW, PMU_TEMP_WARN, PMU_AVS_ALARM, PD_THERMAL_SHUTDOWN, PD_THERMAL_RELEASE, SO_THERMAL_OFF, SO_THERMAL_RELEASE, VSAFE_CHANGE, VHB_CHANGE. -/
def Obligations.ModesAndSupplies : Prop :=
  (∀ (s : State) (m : Fin 8) (v : Word), s.PairReady .pmu m A.PMU_MODE v → fld v 0 2 = 2 → s.pmu.mode = .run →
    (standbyDomains.find? (fun n => s.domOn n)) = none →
    ∃ t, exec (.standbyRequest m .word v) s = .next t ∧ t.pmu = { s.pmu with mode := .entrySave, entryAt := s.now, wakeDue := false } ∧
      Heard 59 s t ∧ BanksSame [59] s t ∧ t = { s with pmu := t.pmu, comp := t.comp, bank := t.bank, waitHits := t.waitHits }) ∧
  (∀ (s : State), s.pmu.mode = .entrySave → s.flag A.CORE_RDY 4 = false →
    ∃ t, exec .standbySaveDone s = .next t ∧ t.pmu.mode = .entryOff ∧ t.coreState 5 ≤ 1 ∧ t.coreState 6 ≤ 1 ∧ t.link.pdAuton = true ∧
      t = { s with ang := t.ang, bank := t.bank, cry := t.cry, eng := t.eng, free := t.free, link := t.link, lr := t.lr,
                   mem := t.mem, pmu := t.pmu, pwr := t.pwr, ramEcc := t.ramEcc, regs := t.regs, rings := t.rings,
                   saf := t.saf, semRes := t.semRes, upd := t.upd, waitHits := t.waitHits, wires := t.wires }) ∧
  (∀ (s : State), s.pmu.mode = .entryOff → s.pmu.wakeDue = false →
    ∃ t, exec .standbyEntered s = .next t ∧ t.pmu.mode = .standby ∧ t.tb = s.tb ∧ t.vlt = s.vlt ∧ t.lsw.lowPower = true ∧ t.domOn 0 = s.domOn 0) ∧
  (∀ (s : State) (src : Fin 15), s.pmu.mode = .standby → s.flag A.WAKE_EN src = true → (src.val < 4 ∨ 9 < src.val) →
    ∃ t, exec (.wakeEvent src) s = .next t ∧ t.pmu.mode = .run ∧ t.pmu.t0Due = true ∧ t.coreState 0 = 2 ∧ t.flag A.WAKE_CAUSE src = true ∧
      bit (t.reg A.RST_CAUSE) 7 = true ∧ t.tb = s.tb ∧ t.vlt = s.vlt) ∧
  (∀ (s : State) (a b : Bool), s.pmu.mode = .run → s.flag A.PMU_CTL 0 = true → a = true → b = true → s.meip 0 = false → s.meip 1 = false →
    ∃ t, exec (.dozeEntry a b) s = .next t ∧ t.pmu = { s.pmu with mode := .doze } ∧ t.field A.PMU_MODE 0 2 = 1 ∧ RegsSame [A.PMU_MODE] s t ∧ t = { s with pmu := t.pmu, regs := t.regs }) ∧
  (∀ (s : State), s.pmu.mode = .doze → s.meip 0 = true →
    ∃ t, exec .dozeExit s = .next t ∧ t.pmu = { s.pmu with mode := .run } ∧ t.field A.PMU_MODE 0 2 = 0 ∧ RegsSame [A.PMU_MODE] s t ∧ t = { s with pmu := t.pmu, regs := t.regs }) ∧
  (∀ (s : State) (vin : Nat), vin < s.pfLevel → s.flag A.PMU_STAT 2 = true →
    ∃ t, exec (.pmuPfWarn vin) s = .next t ∧ t.flag A.PMU_STAT 2 = false ∧ bit (t.reg A.PMU_ERR) 3 = true ∧ t.reg A.SUP_VIN = wd (vin % 65536) ∧ t = { s with bank := t.bank, bil := t.bil, met := t.met, regs := t.regs, waitHits := t.waitHits }) ∧
  (∀ (s : State) (vin : Nat), s.pfLevel + 200 < vin → s.flag A.PMU_STAT 2 = false →
    ∃ t, exec (.vinPfRise vin) s = .next t ∧ t.flag A.PMU_STAT 2 = true ∧ bit (t.reg A.PMU_ERR) 3 = false ∧
      RegsSame [A.SUP_VIN, A.PMU_STAT, A.PMU_ERR] s t ∧ t = { s with regs := t.regs }) ∧
  (∀ (s : State) (v : Nat), v < 2200 → s.flag A.PMU_STAT 5 = true →
    ∃ t, exec (.pmuVbatLow v) s = .next t ∧ t.flag A.PMU_STAT 5 = false ∧ bit (t.reg A.PMU_ERR) 4 = true ∧ t.reg A.SUP_VBAT = wd v ∧ Heard 1 s t ∧
      BanksSame [1] s t ∧ RegsSame [A.SUP_VBAT, A.PMU_STAT, A.PMU_ERR] s t ∧ t = { s with bank := t.bank, regs := t.regs, waitHits := t.waitHits }) ∧
  (∀ (s : State) (c : Int), 10 * (s.field A.TEMP_CFG 0 8 : Int) ≤ c → s.pmu.tempWarned = false →
    ∃ t, exec (.pmuTempWarn c) s = .next t ∧ bit (t.reg A.PMU_ERR) 6 = true ∧ t.pmu = { s.pmu with tempWarned := true } ∧ Heard 58 s t ∧
      BanksSame [58] s t ∧ RegsSame [A.TEMP_CD, A.PMU_ERR] s t ∧ t = { s with bank := t.bank, pmu := t.pmu, regs := t.regs, waitHits := t.waitHits }) ∧
  (∀ (s : State) (margin : Nat), margin < 5 →
    ∃ t, exec (.pmuAvsAlarm margin) s = .next t ∧ t.elem .pmu 0 0 = s.loopHi .pmu 0 ∧ t.flag A.PMU_STAT 7 = true ∧ bit (t.reg A.PMU_ERR) 5 = true ∧
      t.pmu.avsAt = some s.now ∧ Heard 3 s t ∧ RegsSame [A.AVS_MARGIN, A.PMU_STAT, A.PMU_ERR] s t ∧ t = { s with bank := t.bank, elems := t.elems, loops := t.loops, pmu := t.pmu, regs := t.regs, waitHits := t.waitHits }) ∧
  (∀ (s : State) (c : Int), 1600 ≤ c → s.wires.hot = false →
    ∃ t, exec (.pdThermalShutdown c) s = .next t ∧ t.wires.hot = true ∧ t.wires.pdflt = true ∧ t.wires.injOut = 0 ∧
      t = { s with bank := t.bank, eng := t.eng, free := t.free, lr := t.lr, lsw := t.lsw, mem := t.mem, ramEcc := t.ramEcc,
                   regs := t.regs, rings := t.rings, waitHits := t.waitHits, wires := t.wires }) ∧
  (∀ (s : State) (c : Int), c ≤ 1400 → s.wires.hot = true →
    ∃ t, exec (.pdThermalRelease c) s = .next t ∧ t.wires.hot = false ∧ t.wires.pdflt = false ∧
      t = { s with bank := t.bank, eng := t.eng, free := t.free, lr := t.lr, lsw := t.lsw, mem := t.mem, ramEcc := t.ramEcc,
                   regs := t.regs, rings := t.rings, waitHits := t.waitHits, wires := t.wires }) ∧
  (∀ (s : State) (c : Fin 2) (n : Fin 4), ∃ t, exec (.soThermalOff c n) s = .next t ∧ t.wires.soHot = s.wires.soHot ||| 2 ^ (2 * n.val + c.val) ∧
      t = { s with ang := t.ang, bank := t.bank, chg := t.chg, eng := t.eng, free := t.free, lr := t.lr, mem := t.mem,
                   pwr := t.pwr, ramEcc := t.ramEcc, rcm := t.rcm, regs := t.regs, rings := t.rings, saf := t.saf,
                   waitHits := t.waitHits, wires := t.wires }) ∧
  (∀ (s : State) (c : Fin 2) (n : Fin 4), s.wires.soHot.testBit (2 * n.val + c.val) = true →
    ∃ t, exec (.soThermalRelease c n) s = .next t ∧ t.wires.soHot = s.wires.soHot - 2 ^ (2 * n.val + c.val) ∧
      t = { s with ang := t.ang, bank := t.bank, chg := t.chg, eng := t.eng, free := t.free, lr := t.lr, mem := t.mem,
                   pwr := t.pwr, ramEcc := t.ramEcc, rcm := t.rcm, regs := t.regs, rings := t.rings, saf := t.saf,
                   waitHits := t.waitHits, wires := t.wires }) ∧
  (∀ (s : State) (v : Nat), ∃ t, exec (.vsafeChange v) s = .next t ∧ t.wires.vsafeOk = decide (8000 ≤ v) ∧
      t = { s with ang := t.ang, bank := t.bank, chg := t.chg, eng := t.eng, free := t.free, lr := t.lr, mem := t.mem,
                   pwr := t.pwr, ramEcc := t.ramEcc, rcm := t.rcm, regs := t.regs, rings := t.rings, saf := t.saf,
                   waitHits := t.waitHits, wires := t.wires }) ∧
  (∀ (s : State) (v : Nat), ∃ t, exec (.vhbChange v) s = .next t ∧ t.wires.vhbOk = decide (5000 ≤ v) ∧ (v < 5000 → t.wires.hbOut = 0) ∧
      t = { s with eng := t.eng, free := t.free, lr := t.lr, mem := t.mem, ramEcc := t.ramEcc, regs := t.regs,
                   rings := t.rings, wires := t.wires })

/-- WDT_KICK and WDT_EXPIRY. -/
def Obligations.WatchdogCommands : Prop :=
  (∀ (s : State) (m : Fin 8) (c : Fin 5), s.Unhindered .sys m (A.WDT_KICK c) → m.val = c.val →
    ∃ t, exec (.wdtKick m c .word 0x4B1C#32) s = .next t ∧ t.wdtFrom c = s.now ∧ t = { s with pmu := t.pmu }) ∧
  (∀ (s : State) (c : Fin 5) (v : Word), s.Unhindered .sys c (A.WDT_KICK c) → (c.val = 2 ∨ c.val = 3) → v ≠ 0x4B1C#32 → s.coreState c = 2 →
    ∃ t, exec (.wdtKick (Fin.ofNat 8 c) c .word v) s = .next t ∧ bit (t.reg (A.WDT_STAT c)) 1 = true ∧ bit (t.reg (A.WDT_STAT c)) 0 = true ∧
      t.coreState c = 1 ∧ t.mem = s.mem) ∧
  (∀ (s : State) (c : Fin 5), s.flag (A.WDT_CFG c) 16 = true → s.wdtSuspended c = false → s.wdtTicks c ≤ s.wdtCounted c → (c.val = 2 ∨ c.val = 3) →
    s.coreState c = 2 →
    ∃ t, exec (.wdtExpiry c) s = .next t ∧ bit (t.reg (A.WDT_STAT c)) 0 = true ∧ t.coreState c = 1 ∧ bit (t.reg A.RST_CAUSE) (8 + c) = true ∧
      t.flag A.CORE_CTL c = false ∧ t.wdtFrom c = s.now)

/-- CRK_EDGE, VIRTUAL_TOOTH, CRK_STALL, CAM_EDGE, PHASE_FLIP, RESYNC, CLR_CNT, PARTNER_EDGE, PARTNER_MISS. -/
def Obligations.CrankAndCam : Prop :=
  (∀ (s : State), s.domState 0 = 1 → s.ang.crk.lastReal = none →
    ∃ t, exec .crkEdge s = .next t ∧ t.domState 0 = 2 ∧ t.ang.crk.lastReal = some s.now ∧ t.ang.crk.edges = s.ang.crk.edges + 1 ∧
      Heard 392 s t ∧ BanksSame [392] s t ∧ RegsSame [A.ANG_STAT] s t ∧ t.ports = s.ports ∧
      t = { s with ang := t.ang, bank := t.bank, elems := t.elems, eng := t.eng, free := t.free, gates := t.gates,
                   loops := t.loops, lr := t.lr, mem := t.mem, ramEcc := t.ramEcc, regs := t.regs, rings := t.rings,
                   waitHits := t.waitHits, wires := t.wires }) ∧
  (∀ (s : State), s.domState 0 = 3 → s.ang.crk.camMode = 0 → s.ang.crk.virtSeen = 0 → s.flag A.PART_STAT 0 = false →
    s.crkWindow.any (fun w => w.1.le (Frac.ofNat s.now) && (Frac.ofNat s.now).le w.2) = true →
    ∃ t, exec .crkEdge s = .next t ∧ t.domState 0 = 3 ∧ t.ang.crk.pos = s.ang.crk.pos.map s.ang.crk.next ∧
      t.ang.crk.tooth = Frac.ofNat s.now ∧ t.ang.crk.lastReal = some s.now ∧ t.ang.crk.run = s.ang.crk.run + 1 ∧ t.ports = s.ports ∧
      t = { s with ang := t.ang, bank := t.bank, elems := t.elems, eng := t.eng, free := t.free, gates := t.gates,
                   loops := t.loops, lr := t.lr, mem := t.mem, ramEcc := t.ramEcc, regs := t.regs, rings := t.rings,
                   waitHits := t.waitHits, wires := t.wires }) ∧
  (∀ (s : State) (p : Nat), s.domState 0 = 3 → 
    s.crkWindow.any (fun w => !w.1.le (Frac.ofNat s.now) && (Frac.ofNat s.now).le w.2) = true → s.ang.crk.pos = some p → s.ang.crk.afterGap (s.ang.crk.next p) = false →
    ∃ t, exec .crkEdge s = .next t ∧ t.reg A.CRK_CNT = satAdd (s.reg A.CRK_CNT) 0 16 1 ∧ t.domState 0 = 3 ∧ t.ang.crk.pos = some p ∧
      t.ang.crk.tooth = s.ang.crk.tooth ∧ t.ang.crk.run = 0 ∧ RegsSame [A.CRK_CNT] s t ∧
      t = { s with regs := t.regs, ang := t.ang, rings := t.rings, mem := t.mem, ramEcc := t.ramEcc, lr := t.lr }) ∧
  (∀ (s : State) (p : Nat), s.domState 0 = 3 → s.crkOverdue s.now = true → s.ang.crk.camMode = 0 → s.ang.crk.pos = some p →
    s.field A.CRK_POS 8 4 + 1 ≤ s.field A.CRK_LOCK 0 4 → s.ang.crk.virtRev + 1 ≤ s.field A.CRK_LOCK 4 4 →
    ∃ t, exec (.virtualTooth 0) s = .next t ∧ t.domState 0 = 4 ∧ t.ang.crk.pos = some (s.ang.crk.next p) ∧
      t.ang.crk.lastReal = s.ang.crk.lastReal ∧ t.reg A.CRK_CNT = satAdd (s.reg A.CRK_CNT) 16 16 1 ∧ t.ports = s.ports ∧
      t = { s with ang := t.ang, bank := t.bank, elems := t.elems, eng := t.eng, free := t.free, gates := t.gates,
                   loops := t.loops, lr := t.lr, mem := t.mem, ramEcc := t.ramEcc, regs := t.regs, rings := t.rings,
                   waitHits := t.waitHits, wires := t.wires }) ∧
  (∀ (s : State) (p : Nat), s.domState 0 = 3 → s.crkOverdue s.now = true → s.ang.crk.pos = some p →
    s.field A.CRK_LOCK 0 4 < s.field A.CRK_POS 8 4 + 1 →
    ∃ t, exec (.virtualTooth 0) s = .next t ∧ t.domState 0 = 1 ∧ t.ang.crk.pos = none ∧ t.flag A.ANG_ERR 2 = true ∧ t.reg A.CRK_POS = 0#32 ∧
      t.ports = s.ports ∧
      t = { s with ang := t.ang, bank := t.bank, elems := t.elems, eng := t.eng, free := t.free, gates := t.gates,
                   loops := t.loops, lr := t.lr, mem := t.mem, ramEcc := t.ramEcc, regs := t.regs, rings := t.rings,
                   waitHits := t.waitHits, wires := t.wires }) ∧
  (∀ (s : State), s.domState 0 = 2 →
    ∃ t, exec .crkStall s = .next t ∧ t.domState 0 = 1 ∧ t.ang.crk.pos = none ∧ t.flag A.ANG_ERR 2 = true ∧ t.reg A.CRK_POS = 0#32 ∧
      t.ports = s.ports ∧
      t = { s with ang := t.ang, bank := t.bank, eng := t.eng, free := t.free, lr := t.lr, mem := t.mem, ramEcc := t.ramEcc,
                   regs := t.regs, rings := t.rings, waitHits := t.waitHits, wires := t.wires }) ∧
  (∀ (s : State), s.domState 0 = 3 → s.ang.crk.camMode = 1 → s.ang.crk.pos.isSome = true →
    inWindow s.ang.crk.camLo s.ang.crk.camHi (s.crkAngle s.now) = true →
    ∃ t, exec .camEdge s = .next t ∧ t.reg A.CAM_POS = setBit (wd (s.crkAngle s.now)) 31 true ∧ t.ang.crk.camSeen = true ∧ t.ang.crk.camBad = 0 ∧
      RegsSame [A.CAM_POS] s t ∧ t = { s with regs := t.regs, ang := t.ang, rings := t.rings, mem := t.mem, ramEcc := t.ramEcc, lr := t.lr }) ∧
  (∀ (s : State) (m : Fin 8), s.Unhindered .ang m A.CRK_CMD → s.phase = 1 → s.domValid 0 = true →
    ∃ t, exec (.phaseFlip m) s = .next t ∧ t.domState 0 = 3 ∧ t.ang.crk.pos = s.ang.crk.pos.map (fun p => (p + s.ang.crk.nRev) % s.ang.crk.n) ∧
      t.phase = 1 ∧
      t = { s with ang := t.ang, bank := t.bank, comp := t.comp, elems := t.elems, eng := t.eng, free := t.free, lr := t.lr,
                   mem := t.mem, ports := t.ports, ramEcc := t.ramEcc, regs := t.regs, rings := t.rings,
                   waitHits := t.waitHits, wires := t.wires }) ∧
  (∀ (s : State) (m : Fin 8), s.Unhindered .ang m A.CRK_CMD → s.domState 0 ≠ 0 →
    ∃ t, exec (.resync m) s = .next t ∧ t.domState 0 = 1 ∧ t.ang.crk.pos = none ∧ t.reg A.CRK_POS = 0#32 ∧ t.flag A.PART_STAT 0 = false ∧
      t = { s with ang := t.ang, bank := t.bank, comp := t.comp, elems := t.elems, eng := t.eng, free := t.free, lr := t.lr,
                   mem := t.mem, ports := t.ports, ramEcc := t.ramEcc, regs := t.regs, rings := t.rings,
                   waitHits := t.waitHits, wires := t.wires }) ∧
  (∀ (s : State) (m : Fin 8), s.Unhindered .ang m A.CRK_CMD →
    ∃ t, exec (.clrCnt m) s = .next t ∧ t.reg A.CRK_CNT = 0#32 ∧ t.reg A.CRK_CNT2 = 0#32 ∧ t.reg A.SHAPE_STAT = 0#32 ∧
      RegsSame [A.CRK_CNT, A.CRK_CNT2, A.SHAPE_STAT] s t ∧ t = { s with regs := t.regs }) ∧
  (∀ (s : State) (p : Nat), s.flag A.PART_STAT 0 = true → 0 < s.ang.crk.partK → 6 * s.ang.crk.partK ≤ s.ang.crk.partIdx → s.ang.crk.pos = some p →
    ∃ t, exec .partnerEdge s = .next t ∧ t.ang.crk.partIdx < 6 * s.ang.crk.partK ∧ t.ang.crk.partT = s.now ∧ t.ang.crk.partRun = 0 ∧
      t.ang.crk.pos = some p ∧ t.ports = s.ports ∧
      t = { s with ang := t.ang, bank := t.bank, eng := t.eng, free := t.free, gates := t.gates, lr := t.lr, mem := t.mem,
                   ramEcc := t.ramEcc, regs := t.regs, rings := t.rings, waitHits := t.waitHits, wires := t.wires }) ∧
  (∀ (s : State), s.flag A.PART_STAT 0 = true → s.ang.crk.partIdx < 6 * s.ang.crk.partK → s.ang.crk.partRun + 1 ≤ s.ang.crk.partMiss →
    ∃ t, exec .partnerMiss s = .next t ∧ t.ang.crk.partIdx = (s.ang.crk.partIdx + 1) % (6 * s.ang.crk.partK) ∧ t.ang.crk.partRun = s.ang.crk.partRun + 1 ∧
      t = { s with ang := t.ang }) ∧
  (∀ (s : State), s.flag A.PART_STAT 0 = true → s.ang.crk.partIdx < 6 * s.ang.crk.partK → s.ang.crk.partMiss < s.ang.crk.partRun + 1 →
    ∃ t, exec .partnerMiss s = .next t ∧ t.flag A.PART_STAT 0 = false ∧ t.flag A.ANG_ERR 4 = true ∧ RegsSame [A.PART_STAT, A.ANG_ERR] s t ∧
      BanksSame [397] s t ∧ t = { s with ang := t.ang, bank := t.bank, regs := t.regs, waitHits := t.waitHits })

/-- ANG_CTL_WRITE, ALT_EDGE, GRD_UPDATE, INV_FREQ_WRITE, INV_CYCLE, SYNC_SNAP, TOOTH_LOG, SHAPE_SAVE, SHAPE_LOAD. -/
def Obligations.AlternatorGridInverter : Prop :=
  (∀ (s : State) (m : Fin 8) (v : Word), s.PairReady .ang m A.ANG_CTL v → (∀ d : Fin 5, s.domState d = 0) → bit v 0 = false →
    s.flag A.INV_CFG 0 = false →
    ∃ t, exec (.angCtlWrite m .word v) s = .next t ∧ t.domState 0 = 0 ∧
      (∀ d : Fin 5, d.val ≠ 0 → t.flag A.ANG_CTL d = (bit v d && angleDomainPresent s.opt d)) ∧
      t.domState 1 = (if bit v 1 ∧ angleDomainPresent s.opt 1 then 1 else 0) ∧ t.domState 2 = (if bit v 2 ∧ angleDomainPresent s.opt 2 then 1 else 0) ∧
      t.domState 3 = (if bit v 3 ∧ angleDomainPresent s.opt 3 then 3 else 0) ∧
      t.domState 4 = (if bit v 4 ∧ angleDomainPresent s.opt 4 then (if s.ang.cpl.running then 3 else 1) else 0) ∧
      t = { s with ang := t.ang, bank := t.bank, comp := t.comp, crkPositions := t.crkPositions, eng := t.eng, free := t.free,
                   lr := t.lr, mem := t.mem, ports := t.ports, ramEcc := t.ramEcc, regs := t.regs, rings := t.rings,
                   waitHits := t.waitHits, wires := t.wires }) ∧
  (∀ (s : State) (m : Fin 8) (v : Word), s.PairReady .ang m A.ANG_CTL v → fld v 0 5 = 0 →
    ∃ t, exec (.angCtlWrite m .word v) s = .next t ∧ (∀ d : Fin 5, t.domState d = 0) ∧
      t = { s with ang := t.ang, bank := t.bank, comp := t.comp, crkPositions := t.crkPositions, eng := t.eng, free := t.free,
                   lr := t.lr, mem := t.mem, ports := t.ports, ramEcc := t.ramEcc, regs := t.regs, rings := t.rings,
                   waitHits := t.waitHits, wires := t.wires }) ∧
  (∀ (s : State) (ph : Fin 3) (rise : Bool), s.domState 1 = 1 → s.ang.alt.raw = none →
    ∃ t, exec (.altEdge ph rise) s = .next t ∧ t.domState 1 = 2 ∧ t.ang.alt.idx = some (altIndex ph (rise != s.flag A.ALT_CFG 0)) ∧
      t.ang.alt.tooth = Frac.ofNat s.now ∧ Heard 398 s t ∧ BanksSame [398] s t ∧ RegsSame [A.ANG_STAT, A.ALT_FREQ] s t ∧
      t = { s with ang := t.ang, bank := t.bank, eng := t.eng, free := t.free, gates := t.gates, lr := t.lr, mem := t.mem,
                   ramEcc := t.ramEcc, regs := t.regs, rings := t.rings, waitHits := t.waitHits, wires := t.wires }) ∧
  (∀ (s : State) (ampl mhz angle : Nat) (pherr : Int), s.domState 2 = 1 → s.field A.GRD_VNOM 0 24 ≠ 0 →
    s.field A.GRD_LIM 0 8 * s.field A.GRD_VNOM 0 24 ≤ 100 * ampl → 45000 ≤ mhz → mhz ≤ 65000 →
    ∃ t, exec (.grdUpdate ampl mhz angle pherr) s = .next t ∧ t.domState 2 = 2 ∧ t.reg A.GRD_AMPL = wd (ampl % 2 ^ 24) ∧
      t.reg A.GRD_PHERR = BitVec.ofInt 32 pherr ∧ t.field A.GRD_FREQ 0 24 = mhz ∧ t.ang.grd.angle = modC angle ∧
      RegsSame [A.ANG_STAT, A.GRD_AMPL, A.GRD_PHERR, A.GRD_FREQ] s t ∧ Heard 399 s t ∧ BanksSame [399] s t ∧
      t = { s with ang := t.ang, bank := t.bank, eng := t.eng, free := t.free, lr := t.lr, mem := t.mem, ramEcc := t.ramEcc,
                   regs := t.regs, rings := t.rings, waitHits := t.waitHits, wires := t.wires }) ∧
  (∀ (s : State) (m : Fin 8) (v : Word), s.PairReady .ang m A.INV_FREQ v → s.flag A.INV_CFG 0 = false →
    ∃ t, exec (.invFreqWrite m .word v) s = .next t ∧ t.reg A.INV_FREQ = v ∧ RegsSame [A.INV_FREQ] s t ∧
      t.ang = { s.ang with inv := { s.ang.inv with rate := v.toNat, phase := s.invPhase s.now, t := s.now } } ∧
      t = { s with regs := t.regs, comp := t.comp, ang := t.ang }) ∧
  (∀ (s : State), s.domState 3 ≠ 0 → s.ang.inv.follow = false →
    ∃ t, exec .invCycle s = .next t ∧ t.ang.inv.cyc = (s.ang.inv.cyc + 1) % 256 ∧ t.invAngle s.now = s.invAngle s.now ∧ t = { s with ang := t.ang }) ∧
  (∀ (s : State) (n : Fin 8), InHand s .ang n 0x10 → (s.ring .ang n).host = 0 →
    ∃ t, exec (.syncSnap n) s = .next t ∧ Decided t .ang n { status := 0, result := s.angleReg 0 } ∧ t.word (s.dw .ang n 2).toNat = s.tick ∧
      (∀ d : Fin 5, t.word ((s.dw .ang n 2).toNat + 8 + 4 * d) = s.angleReg d) ∧ t.word ((s.dw .ang n 2).toNat + 28) = s.reg A.CRK_POS ∧
      BytesSame [((s.dw .ang n 2).toNat, 32)] s t ∧ t = { s with lr := t.lr, mem := t.mem, ramEcc := t.ramEcc, rings := t.rings }) ∧
  (∀ (s : State) (n : Fin 8), InHand s .ang n 0x11 → (s.ring .ang n).aux = 0 → fld (s.dw .ang n 4) 0 16 ≠ 0 →
    ∃ t, exec (.toothLog n) s = .next t ∧ t.ring .ang n = { s.ring .ang n with aux := 1, t0 := s.now } ∧ t = { s with rings := t.rings }) ∧
  (∀ (s : State) (n : Fin 8), InHand s .ang n 0x12 → (s.ring .ang n).host = 0 → s.domState 0 ≠ 0 → (s.dw .ang n 1).toNat = 2 * s.crkPositions →
    ∃ t, exec (.shapeSave n) s = .next t ∧ Decided t .ang n { status := 0, result := wd s.crkPositions } ∧
      (∀ i : Fin s.crkPositions, t.byte ((s.dw .ang n 2).toNat + 2 * i) = BitVec.ofNat 8 (s.elem .ang 0 i) ∧
        t.byte ((s.dw .ang n 2).toNat + 2 * i + 1) = BitVec.ofNat 8 (s.elem .ang 0 i / 256)) ∧
      BytesSame [((s.dw .ang n 2).toNat, 2 * s.crkPositions)] s t ∧ t = { s with lr := t.lr, mem := t.mem, ramEcc := t.ramEcc, rings := t.rings }) ∧
  (∀ (s : State) (n : Fin 8), InHand s .ang n 0x13 → s.domState 0 ≠ 0 → (s.loop .ang 0).mode ≠ 0 → (s.dw .ang n 1).toNat = 2 * s.crkPositions →
    ∃ t, exec (.shapeLoad n) s = .next t ∧ Decided t .ang n { status := 0, result := wd s.crkPositions } ∧ t.mem = s.mem ∧
      t = { s with ang := t.ang, bank := t.bank, elems := t.elems, loops := t.loops, regs := t.regs, rings := t.rings,
                   waitHits := t.waitHits })

/-- SLOT_SET, SLOT_CLEAR, SLOT_WAIT, SLOT_WAIT_TIMEOUT, SLOT_READ. -/
def Obligations.SlotDescriptors : Prop :=
  (∀ (s : State) (k : Fin 8), InHand s .ang k 0x20 → (s.ring .ang k).aux = 0 →
    s.slotCheck k (fld (s.dw .ang k 4) 0 8) (s.viewWords (s.ring .ang k).host (s.dw .ang k 2).toNat 8) = none →
    (s.slot (fld (s.dw .ang k 4) 0 8)).st ≠ 3 →
    s.domAnchor ({ record := s.viewWords (s.ring .ang k).host (s.dw .ang k 2).toNat 8 } : Slot).domain = none →
    ∃ t, exec (.slotSet k) s = .next t ∧ Decided t .ang k { status := 0, result := wd (fld (s.dw .ang k 4) 0 8) } ∧
      t.slot (fld (s.dw .ang k 4) 0 8) = { (s.slot (fld (s.dw .ang k 4) 0 8)).clear with
        record := s.viewWords (s.ring .ang k).host (s.dw .ang k 2).toNat 8, st := 1, since := s.now } ∧
      (∀ j : Fin 256, j.val ≠ fld (s.dw .ang k 4) 0 8 → t.slot j = s.slot j) ∧ t = { s with ang := t.ang, rings := t.rings }) ∧
  (∀ (s : State) (k : Fin 8), InHand s .ang k 0x20 → (s.ring .ang k).aux = 0 →
    s.slotCheck k (fld (s.dw .ang k 4) 0 8) (s.viewWords (s.ring .ang k).host (s.dw .ang k 2).toNat 8) = none →
    (s.slot (fld (s.dw .ang k 4) 0 8)).st = 3 →
    ∃ t, exec (.slotSet k) s = .next t ∧ t.ring .ang k = { s.ring .ang k with aux := 1 } ∧
      t.slot (fld (s.dw .ang k 4) 0 8) = { s.slot (fld (s.dw .ang k 4) 0 8) with
        next := some (s.viewWords (s.ring .ang k).host (s.dw .ang k 2).toNat 8, k.val) } ∧ t = { s with ang := t.ang, rings := t.rings }) ∧
  (∀ (s : State) (k : Fin 8) (status : Nat), InHand s .ang k 0x20 → (s.ring .ang k).aux = 0 →
    s.slotCheck k (fld (s.dw .ang k 4) 0 8) (s.viewWords (s.ring .ang k).host (s.dw .ang k 2).toNat 8) = some status →
    ∃ t, exec (.slotSet k) s = .next t ∧ Decided t .ang k { status := status } ∧ t = { s with rings := t.rings }) ∧
  (∀ (s : State) (k : Fin 8), InHand s .ang k 0x21 → s.slotOwned (fld (s.dw .ang k 4) 0 8) (s.ring .ang k).host = true →
    (s.slot (fld (s.dw .ang k 4) 0 8)).charging = false →
    ∃ t, exec (.slotClear k) s = .next t ∧ Decided t .ang k { status := 0, result := wd (s.slot (fld (s.dw .ang k 4) 0 8)).st } ∧
      t.slot (fld (s.dw .ang k 4) 0 8) = { (s.slot (fld (s.dw .ang k 4) 0 8)).clear with record := [], next := none, st := 0 } ∧
      (∀ j : Fin 256, j.val ≠ fld (s.dw .ang k 4) 0 8 → t.slot j = s.slot j) ∧ t.ports = s.ports ∧
      t = { s with ang := t.ang, bank := t.bank, eng := t.eng, free := t.free, lr := t.lr, mem := t.mem, ramEcc := t.ramEcc,
                   regs := t.regs, rings := t.rings, waitHits := t.waitHits, wires := t.wires }) ∧
  (∀ (s : State) (k : Fin 8), InHand s .ang k 0x22 → (s.ring .ang k).aux = 0 → s.slotOwned (fld (s.dw .ang k 4) 0 8) (s.ring .ang k).host = true →
    fld (s.dw .ang k 5) 0 16 ≠ 0 → (∀ j : Fin 8, j ≠ k → s.slotWaits j (fld (s.dw .ang k 4) 0 8) = false) →
    ∃ t, exec (.slotWait k) s = .next t ∧ t.ring .ang k = { s.ring .ang k with aux := 1 } ∧ t = { s with rings := t.rings }) ∧
  (∀ (s : State) (k : Fin 8), InHand s .ang k 0x22 → (s.ring .ang k).aux = 1 →
    ∃ t, exec (.slotWaitTimeout k) s = .next t ∧ Decided t .ang k { status := 0x40, result := s.tick } ∧ t = { s with rings := t.rings }) ∧
  (∀ (s : State) (k : Fin 8), InHand s .ang k 0x23 → (s.ring .ang k).host = 0 →
    ∃ t, exec (.slotRead k) s = .next t ∧ Decided t .ang k { status := 0, result := wd (s.slot (fld (s.dw .ang k 4) 0 8)).st } ∧
      (∀ i : Fin 8, t.word ((s.dw .ang k 2).toNat + 4 * i) = (s.slot (fld (s.dw .ang k 4) 0 8)).w i) ∧
      t.word ((s.dw .ang k 2).toNat + 32) = (s.slot (fld (s.dw .ang k 4) 0 8)).stat ∧
      t.word ((s.dw .ang k 2).toNat + 36) = wd (s.slot (fld (s.dw .ang k 4) 0 8)).lastAt ∧
      BytesSame [((s.dw .ang k 2).toNat, 48)] s t ∧ t = { s with lr := t.lr, mem := t.mem, ramEcc := t.ramEcc, rings := t.rings })

/-- SLOT_ARMING_POINT, SLOT_FIRE, DWELL_START, DWELL_MAX, DWA_HOLD_EXPIRY, OUTPUT_END, AO_ROUTE_WRITE, STAGING_WRITE. -/
def Obligations.SlotFirings : Prop :=
  (∀ (s : State) (ign : Bool) (n : Fin 256) (x : Slot), s.ang.slots = [(n.val, x)] → x.st = 1 → x.kind = (if ign then 6 else 5) → x.armed = false →
    x.domain = 0 → x.high = false → s.domState 0 = 3 → s.ang.crk.virtAnchor = false →
    (s.crkInstant (s.armPoint x)).any (fun t => decide (x.since < t ∧ t ≤ s.now)) = true →
    subC (s.armPoint x) s.ang.crk.anchorC < subC (s.ang.crk.count (s.ang.crk.next (s.ang.crk.pos.getD 0))) s.ang.crk.anchorC →
    ∃ t, exec (.slotArmingPoint ign) s = .next t ∧ ((t.slot n).armed = true ∨ (t.slot n).last = 0x52) ∧ t.ports = s.ports ∧
      t = { s with ang := t.ang, bank := t.bank, eng := t.eng, free := t.free, gates := t.gates, lr := t.lr, mem := t.mem,
                   ramEcc := t.ramEcc, regs := t.regs, rings := t.rings, waitHits := t.waitHits, wires := t.wires }) ∧
  (∀ (s : State) (n : Fin 256) (i : Nat), (s.slot n).st = 2 → (s.slot n).kind = 2 → (s.slot n).domain = 0 → s.domValid 0 = true →
    (s.slot n).record ≠ [] → (s.slot n).instant = some i → i ≤ s.now →
    ∃ t, exec (.slotFire n) s = .next t ∧ (t.slot n).st = 3 ∧ (t.slot n).high = true ∧ (t.slot n).endAt = i + ((s.slot n).w 3).toNat ∧
      (t.slot n).last = (s.slot n).outcome.1 ∧ (t.slot n).lastAt = i ∧ (t.slot n).firings = ((s.slot n).firings + 1) % 256 ∧
      (∀ j : Fin 256, j ≠ n → t.slot j = s.slot j) ∧ t.ports = s.ports ∧
      t = { s with ang := t.ang, bank := t.bank, eng := t.eng, free := t.free, lr := t.lr, mem := t.mem, ramEcc := t.ramEcc,
                   regs := t.regs, rings := t.rings, waitHits := t.waitHits, wires := t.wires }) ∧
  (∀ (s : State) (n : Fin 256) (i : Nat), (s.slot n).st = 2 → (s.slot n).kind = 5 → (s.slot n).domain = 0 → s.domValid 0 = true → (s.slot n).armed = true →
    (s.slot n).record ≠ [] → (s.slot n).instant = some i → i ≤ s.now → s.tripHolds = true →
    ∃ t, exec (.slotFire n) s = .next t ∧ (t.slot n).last = 0x52 ∧ (t.slot n).unit = 4 ∧ (t.slot n).armed = false ∧ t.ports = s.ports ∧
      t = { s with ang := t.ang, bank := t.bank, eng := t.eng, free := t.free, lr := t.lr, mem := t.mem, ramEcc := t.ramEcc,
                   regs := t.regs, rings := t.rings, waitHits := t.waitHits, wires := t.wires }) ∧
  (∀ (s : State) (n : Fin 256) (i : Nat), (s.slot n).st = 2 → (s.slot n).kind = 6 → (s.slot n).armed = true → (s.slot n).dwellAt = none →
    (s.slot n).instant = some i → i ≤ s.now + (s.slot n).dwell → s.tripHolds = false → s.gateHolds (s.slot n) = false →
    s.ang.dwaAt = [] → s.slotsWhere Slot.charging = [] →
    ∃ t, exec (.dwellStart n) s = .next t ∧ t.slot n = { s.slot n with dwellAt := some s.now, high := true, st := 3 } ∧
      (∀ j : Fin 256, j ≠ n → t.slot j = s.slot j) ∧ t.ports = s.ports ∧
      t = { s with ang := t.ang, bank := t.bank, eng := t.eng, free := t.free, lr := t.lr, mem := t.mem, ramEcc := t.ramEcc,
                   regs := t.regs, rings := t.rings, waitHits := t.waitHits, wires := t.wires }) ∧
  (∀ (s : State) (n : Fin 256) (i : Nat), (s.slot n).charging = true → (s.slot n).dwellAt = some i → i + s.dwellMax (s.slotChannel (s.slot n)) ≤ s.now →
    ∃ t, exec (.dwellMax n) s = .next t ∧ (t.slot n).last = 0x52 ∧ (t.slot n).unit = 6 ∧ (t.slot n).high = false ∧ (t.slot n).dwellAt = none ∧
      t.ang.dwaAt.get (fun _ => 0) (s.slotChannel (s.slot n)) = s.now + 1 ∧ t.ports = s.ports ∧
      t = { s with ang := t.ang, bank := t.bank, eng := t.eng, free := t.free, lr := t.lr, mem := t.mem, ramEcc := t.ramEcc,
                   regs := t.regs, rings := t.rings, waitHits := t.waitHits, wires := t.wires }) ∧
  (∀ (s : State) (c : Fin 4), s.ang.dwaAt.get (fun _ => 0) c ≠ 0 → s.ang.dwaAt.get (fun _ => 0) c - 1 + s.field A.DWA_HOLD 0 16 * 400 ≤ s.now →
    ∃ t, exec (.dwaHoldExpiry c) s = .next t ∧ t.ang = { s.ang with dwaAt := s.ang.dwaAt.del c } ∧ t.ports = s.ports ∧
      t = { s with ang := t.ang, eng := t.eng, free := t.free, lr := t.lr, mem := t.mem, ramEcc := t.ramEcc, regs := t.regs,
                   rings := t.rings, wires := t.wires }) ∧
  (∀ (s : State) (n : Fin 256), (s.slot n).high = true → (s.slot n).kind ≠ 6 → ((s.slot n).kind = 3 ∨ (s.slot n).endAt ≤ s.now) → (s.slot n).next = none →
    ∃ t, exec (.outputEnd n) s = .next t ∧
      t.slot n = (if (s.slot n).repeats then { (s.slot n).clear with st := 1, since := s.now } else { (s.slot n).clear with record := [], st := 0 }) ∧
      (∀ j : Fin 256, j ≠ n → t.slot j = s.slot j) ∧
      t = { s with ang := t.ang, eng := t.eng, free := t.free, lr := t.lr, mem := t.mem, ramEcc := t.ramEcc, regs := t.regs,
                   rings := t.rings, wires := t.wires }) ∧
  (∀ (s : State) (m : Fin 8) (k : Fin 32) (v : Word), s.PairReady .ang m (A.AO_ROUTE k) v → fld v 0 6 < 29 → destAbsent s.opt (fld v 0 6) = false →
    s.slotsWhere (fun x => x.ao == k.val) = [] → (∀ j : Fin 32, j ≠ k → s.aoDest j = fld v 0 6 → fld v 0 6 = 0 ∨ 8 < fld v 0 6) →
    ∃ t, exec (.aoRouteWrite m k .word v) s = .next t ∧ t.aoDest k = fld v 0 6 ∧ (∀ j : Fin 32, j ≠ k → t.aoDest j = s.aoDest j) ∧
      t = { s with bank := t.bank, comp := t.comp, eng := t.eng, free := t.free, lr := t.lr, mem := t.mem, ports := t.ports,
                   ramEcc := t.ramEcc, regs := t.regs, rings := t.rings, waitHits := t.waitHits, wires := t.wires }) ∧
  (∀ (s : State) (m : Fin 8) (k : Fin 32) (v : Word), s.PairReady .ang m (A.AO_ROUTE k) v → s.slotsWhere (fun x => x.ao == k.val) ≠ [] →
    ∃ t, exec (.aoRouteWrite m k .word v) s = .next t ∧ t.flag A.EVT_ERR 0 = true ∧ Heard 408 s t ∧ RegsSame [A.EVT_ERR] s t ∧
      t = { s with regs := t.regs, comp := t.comp, bank := t.bank, waitHits := t.waitHits }) ∧
  (∀ (s : State) (r : Fin 3) (c : Fin 4) (v : Word), s.Unhindered .ang mE (stagingA r c) → s.opt ≠ optCP →
    ∃ t, exec (.stagingWrite 2 r c .word v) s = .next t ∧ t.field (stagingA r c) 0 16 = fld v 0 16 ∧ RegsSame [stagingA r c] s t ∧
      t = { s with regs := t.regs }) ∧
  (∀ (s : State) (m : Fin 8) (r : Fin 3) (c : Fin 4) (v : Word), s.Unhindered .ang m (stagingA r c) → s.opt ≠ optCP → m.val ≠ mE →
    ∃ t, exec (.stagingWrite m r c .word v) s = .next t ∧ t.flag A.EVT_ERR 2 = true ∧ Heard 408 s t ∧ RegsSame [A.EVT_ERR] s t ∧
      t = { s with regs := t.regs, bank := t.bank, waitHits := t.waitHits })

/-- VR_EDGE, HALL_EDGE, SENS_FAULT, SAR_TRIGGER, SAR_CONVERSION_DONE, SAR_PERIODIC, SAR_SWTRIG, SAR_CAL_STEP, KNOCK_SAMPLE, KNOCK_WINDOW_CLOSE, KNOCK_WINDOW, SAR_STREAM, OPD_LOG, COIL_LOG, LAM_LOG, LAM_PERIOD, LAM_PUMP_STG_WRITE. -/
def Obligations.EngineInputs : Prop :=
  (∀ (s : State) (n : Fin 2) (peak noise : BitVec 16), s.present .eng = true → s.flag A.ENG_CTL (4 + n) = true → s.vrDiag n = 0 →
    s.vrThreshold n < 10 * peak.toNat * 65536 →
    ∃ t, exec (.vrEdge n peak noise) s = .next t ∧ t.wires.vr = s.wires.vr ^^^ BitVec.ofNat 2 (2 ^ n.val) ∧
      t.field (A.VR_PEAK n) 0 16 = peak.toNat ∧ t.field (A.VR_PEAK n) 16 16 = noise.toNat ∧
      t.eng.vrLast.get (fun _ => none) n = some s.now ∧
      t = { s with bank := t.bank, elems := t.elems, eng := t.eng, loops := t.loops, regs := t.regs, waitHits := t.waitHits,
                   wires := t.wires }) ∧
  (∀ (s : State) (n : Fin 2) (peak noise : BitVec 16), 10 * peak.toNat * 65536 ≤ s.vrThreshold n →
    ∃ t, exec (.vrEdge n peak noise) s = .next t ∧ t = s) ∧
  (∀ (s : State) (h : Fin 4) (level : Bool), s.present .eng = true →
    ∃ t, exec (.hallEdge h level) s = .next t ∧ t.wires.hall.getLsbD h = (level ^^ s.flag A.HALL_CFG (4 * h + 3)) ∧
      t.flag A.SENS_DIAG (8 + h) = (level ^^ s.flag A.HALL_CFG (4 * h + 3)) ∧ RegsSame [A.SENS_DIAG] s t ∧ t = { s with regs := t.regs, wires := t.wires }) ∧
  (∀ (s : State) (n : Fin 2) (code : Fin 4), s.present .eng = true → s.flag (A.VR_CFG n) 14 = true → s.vrDiag n ≠ code.val →
    ∃ t, exec (.sensFault n code) s = .next t ∧ t.vrDiag n = code.val ∧ Heard 422 s t ∧ BanksSame [422] s t ∧ RegsSame [A.SENS_DIAG] s t ∧ t = { s with bank := t.bank, regs := t.regs, waitHits := t.waitHits }) ∧
  (∀ (s : State) (line : Fin 4) (delay : Fin 3) (q : Fin 8), s.sarOn = true → s.sarWith (1 + line) = [q.val] → delay.val ≠ 1 → s.sarRunning (s.sarConv q) = none →
    ∃ t, exec (.sarTrigger line delay) s = .next t ∧ (t.sarRunning (s.sarConv q)).map (fun r => r.seq) = some q.val ∧ t = { s with eng := t.eng }) ∧
  (∀ (s : State) (c : Fin 2) (value : BitVec 12) (q ch : Nat) (late : Bool), s.sarRunning c = some ⟨q, [ch], late⟩ → ch < 16 → s.sarPending c = none →
    ∃ t, exec (.sarConversionDone c value) s = .next t ∧ t.reg (A.SAR_LAST ch) = setBit (setFld 0#32 0 12 value.toNat) 19 late ∧ t.sarRunning c = none ∧
      RegsSame [A.SAR_LAST ch] s t ∧ t = { s with eng := t.eng, lr := t.lr, mem := t.mem, ramEcc := t.ramEcc, regs := t.regs, rings := t.rings }) ∧
  (∀ (s : State) (q : Fin 8), s.sarOn = true → s.sarWith 5 = [q.val] → s.sarRunning (s.sarConv q) = none →
    ∃ t, exec .sarPeriodic s = .next t ∧ (t.sarRunning (s.sarConv q)).map (fun r => r.seq) = some q.val ∧ t = { s with eng := t.eng }) ∧
  (∀ (s : State) (m : Fin 8) (v : Word) (q : Fin 8), s.Unhindered .eng m A.SAR_SWTRIG → s.sarOn = true → s.sarWith 6 = [q.val] → bit v q = true →
    s.sarRunning (s.sarConv q) = none →
    ∃ t, exec (.sarSwtrig m .word v) s = .next t ∧ (t.sarRunning (s.sarConv q)).map (fun r => r.seq) = some q.val ∧ t = { s with eng := t.eng }) ∧
  (∀ (s : State) (m : Fin 8) (v : Word) (q : Fin 8), s.Unhindered .eng m A.SAR_SWTRIG → s.sarOn = true → s.sarWith 6 = [q.val] → bit v q = true →
    (s.sarRunning (s.sarConv q)).isSome = true → (s.sarPending (s.sarConv q)).isSome = true →
    ∃ t, exec (.sarSwtrig m .word v) s = .next t ∧ t.flag A.ENG_ERR 0 = true ∧ Heard 423 s t ∧ RegsSame [A.ENG_ERR] s t ∧ t.eng = s.eng) ∧
  (∀ (s : State), s.live .eng = true → s.flag A.ENG_CTL 3 = true → s.sarRunning 0 = none → s.sarRunning 1 = none →
    ∃ t, exec (.sarCalStep true) s = .next t ∧ t = s.bgStepDone .eng ∧ t = { s with regs := t.regs }) ∧
  (∀ (s : State) (x y0 y1 : Int) (k : KnkWin), s.live .eng = true → s.flag A.ENG_CTL 1 = true → s.eng.knk = some k → s.eng.knkHigh = true →
    x ≠ 32767 → x ≠ -32768 →
    ∃ t, exec (.knockSample x y0 y1) s = .next t ∧ t.eng.knk = some { k with
      first := if k.n = 0 then s.now else k.first, last := s.now, n := k.n + 1, peak := max k.peak x.natAbs,
      e0 := k.e0 + y0.natAbs * y0.natAbs, e1 := k.e1 + y1.natAbs * y1.natAbs, raw := k.raw + x.natAbs * x.natAbs, data := k.data ++ [x] } ∧
      t = { s with eng := t.eng }) ∧
  (∀ (s : State) (x y0 y1 : Int), s.live .eng = true → s.flag A.ENG_CTL 1 = true → (x = 32767 ∨ x = -32768) →
    ∃ t, exec (.knockSample x y0 y1) s = .next t ∧ t.flag A.ENG_ERR 1 = true ∧ Heard 424 s t ∧ RegsSame [A.ENG_ERR] s t ∧ t = { s with bank := t.bank, eng := t.eng, regs := t.regs, waitHits := t.waitHits }) ∧
  (∀ (s : State) (k : KnkWin), s.eng.knk = some k → s.eng.knkHigh = false → k.n ≠ 0 →
    ∃ t, exec .knockWindowClose s = .next t ∧ t.eng = { s.eng with knk := none } ∧ t.field A.KNK_STAT 0 16 = min k.n 65535 ∧
      t.field A.KNK_STAT 16 8 = (s.field A.KNK_STAT 16 8 + 1) % 256 ∧ RegsSame [A.KNK_STAT] s t ∧ t = { s with eng := t.eng, lr := t.lr, mem := t.mem, ramEcc := t.ramEcc, regs := t.regs, rings := t.rings }) ∧
  (∀ (s : State) (n : Fin 8), InHand s .eng n 0x11 → (s.ring .eng n).aux = 0 → fld (s.dw .eng n 5) 0 16 ≠ 0 →
    ∃ t, exec (.knockWindow n) s = .next t ∧ t.ring .eng n = { s.ring .eng n with aux := 1, t0 := s.now } ∧ t = { s with rings := t.rings }) ∧
  (∀ (s : State) (n : Fin 8), InHand s .eng n 0x10 → (s.ring .eng n).aux = 0 → fld (s.dw .eng n 5) 0 16 ≠ 0 →
    ∃ t, exec (.sarStream n) s = .next t ∧ t.ring .eng n = { s.ring .eng n with aux := 1, t0 := s.now } ∧ t = { s with rings := t.rings }) ∧
  (∀ (s : State) (n : Fin 8), InHand s .edr n 0x10 → (s.ring .edr n).aux = 0 → fld (s.dw .edr n 5) 0 16 ≠ 0 →
    ∃ t, exec (.opdLog n) s = .next t ∧ t.ring .edr n = { s.ring .edr n with aux := 1, t0 := s.now } ∧ t = { s with rings := t.rings }) ∧
  (∀ (s : State) (n : Fin 8), InHand s .edr n 0x11 → (s.ring .edr n).aux = 0 → fld (s.dw .edr n 5) 0 16 ≠ 0 →
    ∃ t, exec (.coilLog n) s = .next t ∧ t.ring .edr n = { s.ring .edr n with aux := 1, t0 := s.now } ∧ t = { s with rings := t.rings }) ∧
  (∀ (s : State) (n : Fin 8), InHand s .lam n 0x10 → (s.ring .lam n).aux = 0 → fld (s.dw .lam n 5) 0 16 ≠ 0 →
    ∃ t, exec (.lamLog n) s = .next t ∧ t.ring .lam n = { s.ring .lam n with aux := 1, t0 := s.now } ∧ t = { s with rings := t.rings }) ∧
  (∀ (s : State) (nernst ri nb : Nat) (sat : Bool), s.live .lam = true → s.flag A.LAM_CTL 0 = true →
    ∃ t, exec (.lamPeriod nernst ri nb sat) s = .next t ∧ t.reg A.LAM_NERNST = wd (min nernst 65535) ∧
      (s.flag A.LAM_CTL 2 = true → t.reg A.LAM_RI = wd (min ri 65535)) ∧ (s.flag A.LAM_CTL 1 = true → t.reg A.LAM_NB = wd (min nb 65535)) ∧
      (sat = true → t.flag A.LAM_ERR 0 = true) ∧ Heard 482 s t ∧ t.eng.lamPer = s.field A.LAM_CTL 8 8 ∧
      t = { s with bank := t.bank, eng := t.eng, gates := t.gates, lr := t.lr, mem := t.mem, ramEcc := t.ramEcc,
                   regs := t.regs, rings := t.rings, waitHits := t.waitHits }) ∧
  (∀ (s : State) (v : Word), s.Unhindered .lam mE A.LAM_PUMP_STG →
    ∃ t, exec (.lamPumpStgWrite 2 .word v) s = .next t ∧ toSigned 16 (t.field A.LAM_PUMP_STG 0 16) = max (-20000) (min 20000 (toSigned 16 (fld v 0 16))) ∧ RegsSame [A.LAM_PUMP_STG] s t ∧
      t = { s with regs := t.regs }) ∧
  (∀ (s : State) (m : Fin 8) (v : Word), s.Unhindered .lam m A.LAM_PUMP_STG → m.val ≠ mE →
    ∃ t, exec (.lamPumpStgWrite m .word v) s = .next t ∧ t.flag A.LAM_ERR 3 = true ∧ Heard 485 s t ∧ RegsSame [A.LAM_ERR] s t ∧
      t = { s with regs := t.regs, bank := t.bank, waitHits := t.waitHits })

/-- INJECTOR_OVERCURRENT, INJ_DIAG_CHANGE, OPENING_POINT_FRAME, OPENING_DELAY_STEP, FUEL_INJECTION_END, FUEL_CYCLE, IGN_TMAX, IGN_DIAG_CHANGE, SOFT_ABORT_RAMP_END, HB_PERIOD, HB_STG_WRITE, HB_OVERCURRENT, HB_FAULT, STEP_MOVE, STEP_PAUSE. -/
def Obligations.EngineOutputs : Prop :=
  (∀ (s : State) (c : Fin 4), s.wires.injOut.getLsbD c = true →
    ∃ t, exec (.injectorOvercurrent c) s = .next t ∧ t.wires.injOut.getLsbD c = false ∧ t.injState c = 2 ∧
      t.field (A.INJ_DIAG c) 8 8 = min 255 (s.field (A.INJ_DIAG c) 8 8 + 1) ∧ t.flag A.EDR_ERR c = true ∧ Heard 456 s t ∧
      t = { s with bank := t.bank, eng := t.eng, free := t.free, lr := t.lr, mem := t.mem, ramEcc := t.ramEcc, regs := t.regs,
                   rings := t.rings, waitHits := t.waitHits, wires := t.wires }) ∧
  (∀ (s : State) (c : Fin 4) (d : Fin 5), s.present .edr = true → d.val ≠ s.injState c → (s.flag (A.INJ_CFG c) 13 = true ∨ (d.val ≠ 1 ∧ d.val ≠ 3)) →
    ∃ t, exec (.injDiagChange c d) s = .next t ∧ t.injState c = d.val ∧ t.flag A.EDR_ERR c = true ∧ Heard 456 s t ∧
      (d.val = 4 → t.wires.injOut.getLsbD c = false) ∧
      t = { s with bank := t.bank, eng := t.eng, free := t.free, lr := t.lr, mem := t.mem, ramEcc := t.ramEcc, regs := t.regs,
                   rings := t.rings, waitHits := t.waitHits, wires := t.wires }) ∧
  (∀ (s : State) (c : Fin 4) (d : Nat), s.present .edr = true → s.linkUp = true → s.eng.odMeas.get (fun _ => none) c = some d →
    ∃ t, exec (.openingPointFrame c false) s = .next t ∧
      t.reg (A.INJ_LAST c) = setBit (setBit (setFld 0#32 0 16 d) 16 true) 17 (s.injTrack c).limited ∧
      t.reg (A.FUEL_OD c) = setFld 0#32 0 16 (s.elem .edr c 0) ∧ RegsSame [A.INJ_LAST c, A.FUEL_OD c] s t ∧
      t = { s with regs := t.regs, eng := t.eng, rings := t.rings, mem := t.mem, ramEcc := t.ramEcc, lr := t.lr }) ∧
  (∀ (s : State) (c : Fin 4), s.present .edr = true → s.flag A.ENG_CTL 2 = true →
    ∃ t, exec (.openingPointFrame c true) s = .next t ∧ t.eng.fuelDoubt = true ∧ t.flag A.ENG_ERR 2 = true ∧ Heard 426 s t ∧ RegsSame [A.ENG_ERR] s t ∧
      t.mem = s.mem ∧
      t = { s with bank := t.bank, eng := t.eng, free := t.free, lr := t.lr, mem := t.mem, ramEcc := t.ramEcc, regs := t.regs,
                   rings := t.rings, waitHits := t.waitHits }) ∧
  (∀ (s : State) (c : Fin 4) (x : Nat), s.present .edr = true → (s.injTrack c).limited = false → s.field (A.INJ_OPD c) 0 16 * 10 ≤ x →
    x ≤ s.field (A.INJ_OPD c) 16 16 * 10 →
    ∃ t, exec (.openingDelayStep c x) s = .next t ∧ t.eng.odMeas.get (fun _ => none) c = some x ∧ t.mem = s.mem ∧ t = { s with bank := t.bank, elems := t.elems, eng := t.eng, loops := t.loops, regs := t.regs, waitHits := t.waitHits }) ∧
  (∀ (s : State) (d : InjDone) (l : List InjDone), s.eng.injDone = d :: l → d.limited = false →
    ∃ t, exec .fuelInjectionEnd s = .next t ∧ t.eng = { s.eng with
      injDone := l, fuelSum := s.eng.fuelSum + fuelMass (s.field (A.FUEL_FLOW d.ch) 0 16) d.t d.od (s.field (A.FUEL_CD d.ch) 0 16),
      fuelDoubt := s.eng.fuelDoubt || !s.domValid 0 } ∧ t = { s with eng := t.eng }) ∧
  (∀ (s : State), s.live .eng = true → s.flag A.ENG_CTL 2 = true → s.domValid 0 = true →
    ∃ t, exec .fuelCycle s = .next t ∧ t.reg A.FUEL_CYC = setFld 0#32 0 24 s.eng.fuelSum ∧
      t.reg A.FUEL_TOT = s.reg A.FUEL_TOT + wd ((s.eng.fuelRem + s.eng.fuelSum) / 10000) ∧
      t.field A.FUEL_SEQ 0 16 = (s.field A.FUEL_SEQ 0 16 + 1) % 65536 ∧ t.flag A.ENG_STAT 0 = s.eng.fuelDoubt ∧
      t.eng = { s.eng with fuelSum := 0, fuelRem := (s.eng.fuelRem + s.eng.fuelSum) % 10000, fuelDoubt := false } ∧ Heard 425 s t ∧
      BanksSame [425] s t ∧ RegsSame [A.FUEL_CYC, A.FUEL_TOT, A.FUEL_SEQ, A.ENG_STAT] s t ∧ t = { s with bank := t.bank, egv := t.egv, eng := t.eng, regs := t.regs, waitHits := t.waitHits }) ∧
  (∀ (s : State) (c : Fin 4), s.wires.coil.getLsbD c = true →
    ∃ t, exec (.ignTmax c) s = .next t ∧ t.wires.coil.getLsbD c = false ∧ t.field (A.IGN_DIAG c) 0 3 = 3 ∧ Heard 458 s t ∧
      t = { s with bank := t.bank, eng := t.eng, free := t.free, lr := t.lr, mem := t.mem, ramEcc := t.ramEcc, regs := t.regs,
                   rings := t.rings, waitHits := t.waitHits, wires := t.wires }) ∧
  (∀ (s : State) (c : Fin 4) (d : Fin 5), s.present .edr = true → d.val ≠ 3 → d.val ≠ 2 → s.field (A.IGN_DIAG c) 0 3 ≠ d.val →
    ∃ t, exec (.ignDiagChange c d) s = .next t ∧ t.field (A.IGN_DIAG c) 0 3 = d.val ∧ t.flag A.EDR_ERR (4 + c) = true ∧ Heard 457 s t ∧
      RegsSame [A.IGN_DIAG c, A.EDR_ERR] s t ∧ t = { s with regs := t.regs, bank := t.bank, waitHits := t.waitHits }) ∧
  (∀ (s : State) (c : Fin 4), s.wires.ramp.getLsbD c = true → s.wires.coil = 0#4 →
    ∃ t, exec (.softAbortRampEnd c) s = .next t ∧ t.wires.ramp.getLsbD c = false ∧
      t = { s with eng := t.eng, free := t.free, lr := t.lr, mem := t.mem, ramEcc := t.ramEcc, regs := t.regs,
                   rings := t.rings, wires := t.wires }) ∧
  (∀ (s : State) (b : Fin 4) (cur : Int), s.live .hbr = true → s.flag A.HB_CTL b = true →
    ∃ t, exec (.hbPeriod b cur) s = .next t ∧ t.field (A.HB_CUR b) 0 16 = ofSigned 16 cur ∧ (s.field A.HB_CTL 4 2 = b.val → Heard 501 s t) ∧
      t = { s with bank := t.bank, eng := t.eng, free := t.free, gates := t.gates, lr := t.lr, mem := t.mem,
                   ramEcc := t.ramEcc, regs := t.regs, rings := t.rings, waitHits := t.waitHits, wires := t.wires }) ∧
  (∀ (s : State) (b : Fin 4) (cur : Int), s.live .hbr = true → s.flag A.HB_CTL b = true → s.flag A.HB_CTL 6 = false → s.flag A.HB_CTL 7 = false →
    s.thrBridge ≠ some b.val →
    ∃ t, exec (.hbPeriod b cur) s = .next t ∧ t.duty (A.HB_DUTY b) = s.duty (A.HB_STG b) ∧
      t.eng.hbOn.get (fun _ => 0) b = (s.duty (A.HB_STG b)).natAbs * (s.field (A.HB_CFG b) 0 16 * 40) / 32768) ∧
  (∀ (s : State) (m : Fin 8) (b : Fin 4) (v : Word), s.Unhindered .hbr m (A.HB_STG b) → s.flag A.HB_CTL 6 = false → s.flag A.HB_CTL 7 = false →
    s.thrBridge ≠ some b.val → m.val ≤ 2 →
    ∃ t, exec (.hbStgWrite m b .word v) s = .next t ∧ t.duty (A.HB_STG b) = max (-32767) (min 32767 (toSigned 16 (fld v 0 16))) ∧ RegsSame [A.HB_STG b] s t ∧ t = { s with regs := t.regs }) ∧
  (∀ (s : State) (m : Fin 8) (b : Fin 4) (v : Word), s.Unhindered .hbr m (A.HB_STG b) → s.flag A.HB_CTL 6 = true → (b.val = 1 ∨ b.val = 2) →
    ∃ t, exec (.hbStgWrite m b .word v) s = .next t ∧ t.flag A.HB_ERR 12 = true ∧ RegsSame [A.HB_ERR] s t ∧ t = { s with regs := t.regs }) ∧
  (∀ (s : State) (b : Fin 4), s.wires.hbOut.getLsbD b = true →
    ∃ t, exec (.hbOvercurrent b) s = .next t ∧ t.flag A.HB_ERR b = true ∧ t.wires.hbOut.getLsbD b = false ∧ Heard 500 s t ∧
      t = { s with bank := t.bank, eng := t.eng, free := t.free, lr := t.lr, mem := t.mem, ramEcc := t.ramEcc, regs := t.regs,
                   rings := t.rings, waitHits := t.waitHits, wires := t.wires }) ∧
  (∀ (s : State) (b : Fin 4) (ot : Bool), s.live .hbr = true →
    ∃ t, exec (.hbFault b ot) s = .next t ∧ t.flag A.HB_ERR (if ot then 8 + b else 4 + b) = true ∧ Heard 500 s t ∧ BanksSame [500] s t ∧
      RegsSame [A.HB_ERR] s t ∧ t = { s with bank := t.bank, regs := t.regs, waitHits := t.waitHits }) ∧
  (∀ (s : State) (n : Fin 8) (k : Nat), InHand s .hbr n 0x10 → (s.ring .hbr n).aux = 0 → fld (s.dw .hbr n 4) 0 16 ≠ 0 → 1 ≤ fld (s.dw .hbr n 5) 0 11 →
    fld (s.dw .hbr n 5) 0 11 ≤ 2000 → s.flag A.HB_CTL 6 = true → s.stepping = false →
    ∃ t, exec (.stepMove n k) s = .next t ∧ t.ring .hbr n = { s.ring .hbr n with aux := 1, t0 := s.now } ∧ t.eng = { s.eng with stepPaused := false } ∧
      t = { s with rings := t.rings, eng := t.eng }) ∧
  (∀ (s : State) (n : Fin 8) (k : Nat), InHand s .hbr n 0x10 → (s.ring .hbr n).aux = 1 → s.tripWire = false →
    (s.ring .hbr n).count + k < (toSigned 16 (fld (s.dw .hbr n 4) 0 16)).natAbs →
    ∃ t, exec (.stepMove n k) s = .next t ∧ (t.ring .hbr n).count = (s.ring .hbr n).count + k ∧
      t.reg A.HB_STEP = s.reg A.HB_STEP + BitVec.ofInt 32 ((toSigned 16 (fld (s.dw .hbr n 4) 0 16)).sign * k) ∧ RegsSame [A.HB_STEP] s t ∧ t = { s with eng := t.eng, regs := t.regs, rings := t.rings }) ∧
  (∀ (s : State), s.tripWire = true → s.stepping = true →
    ∃ t, exec .stepPause s = .next t ∧ t = { s with eng := { s.eng with stepPaused := true } })

/-- CARRIER_PERIOD_START, RESYNC_TRIGGER, DUTY_STG_WRITE, GRP_EN_WRITE, REC_MOTOR_WRITE, CRANK_END, DEAD_TIME_STEP, DELAY_LINE_SWAP, TRIP_INPUT, TRIP_INPUT_RELEASE, SAFETY_PWM_TRIP, TRIP_LATCH_CLEAR, DUTY_STAGE, TRIP_WAIT. -/
def Obligations.PwmAndTrips : Prop :=
  (∀ (s : State) (g : Fin 3) (vs : List Nat), s.live .pwm = true → s.grpState g = 1 → (s.grp g).released = some (vs, true) → (s.grp g).relSafe = false →
    s.grpBlocked g = false → s.flag (gateA .pwm g + 4) 3 = false → s.safe2 = false →
    ∃ t, exec (.carrierPeriodStart g false) s = .next t ∧ t.grpState g = 2 ∧ (t.grp g).start = s.now * 32 ∧ (t.grp g).released = none ∧
      Heard (536 + g) s t ∧ BanksSame [536 + g] s t ∧ t = { s with bank := t.bank, pwr := t.pwr, regs := t.regs, waitHits := t.waitHits }) ∧
  (∀ (s : State) (g : Fin 3), s.live .pwm = true → s.grpState g = 1 → (s.grp g).released = none →
    ∃ t, exec (.carrierPeriodStart g false) s = .next t ∧ t.grpState g = 1 ∧ (t.grp g).start = s.now * 32 ∧
      s.carLen g / 2 ≤ (t.grp g).len ∧ t = { s with pwr := t.pwr }) ∧
  (∀ (s : State) (g : Fin 3) (frac : Fin 32), s.live .pwm = true → s.grpState g ≠ 0 → s.flag (A.GRP_CFG g) 2 = true →
    ∃ t, exec (.resyncTrigger g frac) s = .next t ∧ (t.grp g).start = (s.grp g).start ∧
      (t.grp g).len = max ((((s.grp g).start + (s.grp g).len : Nat) : Int) + max (-((s.field (A.GRP_LIM g) 16 16 * 32 : Nat) : Int))
        (min ((s.field (A.GRP_LIM g) 16 16 * 32 : Nat) : Int)
          (((s.now * 32 + frac.val % 32 + s.field (A.RSYNC_OFS g) 0 23 : Nat) : Int) - ((s.grp g).start + (s.grp g).len : Nat)))).toNat
        (max ((s.now + 40) * 32) ((s.grp g).start + s.carLen g / 2)) - (s.grp g).start ∧ RegsSame [A.PWM_ERR] s t ∧ t = { s with bank := t.bank, pwr := t.pwr, regs := t.regs, waitHits := t.waitHits }) ∧
  (∀ (s : State) (l : Fin 8) (v : Word), s.Unhindered .pwm mP (A.DUTY_STG l) →
    ∃ t, exec (.dutyStgWrite 3 l .word v) s = .next t ∧ t.field (A.DUTY_STG l) 0 25 = min 16777216 (fld v 0 25) ∧ RegsSame [A.DUTY_STG l] s t ∧
      t = { s with regs := t.regs }) ∧
  (∀ (s : State) (m l : Fin 8) (v : Word), s.Unhindered .pwm m (A.DUTY_STG l) → m.val ≠ mP →
    ∃ t, exec (.dutyStgWrite m l .word v) s = .next t ∧ t.flag A.PWM_ERR 0 = true ∧ Heard 534 s t ∧ RegsSame [A.PWM_ERR] s t ∧
      t = { s with regs := t.regs, bank := t.bank, waitHits := t.waitHits }) ∧
  (∀ (s : State) (m : Fin 8) (v : Word), s.PairReady .pwm m A.PWM_CTL v → bit v 6 = false →
    ∃ t, exec (.grpEnWrite m .word v) s = .next t ∧
      (∀ g : Fin 3, t.grpState g = (if bit v g then (if s.grpState g = 0 then 1 else s.grpState g) else 0) ∧ t.flag A.PWM_CTL g = bit v g) ∧
      t.flag A.PWM_CTL 6 = false ∧ t.pwr.motorSince = none ∧ t = { s with regs := t.regs, comp := t.comp, pwr := t.pwr }) ∧
  (∀ (s : State) (m : Fin 8) (v : Word), s.PairReady .pwm m A.PWM_CTL v → bit v 6 = true → bit v 0 = true → s.opt ≠ optCP → s.grpState 0 = 2 → s.domState 1 ≠ 0 →
    ∃ t, exec (.recMotorWrite m .word v) s = .next t ∧ t.flag A.PWM_CTL 6 = true ∧ t.grpState 0 = 2 ∧ t.pwr.motorSince = some (s.pwr.motorSince.getD s.now) ∧
      t = { s with regs := t.regs, comp := t.comp, pwr := t.pwr }) ∧
  (∀ (s : State) (m : Fin 8) (v : Word), s.PairReady .pwm m A.PWM_CTL v → bit v 6 = true → s.flag A.PWM_CTL 6 = false → s.opt ≠ optCP →
    (s.grpState 0 ≠ 2 ∨ s.domState 1 = 0) →
    ∃ t, exec (.recMotorWrite m .word v) s = .next t ∧ t.flag A.PWM_CTL 6 = false ∧ t.flag A.PWM_ERR 2 = true ∧ Heard 534 s t ∧ t = { s with bank := t.bank, comp := t.comp, ports := t.ports, pwr := t.pwr, regs := t.regs, waitHits := t.waitHits }) ∧
  (∀ (s : State), s.flag A.PWM_CTL 6 = true →
    ∃ t, exec .crankEnd s = .next t ∧ t.flag A.PWM_CTL 6 = false ∧ t.pwr.motorSince = none ∧ t.grpState 0 = (if s.grpState 0 = 0 then 0 else 3) ∧
      Heard 539 s t ∧ BanksSame [539] s t ∧ RegsSame [A.PWM_CTL, A.PWM_STAT] s t ∧ t = { s with bank := t.bank, pwr := t.pwr, regs := t.regs, waitHits := t.waitHits }) ∧
  (∀ (s : State) (g : Fin 3) (d : List (Option Nat)), s.live .pwm = true →
    ∃ t, exec (.deadTimeStep g d) s = .next t ∧ t.pwr = s.pwr ∧ t.mem = s.mem ∧ t = { s with bank := t.bank, elems := t.elems, loops := t.loops, regs := t.regs, waitHits := t.waitHits }) ∧
  (∀ (s : State) (k : Fin 16), s.live .pwm = true → s.flag A.PWM_CTL 5 = true →
    ∃ t, exec (.delayLineSwap k false) s = .next t ∧ t.flag A.HR_STAT k = !s.flag A.HR_STAT k ∧
      t.pwr = { s.pwr with hrCal := s.pwr.hrCal ||| 2 ^ (2 * k.val + (!s.flag A.HR_STAT k).toNat) } ∧ t = { s with regs := t.regs, pwr := t.pwr }) ∧
  (∀ (s : State) (i : Fin 14), s.live .pwm = true →
    ∃ t, exec (.tripInput i) s = .next t ∧ t.flag A.TRIP_STAT i = true ∧ t.flag A.TRIP_LATCH i = true ∧
      (s.reg A.TRIP_LATCH = 0#32 → t.reg A.TRIP_FIRST = wd i.val ∧ t.reg A.TRIP_TICK = s.tick) ∧
      (∀ g : Fin 3, (s.causeGroups i).testBit g = true → s.grpState g ≠ 0 → t.grpState g = 3) ∧
      Heard (if i.val < 8 then 520 else 521) s t ∧ RegsSame [A.TRIP_STAT, A.TRIP_LATCH, A.TRIP_FIRST, A.TRIP_TICK, A.PWM_STAT] s t ∧
      t = { s with bank := t.bank, lr := t.lr, mem := t.mem, pwr := t.pwr, ramEcc := t.ramEcc, regs := t.regs,
                   rings := t.rings, waitHits := t.waitHits }) ∧
  (∀ (s : State) (i : Fin 14), ∃ t, exec (.tripInputRelease i) s = .next t ∧ t.flag A.TRIP_STAT i = false ∧
    (∀ k : Fin 14, k ≠ i → t.flag A.TRIP_STAT k = s.flag A.TRIP_STAT k) ∧ RegsSame [A.TRIP_STAT] s t ∧ t = { s with regs := t.regs }) ∧
  (∀ (s : State) (b : Bool), s.live .pwm = true → s.saf.pta = false → s.saf.ptb = false →
    ∃ t, exec (.safetyPwmTrip b) s = .next t ∧ t.flag A.TRIP_LATCH 14 = true ∧ (∀ g : Fin 3, s.grpState g ≠ 0 → t.grpState g = 3) ∧
      t.saf.pta = !b ∧ t.saf.ptb = b ∧ Heard 522 s t ∧
      t = { s with bank := t.bank, lr := t.lr, mem := t.mem, pwr := t.pwr, ramEcc := t.ramEcc, regs := t.regs,
                   rings := t.rings, saf := t.saf, waitHits := t.waitHits }) ∧
  (∀ (s : State) (m : Fin 8) (v : Word), s.Unhindered .pwm m A.TRIP_LATCH → s.saf.pta = false → s.saf.ptb = false → s.safe2 = false →
    ∃ t, exec (.tripLatchClear m .word v) s = .next t ∧
      (∀ c : Fin 19, t.flag A.TRIP_LATCH c = (s.flag A.TRIP_LATCH c && (!bit v c || s.causeHolds c))) ∧ RegsSame [A.TRIP_LATCH] s t ∧ t.mem = s.mem) ∧
  (∀ (s : State) (n : Fin 8), InHand s .pwm n 0x10 → (s.ring .pwm n).host = mP → s.dw .pwm n 4 = 0x21#32 → s.dw .pwm n 1 = 8#32 →
    ∃ t, exec (.dutyStage n) s = .next t ∧ Decided t .pwm n { status := 0, result := 2#32 } ∧
      t.field (A.DUTY_STG 0) 0 25 = min 16777216 (fld ((s.viewWords mP (s.dw .pwm n 2).toNat 2).getD 0 0#32) 0 25) ∧
      t.field (A.DUTY_STG 5) 0 25 = min 16777216 (fld ((s.viewWords mP (s.dw .pwm n 2).toNat 2).getD 1 0#32) 0 25) ∧
      RegsSame [A.DUTY_STG 0, A.DUTY_STG 5] s t ∧ t = { s with regs := t.regs, rings := t.rings }) ∧
  (∀ (s : State) (n : Fin 8), InHand s .pwm n 0x11 → (s.ring .pwm n).aux = 0 → fld (s.dw .pwm n 5) 0 16 ≠ 0 →
    ∃ t, exec (.tripWait n) s = .next t ∧ t.ring .pwm n = { s.ring .pwm n with aux := 1, t0 := s.now } ∧ t = { s with rings := t.rings })

/-- SD_OUTPUT, SD_FAIL, FAST_COMPARATOR_CROSSING, PLAUSIBILITY_CHECK, OPEN_PHASE_CHECK, INV_FAULT, ZC_REACHED, VEH_T_EXPIRY, INVF_SEQUENCE_END, INVF_CLR, TCC_CLOSE_EDGE, XFER_PAR_TMAX, EGV_HALF_SWITCH, EGV_PERIOD_END, SD_STREAM, PSC_SNAP, EGV_LOG. -/
def Obligations.SenseFaultGovernor : Prop :=
  (∀ (s : State) (k : Fin 12) (sum : Nat), s.live .psc = true → s.flag A.PSC_CTL k = true → s.flag A.PSC_CTL (12 + s.field (A.SD_CFG k) 6 1) = true →
    sum ≤ s.osr k ^ 3 → s.flag A.PSC_STAT k = false → s.setsOf k = [] →
    ∃ t, exec (.sdOutput k sum) s = .next t ∧ t.prec k = precOut (s.osr k) sum ∧ t.reg (A.SD_TS k) = s.tick ∧
      RegsSame [A.SD_PREC k, A.SD_TS k] s t ∧ t = { s with lr := t.lr, mem := t.mem, pwr := t.pwr, ramEcc := t.ramEcc, regs := t.regs, rings := t.rings }) ∧
  (∀ (s : State) (k : Fin 12) (sum : Nat), s.flag A.PSC_STAT k = true →
    ∃ t, exec (.sdOutput k sum) s = .next t ∧ t = s) ∧
  (∀ (s : State) (k : Fin 12), s.live .psc = true → s.flag A.PSC_CTL k = true → s.setsOf k = [] →
    ∃ t, exec (.sdFail k) s = .next t ∧ t.flag A.PSC_STAT k = true ∧ Heard 580 s t ∧ BanksSame [580] s t ∧ RegsSame [A.PSC_STAT] s t ∧
      t = { s with regs := t.regs, bank := t.bank, waitHits := t.waitHits }) ∧
  (∀ (s : State) (k : Fin 12) (sum : Nat), s.live .psc = true → s.flag A.PSC_CTL k = true → s.flag A.PSC_STAT k = false → s.setsOf k = [] →
    s.field A.FC_ACT (2 * k) 2 ≠ 0 → toSigned 16 (s.field (A.FC_THR k) 0 16) < fastOut sum →
    ∃ t, exec (.fastComparatorCrossing k sum) s = .next t ∧ Heard 581 s t ∧ BanksSame [581] s t ∧ RegsSame [] s t ∧
      t = { s with bank := t.bank, waitHits := t.waitHits, regs := t.regs }) ∧
  (∀ (s : State) (g : Fin 3), s.live .psc = true → (s.setNeeds g).any (fun k => decide (12 ≤ k)) = true →
    ∃ t, exec (.plausibilityCheck g) s = .next t ∧ t.flag (A.PLAUS_STAT g) 6 = true ∧ RegsSame [A.PLAUS_STAT g] s t ∧ t = { s with regs := t.regs }) ∧
  (∀ (s : State) (g : Fin 3), s.live .psc = true → (s.setNeeds g).any (fun k => decide (12 ≤ k)) = false →
    s.checksOk g ((s.setPhases g).map s.mean) = true → (s.setNeeds g).any (fun k => s.flag A.PSC_STAT k) = false →
    ∃ t, exec (.plausibilityCheck g) s = .next t ∧ t.flag (A.PLAUS_STAT g) 6 = false ∧ t.pwr.chkFails.get (fun _ => 0) g = 0 ∧
      RegsSame [A.PLAUS_STAT g] s t ∧ t = { s with regs := t.regs, pwr := t.pwr }) ∧
  (∀ (s : State), ∃ t, exec .openPhaseCheck s = .next t ∧ t.pwr.openI = [] ∧ t.pwr.openD = [] ∧
      t = { s with bank := t.bank, lr := t.lr, mem := t.mem, pwr := t.pwr, ramEcc := t.ramEcc, regs := t.regs,
                   rings := t.rings, waitHits := t.waitHits }) ∧
  (∀ (s : State), s.live .psc = true → s.grpState 1 = 2 → s.invfStat = 0 → 0 < s.field A.INVF_CFG 0 16 → s.field A.INVF_CFG 0 16 ≤ (s.grp 1).limitRun →
    ∃ t, exec .invFault s = .next t ∧ t.invfStat = 1 ∧ t.pwr = { s.pwr with limFault := true, invfAt := s.now } ∧ t.flag A.PSC_ERR 3 = true ∧
      Heard 587 s t ∧ t = { s with bank := t.bank, chg := t.chg, pwr := t.pwr, regs := t.regs, waitHits := t.waitHits }) ∧
  (∀ (s : State), s.live .psc = true → (s.invfStat = 1 ∨ s.invfStat = 2) →
    ∃ t, exec .zcReached s = .next t ∧ t.invfStat = 3 ∧ t.flag A.PSC_STAT 12 = true ∧ Heard 588 s t ∧ t = { s with bank := t.bank, chg := t.chg, regs := t.regs, waitHits := t.waitHits }) ∧
  (∀ (s : State), s.live .psc = true → s.invfStat = 1 → s.pwr.invfAt + s.field A.INVF_VEH 0 16 * 400000 ≤ s.now →
    ∃ t, exec .vehTExpiry s = .next t ∧ t.invfStat = 2 ∧ t.grpState 1 = (if s.grpState 1 = 0 then 0 else 3) ∧ RegsSame [A.INVF_STAT, A.PWM_STAT] s t ∧ t = { s with pwr := t.pwr, regs := t.regs }) ∧
  (∀ (s : State), s.live .psc = true → s.invfStat ≠ 0 → s.ocClosed = false →
    ∃ t, exec .invfSequenceEnd s = .next t ∧ t.invfStat = 0 ∧ t.chg.faultDuty = none ∧ t = { s with bank := t.bank, chg := t.chg, regs := t.regs, waitHits := t.waitHits }) ∧
  (∀ (s : State) (m : Fin 8), s.Unhindered .psc m A.INVF_STAT → s.invfStat = 0 →
    ∃ t, exec (.invfClr m) s = .next t ∧ t = { s with pwr := { s.pwr with limFault := false } }) ∧
  (∀ (s : State), s.live .psc = true → s.syncOk = false →
    ∃ t, exec .tccCloseEdge s = .next t ∧ t.flag A.PSC_ERR 4 = true ∧ Heard 589 s t ∧ BanksSame [589] s t ∧ RegsSame [A.PSC_ERR] s t ∧
      t = { s with regs := t.regs, bank := t.bank, waitHits := t.waitHits }) ∧
  (∀ (s : State), s.syncOk = true →
    ∃ t, exec .tccCloseEdge s = .next t ∧ (s.safActive 0 = false → t.flag A.SAF_ERR 8 = true ∧ Heard 938 s t) ∧ t.ports = s.ports ∧
      t = { s with ang := t.ang, bank := t.bank, eng := t.eng, free := t.free, lr := t.lr, mem := t.mem, pwr := t.pwr,
                   ramEcc := t.ramEcc, regs := t.regs, rings := t.rings, saf := t.saf, waitHits := t.waitHits,
                   wires := t.wires }) ∧
  (∀ (s : State) (i : Nat), s.parSince = some i → i + s.field A.XFER_CFG 16 16 * 400000 ≤ s.now →
    ∃ t, exec .xferParTmax s = .next t ∧ t.flag A.TRIP_LATCH 18 = true ∧ (s.grpState 1 ≠ 0 → t.grpState 1 = 3) ∧ Heard 590 s t ∧
      t = { s with bank := t.bank, lr := t.lr, mem := t.mem, pwr := t.pwr, ramEcc := t.ramEcc, regs := t.regs,
                   rings := t.rings, waitHits := t.waitHits }) ∧
  (∀ (s : State), s.live .egv = true → s.egv.phase = 0 →
    ∃ t, exec .egvHalfSwitch s = .next t ∧ t = { s with egv := { phase := 1, e0 := (s.reg A.DCE_ACC).toNat, fuel := [], energy := [], doubt := false } }) ∧
  (∀ (s : State), s.live .egv = true → s.egv.phase = 1 →
    ∃ t, exec .egvHalfSwitch s = .next t ∧ t.egv.phase = 2 ∧ t.egv.energy.get (fun _ => 0) 0 = s.egvEnergy ∧ RegsSame [A.EGV_SET] s t ∧ t = { s with egv := t.egv, regs := t.regs }) ∧
  (∀ (s : State), s.live .egv = true → s.egv.phase = 3 →
    ∃ t, exec .egvPeriodEnd s = .next t ∧ t.egv.phase = 0 ∧ t.field A.EGV_SET 24 8 = (s.field A.EGV_SET 24 8 + 1) % 256 ∧
      (s.egvStill = false → s.egv.doubt = true → t.flag A.EGV_ERR 0 = true ∧ Heard 644 s t) ∧ t.ports = s.ports ∧
      t = { s with bank := t.bank, egv := t.egv, elems := t.elems, free := t.free, loops := t.loops, lr := t.lr, mem := t.mem,
                   ramEcc := t.ramEcc, regs := t.regs, rings := t.rings, waitHits := t.waitHits }) ∧
  (∀ (s : State) (n : Fin 8), InHand s .psc n 0x10 → (s.ring .psc n).aux = 0 → fld (s.dw .psc n 5) 0 16 ≠ 0 →
    ∃ t, exec (.sdStream n) s = .next t ∧ t.ring .psc n = { s.ring .psc n with aux := 1, t0 := s.now } ∧ t = { s with rings := t.rings }) ∧
  (∀ (s : State) (n : Fin 8), InHand s .egv n 0x10 → (s.ring .egv n).aux = 0 → fld (s.dw .egv n 5) 0 16 ≠ 0 →
    ∃ t, exec (.egvLog n) s = .next t ∧ t.ring .egv n = { s.ring .egv n with aux := 1, t0 := s.now } ∧ t = { s with rings := t.rings }) ∧
  (∀ (s : State) (n : Fin 8), InHand s .psc n 0x11 → (s.ring .psc n).host = 0 →
    ∃ t, exec (.pscSnap n) s = .next t ∧ Decided t .psc n { status := 0, result := s.reg A.DCE_ACC } ∧
      (∀ k : Fin 12, t.word ((s.dw .psc n 2).toNat + 4 * k) = s.reg (A.SD_PREC k) ∧ t.word ((s.dw .psc n 2).toNat + 48 + 4 * k) = s.reg (A.SD_TS k)) ∧
      t.word ((s.dw .psc n 2).toNat + 96) = s.reg A.DCE_ACC ∧ BytesSame [((s.dw .psc n 2).toNat, 128)] s t ∧ t = { s with lr := t.lr, mem := t.mem, ramEcc := t.ramEcc, rings := t.rings })

/-- CP_CYCLE_START, CP_OUT_WRITE, PILOT_SAMPLE, CP_STALE, PP_MEASUREMENT, LOCK_ACT, LOCK_LOST, CLOSE_REQ, ILK_WITHDRAW, OPEN_REQ, WELD_CLR, MIRROR_TELEMETRY, CLOSE_FAIL, WELD_DETECT, CP_LOG, STATE_WAIT. -/
def Obligations.PilotAndOutlet : Prop :=
  (∀ (s : State), s.cpEn = true →
    ∃ t, exec .cpCycleStart s = .next t ∧ t.chg.t0 = s.now ∧ t.chg.per = s.field A.CP_PER 0 19 ∧ t.chg.out = s.cpOut ∧ t.chg.cycle = s.chg.cycle + 1 ∧
      t.chg.stale = (if s.chg.out = 0 then 0 else if s.chg.hiNow.isNone then s.chg.stale + 1 else 0) ∧ t.ang.cpl.cyc = (s.ang.cpl.cyc + 1) % 256 ∧ t.ang.cpl.running = true ∧ t.ang.cpl.period = s.field A.CP_PER 0 19 ∧
      RegsSame [A.CP_DUTY_APP, A.CHG_ERR] s t ∧ t = { s with ang := t.ang, chg := t.chg, lr := t.lr, mem := t.mem, ramEcc := t.ramEcc, regs := t.regs, rings := t.rings }) ∧
  (∀ (s : State) (m : Fin 8) (v : Word), s.PairReady .chg m A.CHG_CTL v → s.cpEn = true → bit v 0 = false →
    ∃ t, exec (.cpOutWrite m .word v) s = .next t ∧ t.cpEn = false ∧ t.cpState = 6 ∧ t.chg.out = 0 ∧ t.ang.cpl.running = false ∧ t.ports = s.ports ∧
      t = { s with ang := t.ang, bank := t.bank, chg := t.chg, comp := t.comp, eng := t.eng, free := t.free, lr := t.lr,
                   mem := t.mem, ports := t.ports, ramEcc := t.ramEcc, rcm := t.rcm, regs := t.regs, rings := t.rings,
                   waitHits := t.waitHits, wires := t.wires }) ∧
  (∀ (s : State) (m : Fin 8) (v : Word), s.PairReady .chg m A.CHG_CTL v → s.cpEn = false → bit v 0 = true → fld v 1 2 = 2 →
    ∃ t, exec (.cpOutWrite m .word v) s = .next t ∧ t.cpEn = true ∧ t.chg.out = 2 ∧ t.chg.t0 = s.now ∧ t.chg.per = s.field A.CP_PER 0 19 ∧
      t.ang.cpl.running = true ∧ t.ports = s.ports ∧
      t = { s with ang := t.ang, bank := t.bank, chg := t.chg, comp := t.comp, eng := t.eng, free := t.free, lr := t.lr,
                   mem := t.mem, ports := t.ports, ramEcc := t.ramEcc, rcm := t.rcm, regs := t.regs, rings := t.rings,
                   waitHits := t.waitHits, wires := t.wires }) ∧
  (∀ (s : State) (v : Int), s.live .chg = true → s.cpValid true (s.now - 400) = true →
    ∃ t, exec (.pilotSample true v) s = .next t ∧ t.reg A.CP_VHI = wd (ofSigned 16 v) ∧ t.chg.hiNow = some v ∧ t.chg.stale = 0 ∧ t.reg A.CP_VLO = s.reg A.CP_VLO ∧
      t.mem = s.mem ∧ t = { s with bank := t.bank, chg := t.chg, regs := t.regs, rings := t.rings, waitHits := t.waitHits }) ∧
  (∀ (s : State) (v : Int), s.live .chg = true → s.cpValid false (s.now - 400) = true →
    ∃ t, exec (.pilotSample false v) s = .next t ∧ t.reg A.CP_VLO = wd (ofSigned 16 v) ∧ t.chg = { s.chg with loNow := some v, lo := some (v, s.chg.cycle) } ∧
      RegsSame [A.CP_VLO] s t ∧ t = { s with regs := t.regs, chg := t.chg }) ∧
  (∀ (s : State) (hi : Bool) (v : Int), s.live .chg = true → s.cpValid hi (s.now - 400) = false →
    ∃ t, exec (.pilotSample hi v) s = .next t ∧ t.reg A.CP_CNT = satAdd (s.reg A.CP_CNT) 0 16 1 ∧ RegsSame [A.CP_CNT] s t ∧ t = { s with regs := t.regs }) ∧
  (∀ (s : State), s.cpEn = true → s.chg.out ≠ 0 → s.field A.CP_SMPCFG 16 8 ≤ s.chg.stale → s.chg.staleTold = false → s.cpState ≠ 6 →
    ∃ t, exec .cpStale s = .next t ∧ t.cpState = 6 ∧ Heard 677 s t ∧ Heard 676 s t ∧ t.mem = s.mem ∧ t = { s with bank := t.bank, chg := t.chg, regs := t.regs, rings := t.rings, waitHits := t.waitHits }) ∧
  (∀ (s : State) (mv : Nat), s.live .chg = true → s.flag A.CHG_CTL 9 = true →
    ∃ t, exec (.ppMeasurement mv) s = .next t ∧
      t.reg A.PP_RES = wd (if 3300 ≤ mv then 65535 else min (s.field A.PP_CFG 0 16 * mv / (3300 - mv)) 65535) ∧
      t.chg.ppCand = (if 3300 ≤ mv then 0 else ppCode (s.field A.PP_CFG 0 16 * mv / (3300 - mv))) ∧ t = { s with bank := t.bank, chg := t.chg, regs := t.regs, waitHits := t.waitHits }) ∧
  (∀ (s : State) (n : Fin 8) (fb : Bool), InHand s .chg n 0x11 → bit (s.dw .chg n 4) 0 = true → (fb != s.flag A.LOCK_CFG 24) = true →
    ∃ t, exec (.lockAct n fb) s = .next t ∧ Decided t .chg n { status := 0, result := wd fb.toNat } ∧ t.chg.lockFb = fb ∧ t.mem = s.mem ∧ t = { s with bank := t.bank, chg := t.chg, regs := t.regs, rings := t.rings, waitHits := t.waitHits }) ∧
  (∀ (s : State) (n : Fin 8) (fb : Bool), InHand s .chg n 0x11 → (s.ring .chg n).aux = 0 → bit (s.dw .chg n 4) 0 = true → (fb != s.flag A.LOCK_CFG 24) = false →
    ∃ t, exec (.lockAct n fb) s = .next t ∧ t.ring .chg n = { s.ring .chg n with aux := 1, t0 := s.now } ∧ t.chg.lockFb = fb ∧ t.mem = s.mem ∧ t = { s with bank := t.bank, chg := t.chg, regs := t.regs, rings := t.rings, waitHits := t.waitHits }) ∧
  (∀ (s : State) (level : Bool), s.live .chg = true → s.lockShown = true → (level != s.flag A.LOCK_CFG 24) = false → (∀ n : Fin 8, s.lockRuns n = false) →
    ∃ t, exec (.lockLost level) s = .next t ∧ t.flag A.CHG_ERR 2 = true ∧ Heard 681 s t ∧ t.chg.lockFb = level ∧ t = { s with bank := t.bank, chg := t.chg, regs := t.regs, waitHits := t.waitHits }) ∧
  (∀ (s : State) (m : Fin 8), s.Unhindered .chg m A.CHG_CMD → s.requestOn = false → s.ilkBits &&& ilkMask ≠ ilkMask →
    ∃ t, exec (.closeReq m) s = .next t ∧ t.flag A.CHG_STAT 7 = true ∧ t.requestOn = false ∧ RegsSame [A.CHG_STAT] s t ∧ t = { s with regs := t.regs }) ∧
  (∀ (s : State), s.live .chg = true → s.requestOn = true → s.ilkBits &&& ilkMask ≠ ilkMask →
    ∃ t, exec .ilkWithdraw s = .next t ∧ t.requestOn = false ∧ t.flag A.CHG_STAT 7 = false ∧ t.reg A.OPEN_CAUSE = ilkMask &&& ~~~ (s.ilkBits &&& ilkMask) ∧
      t.chg.mirrorT = s.now ∧ t.chg.mirrorDue = true ∧ Heard 678 s t ∧ RegsSame [A.CHG_STAT, A.OPEN_CAUSE] s t ∧ t = { s with bank := t.bank, chg := t.chg, regs := t.regs, waitHits := t.waitHits }) ∧
  (∀ (s : State) (m : Fin 8), s.Unhindered .chg m A.CHG_CMD →
    ∃ t, exec (.openReq m) s = .next t ∧ t.requestOn = false ∧ t.flag A.CHG_STAT 7 = false ∧ t.reg A.OPEN_CAUSE = 0x8000#32 ∧
      RegsSame [A.CHG_STAT, A.OPEN_CAUSE] s t ∧ t = { s with regs := t.regs, chg := t.chg }) ∧
  (∀ (s : State) (m : Fin 8), s.Unhindered .chg m A.CHG_CMD → s.ocClosed = false →
    ∃ t, exec (.weldClr m) s = .next t ∧ t.flag A.CHG_ERR 1 = false ∧ t = { s with bank := t.bank, chg := t.chg, comp := t.comp, ports := t.ports, regs := t.regs, waitHits := t.waitHits }) ∧
  (∀ (s : State) (i : Fin 16) (level : Bool), s.live .chg = true → s.linkUp = true → i.val = s.field A.OC_CFG 0 4 →
    (level != s.flag A.OC_CFG 4) ≠ s.ocClosed →
    ∃ t, exec (.mirrorTelemetry i level) s = .next t ∧ t.ocClosed = (level != s.flag A.OC_CFG 4) ∧ Heard 685 s t ∧ BanksSame [685] s t ∧
      RegsSame [A.CHG_STAT] s t ∧ t = { s with bank := t.bank, regs := t.regs, waitHits := t.waitHits }) ∧
  (∀ (s : State), s.live .chg = true → s.linkUp = true → s.requestOn = true → s.chg.mirrorDue = true → s.ocClosed = false →
    s.chg.mirrorT + s.mirrorTicks ≤ s.now →
    ∃ t, exec .closeFail s = .next t ∧ t.requestOn = false ∧ t.flag A.CHG_ERR 0 = true ∧ t.reg A.OPEN_CAUSE = 0#32 ∧ Heard 679 s t ∧
      RegsSame [A.CHG_STAT, A.CHG_ERR, A.OPEN_CAUSE] s t ∧ t = { s with bank := t.bank, chg := t.chg, regs := t.regs, waitHits := t.waitHits }) ∧
  (∀ (s : State), s.live .chg = true → s.linkUp = true → s.requestOn = false → s.chg.mirrorDue = true → s.ocClosed = true →
    s.chg.mirrorT + s.mirrorTicks ≤ s.now →
    ∃ t, exec .weldDetect s = .next t ∧ t.flag A.CHG_ERR 1 = true ∧ t.cpOut = 0 ∧ t.chg.out = 0 ∧ t.cpState = 6 ∧ Heard 680 s t ∧ t = { s with bank := t.bank, chg := t.chg, regs := t.regs, rings := t.rings, waitHits := t.waitHits }) ∧
  (∀ (s : State) (n : Fin 8), InHand s .chg n 0x10 → (s.ring .chg n).aux = 0 → fld (s.dw .chg n 5) 0 16 ≠ 0 →
    ∃ t, exec (.cpLog n) s = .next t ∧ t.ring .chg n = { s.ring .chg n with aux := 1, t0 := s.now } ∧ t = { s with rings := t.rings }) ∧
  (∀ (s : State) (n : Fin 8), InHand s .chg n 0x12 → (s.ring .chg n).aux = 0 → fld (s.dw .chg n 5) 0 16 ≠ 0 → bit (s.dw .chg n 4) s.cpState = true →
    ∃ t, exec (.stateWait n) s = .next t ∧ Decided t .chg n { status := 0, result := wd s.cpState } ∧ t = { s with rings := t.rings })

/-- RDC_UPDATE, RDC_SENSOR, RDC_TRIP_CLEAR, SELFTEST, ST_EXPIRED, RDC_AC_UPDATE, IMD_PERIOD_END, IMD_CONN_FAIL, IT_ACTIVE_CHANGE, IMD_SETTLING_END, BEACON_SEND, BEACON_LOSS, FRAME_TX, FRAME_RX, PLM_FRAME_ARRIVAL, SOUND_CAPTURE, RCM_LOG. -/
def Obligations.ResidualAndModem : Prop :=
  (∀ (s : State) (v : Int), s.live .rcm = true → s.flag A.RCM_CTL 0 = true → s.rcmTesting = false → s.flag A.RCM_STAT 1 = false →
    -32768 ≤ v → v ≤ 32767 → (∀ l : Fin 3, v.natAbs < s.field (rdcLvl l) 0 16) →
    ∃ t, exec (.rdcUpdate v) s = .next t ∧ t.rdcDc = v ∧ t.flag A.RCM_STAT 2 = true ∧ t.flag A.RCM_STAT 1 = false ∧ t = { s with bank := t.bank, chg := t.chg, rcm := t.rcm, regs := t.regs, waitHits := t.waitHits }) ∧
  (∀ (s : State) (v : Int) (i : Nat), s.live .rcm = true → s.flag A.RCM_CTL 0 = true → s.rcmTesting = false → s.flag A.RCM_STAT 1 = false →
    -32768 ≤ v → v ≤ 32767 → s.field A.RDC_LVL1 0 16 ≤ v.natAbs → s.rcm.above.get (fun _ => none) 0 = some i →
    i + s.field A.RDC_LVL1 16 16 * 4000000 ≤ s.now →
    ∃ t, exec (.rdcUpdate v) s = .next t ∧ t.rdcDc = v ∧ t.flag A.RCM_STAT 1 = true ∧ t.flag A.RCM_STAT 0 = false ∧ t.flag A.RCM_ERR 0 = true ∧
      Heard 708 s t ∧ t = { s with bank := t.bank, chg := t.chg, rcm := t.rcm, regs := t.regs, waitHits := t.waitHits }) ∧
  (∀ (s : State), s.live .rcm = true → s.flag A.RCM_CTL 0 = true →
    ∃ t, exec .rdcSensor s = .next t ∧ t.flag A.RCM_STAT 2 = false ∧ t.flag A.RCM_STAT 0 = false ∧ t.flag A.RCM_ERR 1 = true ∧ Heard 709 s t ∧ t = { s with bank := t.bank, chg := t.chg, regs := t.regs, waitHits := t.waitHits }) ∧
  (∀ (s : State) (m : Fin 8), s.Unhindered .rcm m A.RCM_ERR → s.rdcDc.natAbs < s.field A.RDC_LVL1 0 16 →
    ∃ t, exec (.rdcTripClear m) s = .next t ∧ t.flag A.RCM_STAT 1 = false ∧ t.flag A.RCM_ERR 0 = false ∧ t.rcm.above = [] ∧
      t = { s with bank := t.bank, chg := t.chg, comp := t.comp, ports := t.ports, rcm := t.rcm, regs := t.regs,
                   waitHits := t.waitHits }) ∧
  (∀ (s : State) (m : Fin 8), s.Unhindered .rcm m A.RCM_ERR → s.field A.RDC_LVL1 0 16 ≤ s.rdcDc.natAbs →
    ∃ t, exec (.rdcTripClear m) s = .next t ∧ t.flag A.RCM_STAT 1 = s.flag A.RCM_STAT 1 ∧ t.reg A.RCM_ERR = s.reg A.RCM_ERR ∧ RegsSame [] s t) ∧
  (∀ (s : State) (n : Fin 8), InHand s .rcm n 0x10 → (s.ring .rcm n).aux = 0 → s.requestOn = false → s.ocClosed = false → s.rcmTesting = false →
    ∃ t, exec (.selftest n) s = .next t ∧ t.ring .rcm n = { s.ring .rcm n with aux := 1, count := 0, t0 := s.now } ∧
      t.rcm = { s.rcm with stSum := 0, stN := 0, stBase := 0, stStep := 0, stCmp := false, stBack := false } ∧ t.mem = s.mem ∧ t = { s with bank := t.bank, chg := t.chg, rcm := t.rcm, regs := t.regs, rings := t.rings, waitHits := t.waitHits }) ∧
  (∀ (s : State) (n : Fin 8), InHand s .rcm n 0x10 → (s.ring .rcm n).aux = 0 → (s.requestOn = true ∨ s.ocClosed = true) →
    ∃ t, exec (.selftest n) s = .next t ∧ Decided t .rcm n { status := 0x14 } ∧ t = { s with rings := t.rings }) ∧
  (∀ (s : State), s.live .rcm = true → s.field A.ST_CFG 0 11 * 60 ≤ s.stAge.toNat → s.flag A.RCM_STAT 0 = true →
    ∃ t, exec .stExpired s = .next t ∧ t.flag A.RCM_STAT 0 = false ∧ Heard 710 s t ∧ t = { s with bank := t.bank, chg := t.chg, regs := t.regs, waitHits := t.waitHits }) ∧
  (∀ (s : State) (v : Nat), s.live .rcm = true → s.flag A.RCM_CTL 1 = true →
    ∃ t, exec (.rdcAcUpdate v) s = .next t ∧ t.reg A.RDC_AC = wd (min v 65535) ∧ RegsSame [A.RDC_AC] s t ∧ t = { s with lr := t.lr, mem := t.mem, ramEcc := t.ramEcc, regs := t.regs, rings := t.rings }) ∧
  (∀ (s : State) (dvm du drift : Int) (ampl : Nat) (pe : Bool), s.imdRuns = true →
    ∃ t, exec (.imdPeriodEnd dvm du drift ampl pe) s = .next t ∧ t.reg A.IMD_AMPL = wd (min ampl 65535) ∧ (pe = true → t.flag A.RCM_STAT 6 = false) ∧
      (dvm.natAbs < 100 * drift.natAbs → t.flag A.RCM_ERR 3 = true ∧ t.reg A.IMD_RES = s.reg A.IMD_RES) ∧
      (100 * drift.natAbs ≤ dvm.natAbs → t.rcm.imdAt = some s.now ∧ Heard 714 s t) ∧ t = { s with bank := t.bank, chg := t.chg, free := t.free, rcm := t.rcm, regs := t.regs, waitHits := t.waitHits }) ∧
  (∀ (s : State), s.imdRuns = true →
    ∃ t, exec .imdConnFail s = .next t ∧ t.flag A.RCM_STAT 6 = true ∧ t.flag A.RCM_STAT 9 = false ∧ Heard 713 s t ∧ t = { s with bank := t.bank, chg := t.chg, regs := t.regs, waitHits := t.waitHits }) ∧
  (∀ (s : State), s.live .rcm = true → s.itNow = true → s.flag A.RCM_STAT 8 = false →
    ∃ t, exec .itActiveChange s = .next t ∧ t.flag A.RCM_STAT 8 = true ∧ t.flag A.RCM_STAT 9 = true ∧ t.rcm.settleAt = s.now ∧ t = { s with bank := t.bank, chg := t.chg, rcm := t.rcm, regs := t.regs, waitHits := t.waitHits }) ∧
  (∀ (s : State), s.live .rcm = true → s.flag A.RCM_STAT 9 = true → s.rcm.settleAt + 3 * s.imdPeriod ≤ s.now →
    ∃ t, exec .imdSettlingEnd s = .next t ∧ t.flag A.RCM_STAT 9 = false ∧ t = { s with bank := t.bank, chg := t.chg, regs := t.regs, waitHits := t.waitHits }) ∧
  (∀ (s : State), s.plmOn = true → s.flag A.PLM_CTL 1 = true →
    ∃ t, exec .beaconSend s = .next t ∧ t = { s with plm := { s.plm with beacons := s.plm.beacons + 1 } }) ∧
  (∀ (s : State), s.plmOn = true → s.flag A.PLM_CTL 1 = false →
    ∃ t, exec .beaconLoss s = .next t ∧ t.flag A.PLM_STAT 0 = false ∧ t.flag A.PLM_STAT 1 = false ∧ t.flag A.PLM_ERR 1 = true ∧ Heard 746 s t ∧
      BanksSame [746] s t ∧ RegsSame [A.PLM_STAT, A.PLM_ERR] s t ∧ t = { s with bank := t.bank, regs := t.regs, waitHits := t.waitHits }) ∧
  (∀ (s : State) (n : Fin 8) (k : Nat) (ack : Bool), InHand s .plm n 0x10 → fld (s.dw .plm n 4) 2 2 ≠ 3 → bit (s.dw .plm n 4) 4 = false → s.plmOn = true →
    ∃ t, exec (.frameTx n k ack) s = .next t ∧ Decided t .plm n { status := if ack then 0 else 0x80, result := wd k } ∧
      t.field A.PLM_CNT 0 16 = (s.field A.PLM_CNT 0 16 + 1) % 65536 ∧ RegsSame [A.PLM_CNT] s t ∧ t = { s with regs := t.regs, rings := t.rings }) ∧
  (∀ (s : State) (n : Fin 8), InHand s .plm n 0x11 → (s.ring .plm n).aux = 0 →
    ∃ t, exec (.frameRx n) s = .next t ∧ t.ring .plm n = { s.ring .plm n with aux := 1, t0 := s.now } ∧ t = { s with rings := t.rings }) ∧
  (∀ (s : State) (frame : List Byte) (mgmt : Bool) (n : Fin 8), s.plmOn = true → s.rxRing = some n.val →
    ∃ t, exec (.plmFrameArrival false frame false mgmt none) s = .next t ∧
      Decided t .plm n { status := 0, result := wd frame.length, uflags := 2 * mgmt.toNat } ∧ RegsSame [A.PLM_CNT] s t ∧
      t = { s with regs := t.regs, rings := t.rings, mem := t.mem, ramEcc := t.ramEcc, lr := t.lr }) ∧
  (∀ (s : State) (frame : List Byte) (enc mgmt : Bool), s.plmOn = true → s.rxRing = none →
    ∃ t, exec (.plmFrameArrival false frame enc mgmt none) s = .next t ∧ t.flag A.PLM_ERR 0 = true ∧ Heard 745 s t ∧ RegsSame [A.PLM_CNT, A.PLM_ERR] s t ∧
      t = { s with regs := t.regs, bank := t.bank, waitHits := t.waitHits }) ∧
  (∀ (s : State) (frame : List Byte) (enc mgmt : Bool) (snd : Option (List Byte × List Nat)), s.plmOn = true → s.flag A.PLM_STAT 0 = false →
    ∃ t, exec (.plmFrameArrival true frame enc mgmt snd) s = .next t ∧ t.flag A.PLM_STAT 0 = true ∧ t.flag A.PLM_STAT 1 = true ∧ Heard 744 s t ∧
      RegsSame [A.PLM_STAT] s t ∧ t = { s with regs := t.regs, bank := t.bank, waitHits := t.waitHits }) ∧
  (∀ (s : State) (n : Fin 8), InHand s .plm n 0x12 → (s.ring .plm n).aux = 0 → 1 ≤ fld (s.dw .plm n 4) 0 5 → fld (s.dw .plm n 4) 0 5 ≤ 30 →
    fld (s.dw .plm n 5) 0 16 ≠ 0 →
    ∃ t, exec (.soundCapture n) s = .next t ∧ t.ring .plm n = { s.ring .plm n with aux := 1, t0 := s.now } ∧ t = { s with rings := t.rings }) ∧
  (∀ (s : State) (n : Fin 8), InHand s .rcm n 0x11 → (s.ring .rcm n).aux = 0 → fld (s.dw .rcm n 5) 0 16 ≠ 0 →
    ∃ t, exec (.rcmLog n) s = .next t ∧ t.ring .rcm n = { s.ring .rcm n with aux := 1, t0 := s.now } ∧ t = { s with rings := t.rings })

/-- MET_CONVERTER_START, MET_SAMPLE, MET_WINDOW, REEL_PHASE, REEL_OVERLAP_START, REEL_TAKEOVER, CONVERTER_STUCK, CLK_DOUBT_CHG, M_STOP, MET_SNAP, WAVE_CAPTURE, LOG_READ, MET_SNAP_SEQ_READ. -/
def Obligations.MetrologyMeasuring : Prop :=
  (∀ (s : State) (cal : List (Int × Int × Int)), s.mRuns = true → s.measRun = false → s.met.dead = false →
    ∃ t, exec (.metConverterStart cal) s = .next t ∧ t.measRun = true ∧ t.met.n = 0 ∧ t.met.phase = 0 ∧ t.met.due = 1 ∧ t.met.hist = [] ∧
      t = { s with bank := t.bank, free := t.free, lr := t.lr, mem := t.mem, met := t.met, ramEcc := t.ramEcc, regs := t.regs,
                   waitHits := t.waitHits }) ∧
  (∀ (s : State) (codes delayed : List Int), s.measRun = true →
    ∃ t, exec (.metSample codes delayed) s = .next t ∧ t.met.n = s.met.n + 1 ∧ t.met.win.n = s.met.win.n + 1 ∧
      t.met.hist.length = min 180 (s.met.hist.length + 1) ∧ t.ports = s.ports ∧
      t = { s with bank := t.bank, bil := t.bil, lr := t.lr, mem := t.mem, met := t.met, ramEcc := t.ramEcc, regs := t.regs,
                   rings := t.rings, waitHits := t.waitHits }) ∧
  (∀ (s : State) (freq : Nat) (qs : List Int), s.measRun = true → s.met.win.n ≠ 0 →
    ∃ t, exec (.metWindow freq qs) s = .next t ∧ t.reg A.MET_WIN_TICK = s.tick ∧ t.reg A.MET_SNAP_SEQ = s.reg A.MET_SNAP_SEQ + 1#32 ∧
      t.reg A.BIL_SNAP_SEQ = s.reg A.BIL_SNAP_SEQ + 1#32 ∧ t.met.win = {} ∧ t.field A.MET_STAT 8 6 = 0 ∧ Heard 772 s t ∧ BanksSame [772] s t ∧
      t = { s with bank := t.bank, bil := t.bil, lr := t.lr, mem := t.mem, met := t.met, ramEcc := t.ramEcc, regs := t.regs,
                   waitHits := t.waitHits }) ∧
  (∀ (s : State) (avg : Int), s.measRun = true → s.spare ≠ 7 → s.flag A.MET_STAT 5 = false → s.met.phase = 0 → s.reelDue + 16000 ≤ s.met.n + s.reelPer →
    ∃ t, exec (.reelPhase avg) s = .next t ∧ t = { s with met := { s.met with phase := 1, calOff := avg } }) ∧
  (∀ (s : State), s.measRun = true → s.met.phase = 4 → s.reelDue + s.met.defers ≤ s.met.n + 2000 → s.mBusy = false →
    ∃ t, exec .reelOverlapStart s = .next t ∧ t.met = { s.met with phase := 5, ovN := 0, ovLive := 0, ovSpare := 0 } ∧ t = { s with met := t.met, regs := t.regs }) ∧
  (∀ (s : State) (delay : Int) (c : Nat), s.measRun = true → s.met.phase = 5 → 2000 ≤ s.met.ovN → s.convOf s.inputDue = some c → s.spare < 7 → s.spare ≠ c →
    ∃ t, exec (.reelTakeover delay) s = .next t ∧ t.convMap s.spare = s.inputDue ∧ (t.convMap c = 6 ∨ t.convMap c = 7) ∧ t.met.phase = 0 ∧
      t.met.due = s.met.due + 1 ∧ Heard 775 s t ∧
      t = { s with bank := t.bank, free := t.free, lr := t.lr, mem := t.mem, met := t.met, ramEcc := t.ramEcc, regs := t.regs,
                   waitHits := t.waitHits }) ∧
  (∀ (s : State) (c : Fin 7), s.measRun = true → s.convMap c < 6 → s.spare < 7 → s.spare ≠ c.val →
    ∃ t, exec (.converterStuck c) s = .next t ∧ t.convMap c = 7 ∧ t.convMap s.spare = s.convMap c ∧ t.met.phase = 0 ∧ t.flag A.MET_STAT 6 = true ∧
      Heard 785 s t ∧
      t = { s with bank := t.bank, free := t.free, lr := t.lr, mem := t.mem, met := t.met, ramEcc := t.ramEcc, regs := t.regs,
                   waitHits := t.waitHits }) ∧
  (∀ (s : State) (c : Fin 7), s.measRun = true → s.convMap c < 6 → s.spare = 7 →
    ∃ t, exec (.converterStuck c) s = .next t ∧ t.convMap c = 7 ∧ t.flag A.MET_STAT (16 + s.convMap c) = true ∧ Heard 778 s t ∧
      t = { s with bank := t.bank, free := t.free, lr := t.lr, mem := t.mem, met := t.met, ramEcc := t.ramEcc, regs := t.regs,
                   waitHits := t.waitHits }) ∧
  (∀ (s : State), s.mRuns = true → s.flag A.CLK_STAT 4 = false → s.flag A.MET_STAT 4 = false →
    ∃ t, exec .clkDoubtChg s = .next t ∧ t.flag A.MET_STAT 4 = true ∧ Heard 779 s t ∧
      t = { s with bank := t.bank, free := t.free, lr := t.lr, mem := t.mem, met := t.met, ramEcc := t.ramEcc, regs := t.regs,
                   waitHits := t.waitHits }) ∧
  (∀ (s : State), (s.measRun = true ∨ s.mRuns = true) →
    ∃ t, exec .mStop s = .next t ∧ t.measRun = false ∧ t.met = { s.met with dead := true } ∧ t.bil.lcd = 2 ∧ RegsSame [A.MET_STAT] s t ∧ t = { s with bil := t.bil, met := t.met, regs := t.regs }) ∧
  (∀ (s : State) (n : Fin 8), InHand s .met n 0x10 → (s.ring .met n).host = 0 →
    ∃ t, exec (.metSnap n) s = .next t ∧ Decided t .met n { status := 0, result := s.reg A.MET_SNAP_SEQ } ∧
      (∀ i : Fin 44, t.word ((s.dw .met n 2).toNat + 4 * i) = s.reg (0x40040020 + 4 * i)) ∧ BytesSame [((s.dw .met n 2).toNat, 176)] s t ∧ t = { s with lr := t.lr, mem := t.mem, ramEcc := t.ramEcc, rings := t.rings }) ∧
  (∀ (s : State) (n : Fin 8), InHand s .met n 0x11 → (s.ring .met n).aux = 0 → fld (s.dw .met n 5) 0 16 ≠ 0 →
    ∃ t, exec (.waveCapture n) s = .next t ∧ t.ring .met n = { s.ring .met n with aux := 1, t0 := s.now } ∧ t = { s with rings := t.rings }) ∧
  (∀ (s : State) (n : Fin 8), InHand s .met n 0x12 → (s.ring .met n).host = 0 →
    ∃ t, exec (.logRead n) s = .next t ∧
      Decided t .met n { status := 0, result := wd (min ((s.dw .met n 1).toNat / 32) (s.logUsed - (s.dw .met n 4).toNat)) } ∧
      BytesSame [((s.dw .met n 2).toNat, 32 * min ((s.dw .met n 1).toNat / 32) (s.logUsed - (s.dw .met n 4).toNat))] s t ∧ t = { s with lr := t.lr, mem := t.mem, ramEcc := t.ramEcc, rings := t.rings }) ∧
  (∀ (s : State) (m : Fin 8), s.CanRead .met m →
    ∃ t, exec (.metSnapSeqRead m) s = .next t ∧ t.port m = ⟨s.reg A.MET_SNAP_SEQ, .ok⟩ ∧
      t.met.snap.get (fun _ => none) m = some ((List.range 43).map (fun i => s.reg (0x40040024 + 4 * i))) ∧ PortsSame [m] s t ∧
      t = { s with met := t.met, ports := t.ports })

/-- SEAL_OPENING, SEAL_CLOSING, SL_WRITE, MET_PARAM_DATA_WRITE, CAL_STEP, CAL_COMMIT. -/
def Obligations.SealAndCalibration : Prop :=
  (∀ (s : State), s.mRuns = true → s.sealOpen = false → s.met.fuse = true → s.logUsed ≤ 1272 →
    ∃ t, exec (.sealOpening true) s = .next t ∧ t.sealOpen = true ∧ t.flag A.MET_SEAL 2 = true ∧ t.flag A.MET_STAT 7 = true ∧
      t.word 0x50000300 = s.word 0x50000300 + 1#32 ∧ t.logUsed = s.logUsed + 1 ∧ t.met.commits = 0 ∧ Heard 773 s t ∧
      t = { s with bank := t.bank, free := t.free, lr := t.lr, mem := t.mem, met := t.met, ramEcc := t.ramEcc, regs := t.regs,
                   waitHits := t.waitHits }) ∧
  (∀ (s : State), s.mRuns = true → s.sealOpen = false → s.met.fuse = true → s.logUsed ≤ 1272 →
    ∃ t, exec (.sealOpening false) s = .next t ∧ t.sealOpen = false ∧ t.flag A.MET_SEAL 5 = true ∧ Heard 778 s t ∧
      t = { s with bank := t.bank, free := t.free, lr := t.lr, mem := t.mem, met := t.met, ramEcc := t.ramEcc, regs := t.regs,
                   waitHits := t.waitHits }) ∧
  (∀ (s : State), s.mRuns = true → s.sealOpen = true →
    ∃ t, exec .sealClosing s = .next t ∧ t.sealOpen = false ∧ t.flag A.MET_SEAL 2 = false ∧ t.flag A.MET_STAT 7 = false ∧ t.met.work = s.met.params ∧
      Heard 773 s t ∧
      t = { s with bank := t.bank, free := t.free, lr := t.lr, mem := t.mem, met := t.met, ramEcc := t.ramEcc, regs := t.regs,
                   waitHits := t.waitHits }) ∧
  (∀ (s : State) (m : Fin 8) (v : Word), s.Unhindered .met m A.MET_PARAM_DATA → s.mRuns = true → s.sealOpen = false →
    ∃ t, exec (.slWrite m .word v) s = .next t ∧ t.reg A.MET_SLREJ = satAdd (s.reg A.MET_SLREJ) 0 16 1 ∧ t.met.work = s.met.work ∧
      t.met.params = s.met.params ∧ t.met.slTold = true ∧
      t = { s with bank := t.bank, comp := t.comp, free := t.free, lr := t.lr, mem := t.mem, met := t.met, ports := t.ports,
                   ramEcc := t.ramEcc, regs := t.regs, waitHits := t.waitHits }) ∧
  (∀ (s : State) (m : Fin 8) (v : Word), s.Unhindered .met m A.MET_PARAM_DATA → s.mRuns = true → s.sealOpen = true → s.met.paramAt = none →
    ∃ t, exec (.metParamDataWrite m v) s = .next t ∧
      t.met = { s.met with work := s.met.work.set (s.field A.MET_PARAM_IDX 0 5) (s.paramClamp (s.field A.MET_PARAM_IDX 0 5) v.toNat),
                           paramAt := some s.now } ∧ t = { s with met := t.met }) ∧
  (∀ (s : State) (m : Fin 8) (v : Word) (i : Nat), s.Unhindered .met m A.MET_PARAM_DATA → s.mRuns = true → s.sealOpen = true → s.met.paramAt = some i →
    s.now < i + 8000 →
    ∃ t, exec (.metParamDataWrite m v) s = .next t ∧ t.flag A.MET_STAT 15 = true ∧ RegsSame [A.MET_STAT] s t ∧ t = { s with regs := t.regs }) ∧
  (∀ (s : State) (n : Fin 8) (x h1 h2 : Int) (freq : Nat), InHand s .met n 0x13 → s.mRuns = true → s.met.commitTo = none → s.sealOpen = false →
    ∃ t, exec (.calStep n x h1 h2 freq) s = .next t ∧ Decided t .met n { status := 0x80 } ∧ t = { s with rings := t.rings }) ∧
  (∀ (s : State) (n : Fin 8) (x h1 h2 : Int) (freq : Nat), InHand s .met n 0x13 → s.mRuns = true → s.met.commitTo = none → s.sealOpen = true →
    6 ≤ fld (s.dw .met n 4) 0 5 → fld (s.dw .met n 4) 0 5 < 12 → s.inputs.contains (fld (s.dw .met n 4) 0 5 - 6) = true →
    10 ≤ (s.dw .met n 6).toNat → (s.dw .met n 6).toNat ≤ 500 → x ≠ 0 → freq ≠ 0 → (h1 - h2).natAbs * 2000 ≤ x.natAbs →
    966367642 ≤ roundI (toSigned 32 (s.met.work.getD (fld (s.dw .met n 4) 0 5) 0) * (s.dw .met n 5).toNat * 1000) x.natAbs →
    roundI (toSigned 32 (s.met.work.getD (fld (s.dw .met n 4) 0 5) 0) * (s.dw .met n 5).toNat * 1000) x.natAbs ≤ 1181116006 →
    ∃ t, exec (.calStep n x h1 h2 freq) s = .next t ∧
      t.met.work = s.met.work.set (fld (s.dw .met n 4) 0 5)
        (ofSigned 32 (roundI (toSigned 32 (s.met.work.getD (fld (s.dw .met n 4) 0 5) 0) * (s.dw .met n 5).toNat * 1000) x.natAbs)) ∧
      t.met.params = s.met.params ∧
      (t.ring .met n).done.map (fun c => c.status) = some 0 ∧ t = { s with met := t.met, rings := t.rings }) ∧
  (∀ (s : State) (n : Fin 8), InHand s .met n 0x14 → s.mRuns = true → s.met.commitTo = none → s.sealOpen = true → s.logUsed ≤ 1277 →
    ∃ t, exec (.calCommit n) s = .next t ∧ t.met.commitTo.map (fun p => p.2) = some n.val ∧ (t.ring .met n).aux = 1 ∧ (t.ring .met n).done = none ∧
      t.met.params = s.met.params ∧
      t = { s with bank := t.bank, erases := t.erases, flashEcc := t.flashEcc, free := t.free, lr := t.lr, mem := t.mem,
                   met := t.met, ramEcc := t.ramEcc, regs := t.regs, rings := t.rings, waitHits := t.waitHits,
                   wearTold := t.wearTold }) ∧
  (∀ (s : State) (n : Fin 8) (k : Fin 2), InHand s .met n 0x14 → s.mRuns = true → s.met.commitTo = some (k.val, n.val) → s.sealOpen = true →
    bit (s.dw .met n 4) 0 = false →
    ∃ t, exec (.calCommit n) s = .next t ∧ Decided t .met n { status := 0, result := s.word (calAddr k) } ∧ t.met.params = s.met.work ∧
      t.met.commits = s.met.commits + 1 ∧ t.met.commitTo = none ∧ t.reg A.MET_CAL_SEQ = s.word (calAddr k) ∧ t.flag A.MET_STAT 2 = true ∧
      Heard 774 s t ∧
      t = { s with bank := t.bank, erases := t.erases, flashEcc := t.flashEcc, free := t.free, lr := t.lr, mem := t.mem,
                   met := t.met, ramEcc := t.ramEcc, regs := t.regs, rings := t.rings, waitHits := t.waitHits,
                   wearTold := t.wearTold })

/-- TARIFF_SWITCH, DST_CHANGE, CAL_LOAD, CALENDAR_ACTIVATION, MD_PERIOD_END, MD_RESET. -/
def Obligations.TariffsAndDemand : Prop :=
  (∀ (s : State), s.mRuns = true → s.calPresent = false →
    ∃ t, exec .tariffSwitch s = .next t ∧ t.tariff = 0 ∧ (s.tariff ≠ 0 → Heard 804 s t) ∧ t.flag A.BIL_STAT 2 = s.calValid ∧ RegsSame [A.BIL_STAT] s t ∧ t = { s with bank := t.bank, regs := t.regs, waitHits := t.waitHits }) ∧
  (∀ (s : State), s.mRuns = true → s.calPresent = false → s.bil.dst = true →
    ∃ t, exec .dstChange s = .next t ∧ t.bil.dst = false ∧ t.reg A.MD_CUR = 0#32 ∧ t.reg A.MD_CUR_START = wd s.seconds ∧ Heard 808 s t ∧ t = { s with bank := t.bank, bil := t.bil, regs := t.regs, waitHits := t.waitHits }) ∧
  (∀ (s : State) (n : Fin 8) (o : Nat), InHand s .bil n 0x11 → s.bilFree = true →
    calendarBad (s.viewBytes (s.ring .bil n).host (s.dw .bil n 2).toNat 740) = some o →
    ∃ t, exec (.calLoad n) s = .next t ∧ Decided t .bil n { status := 0x80, result := wd o } ∧ t = { s with rings := t.rings }) ∧
  (∀ (s : State) (n : Fin 8), InHand s .bil n 0x11 → s.bilFree = true →
    calendarBad (s.viewBytes (s.ring .bil n).host (s.dw .bil n 2).toNat 740) = none →
    ∃ t, exec (.calLoad n) s = .next t ∧
      t.bil = { s.bil with calPend := some (s.viewBytes (s.ring .bil n).host (s.dw .bil n 2).toNat 740) } ∧ t.flag A.BIL_STAT 1 = true ∧
      t.reg A.BIL_CALPEND = wd (leNat ((s.viewBytes (s.ring .bil n).host (s.dw .bil n 2).toNat 740).take 4)) ∧ t.reg A.BIL_CALACT = s.dw .bil n 4 ∧
      RegsSame [A.BIL_STAT, A.BIL_CALPEND, A.BIL_CALACT] s t ∧ t = { s with bil := t.bil, regs := t.regs, rings := t.rings }) ∧
  (∀ (s : State) (c : List Byte), s.mRuns = true → s.bil.calPend = some c → s.calValid = true → (s.reg A.BIL_CALACT).toNat ≤ s.seconds →
    ∃ t, exec .calendarActivation s = .next t ∧ t.bil.calPend = none ∧ t.flag A.BIL_STAT 0 = true ∧ t.flag A.BIL_STAT 1 = false ∧
      t.reg A.BIL_CALID = wd (leNat (c.take 4)) ∧ t.reg A.BIL_CALPEND = 0#32 ∧ t.reg A.BIL_CALACT = 0#32 ∧ t.bytes 0x50000640 c.length = c ∧
      BytesSame [(0x50000640, c.length + 28)] s t ∧ Heard 805 s t ∧
      t = { s with bank := t.bank, bil := t.bil, lr := t.lr, mem := t.mem, ramEcc := t.ramEcc, regs := t.regs,
                   waitHits := t.waitHits }) ∧
  (∀ (s : State), s.mRuns = true → s.mdDue = true → s.calValid = true → s.bil.mdBad = false → s.bil.mdTariff < 8 →
    (s.reg (A.MD s.bil.mdTariff)).toNat < (s.reg A.MD_CUR).toNat / 250 →
    ∃ t, exec .mdPeriodEnd s = .next t ∧ t.reg (A.MD s.bil.mdTariff) = wd ((s.reg A.MD_CUR).toNat / 250) ∧
      t.reg (A.MD_TIME s.bil.mdTariff) = s.reg A.MD_CUR_START ∧ t.reg A.MD_CUR = 0#32 ∧ t.reg A.MD_CUR_START = wd s.seconds ∧ t.bil.mdBad = false ∧
      t.bil.mdQ = s.seconds / 900 ∧ Heard 808 s t ∧ t = { s with bank := t.bank, bil := t.bil, regs := t.regs, waitHits := t.waitHits }) ∧
  (∀ (s : State) (n : Fin 8), InHand s .bil n 0x17 → s.bilFree = true →
    ∃ t, exec (.mdReset n) s = .next t ∧ (∀ i : Fin 8, t.reg (A.MD i) = 0#32 ∧ t.reg (A.MD_TIME i) = 0#32) ∧
      t.field A.BIL_CNT 16 16 = (s.field A.BIL_CNT 16 16 + 1) % 65536 ∧ t.bil = { s.bil with jDue := s.bil.jDue + 1 } ∧
      Decided t .bil n { status := 0, result := wd ((s.field A.BIL_CNT 16 16 + 1) % 65536) } ∧ t = { s with bil := t.bil, regs := t.regs, rings := t.rings })

/-- SESSION_START, SESSION_END, SIGN_RETRY, RECORD_READ, JOURNAL_ENTRY, PF_SAVE, BILLING_RESTORE, RESTORED_SESSION_END, DISP_LIST, DISPLAY_DWELL_EXPIRY, DISP_STEP, INFO_SET, BIL_SNAP, BIL_SNAP_SEQ_READ. -/
def Obligations.SessionsAndDisplay : Prop :=
  (∀ (s : State) (n : Fin 8), InHand s .bil n 0x12 → s.bilFree = true → s.sesOpen = false → s.measRun = true → s.meterFault = false →
    ∃ t, exec (.sessionStart n) s = .next t ∧ t.sesOpen = true ∧ t.reg A.SES_ID_LO = s.dw .bil n 4 ∧ t.reg A.SES_ID_HI = s.dw .bil n 5 ∧
      t.reg A.SES_T_START = wd s.seconds ∧ t.reg A.SES_GRID = 0#32 ∧ t.reg A.SES_GEN = 0#32 ∧ t.reg64 A.SES_START_LO = s.reg64 A.TOTAL_LO ∧
      t.bil.sesTariff = s.tariff ∧ t.bil.sesSrc = s.source ∧ t.bil.sesFlags = s.sesConditions ∧
      Decided t .bil n { status := 0, result := s.reg A.REC_NEXT } ∧
      RegsSame [A.SES_ID_LO, A.SES_ID_HI, A.SES_T_START, A.SES_GRID, A.SES_GEN, A.SES_START_LO, A.SES_START_HI, A.BIL_STAT] s t ∧ t = { s with bil := t.bil, regs := t.regs, rings := t.rings }) ∧
  (∀ (s : State) (n : Fin 8), InHand s .bil n 0x12 → s.bilFree = true → s.sesOpen = true →
    ∃ t, exec (.sessionStart n) s = .next t ∧ Decided t .bil n { status := 0x83 } ∧ t = { s with rings := t.rings }) ∧
  (∀ (s : State) (n : Fin 8), InHand s .bil n 0x13 → s.bilFree = true → s.sesOpen = true → s.keyReady = true → (s.kslot 63).st ≠ 1 →
    ∃ t, exec (.sessionEnd n) s = .next t ∧ t.sesOpen = false ∧ t.bil.ended = none ∧ t.bil.signing = none ∧ t.flag A.BIL_STAT 6 = false ∧
      t.reg A.REC_NEXT = s.reg A.REC_NEXT + 1#32 ∧ Decided t .bil n { status := 0, result := s.reg A.REC_NEXT } ∧ Heard 809 s t ∧ Heard 806 s t ∧
      t = { s with bank := t.bank, bil := t.bil, cry := t.cry, free := t.free, key := t.key, lr := t.lr, mem := t.mem,
                   ramEcc := t.ramEcc, regs := t.regs, rings := t.rings, waitHits := t.waitHits }) ∧
  (∀ (s : State), s.mRuns = true → s.bil.signing.isSome = true → s.keyReady = true → (s.kslot 63).st ≠ 1 →
    ∃ t, exec .signRetry s = .next t ∧ t.bil.ended = none ∧ t.bil.signing = none ∧ t.reg A.REC_NEXT = s.reg A.REC_NEXT + 1#32 ∧ Heard 809 s t ∧
      RegsSame [A.REC_NEXT, A.REC_OLDEST, A.BIL_STAT] s t ∧
      t = { s with bank := t.bank, bil := t.bil, cry := t.cry, free := t.free, key := t.key, lr := t.lr, mem := t.mem,
                   ramEcc := t.ramEcc, regs := t.regs, rings := t.rings, waitHits := t.waitHits }) ∧
  (∀ (s : State) (n : Fin 8), InHand s .bil n 0x14 → s.bilFree = true → (s.dw .bil n 4).toNat < (s.reg A.REC_OLDEST).toNat →
    ∃ t, exec (.recordRead n) s = .next t ∧ Decided t .bil n { status := 0x81, result := s.reg A.REC_OLDEST } ∧ t = { s with rings := t.rings }) ∧
  (∀ (s : State) (n : Fin 8), InHand s .bil n 0x14 → s.bilFree = true → (s.reg A.REC_OLDEST).toNat ≤ (s.dw .bil n 4).toNat → (s.ring .bil n).host = 0 →
    ∃ t, exec (.recordRead n) s = .next t ∧
      Decided t .bil n { status := 0, result := wd (min ((s.dw .bil n 1).toNat / 128) ((s.reg A.REC_NEXT).toNat - (s.dw .bil n 4).toNat)) } ∧
      BytesSame [((s.dw .bil n 2).toNat, (s.dw .bil n 1).toNat)] s t ∧ t = { s with lr := t.lr, mem := t.mem, ramEcc := t.ramEcc, rings := t.rings }) ∧
  (∀ (s : State), s.mRuns = true → 0 < s.bil.jDue →
    ∃ t, exec (.journalEntry true) s = .next t ∧ t.bil = { s.bil with jDue := s.bil.jDue - 1, seq := s.bil.seq + 1, jNext := (s.bil.jNext + 1) % 32, jDirty := false, jAt := s.now } ∧
      t = { s with bank := t.bank, bil := t.bil, erases := t.erases, flashEcc := t.flashEcc, free := t.free, lr := t.lr,
                   mem := t.mem, ramEcc := t.ramEcc, regs := t.regs, waitHits := t.waitHits, wearTold := t.wearTold }) ∧
  (∀ (s : State) (ok : Bool) (i : Nat), s.mRuns = true → s.bil.pfWarn = true → s.bil.pf = some i → i + 4000000 ≤ s.now →
    ∃ t, exec (.pfSave ok) s = .next t ∧ t.bil = { s.bil with live := 1 - s.bil.live, seq := s.bil.seq + 1, pf := some s.now } ∧
      BytesSame [(liveAddr (1 - s.bil.live), 288)] s t ∧ RegsSame [] s t) ∧
  (∀ (s : State), s.mRuns = true → s.bil.restored = false →
    ∃ t, exec .billingRestore s = .next t ∧ t.bil.restored = true ∧ t.mem = s.mem ∧ t = { s with bank := t.bank, bil := t.bil, regs := t.regs, waitHits := t.waitHits }) ∧
  (∀ (s : State) (i : Nat), s.mRuns = true → s.measRun = true → s.bil.signing = none → s.bil.resTime = some i → s.bil.ended = none → s.sesOpen = true →
    s.keyReady = true → (s.kslot 63).st ≠ 1 →
    ∃ t, exec .restoredSessionEnd s = .next t ∧ t.bil.resTime = none ∧ t.sesOpen = false ∧ t.reg A.REC_NEXT = s.reg A.REC_NEXT + 1#32 ∧ Heard 806 s t ∧
      t = { s with bank := t.bank, bil := t.bil, cry := t.cry, free := t.free, key := t.key, lr := t.lr, mem := t.mem,
                   ramEcc := t.ramEcc, regs := t.regs, rings := t.rings, waitHits := t.waitHits }) ∧
  (∀ (s : State) (n : Fin 8), InHand s .bil n 0x15 → s.bilFree = true → s.dw .bil n 1 = 8#32 →
    s.viewWords (s.ring .bil n).host (s.dw .bil n 2).toNat 2 = [0x050001#32, 0x050004#32] →
    ∃ t, exec (.dispList n) s = .next t ∧ Decided t .bil n { status := 0, result := 2#32 } ∧ t.word 0x50000F40 = 0x050001#32 ∧
      t.word 0x50000F44 = 0x050004#32 ∧ t.bil.showing = true ∧ t.bil.dispAt = s.now ∧ t.reg A.DISP_ITEM = 0x100#32 ∧
      BytesSame [(0x50000F40, 132)] s t ∧ t = { s with bil := t.bil, lr := t.lr, mem := t.mem, ramEcc := t.ramEcc, regs := t.regs, rings := t.rings }) ∧
  (∀ (s : State), s.mRuns = true → s.bil.showing = false →
    ∃ t, exec .displayDwellExpiry s = .next t ∧ RegsSame [A.DISP_ITEM] s t ∧ (t.bil.showing = true → t.bil.dispAt = s.now ∧ t.bil.lcd = 1) ∧ t = { s with bil := t.bil, regs := t.regs }) ∧
  (∀ (s : State), s.mRuns = true →
    ∃ t, exec .dispStep s = .next t ∧ Heard 811 s t ∧ BanksSame [811] s t ∧ RegsSame [A.DISP_ITEM] s t ∧ t = { s with bank := t.bank, bil := t.bil, regs := t.regs, waitHits := t.waitHits }) ∧
  (∀ (s : State) (n : Fin 8), InHand s .bil n 0x16 → s.bilFree = true →
    (s.viewBytes (s.ring .bil n).host (s.dw .bil n 2).toNat 8).all (fun b => (glyph b.toNat).isSome) = true →
    ∃ t, exec (.infoSet n) s = .next t ∧ Decided t .bil n { status := 0, result := wd (fld (s.dw .bil n 4) 0 2) } ∧
      t.bil.pages.get (fun _ => none) (fld (s.dw .bil n 4) 0 2) =
        some ((s.viewBytes (s.ring .bil n).host (s.dw .bil n 2).toNat 8).map (fun b => (glyph b.toNat).getD 0)) ∧ t = { s with bil := t.bil, rings := t.rings }) ∧
  (∀ (s : State) (n : Fin 8), InHand s .bil n 0x10 → s.bilFree = true → (s.ring .bil n).host = 0 →
    ∃ t, exec (.bilSnap n) s = .next t ∧ Decided t .bil n { status := 0, result := s.reg A.BIL_SNAP_SEQ } ∧
      (∀ i : Fin 68, t.word ((s.dw .bil n 2).toNat + 4 * i) = s.reg (0x40041000 + 4 * i)) ∧ BytesSame [((s.dw .bil n 2).toNat, 272)] s t ∧ t = { s with lr := t.lr, mem := t.mem, ramEcc := t.ramEcc, rings := t.rings }) ∧
  (∀ (s : State) (m : Fin 8), s.CanRead .bil m →
    ∃ t, exec (.bilSnapSeqRead m) s = .next t ∧ t.port m = ⟨s.reg A.BIL_SNAP_SEQ, .ok⟩ ∧
      t.bil.snap.get (fun _ => none) m = some ((List.range 63).map (fun i => s.reg (0x40041014 + 4 * i))) ∧ PortsSame [m] s t ∧
      t = { s with bil := t.bil, ports := t.ports })

/-- KEY_READY, ROOT_NEW, KEY_REQUEST, KEY_PATROL, KEY_UPDATE, PUBKEY_READ. -/
def Obligations.KeysAndRequests : Prop :=
  (∀ (s : State), s.live .key = true → s.keyReady = false → s.vlt.por = false → s.vlt.eraseDue = false →
    ∃ t, exec .keyReady s = .next t ∧ t.keyReady = true ∧ Heard 836 s t ∧ BanksSame [836] s t ∧ t.mem = s.mem ∧ t.vlt = s.vlt ∧
      (∀ i : Fin 64, (s.bytes (rowAddr i) (rowLen i)).all (· == 0xFF#8) = true → t.kslot i = {}) ∧ RegsSame [A.KEY_STAT] s t ∧
      t = { s with bank := t.bank, key := t.key, lr := t.lr, mem := t.mem, ramEcc := t.ramEcc, regs := t.regs, vlt := t.vlt,
                   waitHits := t.waitHits }) ∧
  (∀ (s : State), s.live .key = true → s.keyReady = false → s.vlt.por = true → s.vlt.eraseDue = false →
    ∃ t, exec .keyReady s = .next t ∧ t.keyReady = true ∧ t.flag A.KEY_STAT 2 = true ∧ t.vlt = { s.vlt with por := false } ∧
      (∀ i : Fin 48, t.word (cntAddr i) = 0xFFFFFFFF#32) ∧
      t = { s with bank := t.bank, key := t.key, lr := t.lr, mem := t.mem, ramEcc := t.ramEcc, regs := t.regs, vlt := t.vlt,
                   waitHits := t.waitHits }) ∧
  (∀ (s : State) (d : Drbg), s.keyReady = true → s.rootPresent = false → s.eraseHeld = false → s.trngReady = true → s.cry.drbg = some d →
    s.reseedDue = false → s.flag A.TRNG_CTL 0 = false →
    ∃ t, exec .rootNew s = .next t ∧ t.bytes 0x50000000 (d.gen 32).1.length = (d.gen 32).1 ∧ t.cry.drbg = some (d.gen 32).2 ∧
      t.reg A.LOG_NEXT = s.reg A.LOG_NEXT + 1#32 ∧ Heard 887 s t ∧
      t = { s with bank := t.bank, cry := t.cry, free := t.free, lr := t.lr, mem := t.mem, ramEcc := t.ramEcc, regs := t.regs,
                   waitHits := t.waitHits }) ∧
  (∀ (s : State) (w : Win) (n : Fin 8) (b : Bool) (q : KeyNeed), s.keyNeed w n = some q → (s.ring w n).key = none → s.keyReady = true →
    s.rewriting q.code = false → (q.code = 0xF0 ∨ q.code = 0xF1) →
    q.types.contains (if q.code = 0xF0 then 0x10 else 2) = true →
    Nat.testBit (if q.code = 0xF0 then 0x388 else 0x142) q.use = true →
    Nat.testBit (if q.code = 0xF0 then 0x388 else 0x142) (8 + (if q.code = 0xF1 then s.standsFor q.host else q.host)) = true →
    ∃ t, exec (.keyRequest w n b) s = .next t ∧
      (t.ring w n).key = some ⟨q.code, if q.code = 0xF0 then 0x10 else 2, if q.code = 0xF0 then natBe 32 idkScalar else fuseKey "PV-IMG", [], 0⟩ ∧
      t = { s with rings := t.rings }) ∧
  (∀ (s : State) (w : Win) (n : Fin 8) (q : KeyNeed), s.keyNeed w n = some q → (s.ring w n).key = none → s.keyReady = true → w ≠ .plm →
    s.rewriting q.code = false → q.code < 64 → (s.kslot q.code).st = 1 → (s.kslot q.code).usage.testBit q.use = true →
    (s.kslot q.code).usage.testBit (8 + q.host) = true → q.types.contains (s.kslot q.code).typ = true →
    ∃ t, exec (.keyRequest w n true) s = .next t ∧ Decided t w n { status := 0x20 } ∧ (t.kslot q.code).st = 2 ∧ t.flag A.KEY_ERR 0 = true ∧
      Heard 837 s t ∧ t.mem = s.mem ∧
      t = { s with bank := t.bank, cry := t.cry, key := t.key, lr := t.lr, mem := t.mem, ramEcc := t.ramEcc, regs := t.regs,
                   rings := t.rings, waitHits := t.waitHits }) ∧
  (∀ (s : State) (b : Bool), s.keyReady = true → s.flag A.KEY_CTL 0 = true → (∀ i : Fin 64, s.key.patrol ≤ i → (s.kslot i).st ≠ 1) →
    ∃ t, exec (.keyPatrol b) s = .next t ∧ t.key = { s.key with patrol := 0 } ∧ t.cry = s.cry ∧ Heard 842 s t ∧ t = { s with bank := t.bank, cry := t.cry, key := t.key, regs := t.regs, waitHits := t.waitHits }) ∧
  (∀ (s : State), s.keyReady = true → s.flag A.KEY_CTL 0 = true → s.key.patrol < 64 → (s.kslot s.key.patrol).st = 1 → s.rewriting s.key.patrol = false →
    ∃ t, exec (.keyPatrol true) s = .next t ∧ (t.kslot s.key.patrol).st = 2 ∧ (t.kslot s.key.patrol).key = [] ∧ t.key.patrol = s.key.patrol + 1 ∧
      t.flag A.KEY_ERR 0 = true ∧ Heard 837 s t ∧ t = { s with bank := t.bank, cry := t.cry, key := t.key, regs := t.regs, waitHits := t.waitHits }) ∧
  (∀ (s : State) (n : Fin 8) (b : Bool) (e i : Nat), InHand s .key n 0x10 → s.keyReady = true → (s.ring .key n).aux = 0 → s.key.kuOps = [] →
    s.kuCheck n = .inl (e, i) →
    ∃ t, exec (.keyUpdate n b) s = .next t ∧ Decided t .key n { status := e, result := wd i } ∧ t.flag A.KEY_ERR 1 = true ∧ t.key = s.key ∧
      t.mem = s.mem ∧ Heard 839 s t ∧ RegsSame [A.KEY_ERR] s t ∧
      t = { s with bank := t.bank, cry := t.cry, erases := t.erases, flashEcc := t.flashEcc, free := t.free, key := t.key,
                   lr := t.lr, mem := t.mem, ramEcc := t.ramEcc, regs := t.regs, rings := t.rings, waitHits := t.waitHits,
                   wearTold := t.wearTold }) ∧
  (∀ (s : State) (n : Fin 8) (e : List Byte), InHand s .key n 0x10 → s.keyReady = true → (s.ring .key n).aux = 1 → s.key.kuOps = [e] →
    e.getD 0 0#8 = 3#8 → (e.getD 1 0#8).toNat < 64 →
    ∃ t, exec (.keyUpdate n true) s = .next t ∧ Decided t .key n { status := 0, result := 1#32 } ∧ t.kslot (e.getD 1 0#8).toNat = {} ∧
      (∀ i : Fin 128, i < rowLen (e.getD 1 0#8).toNat → t.byte (rowAddr (e.getD 1 0#8).toNat + i) = 0xFF#8) ∧ t.key.kuOps = [] ∧
      t.reg A.LOG_NEXT = s.reg A.LOG_NEXT + 1#32 ∧ Heard 838 s t ∧
      t = { s with bank := t.bank, cry := t.cry, erases := t.erases, flashEcc := t.flashEcc, free := t.free, key := t.key,
                   lr := t.lr, mem := t.mem, ramEcc := t.ramEcc, regs := t.regs, rings := t.rings, waitHits := t.waitHits,
                   wearTold := t.wearTold }) ∧
  (∀ (s : State) (n : Fin 8), InHand s .key n 0x11 → s.keyReady = true → fld (s.dw .key n 4) 0 8 = 0xF0 → s.dw .key n 1 = 64#32 →
    (s.ring .key n).host = 0 →
    ∃ t, exec (.pubkeyRead n) s = .next t ∧ Decided t .key n { status := 0, result := 64#32 } ∧ t.regs = s.regs ∧
      BytesSame [((s.dw .key n 2).toNat, 64)] s t ∧ t = { s with free := t.free, lr := t.lr, mem := t.mem, ramEcc := t.ramEcc, rings := t.rings }) ∧
  (∀ (s : State) (n : Fin 8), InHand s .key n 0x11 → s.keyReady = true → fld (s.dw .key n 4) 0 8 = 0xF1 →
    ∃ t, exec (.pubkeyRead n) s = .next t ∧ Decided t .key n { status := 0x20 } ∧ t = { s with rings := t.rings })

/-- TAMPER_EVENT, TAMPER_SAMPLE, CALENDAR_SECOND, CLOCK_SET, CALENDAR_SECONDS_READ. -/
def Obligations.TamperAndCalendar : Prop :=
  (∀ (s : State) (i : Fin 8), 5 ≤ i → s.pmu.mode = .run → s.flag A.TAMP_EN i = true → s.flag A.VLT_STAT (8 + i) = false → s.vlt.armedOff.testBit i = false →
    s.flag A.TAMP_ACT i = false →
    ∃ t, exec (.tamperEvent i true) s = .next t ∧ t.flag A.VLT_STAT (8 + i) = true ∧ t.flag A.VLT_ERR i = true ∧ t.reg A.TAMP_LAST = wd (2 ^ i.val) ∧
      t.reg A.TAMP_TIME = s.word 0x50000200 ∧ t.reg A.LOG_NEXT = s.reg A.LOG_NEXT + 1#32 ∧ t.vlt.armedOff.testBit i = true ∧ Heard 884 s t ∧
      BytesSame [(0x50001000 + 32 * ((s.reg A.LOG_NEXT).toNat % 128), 32)] s t ∧
      t = { s with bank := t.bank, mem := t.mem, ramEcc := t.ramEcc, lr := t.lr, regs := t.regs, vlt := t.vlt, waitHits := t.waitHits }) ∧
  (∀ (s : State) (i : Fin 8), 5 ≤ i → s.pmu.mode = .run → s.live .key = true → s.flag A.TAMP_EN i = true → s.flag A.VLT_STAT (8 + i) = false →
    s.vlt.armedOff.testBit i = false → s.flag A.TAMP_ACT i = true →
    ∃ t, exec (.tamperEvent i true) s = .next t ∧ t.flag A.VLT_ERR i = true ∧ t.reg A.TAMP_LAST = wd (2 ^ i.val * 257) ∧ t.keyReady = false ∧
      (∀ b : Fin 0x200, t.byte (0x50000000 + b) = 0#8) ∧ t.key.slots = [] ∧ t.key.kuOps = [] ∧ t.cry.eph = [] ∧ t.dbgSession = false ∧
      t.eng = s.eng ∧ t.met = s.met ∧ t.bil = s.bil ∧ t.opt = s.opt) ∧
  (∀ (s : State) (i : Fin 8), 5 ≤ i → s.pmu.mode = .off → s.flag A.TAMP_EN i = true → s.flag A.VLT_STAT (8 + i) = false →
    s.vlt.armedOff.testBit i = false → s.flag A.TAMP_ACT i = true →
    ∃ t, exec (.tamperEvent i true) s = .next t ∧ (∀ b : Fin 0x200, t.byte (0x50000000 + b) = 0#8) ∧ t.vlt.eraseDue = true ∧
      t.reg A.LOG_NEXT = s.reg A.LOG_NEXT + 1#32 ∧ t.key = s.key) ∧
  (∀ (s : State) (i : Fin 8), 5 ≤ i → s.flag A.TAMP_EN i = true → s.flag A.VLT_STAT (8 + i) = true →
    ∃ t, exec (.tamperEvent i false) s = .next t ∧ t.flag A.VLT_STAT (8 + i) = false ∧ t.vlt.absentAt.get (fun _ => 0) i = s.now ∧
      RegsSame [A.VLT_STAT] s t ∧ t = { s with regs := t.regs, vlt := t.vlt }) ∧
  (∀ (s : State) (b : BitVec 4) (mesh : Bool), s.field A.TAMP_EN 0 5 = 0 →
    ∃ t, exec (.tamperSample b mesh) s = .next t ∧ t.vlt.lfsr = meshNext s.vlt.lfsr ∧
      (∀ i : Fin 4, t.vlt.differ.testBit i = (b.getLsbD i != s.flag A.TAMP_BALL i)) ∧ t = { s with vlt := t.vlt }) ∧
  (∀ (s : State) (b : BitVec 4) (mesh : Bool), s.field A.TAMP_EN 0 5 = 1 → s.vlt.differ.testBit 0 = true → s.flag A.TAMP_ACT 0 = false →
    b.getLsbD 0 ≠ s.flag A.TAMP_BALL 0 → s.flag A.VLT_STAT 8 = false → s.vlt.armedOff.testBit 0 = false → s.pmu.mode = .run →
    ∃ t, exec (.tamperSample b mesh) s = .next t ∧ t.flag A.VLT_STAT 8 = true ∧ t.flag A.VLT_ERR 0 = true ∧ t.reg A.TAMP_LAST = 1#32 ∧
      t.reg A.LOG_NEXT = s.reg A.LOG_NEXT + 1#32 ∧ Heard 884 s t ∧
      t = { s with bank := t.bank, mem := t.mem, ramEcc := t.ramEcc, lr := t.lr, regs := t.regs, vlt := t.vlt, waitHits := t.waitHits }) ∧
  (∀ (s : State), s.flag A.CAL_ALARM_CTL 0 = false →
    ∃ t, exec .calendarSecond s = .next t ∧ t.word 0x50000200 = s.word 0x50000200 + 1#32 ∧ BytesSame [(0x50000200, 8)] s t ∧
      t = { s with mem := t.mem, ramEcc := t.ramEcc, lr := t.lr, vlt := t.vlt }) ∧
  (∀ (s : State), s.flag A.CAL_ALARM_CTL 0 = true → (s.reg A.CAL_ALARM).toNat ≤ (s.word 0x50000200 + 1#32).toNat → s.pmu.mode = .run →
    ∃ t, exec .calendarSecond s = .next t ∧ t.word 0x50000200 = s.word 0x50000200 + 1#32 ∧ t.flag A.CAL_ALARM_CTL 0 = false ∧ Heard 885 s t ∧
      RegsSame [A.CAL_ALARM_CTL] s t ∧
      t = { s with bank := t.bank, mem := t.mem, ramEcc := t.ramEcc, lr := t.lr, regs := t.regs, vlt := t.vlt, waitHits := t.waitHits }) ∧
  (∀ (s : State) (n : Fin 8), InHand s .vlt n 0x10 → s.onLprc = false →
    ∃ t, exec (.clockSet n) s = .next t ∧ Decided t .vlt n { status := 0, result := s.word 0x50000200 } ∧ t.word 0x50000200 = s.dw .vlt n 4 ∧
      t.word 0x50000204 = (s.dw .vlt n 5 &&& 0x7FFF#32) ∧ t.word 0x5000020C = s.word 0x50000200 ∧
      t.word 0x50000210 = s.dw .vlt n 4 - s.word 0x50000200 ∧ t.word 0x50000214 = s.word 0x50000214 + 1#32 ∧ t.calValid = true ∧
      (s.calValid = true → s.dw .vlt n 4 = s.word 0x50000200 → t.reg A.LOG_NEXT = s.reg A.LOG_NEXT) ∧
      (s.calValid = false → t.reg A.LOG_NEXT = s.reg A.LOG_NEXT + 1#32) ∧
      t = { s with bank := t.bank, lr := t.lr, mem := t.mem, ramEcc := t.ramEcc, regs := t.regs, rings := t.rings,
                   waitHits := t.waitHits }) ∧
  (∀ (s : State) (n : Fin 8), InHand s .vlt n 0x10 → s.onLprc = true →
    ∃ t, exec (.clockSet n) s = .next t ∧ Decided t .vlt n { status := 0x14 } ∧ t = { s with rings := t.rings }) ∧
  (∀ (s : State) (m : Fin 8) (sub : BitVec 15), s.mayIssue m = true → s.coreReach m .load .calendar = true → sub.toNat ≤ s.subsec →
    ∃ t, exec (.calendarSecondsRead m sub) s = .next t ∧ t.port m = ⟨s.word 0x50000200, .ok⟩ ∧
      t.vlt.calLatch.get (fun _ => none) m = some ((List.range 6).map (fun i => s.word (0x50000204 + 4 * i))) ∧
      (∀ i : Fin 8, i ≠ m → t.vlt.calLatch.get (fun _ => none) i = s.vlt.calLatch.get (fun _ => none) i) ∧
      PortsSame [m] s t ∧ t.mem = s.mem ∧ t = { s with lr := t.lr, mem := t.mem, ports := t.ports, ramEcc := t.ramEcc, vlt := t.vlt })

/-- GCM_ENC, GCM_DEC, CCM_ENC, CCM_DEC, CTR_ENC, CTR_DEC, CMAC, SHA256, SHA384, HMAC256, HMAC384, CRY_CTX_LOST. `d` stands for the
data at ADDR_A, `a` for the associated data, `v` for the invocation record or the given IV. -/
def Obligations.CiphersAndHashes : Prop :=
  (∀ (s : State) (n : Fin 8) (g : KeyGot) (d a v : List Byte), InHand s .cry n 0x10 → (s.cryCtx n).live = false → bit (s.dw .cry n 0) 11 = false → (s.ring .cry n).host = 0 →
    s.bytes (s.dw .cry n 2).toNat (s.dw .cry n 1).toNat = d → (s.ring .cry n).key = some g → g.iv.length = 8 →
    g.iv ++ natBe 4 g.cnt = v → s.bytes (s.dw .cry n 5).toNat (fld (s.dw .cry n 4) 16 16) = a → fld (s.dw .cry n 4) 8 5 ≤ 16 → (s.dw .cry n 3).toNat + (s.dw .cry n 1).toNat ≤ (s.dw .cry n 6).toNat →
    ∃ t, exec (.gcmEnc n) s = .next t ∧ Decided t .cry n { status := 0, result := s.dw .cry n 1, last := true } ∧
      t.bytes (s.dw .cry n 6).toNat 12 = v ∧ t.bytes (s.dw .cry n 3).toNat (ctrStream g.key (v ++ zeros 4) 2 d).length = ctrStream g.key (v ++ zeros 4) 2 d ∧
      t.bytes ((s.dw .cry n 6).toNat + 16) 16 = padTo 16 ((gcmTag g.key v a (ctrStream g.key (v ++ zeros 4) 2 d)).take (fld (s.dw .cry n 4) 8 5)) ∧
      t.reg A.CRY_BYTES = s.reg A.CRY_BYTES + s.dw .cry n 1 ∧ (t.cryCtx n).live = false ∧ BytesSame [((s.dw .cry n 3).toNat, (s.dw .cry n 1).toNat), ((s.dw .cry n 6).toNat, 48)] s t ∧
      t = { s with bank := t.bank, cry := t.cry, key := t.key, lr := t.lr, mem := t.mem, ramEcc := t.ramEcc, regs := t.regs,
                   rings := t.rings, waitHits := t.waitHits }) ∧
  (∀ (s : State) (n : Fin 8) (g : KeyGot) (d a v : List Byte), InHand s .cry n 0x11 → (s.cryCtx n).live = false → bit (s.dw .cry n 0) 11 = false → (s.ring .cry n).host = 0 →
    s.bytes (s.dw .cry n 2).toNat (s.dw .cry n 1).toNat = d → (s.ring .cry n).key = some g →
    s.bytes (s.dw .cry n 6).toNat 12 = v → s.bytes (s.dw .cry n 5).toNat (fld (s.dw .cry n 4) 16 16) = a → fld (s.dw .cry n 4) 8 5 ≤ 16 →
    ∃ t, exec (.gcmDec n) s = .next t ∧
      (if (gcmTag g.key v a d).take (fld (s.dw .cry n 4) 8 5) = s.bytes ((s.dw .cry n 6).toNat + 16) (fld (s.dw .cry n 4) 8 5) then
        Decided t .cry n { status := 0, result := s.dw .cry n 1, last := true } ∧ t.bytes (s.dw .cry n 3).toNat (ctrStream g.key (v ++ zeros 4) 2 d).length = ctrStream g.key (v ++ zeros 4) 2 d ∧ t.bank = s.bank
      else Decided t .cry n { status := 0x23, last := true } ∧ t.bytes (s.dw .cry n 3).toNat (s.dw .cry n 1).toNat = zeros (s.dw .cry n 1).toNat ∧ t.flag A.CRY_ERR 0 = true ∧
        t.reg A.CRY_AUTHCNT = satAdd (s.reg A.CRY_AUTHCNT) 0 16 1 ∧ Heard 856 s t) ∧
      t.reg A.CRY_BYTES = s.reg A.CRY_BYTES + s.dw .cry n 1 ∧ (t.cryCtx n).live = false ∧ BytesSame [((s.dw .cry n 3).toNat, (s.dw .cry n 1).toNat)] s t ∧
      t = { s with bank := t.bank, cry := t.cry, key := t.key, lr := t.lr, mem := t.mem, ramEcc := t.ramEcc, regs := t.regs,
                   rings := t.rings, waitHits := t.waitHits }) ∧
  (∀ (s : State) (n : Fin 8) (g : KeyGot) (d a v : List Byte), InHand s .cry n 0x12 → (s.cryCtx n).live = false → bit (s.dw .cry n 0) 11 = false → (s.ring .cry n).host = 0 →
    s.bytes (s.dw .cry n 2).toNat (s.dw .cry n 1).toNat = d → (s.ring .cry n).key = some g → g.iv.length = 8 →
    g.iv ++ natBe 4 g.cnt = v → s.bytes (s.dw .cry n 5).toNat (fld (s.dw .cry n 4) 16 16) = a → fld (s.dw .cry n 4) 8 5 ≤ 16 → (s.dw .cry n 3).toNat + (s.dw .cry n 1).toNat ≤ (s.dw .cry n 6).toNat →
    ∃ t, exec (.ccmEnc n) s = .next t ∧ Decided t .cry n { status := 0, result := s.dw .cry n 1, last := true } ∧
      t.bytes (s.dw .cry n 6).toNat 12 = v ∧ t.bytes (s.dw .cry n 3).toNat (ctrStream g.key (ccmCtr v) (ctrOf (ccmCtr v) + 1) d).length = ctrStream g.key (ccmCtr v) (ctrOf (ccmCtr v) + 1) d ∧
      t.bytes ((s.dw .cry n 6).toNat + 16) 16 = padTo 16 (ccmTag g.key v a d (fld (s.dw .cry n 4) 8 5)) ∧
      t.reg A.CRY_BYTES = s.reg A.CRY_BYTES + s.dw .cry n 1 ∧ (t.cryCtx n).live = false ∧ BytesSame [((s.dw .cry n 3).toNat, (s.dw .cry n 1).toNat), ((s.dw .cry n 6).toNat, 48)] s t ∧
      t = { s with bank := t.bank, cry := t.cry, key := t.key, lr := t.lr, mem := t.mem, ramEcc := t.ramEcc, regs := t.regs,
                   rings := t.rings, waitHits := t.waitHits }) ∧
  (∀ (s : State) (n : Fin 8) (g : KeyGot) (d a v : List Byte), InHand s .cry n 0x13 → (s.cryCtx n).live = false → bit (s.dw .cry n 0) 11 = false → (s.ring .cry n).host = 0 →
    s.bytes (s.dw .cry n 2).toNat (s.dw .cry n 1).toNat = d → (s.ring .cry n).key = some g →
    s.bytes (s.dw .cry n 6).toNat 12 = v → s.bytes (s.dw .cry n 5).toNat (fld (s.dw .cry n 4) 16 16) = a → fld (s.dw .cry n 4) 8 5 ≤ 16 →
    ∃ t, exec (.ccmDec n) s = .next t ∧
      (if ccmTag g.key v a (ctrStream g.key (ccmCtr v) (ctrOf (ccmCtr v) + 1) d) (fld (s.dw .cry n 4) 8 5) = s.bytes ((s.dw .cry n 6).toNat + 16) (fld (s.dw .cry n 4) 8 5) then
        Decided t .cry n { status := 0, result := s.dw .cry n 1, last := true } ∧ t.bytes (s.dw .cry n 3).toNat (ctrStream g.key (ccmCtr v) (ctrOf (ccmCtr v) + 1) d).length = ctrStream g.key (ccmCtr v) (ctrOf (ccmCtr v) + 1) d ∧ t.bank = s.bank
      else Decided t .cry n { status := 0x23, last := true } ∧ t.bytes (s.dw .cry n 3).toNat (s.dw .cry n 1).toNat = zeros (s.dw .cry n 1).toNat ∧ t.flag A.CRY_ERR 0 = true ∧
        t.reg A.CRY_AUTHCNT = satAdd (s.reg A.CRY_AUTHCNT) 0 16 1 ∧ Heard 856 s t) ∧
      t.reg A.CRY_BYTES = s.reg A.CRY_BYTES + s.dw .cry n 1 ∧ (t.cryCtx n).live = false ∧ BytesSame [((s.dw .cry n 3).toNat, (s.dw .cry n 1).toNat)] s t ∧
      t = { s with bank := t.bank, cry := t.cry, key := t.key, lr := t.lr, mem := t.mem, ramEcc := t.ramEcc, regs := t.regs,
                   rings := t.rings, waitHits := t.waitHits }) ∧
  (∀ (s : State) (n : Fin 8) (g : KeyGot) (d v : List Byte), InHand s .cry n 0x14 → (s.cryCtx n).live = false → bit (s.dw .cry n 0) 11 = false → (s.ring .cry n).host = 0 →
    s.bytes (s.dw .cry n 2).toNat (s.dw .cry n 1).toNat = d → (s.ring .cry n).key = some g → g.iv.length = 8 →
    g.iv ++ natBe 4 g.cnt = v → (s.dw .cry n 3).toNat + (s.dw .cry n 1).toNat ≤ (s.dw .cry n 6).toNat →
    ∃ t, exec (.ctrEnc n) s = .next t ∧ Decided t .cry n { status := 0, result := s.dw .cry n 1, last := true } ∧
      t.bytes (s.dw .cry n 6).toNat 12 = v ∧ t.bytes (s.dw .cry n 3).toNat (ctrStream g.key (v ++ [0#8, 0#8, 0#8, 1#8]) 1 d).length = ctrStream g.key (v ++ [0#8, 0#8, 0#8, 1#8]) 1 d ∧
      t.reg A.CRY_BYTES = s.reg A.CRY_BYTES + s.dw .cry n 1 ∧ (t.cryCtx n).live = false ∧ BytesSame [((s.dw .cry n 3).toNat, (s.dw .cry n 1).toNat), ((s.dw .cry n 6).toNat, 48)] s t ∧
      t = { s with bank := t.bank, cry := t.cry, key := t.key, lr := t.lr, mem := t.mem, ramEcc := t.ramEcc, regs := t.regs,
                   rings := t.rings, waitHits := t.waitHits }) ∧
  (∀ (s : State) (n : Fin 8) (g : KeyGot) (d v : List Byte), InHand s .cry n 0x15 → (s.cryCtx n).live = false → bit (s.dw .cry n 0) 11 = false → (s.ring .cry n).host = 0 →
    s.bytes (s.dw .cry n 2).toNat (s.dw .cry n 1).toNat = d → (s.ring .cry n).key = some g →
    s.bytes (s.dw .cry n 6).toNat 16 = v → ctrOf v + ((s.dw .cry n 1).toNat + 15) / 16 ≤ 4294967296 →
    ∃ t, exec (.ctrDec n) s = .next t ∧ Decided t .cry n { status := 0, result := s.dw .cry n 1, last := true } ∧
      t.bytes (s.dw .cry n 3).toNat (ctrStream g.key v (ctrOf v) d).length = ctrStream g.key v (ctrOf v) d ∧ t.reg A.CRY_BYTES = s.reg A.CRY_BYTES + s.dw .cry n 1 ∧ (t.cryCtx n).live = false ∧
      BytesSame [((s.dw .cry n 3).toNat, (s.dw .cry n 1).toNat)] s t ∧
      t = { s with bank := t.bank, cry := t.cry, key := t.key, lr := t.lr, mem := t.mem, ramEcc := t.ramEcc, regs := t.regs,
                   rings := t.rings, waitHits := t.waitHits }) ∧
  (∀ (s : State) (n : Fin 8) (g : KeyGot) (v : List Byte), InHand s .cry n 0x15 → (s.cryCtx n).live = false → bit (s.dw .cry n 0) 11 = false →
    (s.ring .cry n).host = 0 → (s.ring .cry n).key = some g → s.bytes (s.dw .cry n 6).toNat 16 = v → 4294967296 < ctrOf v + ((s.dw .cry n 1).toNat + 15) / 16 →
    ∃ t, exec (.ctrDec n) s = .next t ∧ Decided t .cry n { status := 0x22 } ∧ t.flag A.CRY_ERR 1 = true ∧ t.mem = s.mem ∧ Heard 857 s t ∧
      t = { s with bank := t.bank, cry := t.cry, key := t.key, lr := t.lr, mem := t.mem, ramEcc := t.ramEcc, regs := t.regs,
                   rings := t.rings, waitHits := t.waitHits }) ∧
  (∀ (s : State) (n : Fin 8) (g : KeyGot) (d : List Byte), InHand s .cry n 0x16 → (s.cryCtx n).live = false → bit (s.dw .cry n 0) 11 = false → (s.ring .cry n).host = 0 →
    s.bytes (s.dw .cry n 2).toNat (s.dw .cry n 1).toNat = d → (s.ring .cry n).key = some g → bit (s.dw .cry n 0) 12 = false →
    ∃ t, exec (.cmac n) s = .next t ∧ Decided t .cry n { status := 0, result := wd ((cmac g.key d).take (fld (s.dw .cry n 4) 8 5)).length, last := true } ∧
      t.bytes (s.dw .cry n 3).toNat ((cmac g.key d).take (fld (s.dw .cry n 4) 8 5)).length = (cmac g.key d).take (fld (s.dw .cry n 4) 8 5) ∧ t.reg A.CRY_BYTES = s.reg A.CRY_BYTES + s.dw .cry n 1 ∧ (t.cryCtx n).live = false ∧ t.bank = s.bank ∧
      BytesSame [((s.dw .cry n 3).toNat, ((cmac g.key d).take (fld (s.dw .cry n 4) 8 5)).length)] s t ∧
      t = { s with bank := t.bank, cry := t.cry, key := t.key, lr := t.lr, mem := t.mem, ramEcc := t.ramEcc, regs := t.regs,
                   rings := t.rings, waitHits := t.waitHits }) ∧
  (∀ (s : State) (n : Fin 8) (g : KeyGot) (d : List Byte), InHand s .cry n 0x16 → (s.cryCtx n).live = false → bit (s.dw .cry n 0) 11 = false → (s.ring .cry n).host = 0 →
    s.bytes (s.dw .cry n 2).toNat (s.dw .cry n 1).toNat = d → (s.ring .cry n).key = some g → bit (s.dw .cry n 0) 12 = true →
    ∃ t, exec (.cmac n) s = .next t ∧
      (if s.bytes (s.dw .cry n 3).toNat (fld (s.dw .cry n 4) 8 5) = (cmac g.key d).take (fld (s.dw .cry n 4) 8 5) then Decided t .cry n { status := 0, last := true } ∧ t.bank = s.bank
      else Decided t .cry n { status := 0x23, last := true } ∧ t.flag A.CRY_ERR 0 = true ∧
        t.reg A.CRY_AUTHCNT = satAdd (s.reg A.CRY_AUTHCNT) 0 16 1 ∧ Heard 856 s t) ∧
      t.reg A.CRY_BYTES = s.reg A.CRY_BYTES + s.dw .cry n 1 ∧ (t.cryCtx n).live = false ∧ t.mem = s.mem ∧
      t = { s with bank := t.bank, cry := t.cry, key := t.key, lr := t.lr, mem := t.mem, ramEcc := t.ramEcc, regs := t.regs,
                   rings := t.rings, waitHits := t.waitHits }) ∧
  (∀ (s : State) (n : Fin 8) (d : List Byte), InHand s .cry n 0x18 → (s.cryCtx n).live = false → bit (s.dw .cry n 0) 11 = false → (s.ring .cry n).host = 0 →
    s.bytes (s.dw .cry n 2).toNat (s.dw .cry n 1).toNat = d → bit (s.dw .cry n 0) 12 = false →
    ∃ t, exec (.sha256 n) s = .next t ∧ Decided t .cry n { status := 0, result := wd (shaHash sha256 d).length, last := true } ∧
      t.bytes (s.dw .cry n 3).toNat (shaHash sha256 d).length = shaHash sha256 d ∧ t.reg A.CRY_BYTES = s.reg A.CRY_BYTES + s.dw .cry n 1 ∧ (t.cryCtx n).live = false ∧ t.bank = s.bank ∧
      BytesSame [((s.dw .cry n 3).toNat, (shaHash sha256 d).length)] s t ∧
      t = { s with bank := t.bank, cry := t.cry, key := t.key, lr := t.lr, mem := t.mem, ramEcc := t.ramEcc, regs := t.regs,
                   rings := t.rings, waitHits := t.waitHits }) ∧
  (∀ (s : State) (n : Fin 8) (d : List Byte), InHand s .cry n 0x19 → (s.cryCtx n).live = false → bit (s.dw .cry n 0) 11 = false → (s.ring .cry n).host = 0 →
    s.bytes (s.dw .cry n 2).toNat (s.dw .cry n 1).toNat = d → bit (s.dw .cry n 0) 12 = false →
    ∃ t, exec (.sha384 n) s = .next t ∧ Decided t .cry n { status := 0, result := wd (shaHash sha384 d).length, last := true } ∧
      t.bytes (s.dw .cry n 3).toNat (shaHash sha384 d).length = shaHash sha384 d ∧ t.reg A.CRY_BYTES = s.reg A.CRY_BYTES + s.dw .cry n 1 ∧ (t.cryCtx n).live = false ∧ t.bank = s.bank ∧
      BytesSame [((s.dw .cry n 3).toNat, (shaHash sha384 d).length)] s t ∧
      t = { s with bank := t.bank, cry := t.cry, key := t.key, lr := t.lr, mem := t.mem, ramEcc := t.ramEcc, regs := t.regs,
                   rings := t.rings, waitHits := t.waitHits }) ∧
  (∀ (s : State) (n : Fin 8) (g : KeyGot) (d : List Byte), InHand s .cry n 0x1A → (s.cryCtx n).live = false → bit (s.dw .cry n 0) 11 = false → (s.ring .cry n).host = 0 →
    s.bytes (s.dw .cry n 2).toNat (s.dw .cry n 1).toNat = d → (s.ring .cry n).key = some g → bit (s.dw .cry n 0) 12 = false →
    ∃ t, exec (.hmac256 n) s = .next t ∧ Decided t .cry n { status := 0, result := wd ((hmac sha256 g.key d).take (fld (s.dw .cry n 4) 8 5)).length, last := true } ∧
      t.bytes (s.dw .cry n 3).toNat ((hmac sha256 g.key d).take (fld (s.dw .cry n 4) 8 5)).length = (hmac sha256 g.key d).take (fld (s.dw .cry n 4) 8 5) ∧ t.reg A.CRY_BYTES = s.reg A.CRY_BYTES + s.dw .cry n 1 ∧ (t.cryCtx n).live = false ∧ t.bank = s.bank ∧
      BytesSame [((s.dw .cry n 3).toNat, ((hmac sha256 g.key d).take (fld (s.dw .cry n 4) 8 5)).length)] s t ∧
      t = { s with bank := t.bank, cry := t.cry, key := t.key, lr := t.lr, mem := t.mem, ramEcc := t.ramEcc, regs := t.regs,
                   rings := t.rings, waitHits := t.waitHits }) ∧
  (∀ (s : State) (n : Fin 8) (g : KeyGot) (d : List Byte), InHand s .cry n 0x1A → (s.cryCtx n).live = false → bit (s.dw .cry n 0) 11 = false → (s.ring .cry n).host = 0 →
    s.bytes (s.dw .cry n 2).toNat (s.dw .cry n 1).toNat = d → (s.ring .cry n).key = some g → bit (s.dw .cry n 0) 12 = true →
    ∃ t, exec (.hmac256 n) s = .next t ∧
      (if s.bytes (s.dw .cry n 3).toNat (fld (s.dw .cry n 4) 8 5) = (hmac sha256 g.key d).take (fld (s.dw .cry n 4) 8 5) then Decided t .cry n { status := 0, last := true } ∧ t.bank = s.bank
      else Decided t .cry n { status := 0x23, last := true } ∧ t.flag A.CRY_ERR 0 = true ∧
        t.reg A.CRY_AUTHCNT = satAdd (s.reg A.CRY_AUTHCNT) 0 16 1 ∧ Heard 856 s t) ∧
      t.reg A.CRY_BYTES = s.reg A.CRY_BYTES + s.dw .cry n 1 ∧ (t.cryCtx n).live = false ∧ t.mem = s.mem ∧
      t = { s with bank := t.bank, cry := t.cry, key := t.key, lr := t.lr, mem := t.mem, ramEcc := t.ramEcc, regs := t.regs,
                   rings := t.rings, waitHits := t.waitHits }) ∧
  (∀ (s : State) (n : Fin 8) (g : KeyGot) (d : List Byte), InHand s .cry n 0x1B → (s.cryCtx n).live = false → bit (s.dw .cry n 0) 11 = false → (s.ring .cry n).host = 0 →
    s.bytes (s.dw .cry n 2).toNat (s.dw .cry n 1).toNat = d → (s.ring .cry n).key = some g → bit (s.dw .cry n 0) 12 = false →
    ∃ t, exec (.hmac384 n) s = .next t ∧ Decided t .cry n { status := 0, result := wd ((hmac sha384 g.key d).take (fld (s.dw .cry n 4) 8 5)).length, last := true } ∧
      t.bytes (s.dw .cry n 3).toNat ((hmac sha384 g.key d).take (fld (s.dw .cry n 4) 8 5)).length = (hmac sha384 g.key d).take (fld (s.dw .cry n 4) 8 5) ∧ t.reg A.CRY_BYTES = s.reg A.CRY_BYTES + s.dw .cry n 1 ∧ (t.cryCtx n).live = false ∧ t.bank = s.bank ∧
      BytesSame [((s.dw .cry n 3).toNat, ((hmac sha384 g.key d).take (fld (s.dw .cry n 4) 8 5)).length)] s t ∧
      t = { s with bank := t.bank, cry := t.cry, key := t.key, lr := t.lr, mem := t.mem, ramEcc := t.ramEcc, regs := t.regs,
                   rings := t.rings, waitHits := t.waitHits }) ∧
  (∀ (s : State) (n : Fin 8) (g : KeyGot) (d : List Byte), InHand s .cry n 0x1B → (s.cryCtx n).live = false → bit (s.dw .cry n 0) 11 = false → (s.ring .cry n).host = 0 →
    s.bytes (s.dw .cry n 2).toNat (s.dw .cry n 1).toNat = d → (s.ring .cry n).key = some g → bit (s.dw .cry n 0) 12 = true →
    ∃ t, exec (.hmac384 n) s = .next t ∧
      (if s.bytes (s.dw .cry n 3).toNat (fld (s.dw .cry n 4) 8 5) = (hmac sha384 g.key d).take (fld (s.dw .cry n 4) 8 5) then Decided t .cry n { status := 0, last := true } ∧ t.bank = s.bank
      else Decided t .cry n { status := 0x23, last := true } ∧ t.flag A.CRY_ERR 0 = true ∧
        t.reg A.CRY_AUTHCNT = satAdd (s.reg A.CRY_AUTHCNT) 0 16 1 ∧ Heard 856 s t) ∧
      t.reg A.CRY_BYTES = s.reg A.CRY_BYTES + s.dw .cry n 1 ∧ (t.cryCtx n).live = false ∧ t.mem = s.mem ∧
      t = { s with bank := t.bank, cry := t.cry, key := t.key, lr := t.lr, mem := t.mem, ramEcc := t.ramEcc, regs := t.regs,
                   rings := t.rings, waitHits := t.waitHits }) ∧
  (∀ (s : State) (n : Fin 8) (d : List Byte), InHand s .cry n 0x18 → (s.cryCtx n).live = false → bit (s.dw .cry n 0) 11 = true →
    (s.ring .cry n).host = 0 → s.bytes (s.dw .cry n 2).toNat (s.dw .cry n 1).toNat = d →
    ∃ t, exec (.sha256 n) s = .next t ∧ Decided t .cry n { status := 0, result := wd (16 * (((s.dw .cry n 1).toNat + 15) / 16)) } ∧
      t.cryCtx n = { live := true, op := 0x18, msg := d, pos := (s.dw .cry n 1).toNat } ∧ t.mem = s.mem ∧
      t = { s with bank := t.bank, cry := t.cry, key := t.key, lr := t.lr, mem := t.mem, ramEcc := t.ramEcc, regs := t.regs,
                   rings := t.rings, waitHits := t.waitHits }) ∧
  (∀ (s : State) (n : Fin 8), InHand s .cry n 0x10 → (s.cryCtx n).live = true → (s.cryCtx n).lost = false → (s.cryCtx n).op ≠ 0x10 →
    ∃ t, exec (.gcmEnc n) s = .next t ∧ Decided t .cry n { status := 0x10 } ∧ t.mem = s.mem ∧
      t = { s with bank := t.bank, cry := t.cry, key := t.key, lr := t.lr, mem := t.mem, ramEcc := t.ramEcc, regs := t.regs,
                   rings := t.rings, waitHits := t.waitHits }) ∧
  (∀ (s : State) (n : Fin 8), (s.cryCtx n).live = true → (s.cryCtx n).lost = true → (s.cryCtx n).told = false →
    ∃ t, exec (.cryCtxLost n) s = .next t ∧ t.cryCtx n = { s.cryCtx n with told := true } ∧ t.flag A.CRY_ERR 2 = true ∧ Heard 858 s t ∧
      RegsSame [A.CRY_ERR] s t ∧ t = { s with bank := t.bank, cry := t.cry, regs := t.regs, waitHits := t.waitHits })

/-- ECDSA_SIGN, ECDSA_VERIFY, ECDH, EPH_GEN, ECDH_EPH, ED448_SIGN, ED448_VERIFY, RAND, TRNG_STARTUP, TRNG_HEALTH, DRBG_RESEED. -/
def Obligations.PublicKeysAndRandom : Prop :=
  (∀ (s : State) (n : Fin 8) (g : KeyGot) (faulty : Bool), InHand s .pke n 0x10 → (s.ring .pke n).key = some g → (s.ring .pke n).host = 0 →
    (faulty && s.flag A.PKE_CTL 0) = false →
    (State.signLoop (curveOf g.typ) (beNat g.key) ((curveOf g.typ).digest (s.pkeData n)) 64 s).isSome = true →
    ∃ t, exec (.ecdsaSign n faulty) s = .next t ∧ Decided t .pke n { status := 0, result := wd (2 * (curveOf g.typ).bytes) } ∧
      t.bytes (s.dw .pke n 3).toNat (2 * (curveOf g.typ).bytes) =
        ((State.signLoop (curveOf g.typ) (beNat g.key) ((curveOf g.typ).digest (s.pkeData n)) 64 s).map (fun r =>
          natBe (curveOf g.typ).bytes r.1.1 ++ natBe (curveOf g.typ).bytes r.1.2)).getD [] ∧
      t.reg A.PKE_CNT = s.reg A.PKE_CNT + 1#32 ∧ BytesSame [((s.dw .pke n 3).toNat, 2 * (curveOf g.typ).bytes)] s t ∧
      t = { s with bank := t.bank, cry := t.cry, free := t.free, key := t.key, lr := t.lr, mem := t.mem, ramEcc := t.ramEcc,
                   regs := t.regs, rings := t.rings, waitHits := t.waitHits }) ∧
  (∀ (s : State) (n : Fin 8) (g : KeyGot), InHand s .pke n 0x10 → (s.ring .pke n).key = some g → s.flag A.PKE_CTL 0 = true →
    (State.signLoop (curveOf g.typ) (beNat g.key) ((curveOf g.typ).digest (s.pkeData n)) 64 s).isSome = true →
    ∃ t, exec (.ecdsaSign n true) s = .next t ∧ Decided t .pke n { status := 0x83 } ∧ t.mem = s.mem ∧ t.flag A.PKE_ERR 0 = true ∧ Heard 868 s t ∧
      t = { s with bank := t.bank, cry := t.cry, free := t.free, key := t.key, lr := t.lr, mem := t.mem, ramEcc := t.ramEcc,
                   regs := t.regs, rings := t.rings, waitHits := t.waitHits }) ∧
  (∀ (s : State) (n : Fin 8), InHand s .pke n 0x11 → (s.ring .pke n).host = 0 → fld (s.dw .pke n 5) 0 8 = 0 →
    p256.on (p256.dec (s.bytes (s.dw .pke n 3).toNat 64)) = true →
    ∃ t, exec (.ecdsaVerify n) s = .next t ∧
      (if p256.verify (p256.dec (s.bytes (s.dw .pke n 3).toNat 64)) (p256.digest (s.pkeData n)) (beNat (s.bytes ((s.dw .pke n 3).toNat + 64) 32)) (beNat (s.bytes ((s.dw .pke n 3).toNat + 96) 32)) then
        Decided t .pke n { status := 0 } ∧ t.reg A.PKE_CNT = s.reg A.PKE_CNT + 1#32
      else Decided t .pke n { status := 0x23 } ∧ t.flag A.PKE_ERR 2 = true ∧ t.reg A.PKE_CNT = s.reg A.PKE_CNT) ∧
      RegsSame [A.PKE_CNT, A.PKE_ERR] s t ∧ t = { s with regs := t.regs, rings := t.rings }) ∧
  (∀ (s : State) (n : Fin 8), InHand s .pke n 0x11 → (s.ring .pke n).host = 0 → fld (s.dw .pke n 5) 0 8 = 0 →
    p256.on (p256.dec (s.bytes (s.dw .pke n 3).toNat 64)) = false →
    ∃ t, exec (.ecdsaVerify n) s = .next t ∧ Decided t .pke n { status := 0x80 } ∧ t.flag A.PKE_ERR 1 = true ∧ RegsSame [A.PKE_ERR] s t ∧ t = { s with regs := t.regs, rings := t.rings }) ∧
  (∀ (s : State) (n : Fin 8) (g : KeyGot), InHand s .pke n 0x12 → (s.ring .pke n).key = some g → (s.ring .pke n).host = 0 →
    (s.dw .pke n 1).toNat = curvePub (g.typ - 0x10) → s.rangeReach .pke 0 .store (s.dw .pke n 3).toNat (curveSecret (g.typ - 0x10)) = true →
    (sharedSecret (g.typ - 0x10) g.key (s.pkeData n)).isSome = true →
    ∃ t, exec (.ecdh n) s = .next t ∧
      Decided t .pke n { status := 0, result := wd ((sharedSecret (g.typ - 0x10) g.key (s.pkeData n)).getD []).length } ∧
      t.bytes (s.dw .pke n 3).toNat ((sharedSecret (g.typ - 0x10) g.key (s.pkeData n)).getD []).length =
        (sharedSecret (g.typ - 0x10) g.key (s.pkeData n)).getD [] ∧ t.reg A.PKE_CNT = s.reg A.PKE_CNT + 1#32 ∧
      BytesSame [((s.dw .pke n 3).toNat, ((sharedSecret (g.typ - 0x10) g.key (s.pkeData n)).getD []).length)] s t ∧
      t = { s with bank := t.bank, cry := t.cry, key := t.key, lr := t.lr, mem := t.mem, ramEcc := t.ramEcc, regs := t.regs,
                   rings := t.rings, waitHits := t.waitHits }) ∧
  (∀ (s : State) (n : Fin 8) (d : Drbg), InHand s .pke n 0x13 → (s.ring .pke n).host = 0 → fld (s.dw .pke n 5) 0 8 = 4 → s.trngReady = true →
    s.cry.drbg = some d → s.reseedDue = false → s.flag A.TRNG_CTL 0 = false →
    ∃ t, exec (.ephGen n) s = .next t ∧ Decided t .pke n { status := 0, result := 56#32 } ∧
      t.cry.eph.get (fun _ => none) n = some (4, (d.gen 56).1) ∧ t.bytes (s.dw .pke n 3).toNat 56 = x448 (d.gen 56).1 x448Base ∧
      t.cry.drbg = some (d.gen 56).2 ∧ t.reg A.PKE_CNT = s.reg A.PKE_CNT + 1#32 ∧ BytesSame [((s.dw .pke n 3).toNat, 56)] s t ∧
      t = { s with cry := t.cry, free := t.free, lr := t.lr, mem := t.mem, ramEcc := t.ramEcc, regs := t.regs,
                   rings := t.rings }) ∧
  (∀ (s : State) (n : Fin 8) (d : Drbg), InHand s .pke n 0x13 → (s.ring .pke n).host = 0 → fld (s.dw .pke n 5) 0 8 ≤ 2 → s.trngReady = true →
    s.cry.drbg = some d → s.reseedDue = false → s.flag A.TRNG_CTL 0 = false →
    ∃ t, exec (.ephGen n) s = .next t ∧
      Decided t .pke n { status := 0, result := wd (2 * (curveOf (fld (s.dw .pke n 5) 0 8)).bytes) } ∧
      t.cry.eph.get (fun _ => none) n = (State.drawScalar (curveOf (fld (s.dw .pke n 5) 0 8)) 64 s).map (fun r =>
        (fld (s.dw .pke n 5) 0 8, natBe (curveOf (fld (s.dw .pke n 5) 0 8)).bytes r.1)) ∧
      BytesSame [((s.dw .pke n 3).toNat, 2 * (curveOf (fld (s.dw .pke n 5) 0 8)).bytes)] s t ∧
      t = { s with cry := t.cry, free := t.free, lr := t.lr, mem := t.mem, ramEcc := t.ramEcc, regs := t.regs,
                   rings := t.rings }) ∧
  (∀ (s : State) (n : Fin 8) (c : Nat) (k : List Byte), InHand s .pke n 0x14 → (s.ring .pke n).host = 0 → (c ≤ 2 ∨ c = 4) →
    fld (s.dw .pke n 5) 0 8 = c → s.cry.eph.get (fun _ => none) n = some (c, k) → (sharedSecret c k (s.pkeData n)).isSome = true →
    ∃ t, exec (.ecdhEph n) s = .next t ∧ Decided t .pke n { status := 0, result := wd ((sharedSecret c k (s.pkeData n)).getD []).length } ∧
      t.bytes (s.dw .pke n 3).toNat ((sharedSecret c k (s.pkeData n)).getD []).length = (sharedSecret c k (s.pkeData n)).getD [] ∧
      t.cry.eph.get (fun _ => none) n = none ∧ t.reg A.PKE_CNT = s.reg A.PKE_CNT + 1#32 ∧ t = { s with cry := t.cry, lr := t.lr, mem := t.mem, ramEcc := t.ramEcc, regs := t.regs, rings := t.rings, upd := t.upd }) ∧
  (∀ (s : State) (n : Fin 8), InHand s .pke n 0x14 → (fld (s.dw .pke n 5) 0 8 ≤ 2 ∨ fld (s.dw .pke n 5) 0 8 = 4) →
    s.cry.eph.get (fun _ => none) n = none →
    ∃ t, exec (.ecdhEph n) s = .next t ∧ Decided t .pke n { status := 0x81 } ∧ t = { s with rings := t.rings }) ∧
  (∀ (s : State) (n : Fin 8) (g : KeyGot) (faulty : Bool), InHand s .pke n 0x15 → (s.ring .pke n).key = some g → (s.ring .pke n).host = 0 →
    (faulty && s.flag A.PKE_CTL 0) = false →
    ∃ t, exec (.ed448Sign n faulty) s = .next t ∧ Decided t .pke n { status := 0, result := 114#32 } ∧
      t.bytes (s.dw .pke n 3).toNat 114 = edSign g.key (s.edCtx n) (s.pkeData n) ∧ t.reg A.PKE_CNT = s.reg A.PKE_CNT + 1#32 ∧
      BytesSame [((s.dw .pke n 3).toNat, 114)] s t ∧
      t = { s with bank := t.bank, cry := t.cry, key := t.key, lr := t.lr, mem := t.mem, ramEcc := t.ramEcc, regs := t.regs,
                   rings := t.rings, waitHits := t.waitHits }) ∧
  (∀ (s : State) (n : Fin 8), InHand s .pke n 0x16 → (s.ring .pke n).host = 0 →
    ∃ t, exec (.ed448Verify n) s = .next t ∧
      (edVerify (s.bytes (s.dw .pke n 3).toNat 57) (s.edCtx n) (s.pkeData n) (s.bytes ((s.dw .pke n 3).toNat + 57) 114) = none →
        Decided t .pke n { status := 0x80 } ∧ t.flag A.PKE_ERR 1 = true) ∧
      (edVerify (s.bytes (s.dw .pke n 3).toNat 57) (s.edCtx n) (s.pkeData n) (s.bytes ((s.dw .pke n 3).toNat + 57) 114) = some true →
        Decided t .pke n { status := 0 } ∧ t.reg A.PKE_CNT = s.reg A.PKE_CNT + 1#32) ∧
      (edVerify (s.bytes (s.dw .pke n 3).toNat 57) (s.edCtx n) (s.pkeData n) (s.bytes ((s.dw .pke n 3).toNat + 57) 114) = some false →
        Decided t .pke n { status := 0x23 } ∧ t.flag A.PKE_ERR 2 = true) ∧
      RegsSame [A.PKE_CNT, A.PKE_ERR] s t ∧ t = { s with regs := t.regs, rings := t.rings }) ∧
  (∀ (s : State) (n : Fin 8) (d : Drbg), InHand s .trng n 0x10 → (s.ring .trng n).host = 0 → bit (s.dw .trng n 0) 12 = false → s.trngReady = true →
    s.cry.drbg = some d → s.reseedDue = false → s.flag A.TRNG_CTL 0 = false →
    ∃ t, exec (.rand n) s = .next t ∧ Decided t .trng n { status := 0, result := s.dw .trng n 1 } ∧
      t.bytes (s.dw .trng n 2).toNat (d.gen (s.dw .trng n 1).toNat).1.length = (d.gen (s.dw .trng n 1).toNat).1 ∧
      t.cry.drbg = some (d.gen (s.dw .trng n 1).toNat).2 ∧ t.reg A.TRNG_REQS = satAdd (s.reg A.TRNG_REQS) 0 17 1 ∧
      BytesSame [((s.dw .trng n 2).toNat, (s.dw .trng n 1).toNat)] s t ∧
      t = { s with cry := t.cry, free := t.free, lr := t.lr, mem := t.mem, ramEcc := t.ramEcc, regs := t.regs,
                   rings := t.rings }) ∧
  (∀ (s : State) (n : Fin 8), InHand s .trng n 0x10 → s.trngReady = false →
    ∃ t, exec (.rand n) s = .next t ∧ Decided t .trng n { status := 0x80 } ∧ t = { s with rings := t.rings }) ∧
  (∀ (s : State), s.live .trng = true → s.trngState ≤ 1 →
    ∃ t, exec (.trngStartup true true) s = .next t ∧ t.trngState = 2 ∧ t.cry.drbg.isSome = true ∧ t.cry.seedAt = s.now ∧ t.reg A.TRNG_REQS = 0#32 ∧
      t.free = s.free + 12 ∧ t.bank = s.bank ∧ RegsSame [A.TRNG_STAT, A.TRNG_REQS] s t ∧ t = { s with bank := t.bank, cry := t.cry, free := t.free, regs := t.regs, waitHits := t.waitHits }) ∧
  (∀ (s : State) (kat : Bool), s.live .trng = true → s.trngState ≤ 1 →
    ∃ t, exec (.trngStartup false kat) s = .next t ∧ t.trngState = 3 ∧ t.cry.drbg = none ∧ t.flag A.TRNG_ERR 3 = true ∧ Heard 877 s t ∧ t = { s with bank := t.bank, cry := t.cry, free := t.free, regs := t.regs, waitHits := t.waitHits }) ∧
  (∀ (s : State) (apt : Bool), s.live .trng = true → (s.trngState = 1 ∨ s.trngState = 2) → s.recentFails.length < 2 →
    ∃ t, exec (.trngHealth apt) s = .next t ∧ t.trngState = s.trngState ∧ t.flag A.TRNG_ERR (if apt then 1 else 0) = true ∧ t.cry.drbg = s.cry.drbg ∧
      t.recentFails = s.recentFails ++ [s.now] ∧ Heard 876 s t ∧ RegsSame [A.TRNG_ERR] s t ∧ t = { s with bank := t.bank, cry := t.cry, regs := t.regs, waitHits := t.waitHits }) ∧
  (∀ (s : State) (apt : Bool), s.live .trng = true → (s.trngState = 1 ∨ s.trngState = 2) → 2 ≤ s.recentFails.length →
    ∃ t, exec (.trngHealth apt) s = .next t ∧ t.trngState = 3 ∧ t.cry.drbg = none ∧ t.flag A.TRNG_ERR 3 = true ∧ Heard 877 s t ∧ t = { s with bank := t.bank, cry := t.cry, regs := t.regs, waitHits := t.waitHits }) ∧
  (∀ (s : State) (d : Drbg), s.trngReady = true → s.reseedDue = true → s.cry.drbg = some d →
    ∃ t, exec .drbgReseed s = .next t ∧ t.cry.drbg = some (d.reseed (s.freeBytes 12).1) ∧ t.cry.seedAt = s.now ∧ t.reg A.TRNG_REQS = 0#32 ∧
      t.reg A.TRNG_RESEEDS = s.reg A.TRNG_RESEEDS + 1#32 ∧ RegsSame [A.TRNG_REQS, A.TRNG_RESEEDS] s t ∧ t = { s with cry := t.cry, free := t.free, regs := t.regs })

/-- BANK_OPEN, IMAGE_WRITE, VERIFY, ACTIVATE, COMMIT, RECOVERY_DATA, RECOVERY_END. -/
def Obligations.ImagesAndBanks : Prop :=
  (∀ (s : State) (n : Fin 8) (b a : Nat), InHand s .upd n 0x10 → s.updBank n = b → b ≤ 1 → s.bankBusy b = false → s.nextSeq < 4294967296 →
    bankBase b ≤ a → a < bankBase b + 0x400000 →
    ∃ t, exec (.bankOpen n) s = .next t ∧ t.byte a = 0xFF#8 ∧ t.bankState b = 1 ∧ t.bankGen b = s.nextSeq ∧
      Decided t .upd n { status := 0, result := wd s.nextSeq } ∧ BytesSame [(bankBase b, 0x400000), (recAddr b 0, 512)] s t ∧
      t = { s with bank := t.bank, erases := t.erases, flashEcc := t.flashEcc, lr := t.lr, mem := t.mem, ramEcc := t.ramEcc,
                   regs := t.regs, rings := t.rings, waitHits := t.waitHits, wearTold := t.wearTold }) ∧
  (∀ (s : State) (n : Fin 8), InHand s .upd n 0x10 → (1 < s.updBank n ∨ s.bankBusy (s.updBank n) = true) →
    ∃ t, exec (.bankOpen n) s = .next t ∧ Decided t .upd n { status := 0x14 } ∧ t = { s with rings := t.rings }) ∧
  (∀ (s : State) (n : Fin 8) (b : Nat) (g : KeyGot) (x : WriteCtx), InHand s .upd n 0x11 → s.updBank n = b → b ≤ 1 → s.bankBusy b = false →
    s.bankState b = 1 → s.upd.wr.get (fun _ => none) n = some x → x.bank = b → bit (s.dw .upd n 0) 12 = false → bit (s.dw .upd n 0) 11 = true →
    (s.dw .upd n 1).toNat % 16 = 0 → x.pos + (s.dw .upd n 1).toNat ≤ x.total → (s.ring .upd n).key = some g → (s.ring .upd n).host = 0 →
    ∃ t, exec (.imageWrite n) s = .next t ∧ Decided t .upd n { status := 0, result := s.dw .upd n 1 } ∧
      t.mem = (s.flashProgram (bankBase b + x.pos) (ctrStream g.key ((x.header.drop 12).take 12 ++ zeros 4) (2 + x.pos / 16)
        (s.bytes (s.dw .upd n 2).toNat (s.dw .upd n 1).toNat))).mem ∧
      (t.upd.wr.get (fun _ => none) n).map (fun y => (y.bank, y.pos, y.total)) = some (b, x.pos + (s.dw .upd n 1).toNat, x.total) ∧
      t = { s with bank := t.bank, cry := t.cry, erases := t.erases, flashEcc := t.flashEcc, key := t.key, lr := t.lr,
                   mem := t.mem, ramEcc := t.ramEcc, regs := t.regs, rings := t.rings, upd := t.upd, waitHits := t.waitHits,
                   wearTold := t.wearTold }) ∧
  (∀ (s : State) (n : Fin 8) (b : Nat), InHand s .upd n 0x11 → s.updBank n = b → s.bankState b ≠ 1 →
    (bit (s.dw .upd n 0) 11 = true → (s.dw .upd n 1).toNat % 16 = 0) →
    ∃ t, exec (.imageWrite n) s = .next t ∧ Decided t .upd n { status := 0x14 } ∧ t.upd.wr.get (fun _ => none) n = none ∧ t.mem = s.mem ∧
      t = { s with bank := t.bank, cry := t.cry, erases := t.erases, flashEcc := t.flashEcc, key := t.key, lr := t.lr,
                   mem := t.mem, ramEcc := t.ramEcc, regs := t.regs, rings := t.rings, upd := t.upd, waitHits := t.waitHits,
                   wearTold := t.wearTold }) ∧
  (∀ (s : State) (n : Fin 8) (b : Nat), InHand s .upd n 0x12 → s.updBank n = b → b ≤ 1 → s.bankBusy b = false → (s.bankState b = 1 ∨ s.bankState b = 6) →
    s.nextSeq < 4294967296 →
    ∃ t, exec (.verify n) s = .next t ∧
      (s.verifyImage b = 0 → t.bankState b = 2 ∧ Decided t .upd n { status := 0, result := wd (leField (s.imgHeader b) 12 4) } ∧ Heard 900 s t) ∧
      (s.verifyImage b ≠ 0 → Decided t .upd n { status := 0x80, result := wd (s.verifyImage b) } ∧ t = { s with rings := t.rings }) ∧
      BytesSame [(recAddr b 0, 512)] s t ∧
      t = { s with bank := t.bank, erases := t.erases, flashEcc := t.flashEcc, lr := t.lr, mem := t.mem, ramEcc := t.ramEcc,
                   regs := t.regs, rings := t.rings, waitHits := t.waitHits, wearTold := t.wearTold }) ∧
  (∀ (s : State) (n : Fin 8) (b : Nat), InHand s .upd n 0x13 → s.updBank n = b → b ≤ 1 → s.bankState b = 2 → s.nextSeq < 4294967296 →
    ∃ t, exec (.activate n) s = .next t ∧ t.bankState b = 3 ∧ t.bankSeq b = s.nextSeq ∧ t.bankGen b = s.bankGen b ∧
      Decided t .upd n { status := 0, result := wd s.nextSeq } ∧ t.bank = s.bank ∧ BytesSame [(recAddr b 0, 512)] s t ∧
      t = { s with bank := t.bank, erases := t.erases, flashEcc := t.flashEcc, lr := t.lr, mem := t.mem, ramEcc := t.ramEcc,
                   regs := t.regs, rings := t.rings, waitHits := t.waitHits, wearTold := t.wearTold }) ∧
  (∀ (s : State) (n : Fin 8) (b : Nat), InHand s .upd n 0x17 → s.updBank n = b → b ≤ 1 → s.bankState b = 2 → s.nextSeq < 4294967296 →
    (∀ c : Fin 4, c ≠ 1 → (s.runSect (sectType c)).map (fun x => x.bank) = some b ∧ (s.healthOf c).confirmed = true ∧ (s.healthOf c).bank = b) →
    ∃ t, exec (.commit n) s = .next t ∧ t.bankState b = 5 ∧ Decided t .upd n { status := 0, result := wd s.nextSeq } ∧ Heard 908 s t ∧
      ((s.bankFlags b).testBit 0 = true → (s.bankFlags b).testBit 1 = true ∨ t.svnFloor = s.svnFloor) ∧
      t.rings = (s.setRing .upd n (t.ring .upd n)).rings ∧
      t = { s with bank := t.bank, erases := t.erases, flashEcc := t.flashEcc, lr := t.lr, mem := t.mem, ramEcc := t.ramEcc,
                   regs := t.regs, rings := t.rings, upd := t.upd, waitHits := t.waitHits, wearTold := t.wearTold }) ∧
  (∀ (s : State) (p : List Byte) (c : BitVec 16), s.pmu.recovery = true → p.length ≤ 1024 → crc16 ([0x01#8] ++ natLe 2 p.length ++ p) = c.toNat →
    s.upd.recOpen = true →
    ∃ t, exec (.recoveryData p c) s = .next t ∧ t.upd.recBuf = s.upd.recBuf ++ p ∧ t.upd.recAns = [0x06#8] ∧ t = { s with upd := t.upd }) ∧
  (∀ (s : State) (p : List Byte) (c : BitVec 16), s.pmu.recovery = true → p.length ≤ 1024 → crc16 ([0x01#8] ++ natLe 2 p.length ++ p) = c.toNat →
    s.upd.recOpen = false → s.nextSeq < 4294967296 →
    ∃ t, exec (.recoveryData p c) s = .next t ∧ t.upd.recBuf = p ∧ t.upd.recOpen = true ∧ t.upd.recAns = [0x06#8] ∧ t.bankState 0 = 1 ∧
      BytesSame [(bankBase 0, 0x400000), (recAddr 0 0, 512)] s t ∧
      t = { s with bank := t.bank, erases := t.erases, flashEcc := t.flashEcc, free := t.free, lr := t.lr, mem := t.mem,
                   ramEcc := t.ramEcc, regs := t.regs, upd := t.upd, waitHits := t.waitHits, wearTold := t.wearTold }) ∧
  (∀ (s : State) (p : List Byte) (c : BitVec 16), s.pmu.recovery = true → crc16 ([0x01#8] ++ natLe 2 p.length ++ p) ≠ c.toNat →
    ∃ t, exec (.recoveryData p c) s = .next t ∧ t.upd.recAns.head? = some 0x15#8 ∧ t.upd.recAns.length = 2 ∧ t.upd.recBuf = s.upd.recBuf ∧
      t.mem = s.mem ∧ t.free = s.free + 1 ∧
      t = { s with bank := t.bank, erases := t.erases, flashEcc := t.flashEcc, free := t.free, lr := t.lr, mem := t.mem,
                   ramEcc := t.ramEcc, regs := t.regs, upd := t.upd, waitHits := t.waitHits, wearTold := t.wearTold }) ∧
  (∀ (s : State) (p : List Byte) (c : BitVec 16), s.pmu.recovery = true → crc16 ([0x02#8] ++ natLe 2 p.length ++ p) = c.toNat → s.nextSeq < 4294967294 →
    ∃ t, exec (.recoveryEnd p c) s = .next t ∧ t.upd.recBuf = [] ∧ t.upd.recOpen = false ∧
      (t.upd.recAns = [0x06#8] → t.bankState 0 = 3 ∧ t.pmu.rstDue = 1 ∧ t.verifyImage 0 = 0) ∧
      (t.upd.recAns ≠ [0x06#8] → t.upd.recAns.head? = some 0x15#8 ∧ t.pmu = s.pmu) ∧
      (s.upd.recOpen = false → t.upd.recAns = [0x15#8, 0x19#8] ∧ t.bankState 0 = 6) ∧
      BytesSame [(bankBase 0, 0x400000), (recAddr 0 0, 512)] s t ∧
      t = { s with bank := t.bank, erases := t.erases, flashEcc := t.flashEcc, free := t.free, lr := t.lr, mem := t.mem,
                   pmu := t.pmu, ramEcc := t.ramEcc, regs := t.regs, upd := t.upd, waitHits := t.waitHits,
                   wearTold := t.wearTold })

/-- CUTIN_ARM, E_SWITCH, P_SWITCH, CUTIN_SWITCH, COLD_SWITCH, STOP_SWITCH, STATE_SEND, STATE_RECV, UPD_HEALTH_WRITE,
HEALTH_WINDOW_CLOSE, UPD_REVERT_REQ, UPD_REVACK, REVERT_TIMEOUT, RESET_PATH, SAFE_NEW_TIMEOUT. -/
def Obligations.CutInsAndFallback : Prop :=
  (∀ (s : State) (n : Fin 8) (b : Nat) (x : Sect), InHand s .upd n 0x14 → (s.ring .upd n).aux = 0 → (s.ring .upd n).host = 0 →
    s.byte (s.dw .upd n 2).toNat = 1#8 → leNat (s.bytes ((s.dw .upd n 2).toNat + 4) 4) = b → s.section b 1 = some x → s.coreState mH1 = 1 → s.domOn 3 = true →
    b ≤ 1 → s.bankState b = 2 → s.bankBusy b = false → (s.armedCut 0).isNone = true →
    ∃ t, exec (.cutinArm n) s = .next t ∧ t.coreState mH1 = 2 ∧ t.flag A.UPD_STAT 1 = true ∧ t.upd.h1Bank = some b ∧
      t.armedCut 0 = some { ring := some n, sect := x } ∧ (t.ring .upd n).done = none ∧ t = { s with bank := t.bank, regs := t.regs, rings := t.rings, upd := t.upd, waitHits := t.waitHits }) ∧
  (∀ (s : State) (n : Fin 8) (c b : Nat), InHand s .upd n 0x14 → (s.ring .upd n).aux = 0 → (s.ring .upd n).host = 0 → (c = 2 ∨ c = 3) →
    (s.byte (s.dw .upd n 2).toNat).toNat = c → leNat (s.bytes ((s.dw .upd n 2).toNat + 4) 4) = b →
    s.cutStatus c b (leNat (s.bytes ((s.dw .upd n 2).toNat + 8) 4)) (leNat (s.bytes ((s.dw .upd n 2).toNat + 12) 4))
      (cutRegions (s.bytes (s.dw .upd n 2).toNat 64)) = none →
    ∃ t, exec (.cutinArm n) s = .next t ∧ (t.ring .upd n).done = none ∧
      t.armedCut c = some { ring := some n, winLo := leNat (s.bytes ((s.dw .upd n 2).toNat + 8) 4),
                            winHi := leNat (s.bytes ((s.dw .upd n 2).toNat + 12) 4),
                            regions := cutRegions (s.bytes (s.dw .upd n 2).toNat 64), sect := (s.section b c).getD {} } ∧
      t = { s with rings := t.rings, upd := t.upd }) ∧
  (∀ (s : State) (x : Cutin) (back : Bool) (i : Nat), s.waiting 2 = some (x, back) → s.crkCrosses x.winLo = true → s.domState 0 = 3 →
    s.windowFree x.winLo x.winHi = true → s.noSem mE = true → s.crkInstant x.winHi = some i → s.now + switchT x.regions ≤ i →
    ∃ t, exec .eSwitch s = .next t ∧ t.coreState 2 = 3 ∧
      t.upd.sw.get (fun _ => none) 2 = some { cut := x, kind := if back then 2 else 1, at_ := s.now, angle := s.angleReg 0 } ∧
      RegsSame [A.CORE_STAT] s t ∧ t = { s with regs := t.regs, upd := t.upd }) ∧
  (∀ (s : State) (x : Cutin) (back : Bool), s.waiting 3 = some (x, back) → x.winLo < 3 → (s.grp x.winLo).start / 32 = s.now → s.grpState x.winLo = 2 →
    (back = true ∨ s.commitsHeld = true) → s.reg A.TRIP_LATCH = 0#32 → s.noSem mP = true →
    ∃ t, exec .pSwitch s = .next t ∧ t.coreState 3 = 3 ∧
      t.upd.sw.get (fun _ => none) 3 = some { cut := x, kind := if back then 2 else 1, at_ := s.now, angle := 0#32 } ∧
      RegsSame [A.CORE_STAT] s t ∧ t = { s with regs := t.regs, upd := t.upd }) ∧
  (∀ (s : State) (c : Fin 4) (w : Switching) (n : Fin 8), 2 ≤ c → s.upd.sw.get (fun _ => none) c = some w → w.at_ + switchT w.cut.regions ≤ s.now → w.kind ≠ 2 →
    w.cut.ring = some n.val →
    ∃ t, exec (.cutinSwitch c) s = .next t ∧ t.coreState c = 2 ∧ t.flag A.UPD_STAT (14 + c) = !s.flag A.UPD_STAT (14 + c) ∧ t.runSect c = some w.cut.sect ∧
      t.upd.sw.get (fun _ => none) c = none ∧ t.cutOf c = none ∧ Decided t .upd n { status := 0, result := wd w.at_ } ∧
      (t.healthOf c).isOpen = true ∧ (t.healthOf c).openAt = s.now ∧ (t.healthOf c).bank = w.cut.sect.bank ∧ (t.healthOf c).old = (s.runSect c).getD {} ∧
      t.word 0x50000314 = s.word 0x50000314 + 1#32 ∧ t.viewWords c (coreRam c + 0xFFC0) 2 = [0x4E545543#32, wd (w.kind % 256)] ∧
      Heard 901 s t ∧ Heard 903 s t ∧
      t = { s with bank := t.bank, erases := t.erases, flashEcc := t.flashEcc, lr := t.lr, mem := t.mem, ramEcc := t.ramEcc,
                   regs := t.regs, rings := t.rings, upd := t.upd, waitHits := t.waitHits, wearTold := t.wearTold }) ∧
  (∀ (s : State) (c : Fin 4) (x : Cutin), 2 ≤ c → s.armedCut c = some x → x.cold = true → s.stopHeld c s.stopT = true →
    ∃ t, exec (.coldSwitch c) s = .next t ∧ t.coreState c = 2 ∧ t.flag A.UPD_STAT (14 + c) = !s.flag A.UPD_STAT (14 + c) ∧ t.runSect c = some x.sect ∧
      t.cutOf c = none ∧ (t.healthOf c).isOpen = true ∧ (t.healthOf c).bank = x.sect.bank ∧ Heard 901 s t ∧ Heard 903 s t ∧
      t = { s with bank := t.bank, cry := t.cry, lr := t.lr, mem := t.mem, ramEcc := t.ramEcc, regs := t.regs,
                   semRes := t.semRes, upd := t.upd, waitHits := t.waitHits }) ∧
  (∀ (s : State) (c : Fin 4) (x : Cutin) (back : Bool), 2 ≤ c → s.waiting c = some (x, back) → s.stopHeld c (if back then 0 else s.stopT) = true →
    ∃ t, exec (.stopSwitch c) s = .next t ∧ t.coreState c = 3 ∧
      (t.upd.sw.get (fun _ => none) c).map (fun w => (w.cut, w.kind, w.at_)) = some (x, if back then 2 else 3, s.now) ∧ RegsSame [A.CORE_STAT] s t ∧ t = { s with regs := t.regs, upd := t.upd }) ∧
  (∀ (s : State) (n : Fin 8), InHand s .upd n 0x15 → (s.ring .upd n).aux = 0 → (s.ring .upd n).host = s.primaryHost → s.primaryHost = 0 →
    (∀ i : Fin 4, i ≠ 1 → i.val ≠ n.val → s.inHand .upd i = none) → n.val ≠ 1 → n < 4 → InHand s .upd 1 0x16 → (s.ring .upd 1).aux ≠ 0 →
    (s.ring .upd 1).host = 1 → (s.dw .upd n 1).toNat ≤ (s.dw .upd 1 1).toNat →
    ∃ t, exec (.stateSend n) s = .next t ∧ Decided t .upd n { status := 0, result := s.dw .upd n 1 } ∧
      Decided t .upd 1 { status := 0, result := s.dw .upd n 1 } ∧
      t.bytes (s.dw .upd 1 2).toNat (s.dw .upd n 1).toNat = s.bytes (s.dw .upd n 2).toNat (s.dw .upd n 1).toNat ∧
      BytesSame [((s.dw .upd 1 2).toNat, (s.dw .upd n 1).toNat)] s t ∧ t = { s with lr := t.lr, mem := t.mem, ramEcc := t.ramEcc, rings := t.rings, upd := t.upd }) ∧
  (∀ (s : State) (n : Fin 8), InHand s .upd n 0x16 → (s.ring .upd n).aux = 0 → (s.ring .upd n).host ≠ s.primaryHost →
    (∀ i : Fin 4, i.val ≠ n.val → s.inHand .upd i = none) →
    ∃ t, exec (.stateRecv n) s = .next t ∧ (t.ring .upd n).aux = s.upd.started + 1 ∧ t.upd.started = s.upd.started + 1 ∧
      (t.ring .upd n).done = (s.ring .upd n).done ∧ t.mem = s.mem ∧ t = { s with lr := t.lr, mem := t.mem, ramEcc := t.ramEcc, rings := t.rings, upd := t.upd }) ∧
  (∀ (s : State) (m : Fin 8) (c : Nat), s.Unhindered .upd m A.UPD_HEALTH → s.healthCore m = some c → (s.healthOf c).isOpen = true → (s.healthOf c).fromStart = false →
    ∃ t, exec (.updHealthWrite m .word 0x600D#32) s = .next t ∧ t.healthOf c = { s.healthOf c with isOpen := false, confirmed := true } ∧ Heard 904 s t ∧
      RegsSame [A.UPD_HEALTH] s t ∧ t.mem = s.mem ∧
      t = { s with ang := t.ang, bank := t.bank, chg := t.chg, comp := t.comp, eng := t.eng, erases := t.erases,
                   flashEcc := t.flashEcc, free := t.free, gates := t.gates, lr := t.lr, mem := t.mem, ports := t.ports,
                   ramEcc := t.ramEcc, regs := t.regs, rings := t.rings, upd := t.upd, waitHits := t.waitHits,
                   wearTold := t.wearTold, wires := t.wires }) ∧
  (∀ (s : State) (m : Fin 8) (c : Nat), s.Unhindered .upd m A.UPD_HEALTH → s.healthCore m = some c → (s.healthOf c).isOpen = true → (s.healthOf c).fromStart = false →
    (s.healthOf c).revert = 0 →
    ∃ t, exec (.updHealthWrite m .word 0xBAD0#32) s = .next t ∧ t.healthOf c = { s.healthOf c with revert := 1, revAt := s.now } ∧
      t.flag A.UPD_STAT 3 = true ∧ Heard 906 s t ∧ t.mem = s.mem ∧
      t = { s with ang := t.ang, bank := t.bank, chg := t.chg, comp := t.comp, eng := t.eng, erases := t.erases,
                   flashEcc := t.flashEcc, free := t.free, gates := t.gates, lr := t.lr, mem := t.mem, ports := t.ports,
                   ramEcc := t.ramEcc, regs := t.regs, rings := t.rings, upd := t.upd, waitHits := t.waitHits,
                   wearTold := t.wearTold, wires := t.wires }) ∧
  (∀ (s : State) (c : Fin 4), (s.healthOf c).isOpen = true → (s.healthOf c).fromStart = false → (s.healthOf c).revert = 0 →
    (s.healthOf c).openAt + 4 * s.hwTime ≤ s.now →
    ∃ t, exec (.healthWindowClose c) s = .next t ∧ t.healthOf c = { s.healthOf c with isOpen := false, revert := 1, revAt := s.now } ∧
      t.flag A.UPD_ERR 2 = true ∧ t.flag A.UPD_STAT 3 = true ∧ Heard 909 s t ∧ Heard 906 s t ∧ t.mem = s.mem ∧
      t = { s with ang := t.ang, bank := t.bank, chg := t.chg, eng := t.eng, erases := t.erases, flashEcc := t.flashEcc,
                   free := t.free, gates := t.gates, lr := t.lr, mem := t.mem, ramEcc := t.ramEcc, regs := t.regs,
                   rings := t.rings, upd := t.upd, waitHits := t.waitHits, wearTold := t.wearTold, wires := t.wires }) ∧
  (∀ (s : State) (c : Fin 4), 2 ≤ c → (s.healthOf c).isOpen = true → (s.healthOf c).fromStart = false → (s.healthOf c).revert = 0 →
    (gateDefs.any (fun d => s.live d.win && s.gateHost d.win d.g == c.val && s.flag (gateA d.win d.g + 4) 3 &&
      decide ((s.healthOf c).openAt ≤ (s.gate d.win d.g).escAt))) = true →
    ∃ t, exec (.updRevertReq c) s = .next t ∧ t.healthOf c = { s.healthOf c with revert := 1, revAt := s.now } ∧ t.flag A.UPD_STAT 3 = true ∧
      Heard 906 s t ∧ t.mem = s.mem ∧
      t = { s with ang := t.ang, bank := t.bank, chg := t.chg, eng := t.eng, erases := t.erases, flashEcc := t.flashEcc,
                   free := t.free, gates := t.gates, lr := t.lr, mem := t.mem, ramEcc := t.ramEcc, regs := t.regs,
                   rings := t.rings, upd := t.upd, waitHits := t.waitHits, wearTold := t.wearTold, wires := t.wires }) ∧
  (∀ (s : State) (m : Fin 8), s.Unhindered .upd m A.UPD_REVACK → s.healthCore m = some 0 → (s.healthOf 0).revert = 1 → s.now ≤ (s.healthOf 0).revAt + s.revT →
    ∃ t, exec (.updRevack m .word 0xACC#32) s = .next t ∧ t.healthOf 0 = { s.healthOf 0 with revert := 2, revAt := s.now } ∧
      RegsSame [A.UPD_REVACK] s t ∧ t.mem = s.mem ∧
      t = { s with ang := t.ang, bank := t.bank, chg := t.chg, comp := t.comp, eng := t.eng, erases := t.erases,
                   flashEcc := t.flashEcc, free := t.free, gates := t.gates, lr := t.lr, mem := t.mem, ports := t.ports,
                   ramEcc := t.ramEcc, regs := t.regs, rings := t.rings, upd := t.upd, waitHits := t.waitHits,
                   wearTold := t.wearTold, wires := t.wires }) ∧
  (∀ (s : State) (c : Fin 4), (s.healthOf c).revert = 1 → (s.healthOf c).revAt + s.revT < s.now → (s.upd.sw.get (fun _ => none) c).isNone = true →
    s.upd.resetAt = none → (s.healthOf c).bank ≤ 1 → s.nextSeq < 4294967296 →
    ∃ t, exec (.revertTimeout c) s = .next t ∧ (t.healthOf c).revert = 0 ∧ t.flag A.UPD_ERR 4 = true ∧ t.upd.resetAt = some s.now ∧ t.upd.resetStage = 0 ∧
      t.bankState (s.healthOf c).bank = 6 ∧ t.word 0x50000310 = s.word 0x50000310 + 1#32 ∧ Heard 905 s t ∧
      t = { s with ang := t.ang, bank := t.bank, chg := t.chg, eng := t.eng, erases := t.erases, flashEcc := t.flashEcc,
                   free := t.free, gates := t.gates, lr := t.lr, mem := t.mem, ramEcc := t.ramEcc, regs := t.regs,
                   rings := t.rings, upd := t.upd, waitHits := t.waitHits, wearTold := t.wearTold, wires := t.wires }) ∧
  (∀ (s : State) (i : Nat), s.upd.resetAt = some i → s.upd.resetStage = 0 → i + 40000000 ≤ s.now → s.now < i + 80000000 → 2 ≤ s.domState 0 → s.now < i + s.stopT →
    s.live .pwm = true →
    ∃ t, exec .resetPath s = .next t ∧ t.upd.resetStage = 1 ∧ t.field A.PWM_CTL 0 3 = 0 ∧ t.pmu.rstDue = s.pmu.rstDue ∧ t = { s with bank := t.bank, pmu := t.pmu, pwr := t.pwr, regs := t.regs, upd := t.upd, waitHits := t.waitHits }) ∧
  (∀ (s : State) (i : Nat), s.upd.resetAt = some i → s.upd.resetStage = 1 → i + 80000000 ≤ s.now → i + s.stopT ≤ s.now →
    ∃ t, exec .resetPath s = .next t ∧ t.upd = { s.upd with resetStage := 2 } ∧ t.pmu = { s.pmu with rstDue := 1 } ∧ t = { s with upd := t.upd, pmu := t.pmu }) ∧
  (∀ (s : State) (i : Nat), s.upd.safeAt = some i → s.flag A.BOOT_STAT 4 = false → i + 40000000 ≤ s.now → s.nextSeq < 4294967296 →
    ∃ t, exec .safeNewTimeout s = .next t ∧ t.bankState (s.field A.BOOT_STAT 0 1) = 6 ∧ t.upd.safeAt = none ∧ t.upd.carry = 0x21 ∧
      t.field A.BOOT_STAT 24 8 = 0x21 ∧ t.pmu.rstDue = 1 ∧
      t = { s with bank := t.bank, erases := t.erases, flashEcc := t.flashEcc, lr := t.lr, mem := t.mem, pmu := t.pmu,
                   ramEcc := t.ramEcc, regs := t.regs, upd := t.upd, waitHits := t.waitHits, wearTold := t.wearTold })

/-- UPD_OWN_MOVE, UPD_OWN_MOVE_BACK. -/
def Obligations.HostHandover : Prop :=
  (∀ (s : State) (x : Cutin) (n : Fin 8), s.PairReady .upd mH1 A.UPD_OWN 1#32 → s.flag A.UPD_OWN 0 = false → s.armedCut 0 = some x → x.ring = some n.val →
    (s.sem (s.field A.UPD_CTL 0 6)).state = 1 → (s.sem (s.field A.UPD_CTL 0 6)).owner = mH1 →
    (∀ i : Fin 64, (s.sem i).state = 1 → (s.sem i).owner ≠ mH0) →
    ∃ t, exec (.updOwnMove 1 .word) s = .next t ∧ t.flag A.UPD_OWN 0 = true ∧ t.flag A.UPD_STAT 0 = true ∧ t.primaryHost = 1 ∧ t.upd.moveSet = s.moveEntries ∧
      (∀ i : Fin 1216, bit (t.route i) 0 = false ∧ (bit (s.route i) 0 = true → bit (t.route i) 1 = true)) ∧
      (∀ k : Fin 8, t.mbxSender k = (if s.mbxSender k = 0 then 1 else s.mbxSender k) ∧
        t.mbxReceiver k = (if s.mbxReceiver k = 0 then 1 else s.mbxReceiver k) ∧
        t.field A.TB_CMP_OWN (4 * k) 4 = (if s.field A.TB_CMP_OWN (4 * k) 4 = 0 then 1 else s.field A.TB_CMP_OWN (4 * k) 4)) ∧
      Decided t .upd n { status := 0, result := s.tick } ∧ t.runSect 1 = some x.sect ∧ t.cutOf 0 = none ∧ (t.healthOf 0).isOpen = true ∧
      (t.healthOf 0).old = (s.runSect 1).getD {} ∧ Heard 901 { s with routes := t.routes } t ∧
      t = { s with bank := t.bank, cfc := t.cfc, comp := t.comp, erases := t.erases, flashEcc := t.flashEcc, lr := t.lr,
                   mem := t.mem, pmu := t.pmu, ports := t.ports, ramEcc := t.ramEcc, regs := t.regs, rings := t.rings,
                   routes := t.routes, upd := t.upd, waitHits := t.waitHits, wearTold := t.wearTold }) ∧
  (∀ (s : State), s.PairReady .upd mH1 A.UPD_OWN 1#32 → s.flag A.UPD_OWN 0 = false → s.armedCut 0 = none →
    ∃ t, exec (.updOwnMove 1 .word) s = .next t ∧ t.flag A.UPD_OWN 0 = false ∧ t.reg A.UPD_OWNINFO = 2#32 ∧ t.flag A.UPD_ERR 0 = true ∧ Heard 909 s t ∧
      t.routes = s.routes ∧ t.mem = s.mem) ∧
  (∀ (s : State), s.PairReady .upd mH1 A.UPD_OWN 0#32 → s.flag A.UPD_OWN 0 = true → (s.healthOf 0).revert = 0 →
    ∃ t, exec (.updOwnMoveBack 1 .word) s = .next t ∧ t.flag A.UPD_OWN 0 = false ∧ t.flag A.UPD_STAT 0 = false ∧ t.primaryHost = 0 ∧ t.upd.moveSet = [] ∧
      t.runSect 1 = some (s.healthOf 0).old ∧ t.mem = s.mem ∧
      t = { s with bank := t.bank, cfc := t.cfc, comp := t.comp, erases := t.erases, flashEcc := t.flashEcc, lr := t.lr,
                   mem := t.mem, pmu := t.pmu, ports := t.ports, ramEcc := t.ramEcc, regs := t.regs, rings := t.rings,
                   routes := t.routes, upd := t.upd, waitHits := t.waitHits, wearTold := t.wearTold })

/-- SAF_START, SAF_CYCLE, SAF_INPUT_SAMPLE, TEST_PULSE, SAF_WATCHDOG, SAF_CLOCK_HALT. -/
def Obligations.SafetyChannels : Prop :=
  (∀ (s : State) (c : Fin 2), s.coreRuns (safCore c) = true → (s.saf1 c).started = false → s.safSectionOk c = true → s.paramsOk c = true →
    ∃ t, exec (.safStart c true) s = .next t ∧ (t.saf1 c).started = true ∧ (t.saf1 c).compared = false ∧ (t.saf1 c).crc = s.safCrc c ∧
      (t.saf1 c).comm = (s.word (safRam c + 0xBFE4) == s.safCrc c) ∧ (t.saf1 c).kickAt = s.now ∧
      (∀ f : Fin 8, s.fnUsed c f = true → ((t.saf1 c).fnOf f).st = 3) ∧ (c = 0 → t.reg A.SAF_PCRC = s.safCrc 0)) ∧
  (∀ (s : State) (c : Fin 2) (test : Bool), s.coreRuns (safCore c) = true → (s.saf1 c).started = false → s.safSectionOk c = false →
    ∃ t, exec (.safStart c test) s = .next t ∧ t.field A.SAF_HALT (8 * c) 8 = 1 ∧ t.coreRuns (safCore c) = false ∧ t.safActive c = false ∧
      
      (∀ k : Fin 5, s.sourceLive 935 = true → bit (s.route 935) k = true → 2 ≤ s.coreState k → bit (t.banked k (pendAddr 935)) (935 % 32) = true) ∧
      t = { s with ang := t.ang, bank := t.bank, cry := t.cry, eng := t.eng, erases := t.erases, flashEcc := t.flashEcc,
                   free := t.free, lr := t.lr, mem := t.mem, pwr := t.pwr, ramEcc := t.ramEcc, regs := t.regs,
                   rings := t.rings, saf := t.saf, semRes := t.semRes, upd := t.upd, waitHits := t.waitHits,
                   wearTold := t.wearTold, wires := t.wires }) ∧
  (∀ (s : State) (c : Fin 2), s.safActive c = true → (s.saf1 c).lastMs ≠ some (s.now / 400000) → (s.saf1 c).comm = false →
    ∃ t, exec (.safCycle c) s = .next t ∧ (t.saf1 c).cycle = ((s.saf1 c).cycle + 1) % 4294967296 ∧ (t.saf1 c).lastMs = some (s.now / 400000) ∧
      (t.saf1 c).kickAt = s.now ∧ t.reg (safXc c 0) = wd ((s.saf1 c).cycle + 1) ∧ t.reg (safXc c 1) = s.tick ∧ t.reg (safXc c 5) = (s.saf1 c).crc ∧
      t.reg (safXc c 7) = crc32c ((List.range 7).map (fun i => t.reg (safXc c i))) ∧ t.flag (safCtl c) 4 = true ∧ t.flag (safCtl c) 5 = true ∧
      t.field (safCtl c) 0 4 = 0 ∧
      t = { s with ang := t.ang, bank := t.bank, cry := t.cry, eng := t.eng, erases := t.erases, flashEcc := t.flashEcc,
                   free := t.free, lr := t.lr, mem := t.mem, pwr := t.pwr, ramEcc := t.ramEcc, regs := t.regs,
                   rings := t.rings, saf := t.saf, semRes := t.semRes, upd := t.upd, waitHits := t.waitHits,
                   wearTold := t.wearTold, wires := t.wires }) ∧
  (∀ (s : State) (c : Fin 2) (v : BitVec 16), s.safActive c = true → (∀ i : Fin 16, s.pb c (0x11 + 4 * i) = 0) →
    ∃ t, exec (.safInputSample c v) s = .next t ∧ (if c = 0 then t.wires.sia else t.wires.sib) = v ∧ (t.saf1 c).raw = v.toNat ∧
      (∀ i : Fin 16, (t.saf1 c).deb.testBit i =
        (if v.getLsbD i = (s.saf1 c).deb.testBit i ∨ (s.saf1 c).cnt.get (fun _ => 0) i + 1 < s.pb c (0x12 + 4 * i) then (s.saf1 c).deb.testBit i
         else v.getLsbD i)) ∧
      t.saf1 (1 - c.val) = s.saf1 (1 - c.val) ∧ t = { s with saf := t.saf, wires := t.wires }) ∧
  (∀ (s : State) (c : Fin 2) (v : BitVec 16), s.safActive c = false →
    ∃ t, exec (.safInputSample c v) s = .next t ∧ (if c = 0 then t.wires.sia else t.wires.sib) = v ∧ t = { s with wires := t.wires }) ∧
  (∀ (s : State) (c : Fin 2) (k : Fin 4) (mid post : BitVec 16) (i : Fin 16), s.safActive c = true → s.pb c (0x11 + 4 * i) = k + 1 →
    (s.saf1 c).raw.testBit i = true → mid.getLsbD i = true →
    ∃ t, exec (.testPulse c k mid post) s = .next t ∧ (t.saf1 c).tpFault.testBit i = true ∧ (t.saf1 c).tpPass.get (fun _ => 0) i = 0 ∧
      ((s.saf1 c).tpFault.testBit i = false → t.flag A.SAF_ERR 2 = true ∧ Heard 933 s t) ∧ RegsSame [A.SAF_ERR] s t ∧ t = { s with bank := t.bank, regs := t.regs, saf := t.saf, waitHits := t.waitHits }) ∧
  (∀ (s : State) (c : Fin 2) (k : Fin 4) (mid post : BitVec 16) (i : Fin 16), s.safActive c = true → s.pb c (0x11 + 4 * i) = k + 1 →
    (s.saf1 c).raw.testBit i = true → mid.getLsbD i = false →
    ∃ t, exec (.testPulse c k mid post) s = .next t ∧ (t.saf1 c).tpPass.get (fun _ => 0) i = (s.saf1 c).tpPass.get (fun _ => 0) i + 1 ∧
      (t.saf1 c).tpFault.testBit i = ((s.saf1 c).tpFault.testBit i && decide ((s.saf1 c).tpPass.get (fun _ => 0) i = 0)) ∧ t = { s with bank := t.bank, regs := t.regs, saf := t.saf, waitHits := t.waitHits }) ∧
  (∀ (s : State) (c : Fin 2), s.safActive c = true → (s.saf1 c).kickAt + 640000 ≤ s.now →
    ∃ t, exec (.safWatchdog c) s = .next t ∧ t.field A.SAF_HALT (8 * c) 8 = 7 ∧ t.safState = 3 ∧ t.safActive c = false ∧ (t.saf1 c).cmd = 0 ∧
      (if c = 0 then t.wires.sta && t.saf.pta else t.wires.stb && t.saf.ptb) = true ∧ 
      (∀ k : Fin 5, s.sourceLive 935 = true → bit (s.route 935) k = true → 2 ≤ s.coreState k → bit (t.banked k (pendAddr 935)) (935 % 32) = true) ∧
      t = { s with ang := t.ang, bank := t.bank, cry := t.cry, eng := t.eng, free := t.free, lr := t.lr, mem := t.mem,
                   pwr := t.pwr, ramEcc := t.ramEcc, regs := t.regs, rings := t.rings, saf := t.saf, semRes := t.semRes,
                   upd := t.upd, waitHits := t.waitHits, wires := t.wires }) ∧
  (∀ (s : State) (c : Fin 2), s.coreRuns (safCore c) = true → s.flag A.CLK_ERR (13 + c) = true →
    ∃ t, exec (.safClockHalt c) s = .next t ∧ t.field A.SAF_HALT (8 * c) 8 = 8 ∧ t.safState = 3 ∧ t.safActive c = false ∧
      (if c = 0 then t.wires.sta && t.saf.pta else t.wires.stb && t.saf.ptb) = true ∧ 
      (∀ k : Fin 5, s.sourceLive 935 = true → bit (s.route 935) k = true → 2 ≤ s.coreState k → bit (t.banked k (pendAddr 935)) (935 % 32) = true) ∧
      t = { s with ang := t.ang, bank := t.bank, cry := t.cry, eng := t.eng, free := t.free, lr := t.lr, mem := t.mem,
                   pwr := t.pwr, ramEcc := t.ramEcc, regs := t.regs, rings := t.rings, saf := t.saf, semRes := t.semRes,
                   upd := t.upd, waitHits := t.waitHits, wires := t.wires })

/-- ELEMENT_READBACK, DARK_TEST, EDM_CHECK, MANUAL_RESET, STOP1_EXPIRY, TCC_OPEN_EDGE, SAF_CMD_UNLOCK, SAF_COMM_WRITE,
COMMISSION_PROGRAM, COMMISSION_TIMEOUT. -/
def Obligations.SafetyOutputs : Prop :=
  (∀ (s : State) (c : Fin 2) (n : Fin 4) (on : Bool), s.safActive c = false →
    ∃ t, exec (.elementReadback c n on) s = .next t ∧ t.wires.sofb.getLsbD (2 * n + c) = on ∧
      (∀ k : Fin 8, k.val ≠ 2 * n + c → t.wires.sofb.getLsbD k = s.wires.sofb.getLsbD k) ∧ t.saf = s.saf ∧ t.mem = s.mem ∧
      t = { s with ang := t.ang, bank := t.bank, chg := t.chg, eng := t.eng, free := t.free, lr := t.lr, mem := t.mem,
                   pwr := t.pwr, ramEcc := t.ramEcc, rcm := t.rcm, regs := t.regs, rings := t.rings, saf := t.saf,
                   waitHits := t.waitHits, wires := t.wires }) ∧
  (∀ (s : State) (c : Fin 2) (n : Fin 4), s.safActive c = true → (s.saf1 c).cmdAt.get (fun _ => 0) n + 400000 ≤ s.now → s.role c n ≠ 0xFF →
    (s.saf1 c).cmd.testBit n = false → (s.saf1 c).stuck.testBit n = false →
    ∃ t, exec (.elementReadback c n true) s = .next t ∧ (t.saf1 c).stuck.testBit n = true ∧ t.wires.sofb.getLsbD (2 * n + c) = true ∧
      t.flag A.SAF_ERR 4 = true ∧ t.flag A.SAF_CTLA n = false ∧ t.flag A.SAF_CTLB n = false ∧ Heard 934 s t ∧
      t = { s with ang := t.ang, bank := t.bank, chg := t.chg, eng := t.eng, free := t.free, lr := t.lr, mem := t.mem,
                   pwr := t.pwr, ramEcc := t.ramEcc, rcm := t.rcm, regs := t.regs, rings := t.rings, saf := t.saf,
                   waitHits := t.waitHits, wires := t.wires }) ∧
  (∀ (s : State) (c : Fin 2) (n : Fin 4), s.safActive c = true → (s.saf1 c).cmd.testBit n = true → s.soOn n = true →
    ∃ t, exec (.darkTest c n false) s = .next t ∧ (t.saf1 c).stuck.testBit n = true ∧ t.saf.drop.testBit n = true ∧ t.flag A.SAF_ERR 4 = true ∧
      t.flag A.SAF_ERR 5 = true ∧ t.flag A.SAF_CTLA n = false ∧ t.flag A.SAF_CTLB n = false ∧ (t.saf1 c).cmd.testBit n = false ∧ Heard 934 s t ∧
      t = { s with ang := t.ang, bank := t.bank, eng := t.eng, free := t.free, lr := t.lr, mem := t.mem, pwr := t.pwr,
                   ramEcc := t.ramEcc, regs := t.regs, rings := t.rings, saf := t.saf, waitHits := t.waitHits,
                   wires := t.wires }) ∧
  (∀ (s : State) (c : Fin 2) (n : Fin 4), True → ∃ t, exec (.darkTest c n true) s = .next t ∧ t = s) ∧
  (∀ (s : State) (n : Fin 4), s.safActive 0 = true → s.role 0 n ≠ 0xFF → s.ob 0 n 4 ≠ 0xFF → s.released 0 n = (s.saf1 0).cmd.testBit n →
    s.saf.edm.testBit n = false → s.saf.edmAt.get (fun _ => 0) n + s.oh 0 n 6 * 400000 ≤ s.now →
    ∃ t, exec (.edmCheck n) s = .next t ∧ t.saf.edm.testBit n = true ∧ t.flag A.SAF_ERR 6 = true ∧ t.flag A.SAF_CTLA n = false ∧
      t.flag A.SAF_CTLB n = false ∧ Heard 934 s t ∧
      t = { s with ang := t.ang, bank := t.bank, eng := t.eng, free := t.free, lr := t.lr, mem := t.mem, pwr := t.pwr,
                   ramEcc := t.ramEcc, regs := t.regs, rings := t.rings, saf := t.saf, waitHits := t.waitHits,
                   wires := t.wires }) ∧
  (∀ (s : State) (c : Fin 2), s.safActive c = true → (s.saf1 c).reset = true → s.flag A.SAF_STAT 9 = false →
    ∃ t, exec .manualReset s = .next t ∧ (t.saf1 c).reset = false ∧
      (∀ f : Fin 8, ((t.saf1 c).fnOf f).st = (if ((s.saf1 c).fnOf f).st = 4 then 1 else ((s.saf1 c).fnOf f).st)) ∧
      (∀ n : Fin 4, s.saf.drop.testBit n = true → s.role 0 n = 1 → s.role 1 n = 1 → t.saf.drop.testBit n = true) ∧ t = { s with bank := t.bank, regs := t.regs, saf := t.saf, waitHits := t.waitHits }) ∧
  (∀ (s : State) (f : Fin 8), s.safActive 0 = true → s.fnUsed 0 f = true → ((s.saf1 0).fnOf f).st = 2 →
    ((s.saf1 0).fnOf f).since + s.fh 0 f 10 * 400000 ≤ s.now →
    ∃ t, exec (.stop1Expiry f) s = .next t ∧ ((t.saf1 0).fnOf f).st = 3 ∧
      t = { s with ang := t.ang, bank := t.bank, eng := t.eng, free := t.free, lr := t.lr, mem := t.mem, pwr := t.pwr,
                   ramEcc := t.ramEcc, regs := t.regs, rings := t.rings, saf := t.saf, waitHits := t.waitHits,
                   wires := t.wires }) ∧
  (∀ (s : State), True → ∃ t, exec .tccOpenEdge s = .next t ∧ (t.saf1 0).latch = false ∧ (t.saf1 1).latch = false ∧
      t = { s with ang := t.ang, bank := t.bank, eng := t.eng, free := t.free, lr := t.lr, mem := t.mem, pwr := t.pwr,
                   ramEcc := t.ramEcc, regs := t.regs, rings := t.rings, saf := t.saf, waitHits := t.waitHits,
                   wires := t.wires }) ∧
  (∀ (s : State) (m : Fin 8) (v : Word), s.Unhindered .saf m A.SAF_CMD → m.val = s.primaryHost →
    ∃ t, exec (.safCmdUnlock m .word v) s = .next t ∧ t.field A.SAF_CMD 0 8 = v.toNat % 256 ∧ RegsSame [A.SAF_CMD] s t ∧ t = { s with bank := t.bank, comp := t.comp, ports := t.ports, regs := t.regs, waitHits := t.waitHits }) ∧
  (∀ (s : State) (m : Fin 8) (v : Word), s.PairReady .saf m A.SAF_COMM v → m.val = s.primaryHost → s.notComm = true → s.flag A.SAF_STAT 8 = false →
    ∃ t, exec (.safCommWrite m .word v) s = .next t ∧ t.reg A.SAF_COMM = v ∧ t.flag A.SAF_STAT 9 = true ∧ t.saf = { s.saf with commAt := s.now } ∧
      RegsSame [A.SAF_COMM, A.SAF_STAT] s t ∧ t = { s with bank := t.bank, comp := t.comp, ports := t.ports, regs := t.regs, saf := t.saf, waitHits := t.waitHits }) ∧
  (∀ (s : State), s.flag A.SAF_STAT 8 = true → s.domOn 17 = true → s.reg A.COMM_REQA = s.reg A.COMM_REQB → s.commRow = none →
    ∃ t, exec (.commissionProgram true) s = .next t ∧ (t.saf1 0).comm = true ∧ (t.saf1 1).comm = true ∧ t.reg A.SAF_CCRC = s.reg A.COMM_REQA ∧
      t.flag A.SAF_STAT 8 = false ∧ t.commRecord = (s.reg A.COMM_REQA, 1#32) ∧ Heard 936 s t ∧ BytesSame [(0x08801800, 64)] s t ∧
      t = { s with bank := t.bank, lr := t.lr, mem := t.mem, ramEcc := t.ramEcc, regs := t.regs, saf := t.saf,
                   waitHits := t.waitHits }) ∧
  (∀ (s : State), s.flag A.SAF_STAT 9 = true → s.saf.commAt + 4000000000 ≤ s.now →
    ∃ t, exec .commissionTimeout s = .next t ∧ t.flag A.SAF_STAT 9 = false ∧ t.flag A.SAF_STAT 8 = false ∧ t.flag A.SAF_ERR 7 = true ∧ Heard 937 s t ∧
      RegsSame [A.SAF_STAT, A.SAF_ERR] s t ∧ t = { s with bank := t.bank, regs := t.regs, waitHits := t.waitHits })

/-- LS_SET, LS_CLR, LS_LCLR, LS_FORWARD, LSIN_EDGE, LS_CURRENT_LIMIT, LS_RESTART, RST_CNT_CLEAR, LS_DERATE_STEP, LS_OVERLOAD,
LS_OFF_TEST. -/
def Obligations.LoadSwitches : Prop :=
  (∀ (s : State) (m : Fin 8) (v : Word), s.Unhindered .lsw m A.LS_SET → (∀ i : Fin 16, bit v i = true → s.lsOwner i = m) →
    ∃ t, exec (.lsSet m .word v) s = .next t ∧ (∀ i : Fin 16, t.flag A.LS_CMD i = (s.flag A.LS_CMD i || bit v i)) ∧
      RegsSame [A.LS_CMD] s t ∧ t.bank = s.bank ∧ t = { s with bank := t.bank, comp := t.comp, ports := t.ports, regs := t.regs, waitHits := t.waitHits }) ∧
  (∀ (s : State) (m : Fin 8) (v : Word) (k : Fin 16), s.Unhindered .lsw m A.LS_CLR → bit v k = true → s.lsOwner k ≠ m →
    ∃ t, exec (.lsClr m .word v) s = .next t ∧
      (∀ i : Fin 16, t.flag A.LS_CMD i = (s.flag A.LS_CMD i && !(bit v i && s.lsOwner i == m.val))) ∧ t.flag A.LS_ERR 0 = true ∧ Heard 967 s t ∧
      RegsSame [A.LS_CMD, A.LS_ERR] s t ∧ t = { s with bank := t.bank, comp := t.comp, ports := t.ports, regs := t.regs, waitHits := t.waitHits }) ∧
  (∀ (s : State) (m : Fin 8) (v : Word) (i : Fin 16), s.Unhindered .lsw m A.LS_LCLR → bit v i = true → s.lsState i = 7 → s.lsWanted i = false → s.lsOn i = false →
    ∃ t, exec (.lsLclr m .word v) s = .next t ∧ t.lsState i ≠ 7 ∧ t.lsRst i = 0 ∧ t.field (A.LS_DIAG i) 4 2 = 0 ∧ (t.lsCh i).overs = 0 ∧
      t.lsOn i = false ∧
      t = { s with bank := t.bank, comp := t.comp, lsw := t.lsw, ports := t.ports, regs := t.regs, rings := t.rings,
                   waitHits := t.waitHits }) ∧
  (∀ (s : State), s.linkUp = true → s.flag A.LML_STAT 2 = false → s.live .lsw = true → s.safeHolds 5 = false →
    s.lsw.fwd ≠ some (s.reg A.LS_MODE, s.reg A.LS_CMD) →
    ∃ t, exec .lsForward s = .next t ∧ t.lsw = { s.lsw with fwd := some (s.reg A.LS_MODE, s.reg A.LS_CMD) } ∧
      t.link.queue = s.link.queue ++ [lsReq A.LS_MODE (s.reg A.LS_MODE), lsReq A.LS_CMD (s.reg A.LS_CMD)] ∧ t = { s with link := t.link, lsw := t.lsw, regs := t.regs }) ∧
  (∀ (s : State), s.linkUp = false → ∃ t, exec .lsForward s = .next t ∧ t = s) ∧
  (∀ (s : State) (i : Fin 16) (on : Bool), fld s.lsw.mode (2 * i) 2 = 2 → s.lsState i < 6 → s.lsw.lowPower = false → s.wires.hot = false → s.wires.pdrst = false →
    ∃ t, exec (.lsinEdge i on) s = .next t ∧ t.flag A.LS_STAT (16 + i) = on ∧ t.lsOn i = on ∧ (on ≠ s.lsOn i → (t.lsCh i).since = s.now) ∧
      t.lsw.mode = s.lsw.mode ∧ t = { s with bank := t.bank, lsw := t.lsw, regs := t.regs, rings := t.rings, waitHits := t.waitHits }) ∧
  (∀ (s : State) (i : Fin 16) (temp : Int), s.lsOn i = true → (s.lsCh i).limAt = none → temp < 1650 →
    ∃ t, exec (.lsCurrentLimit i true temp) s = .next t ∧ (t.lsCh i).limAt = some s.now ∧ t.lsOn i = true ∧
      t.field (A.LS_DIAG i) 16 16 = (ofSigned 16 temp) ∧ t = { s with bank := t.bank, lsw := t.lsw, regs := t.regs, rings := t.rings, waitHits := t.waitHits }) ∧
  (∀ (s : State) (i : Fin 16) (temp : Int) (k : Nat), s.lsOn i = true → (s.lsCh i).limAt = some k → (k + lsLimT i * 400000 ≤ s.now ∨ 1650 ≤ temp) →
    s.lsRst i < fld (s.lsCfg i) 4 4 →
    ∃ t, exec (.lsCurrentLimit i true temp) s = .next t ∧ t.lsOn i = false ∧ t.lsState i = 6 ∧ (t.lsCh i).offAt = s.now ∧ (t.lsCh i).acc = 0 ∧
      t.lsRst i = s.lsRst i ∧ t = { s with bank := t.bank, lsw := t.lsw, regs := t.regs, rings := t.rings, waitHits := t.waitHits }) ∧
  (∀ (s : State) (i : Fin 16) (temp : Int), s.lsOn i = true → 1650 ≤ temp → fld (s.lsCfg i) 4 4 ≤ s.lsRst i →
    ∃ t, exec (.lsCurrentLimit i true temp) s = .next t ∧ t.lsOn i = false ∧ t.lsState i = 7 ∧ t.field (A.LS_DIAG i) 4 2 = 1 ∧ Heard 966 s t ∧ t = { s with bank := t.bank, lsw := t.lsw, regs := t.regs, rings := t.rings, waitHits := t.waitHits }) ∧
  (∀ (s : State) (i : Fin 16) (temp : Int), s.lsState i = 6 → (s.lsCh i).offAt + fld (s.lsCfg i) 24 8 * 400000 ≤ s.now → temp ≤ 1500 → s.lsWanted i = true →
    s.lsw.lowPower = false → s.wires.hot = false → s.lsRst i < 15 →
    ∃ t, exec (.lsRestart i temp) s = .next t ∧ t.lsOn i = true ∧ t.lsState i < 6 ∧ t.lsRst i = s.lsRst i + 1 ∧ (t.lsCh i).since = s.now ∧ Heard 965 s t ∧ t = { s with bank := t.bank, lsw := t.lsw, regs := t.regs, rings := t.rings, waitHits := t.waitHits }) ∧
  (∀ (s : State) (i : Fin 16), s.lsState i ≠ 7 → s.lsOn i = true → (s.lsCh i).since + 400000000 ≤ (s.lsCh i).acc + s.now →  (s.lsCh i).since ≤ s.now →
    ∃ t, exec (.rstCntClear i) s = .next t ∧ t.lsRst i = 0 ∧ RegsSame [A.LS_DIAG i] s t ∧ t = { s with regs := t.regs }) ∧
  (∀ (s : State) (i : Fin 16) (temp : Int),
    ∃ t, exec (.lsDerateStep i temp) s = .next t ∧
      t = (s.lsTemp i temp).loopStep .lsw i [(0, if 10 * (fld (s.lsCfg i) 16 8 : Nat) ≤ temp then (s.elem .lsw i 0 : Int) - 10
        else if temp ≤ 10 * (fld (s.lsCfg i) 16 8 : Nat) - 100 then (s.elem .lsw i 0 : Int) + 5 else s.elem .lsw i 0)] ∧ t = { s with bank := t.bank, elems := t.elems, loops := t.loops, regs := t.regs, waitHits := t.waitHits }) ∧
  (∀ (s : State) (i : Fin 16), s.lsOn i = true → lsRated i * s.elem .lsw i 0 < 1000 * (s.field (A.LS_CUR i) 16 12 * lsLsb i) →
    (s.lsCh i).overs + 1 ≤ fld (s.lsCfg i) 8 8 →
    ∃ t, exec (.lsOverload i) s = .next t ∧ (t.lsCh i).overs = (s.lsCh i).overs + 1 ∧ t.regs = s.regs ∧ t = { s with bank := t.bank, lsw := t.lsw, regs := t.regs, rings := t.rings, waitHits := t.waitHits }) ∧
  (∀ (s : State) (i : Fin 16), s.lsOn i = true → lsRated i * s.elem .lsw i 0 < 1000 * (s.field (A.LS_CUR i) 16 12 * lsLsb i) →
    fld (s.lsCfg i) 8 8 ≤ (s.lsCh i).overs →
    ∃ t, exec (.lsOverload i) s = .next t ∧ t.lsOn i = false ∧ t.lsState i = 7 ∧ t.field (A.LS_DIAG i) 4 2 = 2 ∧ Heard 966 s t ∧ t = { s with bank := t.bank, lsw := t.lsw, regs := t.regs, rings := t.rings, waitHits := t.waitHits }) ∧
  (∀ (s : State) (i : Fin 16) (ol : Bool), s.lsOn i = false → (s.lsCh i).since + 200000 ≤ s.now → bit (s.lsCfg i) 2 = true → s.lsState i < 6 →
    ∃ t, exec (.lsOffTest i true ol) s = .next t ∧ (t.lsCh i).offDiag = 4 ∧ t.lsState i = 4 ∧ (s.lsState i ≠ 4 → t.flag A.LS_ERR (16 + i) = true ∧ Heard 964 s t) ∧
      t = { s with bank := t.bank, lsw := t.lsw, regs := t.regs, rings := t.rings, waitHits := t.waitHits }) ∧
  (∀ (s : State) (i : Fin 16), s.lsOn i = false → (s.lsCh i).since + 200000 ≤ s.now → bit (s.lsCfg i) 1 = true → s.lsState i < 6 →
    ∃ t, exec (.lsOffTest i false true) s = .next t ∧ (t.lsCh i).offDiag = 3 ∧ t.lsState i = 3 ∧ t = { s with bank := t.bank, lsw := t.lsw, regs := t.regs, rings := t.rings, waitHits := t.waitHits })

/-- LS_CURRENT_SAMPLE, CUR_STREAM, DIAG_WAIT, DIAG_SNAP. -/
def Obligations.LoadSamplesAndLogs : Prop :=
  (∀ (s : State) (i : Fin 16) (code : BitVec 12) (q : BitVec 8), s.linkUp = true → s.live .lsw = true → (∀ k : Fin 4, s.logging .lsw k 0x10 = false) →
    ∃ t, exec (.lsCurrentSample i code q) s = .next t ∧ (t.lsCh i).samples = (code.toNat :: (s.lsCh i).samples).take 100 ∧ (t.lsCh i).seq = some q.toNat ∧
      t.field (A.LS_CUR i) 0 12 = code.toNat ∧
      t.field (A.LS_CUR i) 16 12 = (t.lsCh i).samples.foldl (· + ·) 0 / (t.lsCh i).samples.length % 4096 ∧
      ((s.lsCh i).seq.isSome = true → (s.lsCh i).seq ≠ some ((q.toNat + 255) % 256) → (s.lsCh i).seq.getD 0 < 256 → t.flag A.LS_ERR 1 = true) ∧
      t.mem = s.mem ∧
      t = { s with bank := t.bank, lr := t.lr, lsw := t.lsw, mem := t.mem, ramEcc := t.ramEcc, regs := t.regs,
                   rings := t.rings, waitHits := t.waitHits }) ∧
  (∀ (s : State) (i : Fin 16) (code : BitVec 12) (q : BitVec 8), s.linkUp = true → s.live .lsw = true → s.logging .lsw 1 0x10 = true →
    (∀ k : Fin 4, k ≠ 1 → s.logging .lsw k 0x10 = false) → bit (s.dw .lsw 1 4) i = true → fld (s.dw .lsw 1 4) 16 16 ≤ 1 → (s.ring .lsw 1).host = 0 →
    (s.ring .lsw 1).count = 0 → 8 < (s.dw .lsw 1 1).toNat →
    ∃ t, exec (.lsCurrentSample i code q) s = .next t ∧ (t.ring .lsw 1).count = 1 ∧ (t.ring .lsw 1).done = none ∧
      t.field (A.LS_CUR i) 0 12 = code.toNat ∧ t.word (s.dw .lsw 1 2).toNat = wd ((s.now + 2 ^ 64 - 1200) % 2 ^ 64) ∧
      fld (t.word ((s.dw .lsw 1 2).toNat + 4)) 0 12 = code.toNat ∧ fld (t.word ((s.dw .lsw 1 2).toNat + 4)) 12 4 = i ∧
      fld (t.word ((s.dw .lsw 1 2).toNat + 4)) 24 8 = q.toNat ∧ BytesSame [((s.dw .lsw 1 2).toNat, 8)] s t ∧
      t = { s with bank := t.bank, lr := t.lr, lsw := t.lsw, mem := t.mem, ramEcc := t.ramEcc, regs := t.regs,
                   rings := t.rings, waitHits := t.waitHits }) ∧
  (∀ (s : State) (n : Fin 8), InHand s .lsw n 0x10 → (s.ring .lsw n).aux = 0 → fld (s.dw .lsw n 5) 0 16 ≠ 0 → fld (s.dw .lsw n 4) 0 16 ≠ 0 →
    1 ≤ fld (s.dw .lsw n 4) 16 16 → fld (s.dw .lsw n 4) 16 16 ≤ 1000 →
    ∃ t, exec (.curStream n) s = .next t ∧ t.ring .lsw n = { s.ring .lsw n with aux := 1, t0 := s.now } ∧
      (∀ i : Fin 16, t.lsw.dec.get (fun _ => 0) (n * 16 + i) = 0 ∧ t.lsw.gap.get (fun _ => false) (n * 16 + i) = false) ∧ t = { s with lsw := t.lsw, rings := t.rings }) ∧
  (∀ (s : State) (n : Fin 8), InHand s .lsw n 0x10 → (s.ring .lsw n).aux = 0 → fld (s.dw .lsw n 5) 0 16 ≠ 0 → fld (s.dw .lsw n 4) 0 16 = 0 →
    ∃ t, exec (.curStream n) s = .next t ∧ Decided t .lsw n { status := 0x80 } ∧ t = { s with rings := t.rings }) ∧
  (∀ (s : State) (n : Fin 8), InHand s .lsw n 0x11 → (s.ring .lsw n).aux = 0 → fld (s.dw .lsw n 5) 0 16 ≠ 0 → fld (s.dw .lsw n 4) 0 16 ≠ 0 →
    ∃ t, exec (.diagWait n) s = .next t ∧ t.ring .lsw n = { s.ring .lsw n with aux := 1, t0 := s.now } ∧ t = { s with rings := t.rings }) ∧
  (∀ (s : State) (n : Fin 8), InHand s .lsw n 0x12 → (s.ring .lsw n).host = 0 →
    ∃ t, exec (.diagSnap n) s = .next t ∧ Decided t .lsw n { status := 0, result := 16#32 } ∧
      (∀ i : Fin 16, t.word ((s.dw .lsw n 2).toNat + 4 * i) = s.reg (A.LS_DIAG i)) ∧ BytesSame [((s.dw .lsw n 2).toNat, 64)] s t ∧ t = { s with lr := t.lr, mem := t.mem, ramEcc := t.ramEcc, rings := t.rings })

/-- UART_CHAR_RECEIVED, UART_CHAR_SENT, U_DATA_READ, U_DATA_WRITE, UART_WAKE, FLOW_SEND, XOFF_TMO, UART_TX, UART_RX, UART_RX_IDLE,
BREAK, KLINE_INIT_FAST, KLINE_INIT_5BAUD, KLINE_ECHO_MISMATCH. -/
def Obligations.Uarts : Prop :=
  (∀ (s : State) (p : Fin 6) (c : BitVec 9), p < 2 → s.uOn p = true → s.uRing p = false → s.uPhy p = 0 → s.field (uA p A.U_FRAME) 0 2 = 1 →
    s.uCtl p 6 = false → (s.uart p).rx = [] → (s.uart p).lost = false → (s.uart p).de = false →
    ∃ t, exec (.uartCharReceived p c false false false) s = .next t ∧ (t.uart p).rx = [c.toNat % 256] ∧ (t.uart p).rxAt = s.now ∧
      t.reg (uA p A.U_CNT) = wrapAdd (s.reg (uA p A.U_CNT)) 0 16 1 ∧ Heard ((uartWin p).ringSource + 2) s t ∧ RegsSame [uA p A.U_CNT] s t ∧
      t = { s with bank := t.bank, lr := t.lr, mem := t.mem, ramEcc := t.ramEcc, regs := t.regs, rings := t.rings,
                   ser := t.ser, waitHits := t.waitHits }) ∧
  (∀ (s : State) (p : Fin 6) (c : BitVec 9) (brk : Bool), 2 ≤ p → s.uOn p = true → s.uPhy p = 0 → s.field (uA p A.U_FRAME) 0 2 = 1 → (s.uart p).rx.length < 64 →
    s.logging (uartWin p) 1 0x11 = false → (s.uart p).de = false →
    ∃ t, exec (.uartCharReceived p c true false brk) s = .next t ∧
      (t.uart p).rx = (s.uart p).rx ++ [(if brk then 0 else c.toNat % 256) + (if brk then 0x1C00 else 0x400)] ∧
      t.reg (uA p A.U_CNT) = wrapAdd (wrapAdd (s.reg (uA p A.U_CNT)) 0 16 1) 16 16 1 ∧ Heard ((uartWin p).ringSource + 2) s t ∧
      Heard ((uartWin p).ringSource + 3) s t ∧ t.mem = s.mem ∧
      t = { s with bank := t.bank, lr := t.lr, mem := t.mem, ramEcc := t.ramEcc, regs := t.regs, rings := t.rings,
                   ser := t.ser, waitHits := t.waitHits }) ∧
  (∀ (s : State) (p : Fin 6) (c : Nat), (s.uart p).shift = some (.data c) → (s.uart p).tx = [] → (s.uart p).flow = [] → s.uSending p = false →
    (s.uart p).de = false →
    ∃ t, exec (.uartCharSent p) s = .next t ∧ (t.uart p).shift = none ∧ (t.uart p).txEmpty = true ∧ Heard ((uartWin p).ringSource + 5) s t ∧
      t.rings = s.rings ∧ t = { s with bank := t.bank, rings := t.rings, ser := t.ser, waitHits := t.waitHits }) ∧
  (∀ (s : State) (m : Fin 8) (p : Fin 6) (e : Nat), s.CanRead (uartWin p) m → s.uRing p = false → (s.uart p).rx = [e] →
    ∃ t, exec (.uDataRead m p) s = .next t ∧ t.port m = ⟨wd (e % 512), .ok⟩ ∧ (t.uart p).rx = [] ∧
      (t.uart p).flags = (s.uart p).flags &&& (0x3C - ((s.uart p).shown &&& 0x3C)) ∧ PortsSame [m] s t ∧ RegsSame [] s t ∧
      t = { s with bank := t.bank, bil := t.bil, free := t.free, link := t.link, met := t.met, ports := t.ports,
                   regs := t.regs, ser := t.ser, waitHits := t.waitHits }) ∧
  (∀ (s : State) (m : Fin 8) (p : Fin 6) (v : Word), s.Unhindered (uartWin p) m (uA p A.U_DATA) → s.uRing p = false → (s.uart p).tx = [] →
    (s.uart p).shift = none → (s.uart p).flow = [] → (s.uart p).paused = none → s.uOn p = true → s.uHeld p = false → s.uPhy p = 0 → s.uNine p = false →
    s.uSending p = false →
    ∃ t, exec (.uDataWrite m p .word v) s = .next t ∧ (t.uart p).shift = some (.data (v.toNat % 256)) ∧ (t.uart p).tx = [] ∧ t = { s with bank := t.bank, comp := t.comp, ports := t.ports, regs := t.regs, ser := t.ser, waitHits := t.waitHits }) ∧
  (∀ (s : State) (p : Fin 6) (c : BitVec 9), p < 2 → s.pmu.mode = .standby → s.uCtl p 0 = true → s.uCtl p 4 = true → s.uCtl p 5 = true → s.uNine p = true →
    c.getLsbD 8 = true → c.toNat % 256 = s.field (uA p A.U_ADDR) 0 8 → s.flag A.WAKE_EN (4 + p) = true →
    ∃ t, exec (.uartWake p c) s = .next t ∧ t.pmu.mode ≠ .standby ∧ t.word (0x20103FFC - 4 * p) = wd (0x5A000000 + c.toNat)) ∧
  (∀ (s : State) (p : Fin 6), 2 ≤ p → s.uOn p = true → s.uCtl p 7 = true → (s.uart p).xoffSent = false → fld (s.reg (uA p A.U_FLOW)) 24 6 ≤ (s.uart p).rx.length →
    (s.uart p).shift.isSome = true →
    ∃ t, exec (.flowSend p) s = .next t ∧ (t.uart p).flow = (s.uart p).flow ++ [fld (s.reg (uA p A.U_FLOW)) 8 8] ∧ (t.uart p).xoffSent = true ∧ t = { s with ser := t.ser }) ∧
  (∀ (s : State) (p : Fin 6) (i : Nat), (s.uart p).paused = some i → s.field (uA p A.U_XOFF_T) 0 16 ≠ 0 →
    i + s.field (uA p A.U_XOFF_T) 0 16 * 400000 ≤ s.now →
    ∃ t, exec (.xoffTmo p) s = .next t ∧ (t.uart p).paused = none ∧ t.flag (uA p A.U_ERR) 2 = true ∧ RegsSame [uA p A.U_ERR] s t ∧
      (s.uSending p = true → Decided t (uartWin p) 0 { status := 0x83, result := wd (s.ring (uartWin p) 0).count }) ∧ t = { s with regs := t.regs, rings := t.rings, ser := t.ser }) ∧
  (∀ (s : State) (p : Fin 6), InHand s (uartWin p) 0 0x10 → (s.ring (uartWin p) 0).aux = 0 → (s.ring (uartWin p) 0).host = 0 → s.uRing p = true → s.uHeld p = false → s.uOn p = true →
    s.dw (uartWin p) 0 1 ≠ 0#32 → s.uNine p = false → s.uPhy p = 0 → (s.uart p).shift = none → (s.uart p).tx = [] → (s.uart p).flow = [] →
    (s.uart p).paused = none →
    ∃ t, exec (.uartTx p) s = .next t ∧ (t.ring (uartWin p) 0).aux = 1 ∧ (t.ring (uartWin p) 0).done = none ∧ (t.ring (uartWin p) 0).t0 = s.now ∧
      (t.uart p).shift = some (.data (s.byte (s.dw (uartWin p) 0 2).toNat).toNat) ∧ t = { s with rings := t.rings, ser := t.ser }) ∧
  (∀ (s : State) (p : Fin 6), InHand s (uartWin p) 0 0x10 → (s.ring (uartWin p) 0).aux = 0 → s.uRing p = false →
    ∃ t, exec (.uartTx p) s = .next t ∧ Decided t (uartWin p) 0 { status := 0x14 } ∧ t = { s with rings := t.rings }) ∧
  (∀ (s : State) (p : Fin 6), 2 ≤ p → InHand s (uartWin p) 1 0x11 → (s.ring (uartWin p) 1).aux = 0 → fld (s.dw (uartWin p) 1 5) 0 16 ≠ 0 → (s.uart p).rx = [] →
    ∃ t, exec (.uartRx p) s = .next t ∧ t.ring (uartWin p) 1 = { s.ring (uartWin p) 1 with aux := 1, t0 := s.now } ∧ t.mem = s.mem ∧ t = { s with lr := t.lr, mem := t.mem, ramEcc := t.ramEcc, rings := t.rings, ser := t.ser }) ∧
  (∀ (s : State) (p : Fin 6), s.field (uA p A.U_IDLE) 0 8 ≠ 0 → s.logging (uartWin p) 1 0x11 = true → 0 < (s.ring (uartWin p) 1).count →
    (s.uart p).rxAt + s.field (uA p A.U_IDLE) 0 8 * s.uChar p ≤ s.now →
    ∃ t, exec (.uartRxIdle p) s = .next t ∧ Decided t (uartWin p) 1 { status := 0, result := wd (s.ring (uartWin p) 1).count, uflags := 1 } ∧
      t = { s with rings := t.rings }) ∧
  (∀ (s : State) (p : Fin 6), InHand s (uartWin p) 0 0x12 → (s.ring (uartWin p) 0).aux = 0 → s.uRing p = true → s.uHeld p = false → s.uOn p = true →
    ∃ t, exec (.uartBreak p) s = .next t ∧ (t.uart p).shift = some .brk ∧ (t.ring (uartWin p) 0).aux = 1 ∧
      (t.ring (uartWin p) 0).count = max 13 (fld (s.dw (uartWin p) 0 4) 0 16) ∧ t = { s with rings := t.rings, ser := t.ser }) ∧
  (∀ (s : State) (p : Fin 6), InHand s (uartWin p) 0 0x13 → (s.ring (uartWin p) 0).aux = 0 → s.uRing p = true → s.uHeld p = false → s.uOn p = true →
    bit (s.dw (uartWin p) 0 4) 0 = false →
    ∃ t, exec (.klineInitFast p) s = .next t ∧
      (s.uPhy p = 2 → t.ring (uartWin p) 0 = { s.ring (uartWin p) 0 with aux := 1, t0 := s.now }) ∧
      (s.uPhy p ≠ 2 → Decided t (uartWin p) 0 { status := 0x14 }) ∧ t = { s with rings := t.rings }) ∧
  (∀ (s : State) (p : Fin 6) (k : Nat), InHand s (uartWin p) 0 0x13 → (s.ring (uartWin p) 0).aux = 1 → bit (s.dw (uartWin p) 0 4) 0 = true →
    ∃ t, exec (.klineInit5Baud p true k) s = .next t ∧ t.reg (uA p A.U_BAUD) = wd (clampNat 8192 0xFFFFFFFF k) ∧
      Decided t (uartWin p) 0 { status := 0, result := wd (clampNat 8192 0xFFFFFFFF k) } ∧ RegsSame [uA p A.U_BAUD] s t ∧ t = { s with regs := t.regs, rings := t.rings }) ∧
  (∀ (s : State) (p : Fin 6), s.uPhy p = 2 → s.uCtl p 10 = true → (s.uart p).echo.isSome = true →
    ∃ t, exec (.klineEchoMismatch p) s = .next t ∧ t.flag (uA p A.U_ERR) 1 = true ∧ (t.uart p).shift = none ∧ (t.uart p).tx = [] ∧ (t.uart p).echo = none ∧
      (s.uSending p = true → Decided t (uartWin p) 0 { status := 0x81, result := wd (s.ring (uartWin p) 0).count }) ∧
      RegsSame [uA p A.U_ERR] s t ∧ t = { s with regs := t.regs, rings := t.rings, ser := t.ser })

/-- CAN_TX, CAN_RX, CAN_FRAME_RECEIVED, CAN_BUS_OFF, CAN_RECOVER, CAN_RECOVERY_DONE, CAN_SYNCHRONISED. -/
def Obligations.CanControllers : Prop :=
  (∀ (s : State) (c : Fin 2) (o : Fin 3) (e : BitVec 5) (sof : Nat), InHand s (canWin c) 0 0x10 → (s.ring (canWin c) 0).aux = 0 →
    ∃ t, exec (.canTx c o e sof) s = .next t ∧
      (s.canRecordOk c (s.canRecord c) = true → t.ring (canWin c) 0 = { s.ring (canWin c) 0 with aux := 1, t0 := s.now }) ∧
      (s.canRecordOk c (s.canRecord c) = false → Decided t (canWin c) 0 { status := 0x84 }) ∧ t = { s with rings := t.rings }) ∧
  (∀ (s : State) (c : Fin 2) (e : BitVec 5) (sof : Nat), InHand s (canWin c) 0 0x10 → (s.ring (canWin c) 0).aux ≠ 0 → (s.ring (canWin c) 0).host = 0 →
    s.canActive c = true → s.safeHolds 6 = false → s.gated (canWin c) = false → s.flag (cA c A.CAN_CTL) 3 = false → s.flag (cA c A.CAN_CTL) 4 = false →
    ∃ t, exec (.canTx c 0 e sof) s = .next t ∧ Decided t (canWin c) 0 { status := 0 } ∧ t.word ((s.dw (canWin c) 0 2).toNat + 8) = wd sof ∧
      t.reg (cA c A.CAN_CNT) = wrapAdd (s.reg (cA c A.CAN_CNT)) 0 16 1 ∧ t.canTec c = s.canTec c - 1 ∧
      (t.can c).sent = some { s.canRecord c with sof := sof % 2 ^ 64 } ∧ BytesSame [((s.dw (canWin c) 0 2).toNat + 8, 8)] s t ∧
      t = { s with bank := t.bank, lr := t.lr, mem := t.mem, ramEcc := t.ramEcc, regs := t.regs, rings := t.rings,
                   ser := t.ser, waitHits := t.waitHits }) ∧
  (∀ (s : State) (c : Fin 2), InHand s (canWin c) 1 0x11 → (s.ring (canWin c) 1).aux = 0 → fld (s.dw (canWin c) 1 5) 0 16 ≠ 0 → (s.can c).queue = [] →
    ∃ t, exec (.canRx c) s = .next t ∧ t.ring (canWin c) 1 = { s.ring (canWin c) 1 with aux := 1, t0 := s.now } ∧ t.mem = s.mem ∧ t = { s with lr := t.lr, mem := t.mem, ramEcc := t.ramEcc, rings := t.rings, ser := t.ser }) ∧
  (∀ (s : State) (c : Fin 2) (w0 w1 : Word) (d : List Byte) (sof : Nat), s.canActive c = true → (bit w0 31 = true → s.flag (cA c A.CAN_CTL) 1 = true) →
    (s.canFilter c w0).isSome = true → s.logging (canWin c) 1 0x11 = false → (s.can c).queue.length < 8 →
    ∃ t, exec (.canFrameReceived c w0 w1 d sof 0) s = .next t ∧
      (t.can c).queue = (s.can c).queue ++ [⟨w0, setFld (w1 &&& 0x3F#32) 8 8 ((s.canFilter c w0).getD 0), sof % 2 ^ 64, d.take 64⟩] ∧
      t.reg (cA c A.CAN_CNT) = wrapAdd (s.reg (cA c A.CAN_CNT)) 16 16 1 ∧ t.mem = s.mem ∧
      t = { s with bank := t.bank, lr := t.lr, mem := t.mem, ramEcc := t.ramEcc, regs := t.regs, rings := t.rings,
                   ser := t.ser, waitHits := t.waitHits }) ∧
  (∀ (s : State) (c : Fin 2) (w0 w1 : Word) (d : List Byte) (sof e : Nat), s.canActive c = true → bit w0 31 = false → e % 32 ≠ 0 →
    ∃ t, exec (.canFrameReceived c w0 w1 d sof e) s = .next t ∧ t.reg (cA c A.CAN_ERR) = (s.reg (cA c A.CAN_ERR) ||| wd (e % 32)) ∧
      t.canRec c = min 255 (s.canRec c + 1) ∧ (t.can c).queue = (s.can c).queue ∧ t.rings = s.rings ∧ t.mem = s.mem ∧
      t = { s with bank := t.bank, lr := t.lr, mem := t.mem, ramEcc := t.ramEcc, regs := t.regs, rings := t.rings,
                   ser := t.ser, waitHits := t.waitHits }) ∧
  (∀ (s : State) (c : Fin 2), s.canActive c = true →
    ∃ t, exec (.canBusOff c) s = .next t ∧ t.canState c = 2 ∧ t.flag (cA c A.CAN_ERR) 7 = true ∧ (t.can c).recovering = s.flag (cA c A.CAN_CTL) 5 ∧
      (s.inHand (canWin c) 0 = some 0x10 → Decided t (canWin c) 0 { status := 0x80 }) ∧ Heard ((canWin c).ringSource + 2) s t ∧
      RegsSame [cA c A.CAN_STAT, cA c A.CAN_ERR] s t ∧ t = { s with bank := t.bank, regs := t.regs, rings := t.rings, ser := t.ser, waitHits := t.waitHits }) ∧
  (∀ (s : State) (m : Fin 8) (c : Fin 2) (v : Word), s.Unhindered (canWin c) m (cA c A.CAN_CMD) → bit v 0 = true → s.canState c = 2 →
    ∃ t, exec (.canRecover m c .word v) s = .next t ∧ (t.can c).recovering = true ∧ t.regs = s.regs ∧ t = { s with bank := t.bank, comp := t.comp, ports := t.ports, regs := t.regs, ser := t.ser, waitHits := t.waitHits }) ∧
  (∀ (s : State) (c : Fin 2), s.canOn c = true → s.canState c = 2 → (s.can c).recovering = true →
    ∃ t, exec (.canRecoveryDone c) s = .next t ∧ t.canState c = 0 ∧ t.canTec c = 0 ∧ t.canRec c = 0 ∧ (t.can c).recovering = false ∧
      RegsSame [cA c A.CAN_STAT] s t ∧ t = { s with regs := t.regs, ser := t.ser }) ∧
  (∀ (s : State) (c : Fin 2), s.canOn c = true → s.canState c = 3 →
    ∃ t, exec (.canSynchronised c) s = .next t ∧ t.canState c = (if 128 ≤ s.canTec c ∨ 128 ≤ s.canRec c then 1 else 0) ∧
      t.canTec c = s.canTec c ∧ RegsSame [cA c A.CAN_STAT] s t ∧ t = { s with regs := t.regs })

/-- ETH_TX, ETH_RX, ETH_FRAME_RECEIVED, MDIO, SPI_XFER, SPI_PSEL_RISE, SPI_PERIPHERAL_WORD. -/
def Obligations.EthernetAndSpi : Prop :=
  (∀ (s : State) (o : Fin 3) (sfd : Nat), InHand s .eth 0 0x10 → (s.ring .eth 0).aux = 0 →
    ∃ t, exec (.ethTx o sfd) s = .next t ∧ t.ring .eth 0 = { s.ring .eth 0 with aux := 1, t0 := s.now } ∧ t = { s with rings := t.rings }) ∧
  (∀ (s : State) (o : Fin 3) (sfd : Nat), InHand s .eth 0 0x10 → (s.ring .eth 0).aux ≠ 0 → (s.ring .eth 0).host = 0 → s.ethOn = true → s.safeHolds 6 = false →
    s.gated .eth = false → s.ser.eth.pauseTo ≤ s.now → (s.flag A.ETH_CTL 1 = true ∨ o = 0) → s.dw .eth 0 3 ≠ 0#32 →
    ∃ t, exec (.ethTx o sfd) s = .next t ∧ Decided t .eth 0 { status := 0, result := s.dw .eth 0 1 } ∧
      t.ser.eth = { s.ser.eth with sent := ethWire (s.bytes (s.dw .eth 0 2).toNat (s.dw .eth 0 1).toNat) } ∧
      t.reg A.ETH_CNT = wrapAdd (s.reg A.ETH_CNT) 0 16 1 ∧ t.word (s.dw .eth 0 3).toNat = wd sfd ∧ BytesSame [((s.dw .eth 0 3).toNat, 8)] s t ∧
      t = { s with bank := t.bank, lr := t.lr, mem := t.mem, ramEcc := t.ramEcc, regs := t.regs, rings := t.rings,
                   ser := t.ser, waitHits := t.waitHits }) ∧
  (∀ (s : State) (sfd : Nat), InHand s .eth 0 0x10 → (s.ring .eth 0).aux ≠ 0 → s.ethOn = true → s.safeHolds 6 = false → s.gated .eth = false →
    s.ser.eth.pauseTo ≤ s.now → s.flag A.ETH_CTL 1 = false →
    ∃ t, exec (.ethTx 1 sfd) s = .next t ∧ Decided t .eth 0 { status := 0x81 } ∧ t.flag A.ETH_ERR 5 = true ∧ Heard 1091 s t ∧ RegsSame [A.ETH_ERR] s t ∧
      t = { s with bank := t.bank, lr := t.lr, mem := t.mem, ramEcc := t.ramEcc, regs := t.regs, rings := t.rings,
                   ser := t.ser, waitHits := t.waitHits }) ∧
  (∀ (s : State), InHand s .eth 1 0x11 → (s.ring .eth 1).aux = 0 → s.ser.eth.queue = [] →
    ∃ t, exec .ethRx s = .next t ∧ t.ring .eth 1 = { s.ring .eth 1 with aux := 1, t0 := s.now } ∧ t = { s with lr := t.lr, mem := t.mem, ramEcc := t.ramEcc, rings := t.rings, ser := t.ser }) ∧
  (∀ (s : State) (f : EthFrame) (rest : List EthFrame), InHand s .eth 1 0x11 → (s.ring .eth 1).aux = 0 → s.ser.eth.queue = f :: rest → (s.ring .eth 1).host = 0 →
    ∃ t, exec .ethRx s = .next t ∧ t.ser.eth = { s.ser.eth with queue := rest } ∧ Decided t .eth 1 { status := 0, result := wd f.frame.length } ∧
      t.word (s.dw .eth 1 3).toNat = wd f.frame.length ∧ t.word ((s.dw .eth 1 3).toNat + 4) = wd f.flags ∧ t.word ((s.dw .eth 1 3).toNat + 8) = wd f.sfd ∧
      BytesSame [((s.dw .eth 1 2).toNat, (s.dw .eth 1 1).toNat), ((s.dw .eth 1 3).toNat, 16)] s t ∧ t = { s with lr := t.lr, mem := t.mem, ramEcc := t.ramEcc, rings := t.rings, ser := t.ser }) ∧
  (∀ (s : State) (fr : List Byte) (sfd : Nat), s.ethOn = true → 60 ≤ fr.length → fr.length ≤ 1518 → s.ethForUs fr = true →
    (s.flag A.ETH_CTL 5 = false ∨ pauseQuanta fr = none) → s.logging .eth 1 0x11 = false → s.ser.eth.queue = [] →
    ∃ t, exec (.ethFrameReceived fr true sfd) s = .next t ∧ t.ser.eth.queue.map (fun g => (g.frame, g.sfd)) = [(fr, sfd % 2 ^ 64)] ∧
      t.reg A.ETH_CNT = wrapAdd (s.reg A.ETH_CNT) 16 16 1 ∧ RegsSame [A.ETH_CNT] s t ∧ t.mem = s.mem ∧
      t = { s with bank := t.bank, lr := t.lr, mem := t.mem, ramEcc := t.ramEcc, regs := t.regs, rings := t.rings,
                   ser := t.ser, waitHits := t.waitHits }) ∧
  (∀ (s : State) (fr : List Byte) (sfd q : Nat), s.ethOn = true → 60 ≤ fr.length → fr.length ≤ 1518 → s.flag A.ETH_CTL 5 = true → s.flag A.ETH_CTL 1 = true →
    pauseQuanta fr = some q →
    ∃ t, exec (.ethFrameReceived fr true sfd) s = .next t ∧
      t.ser.eth = { s.ser.eth with pauseTo := s.now + q * 512 * (if s.flag A.ETH_CTL 2 then 4 else 40) } ∧ RegsSame [] s t ∧
      t = { s with bank := t.bank, lr := t.lr, mem := t.mem, ramEcc := t.ramEcc, regs := t.regs, rings := t.rings,
                   ser := t.ser, waitHits := t.waitHits }) ∧
  (∀ (s : State) (d : BitVec 16), InHand s .eth 0 0x12 →
    ∃ t, exec (.mdio d) s = .next t ∧ (bit (s.dw .eth 0 4) 10 = false → Decided t .eth 0 { status := 0, result := wd d.toNat } ∧ t.free = s.free) ∧
      (bit (s.dw .eth 0 4) 10 = true → Decided t .eth 0 { status := 0, result := s.freeWord }) ∧ t = { s with free := t.free, rings := t.rings }) ∧
  (∀ (s : State) (p : Fin 3) (n : Fin 2) (rx : List Byte) (fl : Bool), InHand s (spiWin p) n 0x10 → s.live (spiWin p) = true →
    s.flag (spA p A.SPI_CTL) 0 = true → s.safeHolds 6 = false → s.spiPeriph p = false → (s.ring (spiWin p) n).count = 0 → (s.ring (spiWin p) n).host = 0 →
    s.dw (spiWin p) n 3 ≠ 0#32 →
    ∃ t, exec (.spiXfer p n rx fl) s = .next t ∧ Decided t (spiWin p) n { status := 0, result := s.dw (spiWin p) n 1 } ∧
      t.bytes (s.dw (spiWin p) n 3).toNat (s.dw (spiWin p) n 1).toNat =
        s.spiMask p ((List.range (s.dw (spiWin p) n 1).toNat).map (fun i => rx.getD i 0#8)) ∧
      (t.spi p).sent = s.spiOut p n 0 (s.dw (spiWin p) n 1).toNat ∧
      (t.spi p).cs = (if bit (s.dw (spiWin p) n 0) 11 then some (fld (s.dw (spiWin p) n 4) 0 2) else none) ∧
      BytesSame [((s.dw (spiWin p) n 3).toNat, (s.dw (spiWin p) n 1).toNat)] s t ∧ t = { s with lr := t.lr, mem := t.mem, ramEcc := t.ramEcc, rings := t.rings, ser := t.ser }) ∧
  (∀ (s : State) (p : Fin 3) (n : Fin 2), s.spiPeriph p = true → s.logging (spiWin p) n 0x10 = true →
    ∃ t, exec (.spiPselRise p n) s = .next t ∧
      Decided t (spiWin p) n { status := if (s.spi p).filled then 0x81 else 0, result := wd (s.ring (spiWin p) n).count } ∧ t = { s with rings := t.rings }) ∧
  (∀ (s : State) (p : Fin 3), s.live (spiWin p) = true → s.flag (spA p A.SPI_CTL) 0 = true → s.spiPeriph p = true → s.inHand (spiWin p) 0 = none →
    s.inHand (spiWin p) 1 = none →
    ∃ t, exec (.spiPeripheralWord p) s = .next t ∧ ((t.spi p).sent.head?).map (fun b => b.toNat) = some (fld (s.reg (spA p A.SPI_FILL)) 0 8) ∧
      t.flag (spA p A.SPI_ERR) 0 = true ∧ Heard ((spiWin p).ringSource + 2) s t ∧ RegsSame [spA p A.SPI_ERR] s t ∧ t = { s with bank := t.bank, regs := t.regs, ser := t.ser, waitHits := t.waitHits })

/-- I2C_WRITE, I2C_READ, I2C_WRITE_READ, BUS_CLEAR, I2C_SCL_TIMEOUT, I2C_TARGET_ADDRESSED, TGT_RX, TGT_TX. -/
def Obligations.I2cPorts : Prop :=
  (∀ (s : State) (p : Fin 2), InHand s (i2cWin p) 0 0x10 → (s.ring (i2cWin p) 0).aux = 1 → s.i2cOn p = true → s.safeHolds 6 = false → s.gated (i2cWin p) = false → (s.ring (i2cWin p) 0).host = 0 →
    ∃ t, exec (.i2cWrite p .acked) s = .next t ∧ Decided t (i2cWin p) 0 { status := 0, result := s.dw (i2cWin p) 0 1 } ∧
      (t.i2c p).sent = s.bytes (s.dw (i2cWin p) 0 2).toNat (s.dw (i2cWin p) 0 1).toNat ∧ t.bank = s.bank ∧ t = { s with bank := t.bank, regs := t.regs, rings := t.rings, ser := t.ser, waitHits := t.waitHits }) ∧
  (∀ (s : State) (p : Fin 2) (rx : List Byte), InHand s (i2cWin p) 0 0x11 → (s.ring (i2cWin p) 0).aux = 1 → s.i2cOn p = true → s.safeHolds 6 = false → s.gated (i2cWin p) = false →
    (s.ring (i2cWin p) 0).host = 0 →
    ∃ t, exec (.i2cRead p .acked rx) s = .next t ∧ Decided t (i2cWin p) 0 { status := 0, result := s.dw (i2cWin p) 0 1 } ∧
      t.bytes (s.dw (i2cWin p) 0 2).toNat (s.dw (i2cWin p) 0 1).toNat = i2cData (s.dw (i2cWin p) 0 1).toNat rx ∧
      BytesSame [((s.dw (i2cWin p) 0 2).toNat, (s.dw (i2cWin p) 0 1).toNat)] s t ∧ t.bank = s.bank ∧
      t = { s with bank := t.bank, lr := t.lr, mem := t.mem, ramEcc := t.ramEcc, regs := t.regs, rings := t.rings,
                   ser := t.ser, waitHits := t.waitHits }) ∧
  (∀ (s : State) (p : Fin 2) (rx : List Byte), InHand s (i2cWin p) 0 0x12 → (s.ring (i2cWin p) 0).aux = 1 → s.i2cOn p = true → s.safeHolds 6 = false → s.gated (i2cWin p) = false →
    (s.ring (i2cWin p) 0).host = 0 →
    ∃ t, exec (.i2cWriteRead p .acked rx) s = .next t ∧ Decided t (i2cWin p) 0 { status := 0, result := wd (fld (s.dw (i2cWin p) 0 5) 0 16) } ∧
      (t.i2c p).sent = s.bytes (s.dw (i2cWin p) 0 2).toNat (s.dw (i2cWin p) 0 1).toNat ∧
      t.bytes (s.dw (i2cWin p) 0 3).toNat (fld (s.dw (i2cWin p) 0 5) 0 16) = i2cData (fld (s.dw (i2cWin p) 0 5) 0 16) rx ∧
      BytesSame [((s.dw (i2cWin p) 0 3).toNat, fld (s.dw (i2cWin p) 0 5) 0 16)] s t ∧
      t = { s with bank := t.bank, lr := t.lr, mem := t.mem, ramEcc := t.ramEcc, regs := t.regs, rings := t.rings,
                   ser := t.ser, waitHits := t.waitHits }) ∧
  (∀ (s : State) (p : Fin 2) (sda : Bool), InHand s (i2cWin p) 0 0x13 → (s.ring (i2cWin p) 0).aux = 1 → s.i2cOn p = true → s.safeHolds 6 = false → s.gated (i2cWin p) = false →
    ∃ t, exec (.busClear p sda) s = .next t ∧ Decided t (i2cWin p) 0 { status := 0, result := wd sda.toNat } ∧ t.flag (icA p A.I2C_STAT) 2 = !sda ∧
      t.flag (icA p A.I2C_STAT) 0 = false ∧ RegsSame [icA p A.I2C_STAT] s t ∧ t = { s with regs := t.regs, rings := t.rings, ser := t.ser }) ∧
  (∀ (s : State) (p : Fin 2), s.field (icA p A.I2C_TMO) 0 8 ≠ 0 → (s.inHand (i2cWin p) 0).isSome = true → (s.ring (i2cWin p) 0).aux = 1 →
    (s.ring (i2cWin p) 0).t0 + s.field (icA p A.I2C_TMO) 0 8 * 400000 ≤ s.now →
    ∃ t, exec (.i2cSclTimeout p) s = .next t ∧ Decided t (i2cWin p) 0 { status := 0x40 } ∧ t.flag (icA p A.I2C_ERR) 2 = true ∧
      t.flag (icA p A.I2C_STAT) 0 = false ∧ RegsSame [icA p A.I2C_ERR, icA p A.I2C_STAT] s t ∧ t = { s with bank := t.bank, regs := t.regs, rings := t.rings, ser := t.ser, waitHits := t.waitHits }) ∧
  (∀ (s : State) (p : Fin 2) (a : BitVec 10) (rd : Bool), s.i2cOn p = true → s.flag (icA p A.I2C_CTL) 1 = true →
    a.toNat = s.field (icA p A.I2C_OWN) 0 (if s.flag (icA p A.I2C_CTL) 5 then 10 else 7) →
    ∃ t, exec (.i2cTargetAddressed p a false rd) s = .next t ∧ (t.i2c p).target = some rd ∧ t.flag (icA p A.I2C_STAT) 0 = true ∧
      Heard ((i2cWin p).ringSource + 3) s t ∧ RegsSame [icA p A.I2C_STAT] s t ∧ t = { s with bank := t.bank, regs := t.regs, ser := t.ser, waitHits := t.waitHits }) ∧
  (∀ (s : State) (p : Fin 2) (d : List Byte), InHand s (i2cWin p) 1 0x18 → (s.ring (i2cWin p) 1).aux ≠ 0 → (s.i2c p).target = some false →
    s.safeHolds 6 = false → (s.ring (i2cWin p) 1).host = 0 →
    ∃ t, exec (.tgtRx p d) s = .next t ∧ Decided t (i2cWin p) 1 { status := 0, result := wd (min (s.dw (i2cWin p) 1 1).toNat d.length) } ∧
      t.bytes (s.dw (i2cWin p) 1 2).toNat (min (s.dw (i2cWin p) 1 1).toNat d.length) = d.take (s.dw (i2cWin p) 1 1).toNat ∧ (t.i2c p).target = none ∧
      ((s.dw (i2cWin p) 1 1).toNat < d.length → t.flag (icA p A.I2C_ERR) 3 = true) ∧ BytesSame [((s.dw (i2cWin p) 1 2).toNat, d.length)] s t ∧
      t = { s with bank := t.bank, lr := t.lr, mem := t.mem, ramEcc := t.ramEcc, regs := t.regs, rings := t.rings,
                   ser := t.ser, waitHits := t.waitHits }) ∧
  (∀ (s : State) (p : Fin 2) (k : Nat), InHand s (i2cWin p) 1 0x19 → (s.ring (i2cWin p) 1).aux ≠ 0 → (s.i2c p).target = some true →
    s.safeHolds 6 = false → (s.ring (i2cWin p) 1).host = 0 →
    ∃ t, exec (.tgtTx p k) s = .next t ∧ Decided t (i2cWin p) 1 { status := 0, result := wd (min k (s.dw (i2cWin p) 1 1).toNat) } ∧
      (t.i2c p).sent = s.bytes (s.dw (i2cWin p) 1 2).toNat (min k (s.dw (i2cWin p) 1 1).toNat) ++ List.replicate (k - (s.dw (i2cWin p) 1 1).toNat) 0xFF#8 ∧
      (t.i2c p).target = none ∧ t = { s with regs := t.regs, rings := t.rings, ser := t.ser })

/-- SETUP_WAIT, EP0_IN, EP0_OUT, IN_XFER, OUT_XFER, USB_BUS_RESET, USB_SUSPEND, USB_RESUME, USB_HOST_RESUME, USB_SOF, USB_ADDR_WRITE,
USB_VBUS_CHANGE, PORT_CLK_LOST, PORT_CLK_RESTORED. -/
def Obligations.UsbAndClockLoss : Prop :=
  (∀ (s : State) (k : List Byte), InHand s .usb 0 0x10 → s.usbAttached = true → k.length = 8 → (s.ring .usb 0).host = 0 →
    ∃ t, exec (.setupWait k) s = .next t ∧ Decided t .usb 0 { status := 0, result := 8#32 } ∧ t.bytes (s.dw .usb 0 2).toNat 8 = k ∧
      t.flag A.USB_EP0 11 = false ∧ t.ser.usb.setup = none ∧ RegsSame [A.USB_EP0] s t ∧ BytesSame [((s.dw .usb 0 2).toNat, 8)] s t ∧ t = { s with lr := t.lr, mem := t.mem, ramEcc := t.ramEcc, regs := t.regs, rings := t.rings, ser := t.ser }) ∧
  (∀ (s : State), InHand s .usb 0 0x11 → (s.ring .usb 0).aux = 1 → s.usbAttached = true → s.safeHolds 6 = false → s.gated .usb = false → s.flag A.USB_EP0 11 = false →
    (s.ring .usb 0).count = 0 → (s.dw .usb 0 1).toNat < 64 → (s.ring .usb 0).host = 0 →
    ∃ t, exec .ep0In s = .next t ∧ Decided t .usb 0 { status := 0, result := s.dw .usb 0 1 } ∧
      t.ser.usb.sent = s.bytes (s.dw .usb 0 2).toNat (s.dw .usb 0 1).toNat ∧ t = { s with rings := t.rings, ser := t.ser }) ∧
  (∀ (s : State) (k : List Byte), InHand s .usb 0 0x12 → (s.ring .usb 0).aux = 1 → s.usbAttached = true → s.gated .usb = false → s.flag A.USB_EP0 11 = false →
    (s.ring .usb 0).count = 0 → k.length ≤ (s.dw .usb 0 1).toNat → k.length < 64 → (s.ring .usb 0).host = 0 →
    ∃ t, exec (.ep0Out k) s = .next t ∧ Decided t .usb 0 { status := 0, result := wd k.length } ∧ t.bytes (s.dw .usb 0 2).toNat k.length = k ∧
      t.regs = s.regs ∧ BytesSame [((s.dw .usb 0 2).toNat, k.length)] s t ∧ t = { s with lr := t.lr, mem := t.mem, ramEcc := t.ramEcc, regs := t.regs, rings := t.rings }) ∧
  (∀ (s : State) (n : Fin 4), n ≠ 0 → InHand s .usb n 0x18 → (s.ring .usb n).aux = 1 → s.usbAttached = true → s.safeHolds 6 = false → s.gated .usb = false →
    s.usbEndpoint n ≠ 0 → s.usbJudge (s.usbEndpoint n) true = none → (s.ring .usb n).host = 0 →
    (s.ring .usb n).count + s.usbMps (s.usbEndpoint n) < (s.dw .usb n 1).toNat →
    ∃ t, exec (.inXfer n) s = .next t ∧ (t.ring .usb n).count = (s.ring .usb n).count + s.usbMps (s.usbEndpoint n) ∧ (t.ring .usb n).done = none ∧
      t.ser.usb.sent = s.bytes ((s.dw .usb n 2).toNat + (s.ring .usb n).count) (s.usbMps (s.usbEndpoint n)) ∧ t = { s with rings := t.rings, ser := t.ser }) ∧
  (∀ (s : State) (n : Fin 4) (k : List Byte), n ≠ 0 → InHand s .usb n 0x19 → (s.ring .usb n).aux = 1 → s.usbAttached = true → s.gated .usb = false →
    s.usbEndpoint n ≠ 0 → s.usbJudge (s.usbEndpoint n) false = none → (s.ring .usb n).host = 0 → (s.ring .usb n).count = 0 → (s.dw .usb n 1).toNat < k.length →
    ∃ t, exec (.outXfer n k) s = .next t ∧ Decided t .usb n { status := 0, result := s.dw .usb n 1 } ∧ t.flag A.USB_ERR 2 = true ∧
      t.bytes (s.dw .usb n 2).toNat (s.dw .usb n 1).toNat = k.take (s.dw .usb n 1).toNat ∧ RegsSame [A.USB_ERR] s t ∧
      BytesSame [((s.dw .usb n 2).toNat, (s.dw .usb n 1).toNat)] s t ∧ t = { s with lr := t.lr, mem := t.mem, ramEcc := t.ramEcc, regs := t.regs, rings := t.rings }) ∧
  (∀ (s : State), s.usbAttached = true →
    ∃ t, exec .usbBusReset s = .next t ∧ t.field A.USB_STAT 8 7 = 0 ∧ t.flag A.USB_STAT 2 = false ∧ t.flag A.USB_ADDR 7 = false ∧
      (∀ k : Fin 7, t.field (A.USB_EP k) 8 2 = 0 ∧ t.field (A.USB_EP k) 11 2 = 0) ∧ t.ser.usb.setup = none ∧
      (∀ n : Fin 4, n ≠ 0 → (s.inHand .usb n).isSome = true → Decided t .usb n { status := 0x80, result := wd (s.ring .usb n).count }) ∧
      Heard 1140 s t ∧ t = { s with bank := t.bank, regs := t.regs, rings := t.rings, ser := t.ser, waitHits := t.waitHits }) ∧
  (∀ (s : State), s.usbAttached = true → s.flag A.USB_STAT 2 = false →
    ∃ t, exec .usbSuspend s = .next t ∧ t.flag A.USB_STAT 2 = true ∧ Heard 1141 s t ∧ RegsSame [A.USB_STAT] s t ∧ t = { s with bank := t.bank, regs := t.regs, waitHits := t.waitHits }) ∧
  (∀ (s : State) (m : Fin 8) (v : Word), s.Unhindered .usb m A.USB_CMD → bit v 0 = true → s.usbAttached = true → s.flag A.USB_STAT 2 = true →
    ∃ t, exec (.usbResume m .word v) s = .next t ∧ t.ser.usb = { s.ser.usb with resumeTo := s.now + 4000000 } ∧ t.regs = s.regs ∧ t = { s with bank := t.bank, comp := t.comp, ports := t.ports, regs := t.regs, ser := t.ser, waitHits := t.waitHits }) ∧
  (∀ (s : State), s.usbAttached = true → s.flag A.USB_STAT 2 = true →
    ∃ t, exec .usbHostResume s = .next t ∧ t.flag A.USB_STAT 2 = false ∧ t.ser.usb.resumeTo = 0 ∧ Heard 1142 s t ∧ RegsSame [A.USB_STAT] s t ∧ t = { s with bank := t.bank, regs := t.regs, ser := t.ser, waitHits := t.waitHits }) ∧
  (∀ (s : State) (f : BitVec 11), s.usbAttached = true →
    ∃ t, exec (.usbSof f) s = .next t ∧ t.field A.USB_STAT 16 11 = f.toNat ∧ Heard 1143 s t ∧ RegsSame [A.USB_STAT] s t ∧ t = { s with bank := t.bank, regs := t.regs, waitHits := t.waitHits }) ∧
  (∀ (s : State), s.usbAttached = true → s.flag A.USB_ADDR 7 = true →
    ∃ t, exec .usbAddrWrite s = .next t ∧ t.field A.USB_STAT 8 7 = s.field A.USB_ADDR 0 7 ∧ t.flag A.USB_ADDR 7 = false ∧
      RegsSame [A.USB_STAT, A.USB_ADDR] s t ∧ t = { s with regs := t.regs }) ∧
  (∀ (s : State) (l : Bool), s.live .usb = true → s.flag A.USB_STAT 0 ≠ l →
    ∃ t, exec (.usbVbusChange l) s = .next t ∧ t.flag A.USB_STAT 0 = l ∧ Heard 1144 s t ∧ RegsSame [A.USB_STAT] s t ∧ t = { s with bank := t.bank, regs := t.regs, waitHits := t.waitHits }) ∧
  (∀ (s : State), s.live .eth = true → s.flag A.CLK_STAT 10 = true → s.ser.clkLost.get (fun _ => false) Win.eth.code = false → InHand s .eth 0 0x10 →
    ∃ t, exec (.portClkLost 2) s = .next t ∧ Decided t .eth 0 { status := 0x83, result := wd (s.ring .eth 0).count } ∧ t.flag A.ETH_ERR 3 = true ∧
      t.ser.clkLost.get (fun _ => false) Win.eth.code = true ∧ Heard 1092 s t ∧ RegsSame [A.ETH_ERR] s t ∧ t = { s with bank := t.bank, regs := t.regs, rings := t.rings, ser := t.ser, waitHits := t.waitHits }) ∧
  (∀ (s : State), s.flag A.CLK_STAT 10 = false → s.ser.clkLost.get (fun _ => false) Win.usb.code = true →
    ∃ t, exec (.portClkRestored 3) s = .next t ∧ t.ser.clkLost.get (fun _ => false) Win.usb.code = false ∧ t.ser.usb.detachTo = s.now + 4000000 ∧
      t.usbAttached = false ∧ Heard 1140 s t ∧ t = { s with bank := t.bank, regs := t.regs, rings := t.rings, ser := t.ser, waitHits := t.waitHits })

/-- JTAG_AUTH, JTAG_DBG_ACCESS, JTAG_BOUNDARY_SCAN, DBG_END. -/
def Obligations.DebugAccess : Prop :=
  (∀ (s : State) (d : Drbg), s.authOn = true → s.trngReady = true → s.cry.drbg = some d → s.reseedDue = false → s.flag A.TRNG_CTL 0 = false →
    ∃ t, exec (.jtagAuth none) s = .next t ∧ t.dbg = { s.dbg with challenge := Sys2Proof.Machine.deviceId ++ (d.gen 32).1 } ∧
      t.cry.drbg = some (d.gen 32).2 ∧ RegsSame [A.TRNG_REQS] s t ∧
      t = { s with bank := t.bank, cry := t.cry, dbg := t.dbg, free := t.free, pmu := t.pmu, regs := t.regs,
                   waitHits := t.waitHits }) ∧
  (∀ (s : State) (r : Word × List Byte × List Byte), s.authOn = true → s.trngReady = true → s.flag A.DBG_STAT 14 = false →
    s.authOk r.1 r.2.1 r.2.2 = false →
    ∃ t, exec (.jtagAuth (some r)) s = .next t ∧ t.dbg = { s.dbg with fails := s.dbg.fails + 1 } ∧
      (2 ≤ s.dbg.fails → t.flag A.DBG_STAT 14 = true) ∧ t.dbgSession = s.dbgSession ∧ Heard 1209 s t ∧ RegsSame [A.DBG_STAT] s t ∧
      t = { s with bank := t.bank, cry := t.cry, dbg := t.dbg, free := t.free, pmu := t.pmu, regs := t.regs,
                   waitHits := t.waitHits }) ∧
  (∀ (s : State) (c : Fin 4), s.dbgMay (if c.val ≤ 1 then 0 else 1) = true → s.coreState c = 2 →
    ∃ t, exec (.jtagDbgAccess (.halt (c.castLE (by decide)))) s = .next t ∧ t.coreState c = 3 ∧ t.flag A.DBG_STAT (8 + c) = true ∧ t.mem = s.mem ∧
      t = { s with ang := t.ang, bank := t.bank, bil := t.bil, cfc := t.cfc, chg := t.chg, clk := t.clk, comp := t.comp,
                   crkPositions := t.crkPositions, cry := t.cry, elems := t.elems, eng := t.eng, erases := t.erases,
                   flashEcc := t.flashEcc, free := t.free, gates := t.gates, icache := t.icache, link := t.link,
                   loops := t.loops, lr := t.lr, lsw := t.lsw, mem := t.mem, met := t.met, pads := t.pads, pmu := t.pmu,
                   ports := t.ports, pwr := t.pwr, ramEcc := t.ramEcc, rcm := t.rcm, regs := t.regs, rings := t.rings,
                   routes := t.routes, saf := t.saf, semRes := t.semRes, ser := t.ser, tlmListed := t.tlmListed, upd := t.upd,
                   vlt := t.vlt, waitHits := t.waitHits, wearTold := t.wearTold, wires := t.wires }) ∧
  (∀ (s : State) (c : Fin 7), 4 ≤ c → ∃ t, exec (.jtagDbgAccess (.halt c)) s = .next t ∧ t = s) ∧
  (∀ (s : State) (c : Fin 4), s.dbgMay (if c.val ≤ 1 then 0 else 1) = true → s.dbgHalted c = true →
    ∃ t, exec (.jtagDbgAccess (.run (c.castLE (by decide)))) s = .next t ∧ t.coreState c = 2 ∧ t.flag A.DBG_STAT (8 + c) = false ∧ t.mem = s.mem ∧
      t = { s with ang := t.ang, bank := t.bank, bil := t.bil, cfc := t.cfc, chg := t.chg, clk := t.clk, comp := t.comp,
                   crkPositions := t.crkPositions, cry := t.cry, elems := t.elems, eng := t.eng, erases := t.erases,
                   flashEcc := t.flashEcc, free := t.free, gates := t.gates, icache := t.icache, link := t.link,
                   loops := t.loops, lr := t.lr, lsw := t.lsw, mem := t.mem, met := t.met, pads := t.pads, pmu := t.pmu,
                   ports := t.ports, pwr := t.pwr, ramEcc := t.ramEcc, rcm := t.rcm, regs := t.regs, rings := t.rings,
                   routes := t.routes, saf := t.saf, semRes := t.semRes, ser := t.ser, tlmListed := t.tlmListed, upd := t.upd,
                   vlt := t.vlt, waitHits := t.waitHits, wearTold := t.wearTold, wires := t.wires }) ∧
  (∀ (s : State), s.dbgMay 3 = true →
    ∃ t, exec .jtagBoundaryScan s = .next t ∧ t.dbg = { s.dbg with bscan := true } ∧ t.safActive 0 = false ∧ t.safActive 1 = false ∧
      t.wires.sta = true ∧ t.wires.stb = true ∧ t.saf.pta = true ∧ t.saf.ptb = true ∧ t.wires.soa = 0#4 ∧ t.wires.sob = 0#4 ∧
      t = { s with ang := t.ang, bank := t.bank, cry := t.cry, dbg := t.dbg, eng := t.eng, free := t.free, lr := t.lr,
                   mem := t.mem, pwr := t.pwr, ramEcc := t.ramEcc, regs := t.regs, rings := t.rings, saf := t.saf,
                   semRes := t.semRes, upd := t.upd, waitHits := t.waitHits, wires := t.wires }) ∧
  (∀ (s : State), s.dbgSession = true →
    ∃ t, exec .dbgEnd s = .next t ∧ t.dbgSession = false ∧ t.field A.DBG_STAT 3 5 = 0 ∧
      (∀ c : Fin 4, t.coreState c = (if s.dbgHalted c then 2 else s.coreState c)) ∧ t.mem = s.mem ∧ t = { s with bank := t.bank, pmu := t.pmu, regs := t.regs, waitHits := t.waitHits })

/-- EVR_ACK (R128). -/
def Obligations.EvrAckRule : Prop :=
  (∀ (s : State) (m : Fin 8) (z : AccSize) (v : Word), s.Unhindered .evr m A.EVR_ACK → m.val ≤ 6 →
    fld (BusW.mk m A.EVR_ACK z.bytes v).full 0 11 ≤ 1215 →
    ∃ t, exec (.evrAck m z v) s = .next t ∧
      t.banked m (pendAddr (fld (BusW.mk m A.EVR_ACK z.bytes v).full 0 11)) =
        s.banked m (pendAddr (fld (BusW.mk m A.EVR_ACK z.bytes v).full 0 11)) &&&
          ~~~ (bitMask ((fld (BusW.mk m A.EVR_ACK z.bytes v).full 0 11) % 32)) ∧
      (∀ c, c ≠ m.val → t.banked c (pendAddr (fld (BusW.mk m A.EVR_ACK z.bytes v).full 0 11)) =
        s.banked c (pendAddr (fld (BusW.mk m A.EVR_ACK z.bytes v).full 0 11))) ∧
      (∀ c a, a < 0x100000000 → a ≠ pendAddr (fld (BusW.mk m A.EVR_ACK z.bytes v).full 0 11) → t.banked c a = s.banked c a) ∧
      t = { s with bank := t.bank }) ∧
  (∀ (s : State) (m : Fin 8) (z : AccSize) (v : Word), s.Unhindered .evr m A.EVR_ACK → m.val ≤ 6 →
    fld (BusW.mk m A.EVR_ACK z.bytes v).full 0 11 ≤ 1215 →
    bit (s.banked m (pendAddr (fld (BusW.mk m A.EVR_ACK z.bytes v).full 0 11))) (fld (BusW.mk m A.EVR_ACK z.bytes v).full 0 11 % 32)
      = false →
    ∃ t, exec (.evrAck m z v) s = .next t ∧ (∀ c a, t.banked c a = s.banked c a) ∧ t = { s with bank := t.bank }) ∧
  (∀ (s : State) (m : Fin 8) (z : AccSize) (v : Word), s.Unhindered .evr m A.EVR_ACK →
    1215 < fld (BusW.mk m A.EVR_ACK z.bytes v).full 0 11 → ∃ t, exec (.evrAck m z v) s = .next t ∧ t = s)

/-- EVR_SWEV (R130), and a load from it. -/
def Obligations.SwevRule : Prop :=
  (∀ (s : State) (m : Fin 8) (z : AccSize) (v : Word), s.Unhindered .evr m A.EVR_SWEV →
    ∃ t, exec (.evrSwev m z v) s = .next t ∧
      (∀ n, n < 16 → bit (BusW.mk m A.EVR_SWEV z.bytes v).full n = true → Heard (72 + n) s t) ∧
      (∀ n c, n < 16 → bit (BusW.mk m A.EVR_SWEV z.bytes v).full n = false →
        bit (t.banked c (pendAddr (72 + n))) ((72 + n) % 32) = bit (s.banked c (pendAddr (72 + n))) ((72 + n) % 32)) ∧
      BanksSame [72] s t ∧ t = { s with bank := t.bank, waitHits := t.waitHits }) ∧
  (∀ (s : State) (m : Fin 8), s.CanRead .evr m → s.pmpAllows m false .load A.EVR_SWEV = true →
    s.coreReach m .load (regionOf (s.phys m A.EVR_SWEV)) = true →
    ∃ t, exec (.coreMemoryAccess m (.access .load) false (wd A.EVR_SWEV) .word 0#32) s = .next t ∧ t.port m = ⟨0#32, .ok⟩ ∧
      PortsSame [m] s t ∧ t = { s with ports := t.ports })

/-- REGISTER_WRITE, WP_REGISTER_WRITE and COMPLEMENT_WRITE of the VLT window (R634). -/
def Obligations.VaultWriters : Prop :=
  (∀ (s : State) (m : Fin 8) (a : Word) (z : AccSize) (v : Word), winOf a.toNat = some .vlt → s.standsFor m ≠ mH0 →
    ∃ t, exec (.registerWrite m a z v) s = .next t ∧ (∀ b, winOf b = some .vlt → t.reg b = s.reg b) ∧
      t = { s with regs := t.regs, bank := t.bank, waitHits := t.waitHits, ports := t.ports }) ∧
  (∀ (s : State) (m : Fin 8) (a : Word) (z : AccSize) (v : Word), winOf a.toNat = some .vlt → s.standsFor m ≠ mH0 →
    ∃ t, exec (.wpRegisterWrite m a z v) s = .next t ∧ (∀ b, winOf b = some .vlt → t.reg b = s.reg b) ∧
      t = { s with regs := t.regs, bank := t.bank, waitHits := t.waitHits, ports := t.ports }) ∧
  (∀ (s : State) (m : Fin 8) (off : BitVec 12) (z : AccSize) (v : Word), s.standsFor m ≠ mH0 →
    ∃ t, exec (.complementWrite m .vlt off z v) s = .next t ∧ (∀ b, winOf b = some .vlt → t.reg b = s.reg b) ∧
      t = { s with regs := t.regs, bank := t.bank, waitHits := t.waitHits, ports := t.ports }) ∧
  (∀ (s : State) (m : Fin 8) (v : Word), s.Unhindered .vlt m A.CAL_ALARM →
    ∃ t, exec (.registerWrite m (wd A.CAL_ALARM) .word v) s = .next t ∧ t.reg A.CAL_ALARM = v ∧
      RegsSame [A.CAL_ALARM] s t ∧ t = { s with regs := t.regs })

/-- The step (assumption log, entry 7). -/
def Obligations.StepRunsFront : Prop :=
  (∀ (c : Instr) (s : State) (rest : List Instr), step { s with pending := c :: rest } = exec c { s with pending := rest }) ∧
  (∀ (s : State), s.pending = [] → step s = .next (match s.pmu.mode with
    | .off => s
    | .standby => s.tbLfEdge
    | _ => if s.qual = 4 ∨ s.qual = 5 then { s with tb := s.tb + 25 } else s.tbCycle))

/-- State.reset (assumption log, entries 1 to 4 and 6, for what the spec leaves open). -/
def Obligations.ResetState : Prop :=
  State.reset.reg A.RST_CAUSE = 3#32 ∧
  (∀ a, a ≠ A.RST_CAUSE → State.reset.reg a = regReset State.reset.opt a) ∧
  (∀ w n, (State.reset.ring w n).desc = [] ∧ (State.reset.ring w n).done = none) ∧
  (∀ n, n < 64 → (State.reset.sem n).state = 0) ∧
  (∀ c a, State.reset.banked c a = 0#32) ∧
  State.reset.pending = [] ∧ State.reset.mem = [] ∧ State.reset.Sound ∧
  (∀ c, c < 7 → State.reset.loadOpen.get (fun _ => false) c = decide (4 ≤ c))

/-- The invariant of the step: State.Sound (assumption log, entries 6, 7 and 9). -/
def Obligations.StepKeepsSound : Prop :=
  (∀ (s : State), s.Sound → ∃ t, step s = .next t ∧ t.Sound ∧ t.opt = s.opt ∧ t.pending = s.pending.tail)
end

