-- ==== Sys2Proof/Laws/Bits.lean ====
section
/-! SUPPORT. The laws of bit fields: reading a field or a bit after writing one. -/
namespace Sys2Proof.Machine

theorem fieldMask_getLsbD (lo len i : Nat) :
    (fieldMask lo len).getLsbD i = (decide (i < 32) && decide (lo ≤ i) && decide (i < lo + len)) := by
  unfold fieldMask
  rw [BitVec.getLsbD_shiftLeft, BitVec.getLsbD_ofNat, Nat.testBit_two_pow_sub_one]
  by_cases h1 : i < 32 <;> by_cases h2 : lo ≤ i <;> by_cases h3 : i < lo + len <;>
    simp [h1, h2, h3] <;> omega

/-- A bit of a word in which a field was written. -/
theorem setFld_getLsbD (w : Word) (lo len v i : Nat) :
    (setFld w lo len v).getLsbD i =
      if lo ≤ i ∧ i < lo + len then decide (i < 32) && v.testBit (i - lo) else w.getLsbD i := by
  unfold setFld
  rw [BitVec.getLsbD_or, BitVec.getLsbD_and, BitVec.getLsbD_not, BitVec.getLsbD_and, fieldMask_getLsbD,
    BitVec.getLsbD_shiftLeft, BitVec.getLsbD_ofNat]
  by_cases h1 : i < 32
  · have h1' : i - lo < 32 := by omega
    by_cases h2 : lo ≤ i <;> by_cases h3 : i < lo + len <;> simp [h1, h1', h2, h3] <;> omega
  · have : w.getLsbD i = false := BitVec.getLsbD_of_ge w i (by omega)
    simp [h1, this]

theorem fld_testBit (w : Word) (lo len i : Nat) :
    (fld w lo len).testBit i = (decide (i < len) && w.getLsbD (lo + i)) := by
  unfold fld
  rw [Nat.testBit_mod_two_pow]
  simp [BitVec.toNat_ushiftRight, Nat.testBit_shiftRight, BitVec.getLsbD]

/-- The field just written. -/
theorem fld_setFld_same (w : Word) (lo len v : Nat) (h : lo + len ≤ 32) : fld (setFld w lo len v) lo len = v % 2 ^ len := by
  apply Nat.eq_of_testBit_eq
  intro i
  rw [fld_testBit, setFld_getLsbD, Nat.testBit_mod_two_pow]
  by_cases hi : i < len
  · have h2 : lo + i < 32 := by omega
    simp [hi, h2]
  · simp [hi]

/-- A field that the written one does not meet. -/
theorem fld_setFld_disjoint (w : Word) (lo len v lo' len' : Nat) (h : lo + len ≤ lo' ∨ lo' + len' ≤ lo) :
    fld (setFld w lo len v) lo' len' = fld w lo' len' := by
  apply Nat.eq_of_testBit_eq
  intro i
  rw [fld_testBit, fld_testBit, setFld_getLsbD]
  by_cases hi : i < len'
  · have h2 : ¬ (lo ≤ lo' + i ∧ lo' + i < lo + len) := by omega
    simp [h2]
  · simp [hi]

theorem fld_lt (w : Word) (lo len : Nat) : fld w lo len < 2 ^ len := Nat.mod_lt _ (Nat.two_pow_pos len)

@[simp] theorem bitMask_getLsbD (i j : Nat) : (bitMask i).getLsbD j = (decide (j < 32) && decide (j = i)) := by
  unfold bitMask
  rw [fieldMask_getLsbD]
  by_cases h : j = i
  · subst h; simp
  · by_cases h1 : i ≤ j <;> simp [h, h1] <;> omega

/-- A bit of a word in which a bit was set. -/
@[simp] theorem bit_or_bitMask (w : Word) (i j : Nat) (h : i < 32) : bit (w ||| bitMask i) j = (bit w j || decide (j = i)) := by
  unfold bit
  rw [BitVec.getLsbD_or, bitMask_getLsbD]
  by_cases hj : j = i
  · subst hj; simp [h]
  · simp [hj]

/-- A bit of a word in which a bit was cleared. -/
@[simp] theorem bit_clear_bitMask (w : Word) (i j : Nat) (h : i < 32) :
    bit (w &&& ~~~ (bitMask i)) j = (bit w j && decide (j ≠ i)) := by
  unfold bit
  rw [BitVec.getLsbD_and, BitVec.getLsbD_not, bitMask_getLsbD]
  by_cases hj : j = i
  · subst hj; simp [h]
  · by_cases h2 : j < 32
    · simp [h2, hj]
    · simp [BitVec.getLsbD_of_ge w j (by omega)]

/-- A bit of a word in which a bit was written. -/
@[simp] theorem bit_setBit (w : Word) (i j : Nat) (b : Bool) (h : i < 32) :
    bit (setBit w i b) j = if j = i then b else bit w j := by
  unfold bit setBit
  rw [setFld_getLsbD]
  by_cases hj : j = i
  · subst hj; cases b <;> simp [h]
  · have : ¬ (i ≤ j ∧ j < i + 1) := by omega
    rw [if_neg this, if_neg hj]

/-- A bit outside a field that was written. -/
theorem bit_setFld_out (w : Word) (lo len v i : Nat) (h : i < lo ∨ lo + len ≤ i) : bit (setFld w lo len v) i = bit w i := by
  unfold bit
  rw [setFld_getLsbD]
  have : ¬ (lo ≤ i ∧ i < lo + len) := by omega
  simp [this]

/-- A field of a word in which a bit outside it was written. -/
theorem fld_setBit_out (w : Word) (i lo len : Nat) (b : Bool) (h : i < lo ∨ lo + len ≤ i) :
    fld (setBit w i b) lo len = fld w lo len := fld_setFld_disjoint w i 1 b.toNat lo len (by omega)

/-- A word agrees with its masked merge on a field inside the mask's writable bits. -/
theorem fld_merge (old v : Word) (mask lo len : Nat) (h : ∀ i, i < len → (wd mask).getLsbD (lo + i) = true) :
    fld ((old &&& ~~~ (wd mask)) ||| (v &&& wd mask)) lo len = fld v lo len := by
  apply Nat.eq_of_testBit_eq
  intro i
  rw [fld_testBit, fld_testBit, BitVec.getLsbD_or, BitVec.getLsbD_and, BitVec.getLsbD_not, BitVec.getLsbD_and]
  by_cases hi : i < len
  · simp [hi, h i hi]
  · simp [hi]

/-- A counter field held at its largest value. -/
theorem fld_satAdd (w : Word) (lo len n : Nat) (h : lo + len ≤ 32) :
    fld (satAdd w lo len n) lo len = min (fld w lo len + n) (2 ^ len - 1) := by
  unfold satAdd
  rw [fld_setFld_same _ _ _ _ h]
  exact Nat.mod_eq_of_lt (by have := Nat.two_pow_pos len; omega)

end Sys2Proof.Machine
end

