-- ==== Sys2Proof/Laws/Tab.lean ====
section
/-! SUPPORT. The laws of sparse tables: read after write, frame, and that every operation keeps the canonical form. -/
namespace Sys2Proof.Machine

theorem Tab.get_del_same {α : Type} (d : Nat → α) (t : Tab α) (k : Nat) : (t.del k).get d k = d k := by
  induction t with
  | nil => rfl
  | cons e t ih =>
    obtain ⟨j, v⟩ := e
    by_cases h : j = k
    · simp [Tab.del, h, ih]
    · simp [Tab.del, h, Tab.get, ih]

theorem Tab.get_del_ne {α : Type} (d : Nat → α) (t : Tab α) {k k' : Nat} (h : k' ≠ k) :
    (t.del k).get d k' = t.get d k' := by
  induction t with
  | nil => rfl
  | cons e t ih =>
    obtain ⟨j, v⟩ := e
    by_cases hj : j = k
    · subst hj
      simp [Tab.del, Tab.get, ih, Ne.symm h]
    · by_cases hk : j = k'
      · subst hk; simp [Tab.del, Tab.get, h]
      · simp [Tab.del, Tab.get, hj, hk, ih]

theorem Tab.get_put_ne {α : Type} (d : Nat → α) (t : Tab α) {k k' : Nat} (v : α) (h : k' ≠ k) :
    (t.put k v).get d k' = t.get d k' := by
  induction t with
  | nil => simp [Tab.put, Tab.get, Ne.symm h]
  | cons e t ih =>
    obtain ⟨j, w⟩ := e
    by_cases hj : k < j
    · simp [Tab.put, Tab.get, hj, Ne.symm h]
    · by_cases hk : j = k'
      · subst hk; simp [Tab.put, Tab.get, hj]
      · simp [Tab.put, Tab.get, hj, hk, ih]

theorem Tab.get_put_del {α : Type} (d : Nat → α) (t : Tab α) (k : Nat) (v : α) :
    ((t.del k).put k v).get d k = v := by
  induction t with
  | nil => simp [Tab.del, Tab.put, Tab.get]
  | cons e t ih =>
    obtain ⟨j, w⟩ := e
    by_cases h : j = k
    · simp [Tab.del, h, ih]
    · by_cases hk : k < j <;> simp [Tab.del, h, Tab.put, hk, Tab.get, ih]

/-- Reading the key just written gives the value written, in every table. -/
@[simp] theorem Tab.get_set_same {α : Type} [DecidableEq α] (d : Nat → α) (t : Tab α) (k : Nat) (v : α) :
    (t.set d k v).get d k = v := by
  unfold Tab.set
  split
  · rename_i h; rw [Tab.get_del_same, h]
  · exact Tab.get_put_del d t k v

/-- A write leaves every other key alone, in every table. -/
theorem Tab.get_set_ne {α : Type} [DecidableEq α] (d : Nat → α) (t : Tab α) {k k' : Nat} (v : α) (h : k' ≠ k) :
    (t.set d k v).get d k' = t.get d k' := by
  unfold Tab.set
  split
  · exact Tab.get_del_ne d t h
  · rw [Tab.get_put_ne d _ v h, Tab.get_del_ne d t h]

/-- Read after write, both cases in one. -/
theorem Tab.get_set {α : Type} [DecidableEq α] (d : Nat → α) (t : Tab α) (k k' : Nat) (v : α) :
    (t.set d k v).get d k' = if k' = k then v else t.get d k' := by
  by_cases h : k' = k
  · subst h; simp
  · simp [h, Tab.get_set_ne d t v h]

theorem Tab.wfFrom_mono {α : Type} [DecidableEq α] (d : Nat → α) {lo lo' : Nat} (t : Tab α) (h : lo' ≤ lo)
    (hw : t.wfFrom d lo = true) : t.wfFrom d lo' = true := by
  cases t with
  | nil => rfl
  | cons e t =>
    obtain ⟨j, v⟩ := e
    simp only [Tab.wfFrom, Bool.and_eq_true, decide_eq_true_eq] at hw ⊢
    exact ⟨⟨Nat.le_trans h hw.1.1, hw.1.2⟩, hw.2⟩

theorem Tab.wfFrom_del {α : Type} [DecidableEq α] (d : Nat → α) (t : Tab α) (k lo : Nat)
    (hw : t.wfFrom d lo = true) : (t.del k).wfFrom d lo = true := by
  induction t generalizing lo with
  | nil => rfl
  | cons e t ih =>
    obtain ⟨j, v⟩ := e
    simp only [Tab.wfFrom, Bool.and_eq_true, decide_eq_true_eq] at hw
    by_cases h : j = k
    · simp only [Tab.del, h, if_true]
      exact Tab.wfFrom_mono d _ (Nat.le_trans hw.1.1 (Nat.le_succ j)) (ih _ hw.2)
    · simp only [Tab.del, h, if_false, Tab.wfFrom, Bool.and_eq_true, decide_eq_true_eq]
      exact ⟨hw.1, ih _ hw.2⟩

theorem Tab.wfFrom_put_del {α : Type} [DecidableEq α] (d : Nat → α) (t : Tab α) (k lo : Nat) (v : α)
    (hv : v ≠ d k) (hk : lo ≤ k) (hw : t.wfFrom d lo = true) : ((t.del k).put k v).wfFrom d lo = true := by
  induction t generalizing lo with
  | nil => simp [Tab.del, Tab.put, Tab.wfFrom, hk, hv]
  | cons e t ih =>
    obtain ⟨j, w⟩ := e
    simp only [Tab.wfFrom, Bool.and_eq_true, decide_eq_true_eq] at hw
    by_cases h : j = k
    · subst h
      simp only [Tab.del, if_true]
      exact ih lo hk (Tab.wfFrom_mono d t (Nat.le_trans hw.1.1 (Nat.le_succ j)) hw.2)
    · by_cases hlt : k < j
      · simp only [Tab.del, h, if_false, Tab.put, hlt, if_true, Tab.wfFrom, Bool.and_eq_true, decide_eq_true_eq]
        exact ⟨⟨hk, hv⟩, ⟨⟨hlt, hw.1.2⟩, Tab.wfFrom_del d t k _ hw.2⟩⟩
      · simp only [Tab.del, h, if_false, Tab.put, hlt, Tab.wfFrom, Bool.and_eq_true, decide_eq_true_eq]
        exact ⟨hw.1, ih (j + 1) (by omega) hw.2⟩

/-- A write keeps the canonical form. -/
theorem Tab.wf_set {α : Type} [DecidableEq α] (d : Nat → α) (t : Tab α) (k : Nat) (v : α)
    (hw : t.wf d = true) : (t.set d k v).wf d = true := by
  unfold Tab.set Tab.wf at *
  split
  · exact Tab.wfFrom_del d t k 0 hw
  · rename_i h; exact Tab.wfFrom_put_del d t k 0 v h (Nat.zero_le k) hw

theorem Tab.wfFrom_resetWhere {α : Type} [DecidableEq α] (d : Nat → α) (t : Tab α) (p : Nat → Bool) (lo : Nat)
    (hw : t.wfFrom d lo = true) : (t.resetWhere p).wfFrom d lo = true := by
  induction t generalizing lo with
  | nil => rfl
  | cons e t ih =>
    obtain ⟨j, v⟩ := e
    simp only [Tab.wfFrom, Bool.and_eq_true, decide_eq_true_eq] at hw
    unfold Tab.resetWhere at *
    by_cases h : p j = true
    · simp only [List.filter, h, Bool.not_true]
      exact Tab.wfFrom_mono d _ (Nat.le_trans hw.1.1 (Nat.le_succ j)) (ih _ hw.2)
    · simp only [Bool.not_eq_true] at h
      simp only [List.filter, h, Bool.not_false, Tab.wfFrom, Bool.and_eq_true, decide_eq_true_eq]
      exact ⟨hw.1, ih _ hw.2⟩

/-- Forgetting keys keeps the canonical form. -/
theorem Tab.wf_resetWhere {α : Type} [DecidableEq α] (d : Nat → α) (t : Tab α) (p : Nat → Bool)
    (hw : t.wf d = true) : (t.resetWhere p).wf d = true :=
  Tab.wfFrom_resetWhere d t p 0 hw

theorem Tab.get_append {α : Type} (d : Nat → α) (t u : Tab α) (k : Nat) (h : ∀ e ∈ t, e.1 ≠ k) :
    Tab.get d (t ++ u) k = u.get d k := by
  induction t with
  | nil => rfl
  | cons e t ih =>
    obtain ⟨j, v⟩ := e
    have hj : j ≠ k := h (j, v) (by simp)
    simp only [List.cons_append, Tab.get, hj, if_false]
    exact ih (fun e he => h e (by simp [he]))

theorem Tab.get_append_absent {α : Type} (d : Nat → α) (t u : Tab α) (k : Nat) (h : ∀ e ∈ u, e.1 ≠ k) :
    Tab.get d (t ++ u) k = t.get d k := by
  induction t with
  | nil =>
    simp only [List.nil_append, Tab.get]
    have := Tab.get_append d u [] k h
    simpa [Tab.get] using this
  | cons e t ih => obtain ⟨j, v⟩ := e; simp only [List.cons_append, Tab.get, ih]

theorem Tab.get_filter {α : Type} (d : Nat → α) (t : Tab α) (p : Nat × α → Bool) (k : Nat)
    (h : ∀ v, p (k, v) = true) : Tab.get d (t.filter p) k = t.get d k := by
  induction t with
  | nil => rfl
  | cons e t ih =>
    obtain ⟨j, v⟩ := e
    by_cases hp : p (j, v) = true
    · simp [List.filter, hp, Tab.get, ih]
    · have hj : j ≠ k := by rintro rfl; exact hp (h v)
      simp [List.filter, hp, Tab.get, ih, hj]

theorem Tab.seg_keys {α : Type} [DecidableEq α] (d : Nat → α) (vs : List α) (a : Nat) :
    ∀ e ∈ Tab.seg d a vs, a ≤ e.1 ∧ e.1 < a + vs.length := by
  induction vs generalizing a with
  | nil => simp [Tab.seg]
  | cons v vs ih =>
    intro e he
    simp only [Tab.seg] at he
    simp only [List.length_cons]
    split at he
    · have := ih _ e he; omega
    · simp only [List.mem_cons] at he
      rcases he with rfl | he
      · dsimp only; omega
      · have := ih _ e he; omega

theorem Tab.get_seg {α : Type} [DecidableEq α] (d : Nat → α) (vs : List α) (a i : Nat) (h : i < vs.length) :
    Tab.get d (Tab.seg d a vs) (a + i) = vs[i] := by
  induction vs generalizing a i with
  | nil => simp at h
  | cons v vs ih =>
    cases i with
    | zero =>
      simp only [Tab.seg, Nat.add_zero, List.getElem_cons_zero]
      split
      · rename_i hv
        have := Tab.get_append d (Tab.seg d (a + 1) vs) [] a (fun e he => by have := Tab.seg_keys d vs (a + 1) e he; omega)
        rw [List.append_nil] at this
        rw [this, hv]; rfl
      · simp [Tab.get]
    | succ i =>
      have hi : i < vs.length := by simpa using h
      have e : a + (i + 1) = (a + 1) + i := by omega
      simp only [Tab.seg, List.getElem_cons_succ, e]
      split
      · exact ih (a + 1) i hi
      · have hne : a ≠ a + 1 + i := by omega
        simp only [Tab.get, hne, if_false]
        exact ih (a + 1) i hi

/-- Reading a key that `splice` wrote. -/
theorem Tab.get_splice_in {α : Type} [DecidableEq α] (d : Nat → α) (t : Tab α) (a i : Nat) (vs : List α)
    (h : i < vs.length) : Tab.get d (t.splice d a vs) (a + i) = vs[i] := by
  unfold Tab.splice
  rw [Tab.get_append _ _ _ _ (fun e he => by
      simp only [List.mem_filter, decide_eq_true_eq] at he; have := he.2; omega),
    Tab.get_append_absent _ _ _ _ (fun e he => by
      simp only [List.mem_filter, decide_eq_true_eq] at he; have := he.2; omega)]
  exact Tab.get_seg d vs a i h

/-- Reading a key outside what `splice` wrote. -/
theorem Tab.get_splice_out {α : Type} [DecidableEq α] (d : Nat → α) (t : Tab α) (a k : Nat) (vs : List α)
    (h : k < a ∨ a + vs.length ≤ k) : Tab.get d (t.splice d a vs) k = t.get d k := by
  have hs : ∀ e ∈ Tab.seg d a vs, e.1 ≠ k := fun e he => by have := Tab.seg_keys d vs a e he; omega
  unfold Tab.splice
  rcases h with h | h
  · have h2 : ∀ e ∈ Tab.seg d a vs ++ t.filter (fun e => decide (a + vs.length ≤ e.1)), e.1 ≠ k := by
      intro e he
      rcases List.mem_append.mp he with he | he
      · exact hs e he
      · simp only [List.mem_filter, decide_eq_true_eq] at he; have := he.2; omega
    rw [Tab.get_append_absent _ _ _ _ h2]
    exact Tab.get_filter d t _ k (fun v => by simpa using h)
  · rw [Tab.get_append _ _ _ _ (fun e he => by
        simp only [List.mem_filter, decide_eq_true_eq] at he; have := he.2; omega),
      Tab.get_append _ _ _ _ hs]
    exact Tab.get_filter d t _ k (fun v => by simpa using h)

theorem Tab.wfFrom_append {α : Type} [DecidableEq α] (d : Nat → α) (t u : Tab α) (lo mid : Nat)
    (ht : t.wfFrom d lo = true) (hk : ∀ e ∈ t, e.1 < mid) (hlo : lo ≤ mid) (hu : u.wfFrom d mid = true) :
    Tab.wfFrom d lo (t ++ u) = true := by
  induction t generalizing lo with
  | nil => exact Tab.wfFrom_mono d _ hlo hu
  | cons e t ih =>
    obtain ⟨j, v⟩ := e
    simp only [Tab.wfFrom, Bool.and_eq_true, decide_eq_true_eq] at ht
    simp only [List.cons_append, Tab.wfFrom, Bool.and_eq_true, decide_eq_true_eq]
    exact ⟨ht.1, ih (j + 1) ht.2 (fun e he => hk e (by simp [he])) (by have := hk (j, v) (by simp); omega)⟩

theorem Tab.wfFrom_filter {α : Type} [DecidableEq α] (d : Nat → α) (t : Tab α) (p : Nat × α → Bool) (lo : Nat)
    (hw : t.wfFrom d lo = true) : Tab.wfFrom d lo (t.filter p) = true := by
  induction t generalizing lo with
  | nil => rfl
  | cons e t ih =>
    obtain ⟨j, v⟩ := e
    simp only [Tab.wfFrom, Bool.and_eq_true, decide_eq_true_eq] at hw
    by_cases h : p (j, v) = true
    · simp only [List.filter, h, Tab.wfFrom, Bool.and_eq_true, decide_eq_true_eq]
      exact ⟨hw.1, ih _ hw.2⟩
    · simp only [Bool.not_eq_true] at h
      simp only [List.filter, h]
      exact Tab.wfFrom_mono d _ (Nat.le_trans hw.1.1 (Nat.le_succ j)) (ih _ hw.2)

/-- Dropping the keys below `m` leaves a table that is canonical from `m`. -/
theorem Tab.wfFrom_filter_ge {α : Type} [DecidableEq α] (d : Nat → α) (t : Tab α) (lo m : Nat)
    (hw : t.wfFrom d lo = true) : Tab.wfFrom d m (t.filter (fun e => decide (m ≤ e.1))) = true := by
  induction t generalizing lo with
  | nil => rfl
  | cons e t ih =>
    obtain ⟨j, v⟩ := e
    simp only [Tab.wfFrom, Bool.and_eq_true, decide_eq_true_eq] at hw
    by_cases h : m ≤ j
    · simp only [List.filter, h, decide_true, Tab.wfFrom, Bool.and_eq_true, decide_eq_true_eq]
      exact ⟨⟨trivial, hw.1.2⟩, Tab.wfFrom_filter d t _ _ hw.2⟩
    · simp only [List.filter, h, decide_false]
      exact ih _ hw.2

theorem Tab.wfFrom_seg {α : Type} [DecidableEq α] (d : Nat → α) (vs : List α) (a : Nat) :
    (Tab.seg d a vs).wfFrom d a = true := by
  induction vs generalizing a with
  | nil => rfl
  | cons v vs ih =>
    simp only [Tab.seg]
    split
    · exact Tab.wfFrom_mono d _ (Nat.le_succ a) (ih _)
    · rename_i h
      simp only [Tab.wfFrom, Bool.and_eq_true, decide_eq_true_eq]
      exact ⟨⟨Nat.le_refl a, h⟩, ih _⟩

/-- Writing consecutive keys keeps the canonical form. -/
theorem Tab.wf_splice {α : Type} [DecidableEq α] (d : Nat → α) (t : Tab α) (a : Nat) (vs : List α)
    (hw : t.wf d = true) : (t.splice d a vs).wf d = true := by
  unfold Tab.wf Tab.splice at *
  refine Tab.wfFrom_append d _ _ 0 a (Tab.wfFrom_filter d t _ 0 hw) ?_ (Nat.zero_le a) ?_
  · intro e he; simp only [List.mem_filter, decide_eq_true_eq] at he; exact he.2
  · exact Tab.wfFrom_append d _ _ a (a + vs.length) (Tab.wfFrom_seg d vs a) (fun e he => (Tab.seg_keys d vs a e he).2)
      (Nat.le_add_right _ _) (Tab.wfFrom_filter_ge d t 0 _ hw)

/-- Keeping only some entries keeps the canonical form. -/
theorem Tab.wf_filter {α : Type} [DecidableEq α] (d : Nat → α) (t : Tab α) (p : Nat × α → Bool)
    (hw : t.wf d = true) : Tab.wf d (t.filter p) = true := Tab.wfFrom_filter d t p 0 hw

end Sys2Proof.Machine
end

