-- ==== Sys2Proof/Laws/State.lean ====
section
/-! SUPPORT. The laws of the state's primitive updates: what each one leaves of every field, and reading after writing. -/
namespace Sys2Proof.Machine

/-- States agree when their fields do. -/
theorem State.eq_of_fields {s t : State}
    (h_opt : s.opt = t.opt)
    (h_tb : s.tb = t.tb)
    (h_free : s.free = t.free)
    (h_regs : s.regs = t.regs)
    (h_bank : s.bank = t.bank)
    (h_routes : s.routes = t.routes)
    (h_pads : s.pads = t.pads)
    (h_comp : s.comp = t.comp)
    (h_mem : s.mem = t.mem)
    (h_ramEcc : s.ramEcc = t.ramEcc)
    (h_flashEcc : s.flashEcc = t.flashEcc)
    (h_ports : s.ports = t.ports)
    (h_lr : s.lr = t.lr)
    (h_icache : s.icache = t.icache)
    (h_pmp : s.pmp = t.pmp)
    (h_loadOpen : s.loadOpen = t.loadOpen)
    (h_rings : s.rings = t.rings)
    (h_waitHits : s.waitHits = t.waitHits)
    (h_semRes : s.semRes = t.semRes)
    (h_elems : s.elems = t.elems)
    (h_loops : s.loops = t.loops)
    (h_gates : s.gates = t.gates)
    (h_erases : s.erases = t.erases)
    (h_wearTold : s.wearTold = t.wearTold)
    (h_scrOn : s.scrOn = t.scrOn)
    (h_scrNext : s.scrNext = t.scrNext)
    (h_scrCorrTold : s.scrCorrTold = t.scrCorrTold)
    (h_flcRun : s.flcRun = t.flcRun)
    (h_flcWait : s.flcWait = t.flcWait)
    (h_tlmListed : s.tlmListed = t.tlmListed)
    (h_tlmTold : s.tlmTold = t.tlmTold)
    (h_tlmOut : s.tlmOut = t.tlmOut)
    (h_cfc : s.cfc = t.cfc)
    (h_link : s.link = t.link)
    (h_clk : s.clk = t.clk)
    (h_pmu : s.pmu = t.pmu)
    (h_wires : s.wires = t.wires)
    (h_ang : s.ang = t.ang)
    (h_crkPositions : s.crkPositions = t.crkPositions)
    (h_eng : s.eng = t.eng)
    (h_pwr : s.pwr = t.pwr)
    (h_egv : s.egv = t.egv)
    (h_chg : s.chg = t.chg)
    (h_rcm : s.rcm = t.rcm)
    (h_plm : s.plm = t.plm)
    (h_saf : s.saf = t.saf)
    (h_key : s.key = t.key)
    (h_vlt : s.vlt = t.vlt)
    (h_cry : s.cry = t.cry)
    (h_met : s.met = t.met)
    (h_bil : s.bil = t.bil)
    (h_upd : s.upd = t.upd)
    (h_lsw : s.lsw = t.lsw)
    (h_ser : s.ser = t.ser)
    (h_dbg : s.dbg = t.dbg)
    (h_pending : s.pending = t.pending)
    : s = t := by
  cases s; cases t; simp_all

/-! ## Registers: reading after writing -/

@[simp] theorem State.setReg_reg (s : State) (a : Nat) (v : Word) (b : Nat) :
    (s.setReg a v).reg b = if b = a then v else s.reg b := Tab.get_set _ _ _ _ _

@[simp] theorem State.modReg_reg (s : State) (a : Nat) (f : Word → Word) (b : Nat) :
    (s.modReg a f).reg b = if b = a then f (s.reg a) else s.reg b := State.setReg_reg _ _ _ _

@[simp] theorem State.orReg_reg (s : State) (a : Nat) (m : Word) (b : Nat) :
    (s.orReg a m).reg b = if b = a then s.reg a ||| m else s.reg b := State.modReg_reg _ _ _ _

@[simp] theorem State.setBitReg_reg (s : State) (a i b : Nat) :
    (s.setBitReg a i).reg b = if b = a then s.reg a ||| bitMask i else s.reg b := State.modReg_reg _ _ _ _

@[simp] theorem State.clrBitReg_reg (s : State) (a i b : Nat) :
    (s.clrBitReg a i).reg b = if b = a then s.reg a &&& ~~~ (bitMask i) else s.reg b := State.modReg_reg _ _ _ _

@[simp] theorem State.setField_reg (s : State) (a lo len v b : Nat) :
    (s.setField a lo len v).reg b = if b = a then setFld (s.reg a) lo len v else s.reg b := State.modReg_reg _ _ _ _

/-- A write by the field laws of the register's table row. -/
theorem State.store_reg (s : State) (a : Nat) (v : Word) (b : Nat) :
    (s.store a v).reg b = if b = a then (match regInfo a with | some r => r.stored (s.reg a) v | none => s.reg a) else s.reg b := by
  unfold State.store
  cases regInfo a with
  | none => by_cases h : b = a <;> simp [h]
  | some r => exact State.modReg_reg _ _ _ _

/-- Writing a register leaves every other register alone. -/
theorem State.setReg_reg_ne (s : State) {a b : Nat} (v : Word) (h : b ≠ a) : (s.setReg a v).reg b = s.reg b := by
  simp [h]

theorem State.reg_of_regs {s t : State} (hr : t.regs = s.regs) (ho : t.opt = s.opt) (a : Nat) : t.reg a = s.reg a := by
  simp [State.reg, hr, ho]

/-- What a register reads depends on the register table and the ordering option alone. -/
@[simp] theorem State.reg_mk (s : State) (a : Nat) : s.regs.get (regReset s.opt) a = s.reg a := rfl

/-! ## Free values, banked registers, ports, rings -/

@[simp] theorem State.setBanked_banked (s : State) (c a : Nat) (v : Word) (c' a' : Nat) :
    (s.setBanked c a v).banked c' a' = if bankKey c' a' = bankKey c a then v else s.banked c' a' := Tab.get_set _ _ _ _ _

@[simp] theorem State.answer_port (s : State) (m : Nat) (v : Word) (e : Exc) (m' : Nat) :
    (s.answer m v e).port m' = if m' = m then ⟨v, e⟩ else s.port m' := Tab.get_set _ _ _ _ _

@[simp] theorem State.setRing_ring (s : State) (w : Win) (n : Nat) (r : Ring) (w' : Win) (n' : Nat) :
    (s.setRing w n r).ring w' n' = if ringKey w' n' = ringKey w n then r else s.ring w' n' := Tab.get_set _ _ _ _ _

@[simp] theorem State.modRing_ring (s : State) (w : Win) (n : Nat) (f : Ring → Ring) (w' : Win) (n' : Nat) :
    (s.modRing w n f).ring w' n' = if ringKey w' n' = ringKey w n then f (s.ring w n) else s.ring w' n' := State.setRing_ring _ _ _ _ _ _

@[simp] theorem State.setComp_pendingComp (s : State) (w : Win) (c : Option (Nat × Nat × Word)) (w' : Win) :
    (s.setComp w c).pendingComp w' = if w'.code = w.code then c else s.pendingComp w' := Tab.get_set _ _ _ _ _

/-! ## Memory -/

/-- Reading a byte after writing one. -/
@[simp] theorem State.setByte_byte (s : State) (a : Nat) (b : Byte) (a' : Nat) :
    (s.setByte a b).byte a' = if a' = a then b else s.byte a' := Tab.get_set _ _ _ _ _

/-- Reading a byte that a write of several covers. -/
theorem State.setBytes_byte_in (s : State) (a : Nat) (bs : List Byte) (i : Nat) (h : i < bs.length) :
    (s.setBytes a bs).byte (a + i) = bs[i] := Tab.get_splice_in _ _ _ _ _ h

/-- A write of several bytes leaves every byte outside them alone. -/
theorem State.setBytes_byte_out (s : State) (a : Nat) (bs : List Byte) (k : Nat) (h : k < a ∨ a + bs.length ≤ k) :
    (s.setBytes a bs).byte k = s.byte k := Tab.get_splice_out _ _ _ _ _ h

/-- Writing a byte keeps memory's canonical form. -/
theorem State.setByte_memory_wf (s : State) (a : Nat) (b : Byte) (h : Memory.wf s.mem = true) :
    Memory.wf (s.setByte a b).mem = true := Tab.wf_set _ _ _ _ h

/-- Writing several bytes keeps memory's canonical form. -/
theorem State.setBytes_memory_wf (s : State) (a : Nat) (bs : List Byte) (h : Memory.wf s.mem = true) :
    Memory.wf (s.setBytes a bs).mem = true := Tab.wf_splice _ _ _ _ h

theorem State.setWord_memory_wf (s : State) (a : Nat) (v : Word) (h : Memory.wf s.mem = true) :
    Memory.wf (s.setWord a v).mem = true := State.setBytes_memory_wf s a _ h

theorem State.setWords_memory_wf (s : State) (a : Nat) (vs : List Word) (h : Memory.wf s.mem = true) :
    Memory.wf (s.setWords a vs).mem = true := by
  induction vs generalizing s a with
  | nil => exact h
  | cons v vs ih => exact ih (s.setWord a v) (a + 4) (State.setWord_memory_wf s a v h)

theorem State.storeBytes_memory_wf (s : State) (host a : Nat) (bs : List Byte) (h : Memory.wf s.mem = true) :
    Memory.wf (s.storeBytes host a bs).mem = true := by
  induction bs generalizing s a with
  | nil => exact h
  | cons b bs ih => exact ih (s.setByte (s.phys host a) b) (a + 1) (State.setByte_memory_wf s _ b h)

theorem State.putBytes_memory_wf (s : State) (host a : Nat) (bs : List Byte) (h : Memory.wf s.mem = true) :
    Memory.wf (s.putBytes host a bs).mem = true := State.storeBytes_memory_wf s host a bs h

theorem State.storeWords_memory_wf (s : State) (host a : Nat) (vs : List Word) (h : Memory.wf s.mem = true) :
    Memory.wf (s.storeWords host a vs).mem = true := by
  induction vs generalizing s a with
  | nil => exact h
  | cons v vs ih => exact ih (s.setWord (s.phys host a) v) (a + 4) (State.setWord_memory_wf s _ v h)

theorem State.putWords_memory_wf (s : State) (host a : Nat) (vs : List Word) (h : Memory.wf s.mem = true) :
    Memory.wf (s.putWords host a vs).mem = true := State.storeWords_memory_wf s host a vs h

/-- Nothing is listed in memory at reset, so it has the canonical form. -/
theorem State.reset_memory_wf : Memory.wf State.reset.mem = true := rfl

/-! ## Events -/

/-- All that raising an event can change: pending banks and the waits that listen. -/
theorem State.raise_eq (s : State) (n : Nat) :
    s.raise n = { s with bank := (s.raise n).bank, waitHits := (s.raise n).waitHits } := by
  unfold State.raise; split <;> rfl

theorem State.raiseAll_eq (s : State) (l : List Nat) :
    s.raiseAll l = { s with bank := (s.raiseAll l).bank, waitHits := (s.raiseAll l).waitHits } := by
  unfold State.raiseAll
  induction l generalizing s with
  | nil => rfl
  | cons n l ih => simp only [List.foldl_cons]; rw [ih (s.raise n), State.raise_eq s n]


/-! ## What `setReg` leaves -/

@[simp] theorem State.setReg_opt (s : State) (a : Nat) (v : Word) : (s.setReg a v).opt = s.opt := rfl
@[simp] theorem State.setReg_tb (s : State) (a : Nat) (v : Word) : (s.setReg a v).tb = s.tb := rfl
@[simp] theorem State.setReg_free (s : State) (a : Nat) (v : Word) : (s.setReg a v).free = s.free := rfl
@[simp] theorem State.setReg_bank (s : State) (a : Nat) (v : Word) : (s.setReg a v).bank = s.bank := rfl
@[simp] theorem State.setReg_routes (s : State) (a : Nat) (v : Word) : (s.setReg a v).routes = s.routes := rfl
@[simp] theorem State.setReg_pads (s : State) (a : Nat) (v : Word) : (s.setReg a v).pads = s.pads := rfl
@[simp] theorem State.setReg_comp (s : State) (a : Nat) (v : Word) : (s.setReg a v).comp = s.comp := rfl
@[simp] theorem State.setReg_mem (s : State) (a : Nat) (v : Word) : (s.setReg a v).mem = s.mem := rfl
@[simp] theorem State.setReg_ramEcc (s : State) (a : Nat) (v : Word) : (s.setReg a v).ramEcc = s.ramEcc := rfl
@[simp] theorem State.setReg_flashEcc (s : State) (a : Nat) (v : Word) : (s.setReg a v).flashEcc = s.flashEcc := rfl
@[simp] theorem State.setReg_ports (s : State) (a : Nat) (v : Word) : (s.setReg a v).ports = s.ports := rfl
@[simp] theorem State.setReg_lr (s : State) (a : Nat) (v : Word) : (s.setReg a v).lr = s.lr := rfl
@[simp] theorem State.setReg_icache (s : State) (a : Nat) (v : Word) : (s.setReg a v).icache = s.icache := rfl
@[simp] theorem State.setReg_pmp (s : State) (a : Nat) (v : Word) : (s.setReg a v).pmp = s.pmp := rfl
@[simp] theorem State.setReg_loadOpen (s : State) (a : Nat) (v : Word) : (s.setReg a v).loadOpen = s.loadOpen := rfl
@[simp] theorem State.setReg_rings (s : State) (a : Nat) (v : Word) : (s.setReg a v).rings = s.rings := rfl
@[simp] theorem State.setReg_waitHits (s : State) (a : Nat) (v : Word) : (s.setReg a v).waitHits = s.waitHits := rfl
@[simp] theorem State.setReg_semRes (s : State) (a : Nat) (v : Word) : (s.setReg a v).semRes = s.semRes := rfl
@[simp] theorem State.setReg_elems (s : State) (a : Nat) (v : Word) : (s.setReg a v).elems = s.elems := rfl
@[simp] theorem State.setReg_loops (s : State) (a : Nat) (v : Word) : (s.setReg a v).loops = s.loops := rfl
@[simp] theorem State.setReg_gates (s : State) (a : Nat) (v : Word) : (s.setReg a v).gates = s.gates := rfl
@[simp] theorem State.setReg_erases (s : State) (a : Nat) (v : Word) : (s.setReg a v).erases = s.erases := rfl
@[simp] theorem State.setReg_wearTold (s : State) (a : Nat) (v : Word) : (s.setReg a v).wearTold = s.wearTold := rfl
@[simp] theorem State.setReg_scrOn (s : State) (a : Nat) (v : Word) : (s.setReg a v).scrOn = s.scrOn := rfl
@[simp] theorem State.setReg_scrNext (s : State) (a : Nat) (v : Word) : (s.setReg a v).scrNext = s.scrNext := rfl
@[simp] theorem State.setReg_scrCorrTold (s : State) (a : Nat) (v : Word) : (s.setReg a v).scrCorrTold = s.scrCorrTold := rfl
@[simp] theorem State.setReg_flcRun (s : State) (a : Nat) (v : Word) : (s.setReg a v).flcRun = s.flcRun := rfl
@[simp] theorem State.setReg_flcWait (s : State) (a : Nat) (v : Word) : (s.setReg a v).flcWait = s.flcWait := rfl
@[simp] theorem State.setReg_tlmListed (s : State) (a : Nat) (v : Word) : (s.setReg a v).tlmListed = s.tlmListed := rfl
@[simp] theorem State.setReg_tlmTold (s : State) (a : Nat) (v : Word) : (s.setReg a v).tlmTold = s.tlmTold := rfl
@[simp] theorem State.setReg_tlmOut (s : State) (a : Nat) (v : Word) : (s.setReg a v).tlmOut = s.tlmOut := rfl
@[simp] theorem State.setReg_cfc (s : State) (a : Nat) (v : Word) : (s.setReg a v).cfc = s.cfc := rfl
@[simp] theorem State.setReg_link (s : State) (a : Nat) (v : Word) : (s.setReg a v).link = s.link := rfl
@[simp] theorem State.setReg_clk (s : State) (a : Nat) (v : Word) : (s.setReg a v).clk = s.clk := rfl
@[simp] theorem State.setReg_pmu (s : State) (a : Nat) (v : Word) : (s.setReg a v).pmu = s.pmu := rfl
@[simp] theorem State.setReg_wires (s : State) (a : Nat) (v : Word) : (s.setReg a v).wires = s.wires := rfl
@[simp] theorem State.setReg_ang (s : State) (a : Nat) (v : Word) : (s.setReg a v).ang = s.ang := rfl
@[simp] theorem State.setReg_crkPositions (s : State) (a : Nat) (v : Word) : (s.setReg a v).crkPositions = s.crkPositions := rfl
@[simp] theorem State.setReg_eng (s : State) (a : Nat) (v : Word) : (s.setReg a v).eng = s.eng := rfl
@[simp] theorem State.setReg_pwr (s : State) (a : Nat) (v : Word) : (s.setReg a v).pwr = s.pwr := rfl
@[simp] theorem State.setReg_egv (s : State) (a : Nat) (v : Word) : (s.setReg a v).egv = s.egv := rfl
@[simp] theorem State.setReg_chg (s : State) (a : Nat) (v : Word) : (s.setReg a v).chg = s.chg := rfl
@[simp] theorem State.setReg_rcm (s : State) (a : Nat) (v : Word) : (s.setReg a v).rcm = s.rcm := rfl
@[simp] theorem State.setReg_plm (s : State) (a : Nat) (v : Word) : (s.setReg a v).plm = s.plm := rfl
@[simp] theorem State.setReg_saf (s : State) (a : Nat) (v : Word) : (s.setReg a v).saf = s.saf := rfl
@[simp] theorem State.setReg_key (s : State) (a : Nat) (v : Word) : (s.setReg a v).key = s.key := rfl
@[simp] theorem State.setReg_vlt (s : State) (a : Nat) (v : Word) : (s.setReg a v).vlt = s.vlt := rfl
@[simp] theorem State.setReg_cry (s : State) (a : Nat) (v : Word) : (s.setReg a v).cry = s.cry := rfl
@[simp] theorem State.setReg_met (s : State) (a : Nat) (v : Word) : (s.setReg a v).met = s.met := rfl
@[simp] theorem State.setReg_bil (s : State) (a : Nat) (v : Word) : (s.setReg a v).bil = s.bil := rfl
@[simp] theorem State.setReg_upd (s : State) (a : Nat) (v : Word) : (s.setReg a v).upd = s.upd := rfl
@[simp] theorem State.setReg_lsw (s : State) (a : Nat) (v : Word) : (s.setReg a v).lsw = s.lsw := rfl
@[simp] theorem State.setReg_ser (s : State) (a : Nat) (v : Word) : (s.setReg a v).ser = s.ser := rfl
@[simp] theorem State.setReg_dbg (s : State) (a : Nat) (v : Word) : (s.setReg a v).dbg = s.dbg := rfl
@[simp] theorem State.setReg_pending (s : State) (a : Nat) (v : Word) : (s.setReg a v).pending = s.pending := rfl

/-! ## What `modReg` leaves -/

@[simp] theorem State.modReg_opt (s : State) (a : Nat) (f : Word → Word) : (s.modReg a f).opt = s.opt := rfl
@[simp] theorem State.modReg_tb (s : State) (a : Nat) (f : Word → Word) : (s.modReg a f).tb = s.tb := rfl
@[simp] theorem State.modReg_free (s : State) (a : Nat) (f : Word → Word) : (s.modReg a f).free = s.free := rfl
@[simp] theorem State.modReg_bank (s : State) (a : Nat) (f : Word → Word) : (s.modReg a f).bank = s.bank := rfl
@[simp] theorem State.modReg_routes (s : State) (a : Nat) (f : Word → Word) : (s.modReg a f).routes = s.routes := rfl
@[simp] theorem State.modReg_pads (s : State) (a : Nat) (f : Word → Word) : (s.modReg a f).pads = s.pads := rfl
@[simp] theorem State.modReg_comp (s : State) (a : Nat) (f : Word → Word) : (s.modReg a f).comp = s.comp := rfl
@[simp] theorem State.modReg_mem (s : State) (a : Nat) (f : Word → Word) : (s.modReg a f).mem = s.mem := rfl
@[simp] theorem State.modReg_ramEcc (s : State) (a : Nat) (f : Word → Word) : (s.modReg a f).ramEcc = s.ramEcc := rfl
@[simp] theorem State.modReg_flashEcc (s : State) (a : Nat) (f : Word → Word) : (s.modReg a f).flashEcc = s.flashEcc := rfl
@[simp] theorem State.modReg_ports (s : State) (a : Nat) (f : Word → Word) : (s.modReg a f).ports = s.ports := rfl
@[simp] theorem State.modReg_lr (s : State) (a : Nat) (f : Word → Word) : (s.modReg a f).lr = s.lr := rfl
@[simp] theorem State.modReg_icache (s : State) (a : Nat) (f : Word → Word) : (s.modReg a f).icache = s.icache := rfl
@[simp] theorem State.modReg_pmp (s : State) (a : Nat) (f : Word → Word) : (s.modReg a f).pmp = s.pmp := rfl
@[simp] theorem State.modReg_loadOpen (s : State) (a : Nat) (f : Word → Word) : (s.modReg a f).loadOpen = s.loadOpen := rfl
@[simp] theorem State.modReg_rings (s : State) (a : Nat) (f : Word → Word) : (s.modReg a f).rings = s.rings := rfl
@[simp] theorem State.modReg_waitHits (s : State) (a : Nat) (f : Word → Word) : (s.modReg a f).waitHits = s.waitHits := rfl
@[simp] theorem State.modReg_semRes (s : State) (a : Nat) (f : Word → Word) : (s.modReg a f).semRes = s.semRes := rfl
@[simp] theorem State.modReg_elems (s : State) (a : Nat) (f : Word → Word) : (s.modReg a f).elems = s.elems := rfl
@[simp] theorem State.modReg_loops (s : State) (a : Nat) (f : Word → Word) : (s.modReg a f).loops = s.loops := rfl
@[simp] theorem State.modReg_gates (s : State) (a : Nat) (f : Word → Word) : (s.modReg a f).gates = s.gates := rfl
@[simp] theorem State.modReg_erases (s : State) (a : Nat) (f : Word → Word) : (s.modReg a f).erases = s.erases := rfl
@[simp] theorem State.modReg_wearTold (s : State) (a : Nat) (f : Word → Word) : (s.modReg a f).wearTold = s.wearTold := rfl
@[simp] theorem State.modReg_scrOn (s : State) (a : Nat) (f : Word → Word) : (s.modReg a f).scrOn = s.scrOn := rfl
@[simp] theorem State.modReg_scrNext (s : State) (a : Nat) (f : Word → Word) : (s.modReg a f).scrNext = s.scrNext := rfl
@[simp] theorem State.modReg_scrCorrTold (s : State) (a : Nat) (f : Word → Word) : (s.modReg a f).scrCorrTold = s.scrCorrTold := rfl
@[simp] theorem State.modReg_flcRun (s : State) (a : Nat) (f : Word → Word) : (s.modReg a f).flcRun = s.flcRun := rfl
@[simp] theorem State.modReg_flcWait (s : State) (a : Nat) (f : Word → Word) : (s.modReg a f).flcWait = s.flcWait := rfl
@[simp] theorem State.modReg_tlmListed (s : State) (a : Nat) (f : Word → Word) : (s.modReg a f).tlmListed = s.tlmListed := rfl
@[simp] theorem State.modReg_tlmTold (s : State) (a : Nat) (f : Word → Word) : (s.modReg a f).tlmTold = s.tlmTold := rfl
@[simp] theorem State.modReg_tlmOut (s : State) (a : Nat) (f : Word → Word) : (s.modReg a f).tlmOut = s.tlmOut := rfl
@[simp] theorem State.modReg_cfc (s : State) (a : Nat) (f : Word → Word) : (s.modReg a f).cfc = s.cfc := rfl
@[simp] theorem State.modReg_link (s : State) (a : Nat) (f : Word → Word) : (s.modReg a f).link = s.link := rfl
@[simp] theorem State.modReg_clk (s : State) (a : Nat) (f : Word → Word) : (s.modReg a f).clk = s.clk := rfl
@[simp] theorem State.modReg_pmu (s : State) (a : Nat) (f : Word → Word) : (s.modReg a f).pmu = s.pmu := rfl
@[simp] theorem State.modReg_wires (s : State) (a : Nat) (f : Word → Word) : (s.modReg a f).wires = s.wires := rfl
@[simp] theorem State.modReg_ang (s : State) (a : Nat) (f : Word → Word) : (s.modReg a f).ang = s.ang := rfl
@[simp] theorem State.modReg_crkPositions (s : State) (a : Nat) (f : Word → Word) : (s.modReg a f).crkPositions = s.crkPositions := rfl
@[simp] theorem State.modReg_eng (s : State) (a : Nat) (f : Word → Word) : (s.modReg a f).eng = s.eng := rfl
@[simp] theorem State.modReg_pwr (s : State) (a : Nat) (f : Word → Word) : (s.modReg a f).pwr = s.pwr := rfl
@[simp] theorem State.modReg_egv (s : State) (a : Nat) (f : Word → Word) : (s.modReg a f).egv = s.egv := rfl
@[simp] theorem State.modReg_chg (s : State) (a : Nat) (f : Word → Word) : (s.modReg a f).chg = s.chg := rfl
@[simp] theorem State.modReg_rcm (s : State) (a : Nat) (f : Word → Word) : (s.modReg a f).rcm = s.rcm := rfl
@[simp] theorem State.modReg_plm (s : State) (a : Nat) (f : Word → Word) : (s.modReg a f).plm = s.plm := rfl
@[simp] theorem State.modReg_saf (s : State) (a : Nat) (f : Word → Word) : (s.modReg a f).saf = s.saf := rfl
@[simp] theorem State.modReg_key (s : State) (a : Nat) (f : Word → Word) : (s.modReg a f).key = s.key := rfl
@[simp] theorem State.modReg_vlt (s : State) (a : Nat) (f : Word → Word) : (s.modReg a f).vlt = s.vlt := rfl
@[simp] theorem State.modReg_cry (s : State) (a : Nat) (f : Word → Word) : (s.modReg a f).cry = s.cry := rfl
@[simp] theorem State.modReg_met (s : State) (a : Nat) (f : Word → Word) : (s.modReg a f).met = s.met := rfl
@[simp] theorem State.modReg_bil (s : State) (a : Nat) (f : Word → Word) : (s.modReg a f).bil = s.bil := rfl
@[simp] theorem State.modReg_upd (s : State) (a : Nat) (f : Word → Word) : (s.modReg a f).upd = s.upd := rfl
@[simp] theorem State.modReg_lsw (s : State) (a : Nat) (f : Word → Word) : (s.modReg a f).lsw = s.lsw := rfl
@[simp] theorem State.modReg_ser (s : State) (a : Nat) (f : Word → Word) : (s.modReg a f).ser = s.ser := rfl
@[simp] theorem State.modReg_dbg (s : State) (a : Nat) (f : Word → Word) : (s.modReg a f).dbg = s.dbg := rfl
@[simp] theorem State.modReg_pending (s : State) (a : Nat) (f : Word → Word) : (s.modReg a f).pending = s.pending := rfl

/-! ## What `orReg` leaves -/

@[simp] theorem State.orReg_opt (s : State) (a : Nat) (m : Word) : (s.orReg a m).opt = s.opt := rfl
@[simp] theorem State.orReg_tb (s : State) (a : Nat) (m : Word) : (s.orReg a m).tb = s.tb := rfl
@[simp] theorem State.orReg_free (s : State) (a : Nat) (m : Word) : (s.orReg a m).free = s.free := rfl
@[simp] theorem State.orReg_bank (s : State) (a : Nat) (m : Word) : (s.orReg a m).bank = s.bank := rfl
@[simp] theorem State.orReg_routes (s : State) (a : Nat) (m : Word) : (s.orReg a m).routes = s.routes := rfl
@[simp] theorem State.orReg_pads (s : State) (a : Nat) (m : Word) : (s.orReg a m).pads = s.pads := rfl
@[simp] theorem State.orReg_comp (s : State) (a : Nat) (m : Word) : (s.orReg a m).comp = s.comp := rfl
@[simp] theorem State.orReg_mem (s : State) (a : Nat) (m : Word) : (s.orReg a m).mem = s.mem := rfl
@[simp] theorem State.orReg_ramEcc (s : State) (a : Nat) (m : Word) : (s.orReg a m).ramEcc = s.ramEcc := rfl
@[simp] theorem State.orReg_flashEcc (s : State) (a : Nat) (m : Word) : (s.orReg a m).flashEcc = s.flashEcc := rfl
@[simp] theorem State.orReg_ports (s : State) (a : Nat) (m : Word) : (s.orReg a m).ports = s.ports := rfl
@[simp] theorem State.orReg_lr (s : State) (a : Nat) (m : Word) : (s.orReg a m).lr = s.lr := rfl
@[simp] theorem State.orReg_icache (s : State) (a : Nat) (m : Word) : (s.orReg a m).icache = s.icache := rfl
@[simp] theorem State.orReg_pmp (s : State) (a : Nat) (m : Word) : (s.orReg a m).pmp = s.pmp := rfl
@[simp] theorem State.orReg_loadOpen (s : State) (a : Nat) (m : Word) : (s.orReg a m).loadOpen = s.loadOpen := rfl
@[simp] theorem State.orReg_rings (s : State) (a : Nat) (m : Word) : (s.orReg a m).rings = s.rings := rfl
@[simp] theorem State.orReg_waitHits (s : State) (a : Nat) (m : Word) : (s.orReg a m).waitHits = s.waitHits := rfl
@[simp] theorem State.orReg_semRes (s : State) (a : Nat) (m : Word) : (s.orReg a m).semRes = s.semRes := rfl
@[simp] theorem State.orReg_elems (s : State) (a : Nat) (m : Word) : (s.orReg a m).elems = s.elems := rfl
@[simp] theorem State.orReg_loops (s : State) (a : Nat) (m : Word) : (s.orReg a m).loops = s.loops := rfl
@[simp] theorem State.orReg_gates (s : State) (a : Nat) (m : Word) : (s.orReg a m).gates = s.gates := rfl
@[simp] theorem State.orReg_erases (s : State) (a : Nat) (m : Word) : (s.orReg a m).erases = s.erases := rfl
@[simp] theorem State.orReg_wearTold (s : State) (a : Nat) (m : Word) : (s.orReg a m).wearTold = s.wearTold := rfl
@[simp] theorem State.orReg_scrOn (s : State) (a : Nat) (m : Word) : (s.orReg a m).scrOn = s.scrOn := rfl
@[simp] theorem State.orReg_scrNext (s : State) (a : Nat) (m : Word) : (s.orReg a m).scrNext = s.scrNext := rfl
@[simp] theorem State.orReg_scrCorrTold (s : State) (a : Nat) (m : Word) : (s.orReg a m).scrCorrTold = s.scrCorrTold := rfl
@[simp] theorem State.orReg_flcRun (s : State) (a : Nat) (m : Word) : (s.orReg a m).flcRun = s.flcRun := rfl
@[simp] theorem State.orReg_flcWait (s : State) (a : Nat) (m : Word) : (s.orReg a m).flcWait = s.flcWait := rfl
@[simp] theorem State.orReg_tlmListed (s : State) (a : Nat) (m : Word) : (s.orReg a m).tlmListed = s.tlmListed := rfl
@[simp] theorem State.orReg_tlmTold (s : State) (a : Nat) (m : Word) : (s.orReg a m).tlmTold = s.tlmTold := rfl
@[simp] theorem State.orReg_tlmOut (s : State) (a : Nat) (m : Word) : (s.orReg a m).tlmOut = s.tlmOut := rfl
@[simp] theorem State.orReg_cfc (s : State) (a : Nat) (m : Word) : (s.orReg a m).cfc = s.cfc := rfl
@[simp] theorem State.orReg_link (s : State) (a : Nat) (m : Word) : (s.orReg a m).link = s.link := rfl
@[simp] theorem State.orReg_clk (s : State) (a : Nat) (m : Word) : (s.orReg a m).clk = s.clk := rfl
@[simp] theorem State.orReg_pmu (s : State) (a : Nat) (m : Word) : (s.orReg a m).pmu = s.pmu := rfl
@[simp] theorem State.orReg_wires (s : State) (a : Nat) (m : Word) : (s.orReg a m).wires = s.wires := rfl
@[simp] theorem State.orReg_ang (s : State) (a : Nat) (m : Word) : (s.orReg a m).ang = s.ang := rfl
@[simp] theorem State.orReg_crkPositions (s : State) (a : Nat) (m : Word) : (s.orReg a m).crkPositions = s.crkPositions := rfl
@[simp] theorem State.orReg_eng (s : State) (a : Nat) (m : Word) : (s.orReg a m).eng = s.eng := rfl
@[simp] theorem State.orReg_pwr (s : State) (a : Nat) (m : Word) : (s.orReg a m).pwr = s.pwr := rfl
@[simp] theorem State.orReg_egv (s : State) (a : Nat) (m : Word) : (s.orReg a m).egv = s.egv := rfl
@[simp] theorem State.orReg_chg (s : State) (a : Nat) (m : Word) : (s.orReg a m).chg = s.chg := rfl
@[simp] theorem State.orReg_rcm (s : State) (a : Nat) (m : Word) : (s.orReg a m).rcm = s.rcm := rfl
@[simp] theorem State.orReg_plm (s : State) (a : Nat) (m : Word) : (s.orReg a m).plm = s.plm := rfl
@[simp] theorem State.orReg_saf (s : State) (a : Nat) (m : Word) : (s.orReg a m).saf = s.saf := rfl
@[simp] theorem State.orReg_key (s : State) (a : Nat) (m : Word) : (s.orReg a m).key = s.key := rfl
@[simp] theorem State.orReg_vlt (s : State) (a : Nat) (m : Word) : (s.orReg a m).vlt = s.vlt := rfl
@[simp] theorem State.orReg_cry (s : State) (a : Nat) (m : Word) : (s.orReg a m).cry = s.cry := rfl
@[simp] theorem State.orReg_met (s : State) (a : Nat) (m : Word) : (s.orReg a m).met = s.met := rfl
@[simp] theorem State.orReg_bil (s : State) (a : Nat) (m : Word) : (s.orReg a m).bil = s.bil := rfl
@[simp] theorem State.orReg_upd (s : State) (a : Nat) (m : Word) : (s.orReg a m).upd = s.upd := rfl
@[simp] theorem State.orReg_lsw (s : State) (a : Nat) (m : Word) : (s.orReg a m).lsw = s.lsw := rfl
@[simp] theorem State.orReg_ser (s : State) (a : Nat) (m : Word) : (s.orReg a m).ser = s.ser := rfl
@[simp] theorem State.orReg_dbg (s : State) (a : Nat) (m : Word) : (s.orReg a m).dbg = s.dbg := rfl
@[simp] theorem State.orReg_pending (s : State) (a : Nat) (m : Word) : (s.orReg a m).pending = s.pending := rfl

/-! ## What `setBitReg` leaves -/

@[simp] theorem State.setBitReg_opt (s : State) (a i : Nat) : (s.setBitReg a i).opt = s.opt := rfl
@[simp] theorem State.setBitReg_tb (s : State) (a i : Nat) : (s.setBitReg a i).tb = s.tb := rfl
@[simp] theorem State.setBitReg_free (s : State) (a i : Nat) : (s.setBitReg a i).free = s.free := rfl
@[simp] theorem State.setBitReg_bank (s : State) (a i : Nat) : (s.setBitReg a i).bank = s.bank := rfl
@[simp] theorem State.setBitReg_routes (s : State) (a i : Nat) : (s.setBitReg a i).routes = s.routes := rfl
@[simp] theorem State.setBitReg_pads (s : State) (a i : Nat) : (s.setBitReg a i).pads = s.pads := rfl
@[simp] theorem State.setBitReg_comp (s : State) (a i : Nat) : (s.setBitReg a i).comp = s.comp := rfl
@[simp] theorem State.setBitReg_mem (s : State) (a i : Nat) : (s.setBitReg a i).mem = s.mem := rfl
@[simp] theorem State.setBitReg_ramEcc (s : State) (a i : Nat) : (s.setBitReg a i).ramEcc = s.ramEcc := rfl
@[simp] theorem State.setBitReg_flashEcc (s : State) (a i : Nat) : (s.setBitReg a i).flashEcc = s.flashEcc := rfl
@[simp] theorem State.setBitReg_ports (s : State) (a i : Nat) : (s.setBitReg a i).ports = s.ports := rfl
@[simp] theorem State.setBitReg_lr (s : State) (a i : Nat) : (s.setBitReg a i).lr = s.lr := rfl
@[simp] theorem State.setBitReg_icache (s : State) (a i : Nat) : (s.setBitReg a i).icache = s.icache := rfl
@[simp] theorem State.setBitReg_pmp (s : State) (a i : Nat) : (s.setBitReg a i).pmp = s.pmp := rfl
@[simp] theorem State.setBitReg_loadOpen (s : State) (a i : Nat) : (s.setBitReg a i).loadOpen = s.loadOpen := rfl
@[simp] theorem State.setBitReg_rings (s : State) (a i : Nat) : (s.setBitReg a i).rings = s.rings := rfl
@[simp] theorem State.setBitReg_waitHits (s : State) (a i : Nat) : (s.setBitReg a i).waitHits = s.waitHits := rfl
@[simp] theorem State.setBitReg_semRes (s : State) (a i : Nat) : (s.setBitReg a i).semRes = s.semRes := rfl
@[simp] theorem State.setBitReg_elems (s : State) (a i : Nat) : (s.setBitReg a i).elems = s.elems := rfl
@[simp] theorem State.setBitReg_loops (s : State) (a i : Nat) : (s.setBitReg a i).loops = s.loops := rfl
@[simp] theorem State.setBitReg_gates (s : State) (a i : Nat) : (s.setBitReg a i).gates = s.gates := rfl
@[simp] theorem State.setBitReg_erases (s : State) (a i : Nat) : (s.setBitReg a i).erases = s.erases := rfl
@[simp] theorem State.setBitReg_wearTold (s : State) (a i : Nat) : (s.setBitReg a i).wearTold = s.wearTold := rfl
@[simp] theorem State.setBitReg_scrOn (s : State) (a i : Nat) : (s.setBitReg a i).scrOn = s.scrOn := rfl
@[simp] theorem State.setBitReg_scrNext (s : State) (a i : Nat) : (s.setBitReg a i).scrNext = s.scrNext := rfl
@[simp] theorem State.setBitReg_scrCorrTold (s : State) (a i : Nat) : (s.setBitReg a i).scrCorrTold = s.scrCorrTold := rfl
@[simp] theorem State.setBitReg_flcRun (s : State) (a i : Nat) : (s.setBitReg a i).flcRun = s.flcRun := rfl
@[simp] theorem State.setBitReg_flcWait (s : State) (a i : Nat) : (s.setBitReg a i).flcWait = s.flcWait := rfl
@[simp] theorem State.setBitReg_tlmListed (s : State) (a i : Nat) : (s.setBitReg a i).tlmListed = s.tlmListed := rfl
@[simp] theorem State.setBitReg_tlmTold (s : State) (a i : Nat) : (s.setBitReg a i).tlmTold = s.tlmTold := rfl
@[simp] theorem State.setBitReg_tlmOut (s : State) (a i : Nat) : (s.setBitReg a i).tlmOut = s.tlmOut := rfl
@[simp] theorem State.setBitReg_cfc (s : State) (a i : Nat) : (s.setBitReg a i).cfc = s.cfc := rfl
@[simp] theorem State.setBitReg_link (s : State) (a i : Nat) : (s.setBitReg a i).link = s.link := rfl
@[simp] theorem State.setBitReg_clk (s : State) (a i : Nat) : (s.setBitReg a i).clk = s.clk := rfl
@[simp] theorem State.setBitReg_pmu (s : State) (a i : Nat) : (s.setBitReg a i).pmu = s.pmu := rfl
@[simp] theorem State.setBitReg_wires (s : State) (a i : Nat) : (s.setBitReg a i).wires = s.wires := rfl
@[simp] theorem State.setBitReg_ang (s : State) (a i : Nat) : (s.setBitReg a i).ang = s.ang := rfl
@[simp] theorem State.setBitReg_crkPositions (s : State) (a i : Nat) : (s.setBitReg a i).crkPositions = s.crkPositions := rfl
@[simp] theorem State.setBitReg_eng (s : State) (a i : Nat) : (s.setBitReg a i).eng = s.eng := rfl
@[simp] theorem State.setBitReg_pwr (s : State) (a i : Nat) : (s.setBitReg a i).pwr = s.pwr := rfl
@[simp] theorem State.setBitReg_egv (s : State) (a i : Nat) : (s.setBitReg a i).egv = s.egv := rfl
@[simp] theorem State.setBitReg_chg (s : State) (a i : Nat) : (s.setBitReg a i).chg = s.chg := rfl
@[simp] theorem State.setBitReg_rcm (s : State) (a i : Nat) : (s.setBitReg a i).rcm = s.rcm := rfl
@[simp] theorem State.setBitReg_plm (s : State) (a i : Nat) : (s.setBitReg a i).plm = s.plm := rfl
@[simp] theorem State.setBitReg_saf (s : State) (a i : Nat) : (s.setBitReg a i).saf = s.saf := rfl
@[simp] theorem State.setBitReg_key (s : State) (a i : Nat) : (s.setBitReg a i).key = s.key := rfl
@[simp] theorem State.setBitReg_vlt (s : State) (a i : Nat) : (s.setBitReg a i).vlt = s.vlt := rfl
@[simp] theorem State.setBitReg_cry (s : State) (a i : Nat) : (s.setBitReg a i).cry = s.cry := rfl
@[simp] theorem State.setBitReg_met (s : State) (a i : Nat) : (s.setBitReg a i).met = s.met := rfl
@[simp] theorem State.setBitReg_bil (s : State) (a i : Nat) : (s.setBitReg a i).bil = s.bil := rfl
@[simp] theorem State.setBitReg_upd (s : State) (a i : Nat) : (s.setBitReg a i).upd = s.upd := rfl
@[simp] theorem State.setBitReg_lsw (s : State) (a i : Nat) : (s.setBitReg a i).lsw = s.lsw := rfl
@[simp] theorem State.setBitReg_ser (s : State) (a i : Nat) : (s.setBitReg a i).ser = s.ser := rfl
@[simp] theorem State.setBitReg_dbg (s : State) (a i : Nat) : (s.setBitReg a i).dbg = s.dbg := rfl
@[simp] theorem State.setBitReg_pending (s : State) (a i : Nat) : (s.setBitReg a i).pending = s.pending := rfl

/-! ## What `clrBitReg` leaves -/

@[simp] theorem State.clrBitReg_opt (s : State) (a i : Nat) : (s.clrBitReg a i).opt = s.opt := rfl
@[simp] theorem State.clrBitReg_tb (s : State) (a i : Nat) : (s.clrBitReg a i).tb = s.tb := rfl
@[simp] theorem State.clrBitReg_free (s : State) (a i : Nat) : (s.clrBitReg a i).free = s.free := rfl
@[simp] theorem State.clrBitReg_bank (s : State) (a i : Nat) : (s.clrBitReg a i).bank = s.bank := rfl
@[simp] theorem State.clrBitReg_routes (s : State) (a i : Nat) : (s.clrBitReg a i).routes = s.routes := rfl
@[simp] theorem State.clrBitReg_pads (s : State) (a i : Nat) : (s.clrBitReg a i).pads = s.pads := rfl
@[simp] theorem State.clrBitReg_comp (s : State) (a i : Nat) : (s.clrBitReg a i).comp = s.comp := rfl
@[simp] theorem State.clrBitReg_mem (s : State) (a i : Nat) : (s.clrBitReg a i).mem = s.mem := rfl
@[simp] theorem State.clrBitReg_ramEcc (s : State) (a i : Nat) : (s.clrBitReg a i).ramEcc = s.ramEcc := rfl
@[simp] theorem State.clrBitReg_flashEcc (s : State) (a i : Nat) : (s.clrBitReg a i).flashEcc = s.flashEcc := rfl
@[simp] theorem State.clrBitReg_ports (s : State) (a i : Nat) : (s.clrBitReg a i).ports = s.ports := rfl
@[simp] theorem State.clrBitReg_lr (s : State) (a i : Nat) : (s.clrBitReg a i).lr = s.lr := rfl
@[simp] theorem State.clrBitReg_icache (s : State) (a i : Nat) : (s.clrBitReg a i).icache = s.icache := rfl
@[simp] theorem State.clrBitReg_pmp (s : State) (a i : Nat) : (s.clrBitReg a i).pmp = s.pmp := rfl
@[simp] theorem State.clrBitReg_loadOpen (s : State) (a i : Nat) : (s.clrBitReg a i).loadOpen = s.loadOpen := rfl
@[simp] theorem State.clrBitReg_rings (s : State) (a i : Nat) : (s.clrBitReg a i).rings = s.rings := rfl
@[simp] theorem State.clrBitReg_waitHits (s : State) (a i : Nat) : (s.clrBitReg a i).waitHits = s.waitHits := rfl
@[simp] theorem State.clrBitReg_semRes (s : State) (a i : Nat) : (s.clrBitReg a i).semRes = s.semRes := rfl
@[simp] theorem State.clrBitReg_elems (s : State) (a i : Nat) : (s.clrBitReg a i).elems = s.elems := rfl
@[simp] theorem State.clrBitReg_loops (s : State) (a i : Nat) : (s.clrBitReg a i).loops = s.loops := rfl
@[simp] theorem State.clrBitReg_gates (s : State) (a i : Nat) : (s.clrBitReg a i).gates = s.gates := rfl
@[simp] theorem State.clrBitReg_erases (s : State) (a i : Nat) : (s.clrBitReg a i).erases = s.erases := rfl
@[simp] theorem State.clrBitReg_wearTold (s : State) (a i : Nat) : (s.clrBitReg a i).wearTold = s.wearTold := rfl
@[simp] theorem State.clrBitReg_scrOn (s : State) (a i : Nat) : (s.clrBitReg a i).scrOn = s.scrOn := rfl
@[simp] theorem State.clrBitReg_scrNext (s : State) (a i : Nat) : (s.clrBitReg a i).scrNext = s.scrNext := rfl
@[simp] theorem State.clrBitReg_scrCorrTold (s : State) (a i : Nat) : (s.clrBitReg a i).scrCorrTold = s.scrCorrTold := rfl
@[simp] theorem State.clrBitReg_flcRun (s : State) (a i : Nat) : (s.clrBitReg a i).flcRun = s.flcRun := rfl
@[simp] theorem State.clrBitReg_flcWait (s : State) (a i : Nat) : (s.clrBitReg a i).flcWait = s.flcWait := rfl
@[simp] theorem State.clrBitReg_tlmListed (s : State) (a i : Nat) : (s.clrBitReg a i).tlmListed = s.tlmListed := rfl
@[simp] theorem State.clrBitReg_tlmTold (s : State) (a i : Nat) : (s.clrBitReg a i).tlmTold = s.tlmTold := rfl
@[simp] theorem State.clrBitReg_tlmOut (s : State) (a i : Nat) : (s.clrBitReg a i).tlmOut = s.tlmOut := rfl
@[simp] theorem State.clrBitReg_cfc (s : State) (a i : Nat) : (s.clrBitReg a i).cfc = s.cfc := rfl
@[simp] theorem State.clrBitReg_link (s : State) (a i : Nat) : (s.clrBitReg a i).link = s.link := rfl
@[simp] theorem State.clrBitReg_clk (s : State) (a i : Nat) : (s.clrBitReg a i).clk = s.clk := rfl
@[simp] theorem State.clrBitReg_pmu (s : State) (a i : Nat) : (s.clrBitReg a i).pmu = s.pmu := rfl
@[simp] theorem State.clrBitReg_wires (s : State) (a i : Nat) : (s.clrBitReg a i).wires = s.wires := rfl
@[simp] theorem State.clrBitReg_ang (s : State) (a i : Nat) : (s.clrBitReg a i).ang = s.ang := rfl
@[simp] theorem State.clrBitReg_crkPositions (s : State) (a i : Nat) : (s.clrBitReg a i).crkPositions = s.crkPositions := rfl
@[simp] theorem State.clrBitReg_eng (s : State) (a i : Nat) : (s.clrBitReg a i).eng = s.eng := rfl
@[simp] theorem State.clrBitReg_pwr (s : State) (a i : Nat) : (s.clrBitReg a i).pwr = s.pwr := rfl
@[simp] theorem State.clrBitReg_egv (s : State) (a i : Nat) : (s.clrBitReg a i).egv = s.egv := rfl
@[simp] theorem State.clrBitReg_chg (s : State) (a i : Nat) : (s.clrBitReg a i).chg = s.chg := rfl
@[simp] theorem State.clrBitReg_rcm (s : State) (a i : Nat) : (s.clrBitReg a i).rcm = s.rcm := rfl
@[simp] theorem State.clrBitReg_plm (s : State) (a i : Nat) : (s.clrBitReg a i).plm = s.plm := rfl
@[simp] theorem State.clrBitReg_saf (s : State) (a i : Nat) : (s.clrBitReg a i).saf = s.saf := rfl
@[simp] theorem State.clrBitReg_key (s : State) (a i : Nat) : (s.clrBitReg a i).key = s.key := rfl
@[simp] theorem State.clrBitReg_vlt (s : State) (a i : Nat) : (s.clrBitReg a i).vlt = s.vlt := rfl
@[simp] theorem State.clrBitReg_cry (s : State) (a i : Nat) : (s.clrBitReg a i).cry = s.cry := rfl
@[simp] theorem State.clrBitReg_met (s : State) (a i : Nat) : (s.clrBitReg a i).met = s.met := rfl
@[simp] theorem State.clrBitReg_bil (s : State) (a i : Nat) : (s.clrBitReg a i).bil = s.bil := rfl
@[simp] theorem State.clrBitReg_upd (s : State) (a i : Nat) : (s.clrBitReg a i).upd = s.upd := rfl
@[simp] theorem State.clrBitReg_lsw (s : State) (a i : Nat) : (s.clrBitReg a i).lsw = s.lsw := rfl
@[simp] theorem State.clrBitReg_ser (s : State) (a i : Nat) : (s.clrBitReg a i).ser = s.ser := rfl
@[simp] theorem State.clrBitReg_dbg (s : State) (a i : Nat) : (s.clrBitReg a i).dbg = s.dbg := rfl
@[simp] theorem State.clrBitReg_pending (s : State) (a i : Nat) : (s.clrBitReg a i).pending = s.pending := rfl

/-! ## What `setField` leaves -/

@[simp] theorem State.setField_opt (s : State) (a lo len v : Nat) : (s.setField a lo len v).opt = s.opt := rfl
@[simp] theorem State.setField_tb (s : State) (a lo len v : Nat) : (s.setField a lo len v).tb = s.tb := rfl
@[simp] theorem State.setField_free (s : State) (a lo len v : Nat) : (s.setField a lo len v).free = s.free := rfl
@[simp] theorem State.setField_bank (s : State) (a lo len v : Nat) : (s.setField a lo len v).bank = s.bank := rfl
@[simp] theorem State.setField_routes (s : State) (a lo len v : Nat) : (s.setField a lo len v).routes = s.routes := rfl
@[simp] theorem State.setField_pads (s : State) (a lo len v : Nat) : (s.setField a lo len v).pads = s.pads := rfl
@[simp] theorem State.setField_comp (s : State) (a lo len v : Nat) : (s.setField a lo len v).comp = s.comp := rfl
@[simp] theorem State.setField_mem (s : State) (a lo len v : Nat) : (s.setField a lo len v).mem = s.mem := rfl
@[simp] theorem State.setField_ramEcc (s : State) (a lo len v : Nat) : (s.setField a lo len v).ramEcc = s.ramEcc := rfl
@[simp] theorem State.setField_flashEcc (s : State) (a lo len v : Nat) : (s.setField a lo len v).flashEcc = s.flashEcc := rfl
@[simp] theorem State.setField_ports (s : State) (a lo len v : Nat) : (s.setField a lo len v).ports = s.ports := rfl
@[simp] theorem State.setField_lr (s : State) (a lo len v : Nat) : (s.setField a lo len v).lr = s.lr := rfl
@[simp] theorem State.setField_icache (s : State) (a lo len v : Nat) : (s.setField a lo len v).icache = s.icache := rfl
@[simp] theorem State.setField_pmp (s : State) (a lo len v : Nat) : (s.setField a lo len v).pmp = s.pmp := rfl
@[simp] theorem State.setField_loadOpen (s : State) (a lo len v : Nat) : (s.setField a lo len v).loadOpen = s.loadOpen := rfl
@[simp] theorem State.setField_rings (s : State) (a lo len v : Nat) : (s.setField a lo len v).rings = s.rings := rfl
@[simp] theorem State.setField_waitHits (s : State) (a lo len v : Nat) : (s.setField a lo len v).waitHits = s.waitHits := rfl
@[simp] theorem State.setField_semRes (s : State) (a lo len v : Nat) : (s.setField a lo len v).semRes = s.semRes := rfl
@[simp] theorem State.setField_elems (s : State) (a lo len v : Nat) : (s.setField a lo len v).elems = s.elems := rfl
@[simp] theorem State.setField_loops (s : State) (a lo len v : Nat) : (s.setField a lo len v).loops = s.loops := rfl
@[simp] theorem State.setField_gates (s : State) (a lo len v : Nat) : (s.setField a lo len v).gates = s.gates := rfl
@[simp] theorem State.setField_erases (s : State) (a lo len v : Nat) : (s.setField a lo len v).erases = s.erases := rfl
@[simp] theorem State.setField_wearTold (s : State) (a lo len v : Nat) : (s.setField a lo len v).wearTold = s.wearTold := rfl
@[simp] theorem State.setField_scrOn (s : State) (a lo len v : Nat) : (s.setField a lo len v).scrOn = s.scrOn := rfl
@[simp] theorem State.setField_scrNext (s : State) (a lo len v : Nat) : (s.setField a lo len v).scrNext = s.scrNext := rfl
@[simp] theorem State.setField_scrCorrTold (s : State) (a lo len v : Nat) : (s.setField a lo len v).scrCorrTold = s.scrCorrTold := rfl
@[simp] theorem State.setField_flcRun (s : State) (a lo len v : Nat) : (s.setField a lo len v).flcRun = s.flcRun := rfl
@[simp] theorem State.setField_flcWait (s : State) (a lo len v : Nat) : (s.setField a lo len v).flcWait = s.flcWait := rfl
@[simp] theorem State.setField_tlmListed (s : State) (a lo len v : Nat) : (s.setField a lo len v).tlmListed = s.tlmListed := rfl
@[simp] theorem State.setField_tlmTold (s : State) (a lo len v : Nat) : (s.setField a lo len v).tlmTold = s.tlmTold := rfl
@[simp] theorem State.setField_tlmOut (s : State) (a lo len v : Nat) : (s.setField a lo len v).tlmOut = s.tlmOut := rfl
@[simp] theorem State.setField_cfc (s : State) (a lo len v : Nat) : (s.setField a lo len v).cfc = s.cfc := rfl
@[simp] theorem State.setField_link (s : State) (a lo len v : Nat) : (s.setField a lo len v).link = s.link := rfl
@[simp] theorem State.setField_clk (s : State) (a lo len v : Nat) : (s.setField a lo len v).clk = s.clk := rfl
@[simp] theorem State.setField_pmu (s : State) (a lo len v : Nat) : (s.setField a lo len v).pmu = s.pmu := rfl
@[simp] theorem State.setField_wires (s : State) (a lo len v : Nat) : (s.setField a lo len v).wires = s.wires := rfl
@[simp] theorem State.setField_ang (s : State) (a lo len v : Nat) : (s.setField a lo len v).ang = s.ang := rfl
@[simp] theorem State.setField_crkPositions (s : State) (a lo len v : Nat) : (s.setField a lo len v).crkPositions = s.crkPositions := rfl
@[simp] theorem State.setField_eng (s : State) (a lo len v : Nat) : (s.setField a lo len v).eng = s.eng := rfl
@[simp] theorem State.setField_pwr (s : State) (a lo len v : Nat) : (s.setField a lo len v).pwr = s.pwr := rfl
@[simp] theorem State.setField_egv (s : State) (a lo len v : Nat) : (s.setField a lo len v).egv = s.egv := rfl
@[simp] theorem State.setField_chg (s : State) (a lo len v : Nat) : (s.setField a lo len v).chg = s.chg := rfl
@[simp] theorem State.setField_rcm (s : State) (a lo len v : Nat) : (s.setField a lo len v).rcm = s.rcm := rfl
@[simp] theorem State.setField_plm (s : State) (a lo len v : Nat) : (s.setField a lo len v).plm = s.plm := rfl
@[simp] theorem State.setField_saf (s : State) (a lo len v : Nat) : (s.setField a lo len v).saf = s.saf := rfl
@[simp] theorem State.setField_key (s : State) (a lo len v : Nat) : (s.setField a lo len v).key = s.key := rfl
@[simp] theorem State.setField_vlt (s : State) (a lo len v : Nat) : (s.setField a lo len v).vlt = s.vlt := rfl
@[simp] theorem State.setField_cry (s : State) (a lo len v : Nat) : (s.setField a lo len v).cry = s.cry := rfl
@[simp] theorem State.setField_met (s : State) (a lo len v : Nat) : (s.setField a lo len v).met = s.met := rfl
@[simp] theorem State.setField_bil (s : State) (a lo len v : Nat) : (s.setField a lo len v).bil = s.bil := rfl
@[simp] theorem State.setField_upd (s : State) (a lo len v : Nat) : (s.setField a lo len v).upd = s.upd := rfl
@[simp] theorem State.setField_lsw (s : State) (a lo len v : Nat) : (s.setField a lo len v).lsw = s.lsw := rfl
@[simp] theorem State.setField_ser (s : State) (a lo len v : Nat) : (s.setField a lo len v).ser = s.ser := rfl
@[simp] theorem State.setField_dbg (s : State) (a lo len v : Nat) : (s.setField a lo len v).dbg = s.dbg := rfl
@[simp] theorem State.setField_pending (s : State) (a lo len v : Nat) : (s.setField a lo len v).pending = s.pending := rfl

/-! ## What `store` leaves -/

@[simp] theorem State.store_opt (s : State) (a : Nat) (v : Word) : (s.store a v).opt = s.opt := by unfold State.store; split <;> rfl
@[simp] theorem State.store_tb (s : State) (a : Nat) (v : Word) : (s.store a v).tb = s.tb := by unfold State.store; split <;> rfl
@[simp] theorem State.store_free (s : State) (a : Nat) (v : Word) : (s.store a v).free = s.free := by unfold State.store; split <;> rfl
@[simp] theorem State.store_bank (s : State) (a : Nat) (v : Word) : (s.store a v).bank = s.bank := by unfold State.store; split <;> rfl
@[simp] theorem State.store_routes (s : State) (a : Nat) (v : Word) : (s.store a v).routes = s.routes := by unfold State.store; split <;> rfl
@[simp] theorem State.store_pads (s : State) (a : Nat) (v : Word) : (s.store a v).pads = s.pads := by unfold State.store; split <;> rfl
@[simp] theorem State.store_comp (s : State) (a : Nat) (v : Word) : (s.store a v).comp = s.comp := by unfold State.store; split <;> rfl
@[simp] theorem State.store_mem (s : State) (a : Nat) (v : Word) : (s.store a v).mem = s.mem := by unfold State.store; split <;> rfl
@[simp] theorem State.store_ramEcc (s : State) (a : Nat) (v : Word) : (s.store a v).ramEcc = s.ramEcc := by unfold State.store; split <;> rfl
@[simp] theorem State.store_flashEcc (s : State) (a : Nat) (v : Word) : (s.store a v).flashEcc = s.flashEcc := by unfold State.store; split <;> rfl
@[simp] theorem State.store_ports (s : State) (a : Nat) (v : Word) : (s.store a v).ports = s.ports := by unfold State.store; split <;> rfl
@[simp] theorem State.store_lr (s : State) (a : Nat) (v : Word) : (s.store a v).lr = s.lr := by unfold State.store; split <;> rfl
@[simp] theorem State.store_icache (s : State) (a : Nat) (v : Word) : (s.store a v).icache = s.icache := by unfold State.store; split <;> rfl
@[simp] theorem State.store_pmp (s : State) (a : Nat) (v : Word) : (s.store a v).pmp = s.pmp := by unfold State.store; split <;> rfl
@[simp] theorem State.store_loadOpen (s : State) (a : Nat) (v : Word) : (s.store a v).loadOpen = s.loadOpen := by unfold State.store; split <;> rfl
@[simp] theorem State.store_rings (s : State) (a : Nat) (v : Word) : (s.store a v).rings = s.rings := by unfold State.store; split <;> rfl
@[simp] theorem State.store_waitHits (s : State) (a : Nat) (v : Word) : (s.store a v).waitHits = s.waitHits := by unfold State.store; split <;> rfl
@[simp] theorem State.store_semRes (s : State) (a : Nat) (v : Word) : (s.store a v).semRes = s.semRes := by unfold State.store; split <;> rfl
@[simp] theorem State.store_elems (s : State) (a : Nat) (v : Word) : (s.store a v).elems = s.elems := by unfold State.store; split <;> rfl
@[simp] theorem State.store_loops (s : State) (a : Nat) (v : Word) : (s.store a v).loops = s.loops := by unfold State.store; split <;> rfl
@[simp] theorem State.store_gates (s : State) (a : Nat) (v : Word) : (s.store a v).gates = s.gates := by unfold State.store; split <;> rfl
@[simp] theorem State.store_erases (s : State) (a : Nat) (v : Word) : (s.store a v).erases = s.erases := by unfold State.store; split <;> rfl
@[simp] theorem State.store_wearTold (s : State) (a : Nat) (v : Word) : (s.store a v).wearTold = s.wearTold := by unfold State.store; split <;> rfl
@[simp] theorem State.store_scrOn (s : State) (a : Nat) (v : Word) : (s.store a v).scrOn = s.scrOn := by unfold State.store; split <;> rfl
@[simp] theorem State.store_scrNext (s : State) (a : Nat) (v : Word) : (s.store a v).scrNext = s.scrNext := by unfold State.store; split <;> rfl
@[simp] theorem State.store_scrCorrTold (s : State) (a : Nat) (v : Word) : (s.store a v).scrCorrTold = s.scrCorrTold := by unfold State.store; split <;> rfl
@[simp] theorem State.store_flcRun (s : State) (a : Nat) (v : Word) : (s.store a v).flcRun = s.flcRun := by unfold State.store; split <;> rfl
@[simp] theorem State.store_flcWait (s : State) (a : Nat) (v : Word) : (s.store a v).flcWait = s.flcWait := by unfold State.store; split <;> rfl
@[simp] theorem State.store_tlmListed (s : State) (a : Nat) (v : Word) : (s.store a v).tlmListed = s.tlmListed := by unfold State.store; split <;> rfl
@[simp] theorem State.store_tlmTold (s : State) (a : Nat) (v : Word) : (s.store a v).tlmTold = s.tlmTold := by unfold State.store; split <;> rfl
@[simp] theorem State.store_tlmOut (s : State) (a : Nat) (v : Word) : (s.store a v).tlmOut = s.tlmOut := by unfold State.store; split <;> rfl
@[simp] theorem State.store_cfc (s : State) (a : Nat) (v : Word) : (s.store a v).cfc = s.cfc := by unfold State.store; split <;> rfl
@[simp] theorem State.store_link (s : State) (a : Nat) (v : Word) : (s.store a v).link = s.link := by unfold State.store; split <;> rfl
@[simp] theorem State.store_clk (s : State) (a : Nat) (v : Word) : (s.store a v).clk = s.clk := by unfold State.store; split <;> rfl
@[simp] theorem State.store_pmu (s : State) (a : Nat) (v : Word) : (s.store a v).pmu = s.pmu := by unfold State.store; split <;> rfl
@[simp] theorem State.store_wires (s : State) (a : Nat) (v : Word) : (s.store a v).wires = s.wires := by unfold State.store; split <;> rfl
@[simp] theorem State.store_ang (s : State) (a : Nat) (v : Word) : (s.store a v).ang = s.ang := by unfold State.store; split <;> rfl
@[simp] theorem State.store_crkPositions (s : State) (a : Nat) (v : Word) : (s.store a v).crkPositions = s.crkPositions := by unfold State.store; split <;> rfl
@[simp] theorem State.store_eng (s : State) (a : Nat) (v : Word) : (s.store a v).eng = s.eng := by unfold State.store; split <;> rfl
@[simp] theorem State.store_pwr (s : State) (a : Nat) (v : Word) : (s.store a v).pwr = s.pwr := by unfold State.store; split <;> rfl
@[simp] theorem State.store_egv (s : State) (a : Nat) (v : Word) : (s.store a v).egv = s.egv := by unfold State.store; split <;> rfl
@[simp] theorem State.store_chg (s : State) (a : Nat) (v : Word) : (s.store a v).chg = s.chg := by unfold State.store; split <;> rfl
@[simp] theorem State.store_rcm (s : State) (a : Nat) (v : Word) : (s.store a v).rcm = s.rcm := by unfold State.store; split <;> rfl
@[simp] theorem State.store_plm (s : State) (a : Nat) (v : Word) : (s.store a v).plm = s.plm := by unfold State.store; split <;> rfl
@[simp] theorem State.store_saf (s : State) (a : Nat) (v : Word) : (s.store a v).saf = s.saf := by unfold State.store; split <;> rfl
@[simp] theorem State.store_key (s : State) (a : Nat) (v : Word) : (s.store a v).key = s.key := by unfold State.store; split <;> rfl
@[simp] theorem State.store_vlt (s : State) (a : Nat) (v : Word) : (s.store a v).vlt = s.vlt := by unfold State.store; split <;> rfl
@[simp] theorem State.store_cry (s : State) (a : Nat) (v : Word) : (s.store a v).cry = s.cry := by unfold State.store; split <;> rfl
@[simp] theorem State.store_met (s : State) (a : Nat) (v : Word) : (s.store a v).met = s.met := by unfold State.store; split <;> rfl
@[simp] theorem State.store_bil (s : State) (a : Nat) (v : Word) : (s.store a v).bil = s.bil := by unfold State.store; split <;> rfl
@[simp] theorem State.store_upd (s : State) (a : Nat) (v : Word) : (s.store a v).upd = s.upd := by unfold State.store; split <;> rfl
@[simp] theorem State.store_lsw (s : State) (a : Nat) (v : Word) : (s.store a v).lsw = s.lsw := by unfold State.store; split <;> rfl
@[simp] theorem State.store_ser (s : State) (a : Nat) (v : Word) : (s.store a v).ser = s.ser := by unfold State.store; split <;> rfl
@[simp] theorem State.store_dbg (s : State) (a : Nat) (v : Word) : (s.store a v).dbg = s.dbg := by unfold State.store; split <;> rfl
@[simp] theorem State.store_pending (s : State) (a : Nat) (v : Word) : (s.store a v).pending = s.pending := by unfold State.store; split <;> rfl

/-! ## What `setBanked` leaves -/

@[simp] theorem State.setBanked_opt (s : State) (c a : Nat) (v : Word) : (s.setBanked c a v).opt = s.opt := rfl
@[simp] theorem State.setBanked_tb (s : State) (c a : Nat) (v : Word) : (s.setBanked c a v).tb = s.tb := rfl
@[simp] theorem State.setBanked_free (s : State) (c a : Nat) (v : Word) : (s.setBanked c a v).free = s.free := rfl
@[simp] theorem State.setBanked_regs (s : State) (c a : Nat) (v : Word) : (s.setBanked c a v).regs = s.regs := rfl
@[simp] theorem State.setBanked_routes (s : State) (c a : Nat) (v : Word) : (s.setBanked c a v).routes = s.routes := rfl
@[simp] theorem State.setBanked_pads (s : State) (c a : Nat) (v : Word) : (s.setBanked c a v).pads = s.pads := rfl
@[simp] theorem State.setBanked_comp (s : State) (c a : Nat) (v : Word) : (s.setBanked c a v).comp = s.comp := rfl
@[simp] theorem State.setBanked_mem (s : State) (c a : Nat) (v : Word) : (s.setBanked c a v).mem = s.mem := rfl
@[simp] theorem State.setBanked_ramEcc (s : State) (c a : Nat) (v : Word) : (s.setBanked c a v).ramEcc = s.ramEcc := rfl
@[simp] theorem State.setBanked_flashEcc (s : State) (c a : Nat) (v : Word) : (s.setBanked c a v).flashEcc = s.flashEcc := rfl
@[simp] theorem State.setBanked_ports (s : State) (c a : Nat) (v : Word) : (s.setBanked c a v).ports = s.ports := rfl
@[simp] theorem State.setBanked_lr (s : State) (c a : Nat) (v : Word) : (s.setBanked c a v).lr = s.lr := rfl
@[simp] theorem State.setBanked_icache (s : State) (c a : Nat) (v : Word) : (s.setBanked c a v).icache = s.icache := rfl
@[simp] theorem State.setBanked_pmp (s : State) (c a : Nat) (v : Word) : (s.setBanked c a v).pmp = s.pmp := rfl
@[simp] theorem State.setBanked_loadOpen (s : State) (c a : Nat) (v : Word) : (s.setBanked c a v).loadOpen = s.loadOpen := rfl
@[simp] theorem State.setBanked_rings (s : State) (c a : Nat) (v : Word) : (s.setBanked c a v).rings = s.rings := rfl
@[simp] theorem State.setBanked_waitHits (s : State) (c a : Nat) (v : Word) : (s.setBanked c a v).waitHits = s.waitHits := rfl
@[simp] theorem State.setBanked_semRes (s : State) (c a : Nat) (v : Word) : (s.setBanked c a v).semRes = s.semRes := rfl
@[simp] theorem State.setBanked_elems (s : State) (c a : Nat) (v : Word) : (s.setBanked c a v).elems = s.elems := rfl
@[simp] theorem State.setBanked_loops (s : State) (c a : Nat) (v : Word) : (s.setBanked c a v).loops = s.loops := rfl
@[simp] theorem State.setBanked_gates (s : State) (c a : Nat) (v : Word) : (s.setBanked c a v).gates = s.gates := rfl
@[simp] theorem State.setBanked_erases (s : State) (c a : Nat) (v : Word) : (s.setBanked c a v).erases = s.erases := rfl
@[simp] theorem State.setBanked_wearTold (s : State) (c a : Nat) (v : Word) : (s.setBanked c a v).wearTold = s.wearTold := rfl
@[simp] theorem State.setBanked_scrOn (s : State) (c a : Nat) (v : Word) : (s.setBanked c a v).scrOn = s.scrOn := rfl
@[simp] theorem State.setBanked_scrNext (s : State) (c a : Nat) (v : Word) : (s.setBanked c a v).scrNext = s.scrNext := rfl
@[simp] theorem State.setBanked_scrCorrTold (s : State) (c a : Nat) (v : Word) : (s.setBanked c a v).scrCorrTold = s.scrCorrTold := rfl
@[simp] theorem State.setBanked_flcRun (s : State) (c a : Nat) (v : Word) : (s.setBanked c a v).flcRun = s.flcRun := rfl
@[simp] theorem State.setBanked_flcWait (s : State) (c a : Nat) (v : Word) : (s.setBanked c a v).flcWait = s.flcWait := rfl
@[simp] theorem State.setBanked_tlmListed (s : State) (c a : Nat) (v : Word) : (s.setBanked c a v).tlmListed = s.tlmListed := rfl
@[simp] theorem State.setBanked_tlmTold (s : State) (c a : Nat) (v : Word) : (s.setBanked c a v).tlmTold = s.tlmTold := rfl
@[simp] theorem State.setBanked_tlmOut (s : State) (c a : Nat) (v : Word) : (s.setBanked c a v).tlmOut = s.tlmOut := rfl
@[simp] theorem State.setBanked_cfc (s : State) (c a : Nat) (v : Word) : (s.setBanked c a v).cfc = s.cfc := rfl
@[simp] theorem State.setBanked_link (s : State) (c a : Nat) (v : Word) : (s.setBanked c a v).link = s.link := rfl
@[simp] theorem State.setBanked_clk (s : State) (c a : Nat) (v : Word) : (s.setBanked c a v).clk = s.clk := rfl
@[simp] theorem State.setBanked_pmu (s : State) (c a : Nat) (v : Word) : (s.setBanked c a v).pmu = s.pmu := rfl
@[simp] theorem State.setBanked_wires (s : State) (c a : Nat) (v : Word) : (s.setBanked c a v).wires = s.wires := rfl
@[simp] theorem State.setBanked_ang (s : State) (c a : Nat) (v : Word) : (s.setBanked c a v).ang = s.ang := rfl
@[simp] theorem State.setBanked_crkPositions (s : State) (c a : Nat) (v : Word) : (s.setBanked c a v).crkPositions = s.crkPositions := rfl
@[simp] theorem State.setBanked_eng (s : State) (c a : Nat) (v : Word) : (s.setBanked c a v).eng = s.eng := rfl
@[simp] theorem State.setBanked_pwr (s : State) (c a : Nat) (v : Word) : (s.setBanked c a v).pwr = s.pwr := rfl
@[simp] theorem State.setBanked_egv (s : State) (c a : Nat) (v : Word) : (s.setBanked c a v).egv = s.egv := rfl
@[simp] theorem State.setBanked_chg (s : State) (c a : Nat) (v : Word) : (s.setBanked c a v).chg = s.chg := rfl
@[simp] theorem State.setBanked_rcm (s : State) (c a : Nat) (v : Word) : (s.setBanked c a v).rcm = s.rcm := rfl
@[simp] theorem State.setBanked_plm (s : State) (c a : Nat) (v : Word) : (s.setBanked c a v).plm = s.plm := rfl
@[simp] theorem State.setBanked_saf (s : State) (c a : Nat) (v : Word) : (s.setBanked c a v).saf = s.saf := rfl
@[simp] theorem State.setBanked_key (s : State) (c a : Nat) (v : Word) : (s.setBanked c a v).key = s.key := rfl
@[simp] theorem State.setBanked_vlt (s : State) (c a : Nat) (v : Word) : (s.setBanked c a v).vlt = s.vlt := rfl
@[simp] theorem State.setBanked_cry (s : State) (c a : Nat) (v : Word) : (s.setBanked c a v).cry = s.cry := rfl
@[simp] theorem State.setBanked_met (s : State) (c a : Nat) (v : Word) : (s.setBanked c a v).met = s.met := rfl
@[simp] theorem State.setBanked_bil (s : State) (c a : Nat) (v : Word) : (s.setBanked c a v).bil = s.bil := rfl
@[simp] theorem State.setBanked_upd (s : State) (c a : Nat) (v : Word) : (s.setBanked c a v).upd = s.upd := rfl
@[simp] theorem State.setBanked_lsw (s : State) (c a : Nat) (v : Word) : (s.setBanked c a v).lsw = s.lsw := rfl
@[simp] theorem State.setBanked_ser (s : State) (c a : Nat) (v : Word) : (s.setBanked c a v).ser = s.ser := rfl
@[simp] theorem State.setBanked_dbg (s : State) (c a : Nat) (v : Word) : (s.setBanked c a v).dbg = s.dbg := rfl
@[simp] theorem State.setBanked_pending (s : State) (c a : Nat) (v : Word) : (s.setBanked c a v).pending = s.pending := rfl
@[simp] theorem State.setBanked_reg (s : State) (c a : Nat) (v : Word) (x : Nat) : (s.setBanked c a v).reg x = s.reg x := State.reg_of_regs (by simp) (by simp) x

/-! ## What `raise` leaves -/

@[simp] theorem State.raise_opt (s : State) (n : Nat) : (s.raise n).opt = s.opt := by rw [State.raise_eq]
@[simp] theorem State.raise_tb (s : State) (n : Nat) : (s.raise n).tb = s.tb := by rw [State.raise_eq]
@[simp] theorem State.raise_free (s : State) (n : Nat) : (s.raise n).free = s.free := by rw [State.raise_eq]
@[simp] theorem State.raise_regs (s : State) (n : Nat) : (s.raise n).regs = s.regs := by rw [State.raise_eq]
@[simp] theorem State.raise_routes (s : State) (n : Nat) : (s.raise n).routes = s.routes := by rw [State.raise_eq]
@[simp] theorem State.raise_pads (s : State) (n : Nat) : (s.raise n).pads = s.pads := by rw [State.raise_eq]
@[simp] theorem State.raise_comp (s : State) (n : Nat) : (s.raise n).comp = s.comp := by rw [State.raise_eq]
@[simp] theorem State.raise_mem (s : State) (n : Nat) : (s.raise n).mem = s.mem := by rw [State.raise_eq]
@[simp] theorem State.raise_ramEcc (s : State) (n : Nat) : (s.raise n).ramEcc = s.ramEcc := by rw [State.raise_eq]
@[simp] theorem State.raise_flashEcc (s : State) (n : Nat) : (s.raise n).flashEcc = s.flashEcc := by rw [State.raise_eq]
@[simp] theorem State.raise_ports (s : State) (n : Nat) : (s.raise n).ports = s.ports := by rw [State.raise_eq]
@[simp] theorem State.raise_lr (s : State) (n : Nat) : (s.raise n).lr = s.lr := by rw [State.raise_eq]
@[simp] theorem State.raise_icache (s : State) (n : Nat) : (s.raise n).icache = s.icache := by rw [State.raise_eq]
@[simp] theorem State.raise_pmp (s : State) (n : Nat) : (s.raise n).pmp = s.pmp := by rw [State.raise_eq]
@[simp] theorem State.raise_loadOpen (s : State) (n : Nat) : (s.raise n).loadOpen = s.loadOpen := by rw [State.raise_eq]
@[simp] theorem State.raise_rings (s : State) (n : Nat) : (s.raise n).rings = s.rings := by rw [State.raise_eq]
@[simp] theorem State.raise_semRes (s : State) (n : Nat) : (s.raise n).semRes = s.semRes := by rw [State.raise_eq]
@[simp] theorem State.raise_elems (s : State) (n : Nat) : (s.raise n).elems = s.elems := by rw [State.raise_eq]
@[simp] theorem State.raise_loops (s : State) (n : Nat) : (s.raise n).loops = s.loops := by rw [State.raise_eq]
@[simp] theorem State.raise_gates (s : State) (n : Nat) : (s.raise n).gates = s.gates := by rw [State.raise_eq]
@[simp] theorem State.raise_erases (s : State) (n : Nat) : (s.raise n).erases = s.erases := by rw [State.raise_eq]
@[simp] theorem State.raise_wearTold (s : State) (n : Nat) : (s.raise n).wearTold = s.wearTold := by rw [State.raise_eq]
@[simp] theorem State.raise_scrOn (s : State) (n : Nat) : (s.raise n).scrOn = s.scrOn := by rw [State.raise_eq]
@[simp] theorem State.raise_scrNext (s : State) (n : Nat) : (s.raise n).scrNext = s.scrNext := by rw [State.raise_eq]
@[simp] theorem State.raise_scrCorrTold (s : State) (n : Nat) : (s.raise n).scrCorrTold = s.scrCorrTold := by rw [State.raise_eq]
@[simp] theorem State.raise_flcRun (s : State) (n : Nat) : (s.raise n).flcRun = s.flcRun := by rw [State.raise_eq]
@[simp] theorem State.raise_flcWait (s : State) (n : Nat) : (s.raise n).flcWait = s.flcWait := by rw [State.raise_eq]
@[simp] theorem State.raise_tlmListed (s : State) (n : Nat) : (s.raise n).tlmListed = s.tlmListed := by rw [State.raise_eq]
@[simp] theorem State.raise_tlmTold (s : State) (n : Nat) : (s.raise n).tlmTold = s.tlmTold := by rw [State.raise_eq]
@[simp] theorem State.raise_tlmOut (s : State) (n : Nat) : (s.raise n).tlmOut = s.tlmOut := by rw [State.raise_eq]
@[simp] theorem State.raise_cfc (s : State) (n : Nat) : (s.raise n).cfc = s.cfc := by rw [State.raise_eq]
@[simp] theorem State.raise_link (s : State) (n : Nat) : (s.raise n).link = s.link := by rw [State.raise_eq]
@[simp] theorem State.raise_clk (s : State) (n : Nat) : (s.raise n).clk = s.clk := by rw [State.raise_eq]
@[simp] theorem State.raise_pmu (s : State) (n : Nat) : (s.raise n).pmu = s.pmu := by rw [State.raise_eq]
@[simp] theorem State.raise_wires (s : State) (n : Nat) : (s.raise n).wires = s.wires := by rw [State.raise_eq]
@[simp] theorem State.raise_ang (s : State) (n : Nat) : (s.raise n).ang = s.ang := by rw [State.raise_eq]
@[simp] theorem State.raise_crkPositions (s : State) (n : Nat) : (s.raise n).crkPositions = s.crkPositions := by rw [State.raise_eq]
@[simp] theorem State.raise_eng (s : State) (n : Nat) : (s.raise n).eng = s.eng := by rw [State.raise_eq]
@[simp] theorem State.raise_pwr (s : State) (n : Nat) : (s.raise n).pwr = s.pwr := by rw [State.raise_eq]
@[simp] theorem State.raise_egv (s : State) (n : Nat) : (s.raise n).egv = s.egv := by rw [State.raise_eq]
@[simp] theorem State.raise_chg (s : State) (n : Nat) : (s.raise n).chg = s.chg := by rw [State.raise_eq]
@[simp] theorem State.raise_rcm (s : State) (n : Nat) : (s.raise n).rcm = s.rcm := by rw [State.raise_eq]
@[simp] theorem State.raise_plm (s : State) (n : Nat) : (s.raise n).plm = s.plm := by rw [State.raise_eq]
@[simp] theorem State.raise_saf (s : State) (n : Nat) : (s.raise n).saf = s.saf := by rw [State.raise_eq]
@[simp] theorem State.raise_key (s : State) (n : Nat) : (s.raise n).key = s.key := by rw [State.raise_eq]
@[simp] theorem State.raise_vlt (s : State) (n : Nat) : (s.raise n).vlt = s.vlt := by rw [State.raise_eq]
@[simp] theorem State.raise_cry (s : State) (n : Nat) : (s.raise n).cry = s.cry := by rw [State.raise_eq]
@[simp] theorem State.raise_met (s : State) (n : Nat) : (s.raise n).met = s.met := by rw [State.raise_eq]
@[simp] theorem State.raise_bil (s : State) (n : Nat) : (s.raise n).bil = s.bil := by rw [State.raise_eq]
@[simp] theorem State.raise_upd (s : State) (n : Nat) : (s.raise n).upd = s.upd := by rw [State.raise_eq]
@[simp] theorem State.raise_lsw (s : State) (n : Nat) : (s.raise n).lsw = s.lsw := by rw [State.raise_eq]
@[simp] theorem State.raise_ser (s : State) (n : Nat) : (s.raise n).ser = s.ser := by rw [State.raise_eq]
@[simp] theorem State.raise_dbg (s : State) (n : Nat) : (s.raise n).dbg = s.dbg := by rw [State.raise_eq]
@[simp] theorem State.raise_pending (s : State) (n : Nat) : (s.raise n).pending = s.pending := by rw [State.raise_eq]
@[simp] theorem State.raise_reg (s : State) (n : Nat) (x : Nat) : (s.raise n).reg x = s.reg x := State.reg_of_regs (by simp) (by simp) x

/-! ## What `raiseAll` leaves -/

@[simp] theorem State.raiseAll_opt (s : State) (l : List Nat) : (s.raiseAll l).opt = s.opt := by rw [State.raiseAll_eq]
@[simp] theorem State.raiseAll_tb (s : State) (l : List Nat) : (s.raiseAll l).tb = s.tb := by rw [State.raiseAll_eq]
@[simp] theorem State.raiseAll_free (s : State) (l : List Nat) : (s.raiseAll l).free = s.free := by rw [State.raiseAll_eq]
@[simp] theorem State.raiseAll_regs (s : State) (l : List Nat) : (s.raiseAll l).regs = s.regs := by rw [State.raiseAll_eq]
@[simp] theorem State.raiseAll_routes (s : State) (l : List Nat) : (s.raiseAll l).routes = s.routes := by rw [State.raiseAll_eq]
@[simp] theorem State.raiseAll_pads (s : State) (l : List Nat) : (s.raiseAll l).pads = s.pads := by rw [State.raiseAll_eq]
@[simp] theorem State.raiseAll_comp (s : State) (l : List Nat) : (s.raiseAll l).comp = s.comp := by rw [State.raiseAll_eq]
@[simp] theorem State.raiseAll_mem (s : State) (l : List Nat) : (s.raiseAll l).mem = s.mem := by rw [State.raiseAll_eq]
@[simp] theorem State.raiseAll_ramEcc (s : State) (l : List Nat) : (s.raiseAll l).ramEcc = s.ramEcc := by rw [State.raiseAll_eq]
@[simp] theorem State.raiseAll_flashEcc (s : State) (l : List Nat) : (s.raiseAll l).flashEcc = s.flashEcc := by rw [State.raiseAll_eq]
@[simp] theorem State.raiseAll_ports (s : State) (l : List Nat) : (s.raiseAll l).ports = s.ports := by rw [State.raiseAll_eq]
@[simp] theorem State.raiseAll_lr (s : State) (l : List Nat) : (s.raiseAll l).lr = s.lr := by rw [State.raiseAll_eq]
@[simp] theorem State.raiseAll_icache (s : State) (l : List Nat) : (s.raiseAll l).icache = s.icache := by rw [State.raiseAll_eq]
@[simp] theorem State.raiseAll_pmp (s : State) (l : List Nat) : (s.raiseAll l).pmp = s.pmp := by rw [State.raiseAll_eq]
@[simp] theorem State.raiseAll_loadOpen (s : State) (l : List Nat) : (s.raiseAll l).loadOpen = s.loadOpen := by rw [State.raiseAll_eq]
@[simp] theorem State.raiseAll_rings (s : State) (l : List Nat) : (s.raiseAll l).rings = s.rings := by rw [State.raiseAll_eq]
@[simp] theorem State.raiseAll_semRes (s : State) (l : List Nat) : (s.raiseAll l).semRes = s.semRes := by rw [State.raiseAll_eq]
@[simp] theorem State.raiseAll_elems (s : State) (l : List Nat) : (s.raiseAll l).elems = s.elems := by rw [State.raiseAll_eq]
@[simp] theorem State.raiseAll_loops (s : State) (l : List Nat) : (s.raiseAll l).loops = s.loops := by rw [State.raiseAll_eq]
@[simp] theorem State.raiseAll_gates (s : State) (l : List Nat) : (s.raiseAll l).gates = s.gates := by rw [State.raiseAll_eq]
@[simp] theorem State.raiseAll_erases (s : State) (l : List Nat) : (s.raiseAll l).erases = s.erases := by rw [State.raiseAll_eq]
@[simp] theorem State.raiseAll_wearTold (s : State) (l : List Nat) : (s.raiseAll l).wearTold = s.wearTold := by rw [State.raiseAll_eq]
@[simp] theorem State.raiseAll_scrOn (s : State) (l : List Nat) : (s.raiseAll l).scrOn = s.scrOn := by rw [State.raiseAll_eq]
@[simp] theorem State.raiseAll_scrNext (s : State) (l : List Nat) : (s.raiseAll l).scrNext = s.scrNext := by rw [State.raiseAll_eq]
@[simp] theorem State.raiseAll_scrCorrTold (s : State) (l : List Nat) : (s.raiseAll l).scrCorrTold = s.scrCorrTold := by rw [State.raiseAll_eq]
@[simp] theorem State.raiseAll_flcRun (s : State) (l : List Nat) : (s.raiseAll l).flcRun = s.flcRun := by rw [State.raiseAll_eq]
@[simp] theorem State.raiseAll_flcWait (s : State) (l : List Nat) : (s.raiseAll l).flcWait = s.flcWait := by rw [State.raiseAll_eq]
@[simp] theorem State.raiseAll_tlmListed (s : State) (l : List Nat) : (s.raiseAll l).tlmListed = s.tlmListed := by rw [State.raiseAll_eq]
@[simp] theorem State.raiseAll_tlmTold (s : State) (l : List Nat) : (s.raiseAll l).tlmTold = s.tlmTold := by rw [State.raiseAll_eq]
@[simp] theorem State.raiseAll_tlmOut (s : State) (l : List Nat) : (s.raiseAll l).tlmOut = s.tlmOut := by rw [State.raiseAll_eq]
@[simp] theorem State.raiseAll_cfc (s : State) (l : List Nat) : (s.raiseAll l).cfc = s.cfc := by rw [State.raiseAll_eq]
@[simp] theorem State.raiseAll_link (s : State) (l : List Nat) : (s.raiseAll l).link = s.link := by rw [State.raiseAll_eq]
@[simp] theorem State.raiseAll_clk (s : State) (l : List Nat) : (s.raiseAll l).clk = s.clk := by rw [State.raiseAll_eq]
@[simp] theorem State.raiseAll_pmu (s : State) (l : List Nat) : (s.raiseAll l).pmu = s.pmu := by rw [State.raiseAll_eq]
@[simp] theorem State.raiseAll_wires (s : State) (l : List Nat) : (s.raiseAll l).wires = s.wires := by rw [State.raiseAll_eq]
@[simp] theorem State.raiseAll_ang (s : State) (l : List Nat) : (s.raiseAll l).ang = s.ang := by rw [State.raiseAll_eq]
@[simp] theorem State.raiseAll_crkPositions (s : State) (l : List Nat) : (s.raiseAll l).crkPositions = s.crkPositions := by rw [State.raiseAll_eq]
@[simp] theorem State.raiseAll_eng (s : State) (l : List Nat) : (s.raiseAll l).eng = s.eng := by rw [State.raiseAll_eq]
@[simp] theorem State.raiseAll_pwr (s : State) (l : List Nat) : (s.raiseAll l).pwr = s.pwr := by rw [State.raiseAll_eq]
@[simp] theorem State.raiseAll_egv (s : State) (l : List Nat) : (s.raiseAll l).egv = s.egv := by rw [State.raiseAll_eq]
@[simp] theorem State.raiseAll_chg (s : State) (l : List Nat) : (s.raiseAll l).chg = s.chg := by rw [State.raiseAll_eq]
@[simp] theorem State.raiseAll_rcm (s : State) (l : List Nat) : (s.raiseAll l).rcm = s.rcm := by rw [State.raiseAll_eq]
@[simp] theorem State.raiseAll_plm (s : State) (l : List Nat) : (s.raiseAll l).plm = s.plm := by rw [State.raiseAll_eq]
@[simp] theorem State.raiseAll_saf (s : State) (l : List Nat) : (s.raiseAll l).saf = s.saf := by rw [State.raiseAll_eq]
@[simp] theorem State.raiseAll_key (s : State) (l : List Nat) : (s.raiseAll l).key = s.key := by rw [State.raiseAll_eq]
@[simp] theorem State.raiseAll_vlt (s : State) (l : List Nat) : (s.raiseAll l).vlt = s.vlt := by rw [State.raiseAll_eq]
@[simp] theorem State.raiseAll_cry (s : State) (l : List Nat) : (s.raiseAll l).cry = s.cry := by rw [State.raiseAll_eq]
@[simp] theorem State.raiseAll_met (s : State) (l : List Nat) : (s.raiseAll l).met = s.met := by rw [State.raiseAll_eq]
@[simp] theorem State.raiseAll_bil (s : State) (l : List Nat) : (s.raiseAll l).bil = s.bil := by rw [State.raiseAll_eq]
@[simp] theorem State.raiseAll_upd (s : State) (l : List Nat) : (s.raiseAll l).upd = s.upd := by rw [State.raiseAll_eq]
@[simp] theorem State.raiseAll_lsw (s : State) (l : List Nat) : (s.raiseAll l).lsw = s.lsw := by rw [State.raiseAll_eq]
@[simp] theorem State.raiseAll_ser (s : State) (l : List Nat) : (s.raiseAll l).ser = s.ser := by rw [State.raiseAll_eq]
@[simp] theorem State.raiseAll_dbg (s : State) (l : List Nat) : (s.raiseAll l).dbg = s.dbg := by rw [State.raiseAll_eq]
@[simp] theorem State.raiseAll_pending (s : State) (l : List Nat) : (s.raiseAll l).pending = s.pending := by rw [State.raiseAll_eq]
@[simp] theorem State.raiseAll_reg (s : State) (l : List Nat) (x : Nat) : (s.raiseAll l).reg x = s.reg x := State.reg_of_regs (by simp) (by simp) x

/-! ## What `useFree` leaves -/

@[simp] theorem State.useFree_opt (s : State) : s.useFree.opt = s.opt := rfl
@[simp] theorem State.useFree_tb (s : State) : s.useFree.tb = s.tb := rfl
@[simp] theorem State.useFree_regs (s : State) : s.useFree.regs = s.regs := rfl
@[simp] theorem State.useFree_bank (s : State) : s.useFree.bank = s.bank := rfl
@[simp] theorem State.useFree_routes (s : State) : s.useFree.routes = s.routes := rfl
@[simp] theorem State.useFree_pads (s : State) : s.useFree.pads = s.pads := rfl
@[simp] theorem State.useFree_comp (s : State) : s.useFree.comp = s.comp := rfl
@[simp] theorem State.useFree_mem (s : State) : s.useFree.mem = s.mem := rfl
@[simp] theorem State.useFree_ramEcc (s : State) : s.useFree.ramEcc = s.ramEcc := rfl
@[simp] theorem State.useFree_flashEcc (s : State) : s.useFree.flashEcc = s.flashEcc := rfl
@[simp] theorem State.useFree_ports (s : State) : s.useFree.ports = s.ports := rfl
@[simp] theorem State.useFree_lr (s : State) : s.useFree.lr = s.lr := rfl
@[simp] theorem State.useFree_icache (s : State) : s.useFree.icache = s.icache := rfl
@[simp] theorem State.useFree_pmp (s : State) : s.useFree.pmp = s.pmp := rfl
@[simp] theorem State.useFree_loadOpen (s : State) : s.useFree.loadOpen = s.loadOpen := rfl
@[simp] theorem State.useFree_rings (s : State) : s.useFree.rings = s.rings := rfl
@[simp] theorem State.useFree_waitHits (s : State) : s.useFree.waitHits = s.waitHits := rfl
@[simp] theorem State.useFree_semRes (s : State) : s.useFree.semRes = s.semRes := rfl
@[simp] theorem State.useFree_elems (s : State) : s.useFree.elems = s.elems := rfl
@[simp] theorem State.useFree_loops (s : State) : s.useFree.loops = s.loops := rfl
@[simp] theorem State.useFree_gates (s : State) : s.useFree.gates = s.gates := rfl
@[simp] theorem State.useFree_erases (s : State) : s.useFree.erases = s.erases := rfl
@[simp] theorem State.useFree_wearTold (s : State) : s.useFree.wearTold = s.wearTold := rfl
@[simp] theorem State.useFree_scrOn (s : State) : s.useFree.scrOn = s.scrOn := rfl
@[simp] theorem State.useFree_scrNext (s : State) : s.useFree.scrNext = s.scrNext := rfl
@[simp] theorem State.useFree_scrCorrTold (s : State) : s.useFree.scrCorrTold = s.scrCorrTold := rfl
@[simp] theorem State.useFree_flcRun (s : State) : s.useFree.flcRun = s.flcRun := rfl
@[simp] theorem State.useFree_flcWait (s : State) : s.useFree.flcWait = s.flcWait := rfl
@[simp] theorem State.useFree_tlmListed (s : State) : s.useFree.tlmListed = s.tlmListed := rfl
@[simp] theorem State.useFree_tlmTold (s : State) : s.useFree.tlmTold = s.tlmTold := rfl
@[simp] theorem State.useFree_tlmOut (s : State) : s.useFree.tlmOut = s.tlmOut := rfl
@[simp] theorem State.useFree_cfc (s : State) : s.useFree.cfc = s.cfc := rfl
@[simp] theorem State.useFree_link (s : State) : s.useFree.link = s.link := rfl
@[simp] theorem State.useFree_clk (s : State) : s.useFree.clk = s.clk := rfl
@[simp] theorem State.useFree_pmu (s : State) : s.useFree.pmu = s.pmu := rfl
@[simp] theorem State.useFree_wires (s : State) : s.useFree.wires = s.wires := rfl
@[simp] theorem State.useFree_ang (s : State) : s.useFree.ang = s.ang := rfl
@[simp] theorem State.useFree_crkPositions (s : State) : s.useFree.crkPositions = s.crkPositions := rfl
@[simp] theorem State.useFree_eng (s : State) : s.useFree.eng = s.eng := rfl
@[simp] theorem State.useFree_pwr (s : State) : s.useFree.pwr = s.pwr := rfl
@[simp] theorem State.useFree_egv (s : State) : s.useFree.egv = s.egv := rfl
@[simp] theorem State.useFree_chg (s : State) : s.useFree.chg = s.chg := rfl
@[simp] theorem State.useFree_rcm (s : State) : s.useFree.rcm = s.rcm := rfl
@[simp] theorem State.useFree_plm (s : State) : s.useFree.plm = s.plm := rfl
@[simp] theorem State.useFree_saf (s : State) : s.useFree.saf = s.saf := rfl
@[simp] theorem State.useFree_key (s : State) : s.useFree.key = s.key := rfl
@[simp] theorem State.useFree_vlt (s : State) : s.useFree.vlt = s.vlt := rfl
@[simp] theorem State.useFree_cry (s : State) : s.useFree.cry = s.cry := rfl
@[simp] theorem State.useFree_met (s : State) : s.useFree.met = s.met := rfl
@[simp] theorem State.useFree_bil (s : State) : s.useFree.bil = s.bil := rfl
@[simp] theorem State.useFree_upd (s : State) : s.useFree.upd = s.upd := rfl
@[simp] theorem State.useFree_lsw (s : State) : s.useFree.lsw = s.lsw := rfl
@[simp] theorem State.useFree_ser (s : State) : s.useFree.ser = s.ser := rfl
@[simp] theorem State.useFree_dbg (s : State) : s.useFree.dbg = s.dbg := rfl
@[simp] theorem State.useFree_pending (s : State) : s.useFree.pending = s.pending := rfl
@[simp] theorem State.useFree_reg (s : State) (x : Nat) : s.useFree.reg x = s.reg x := State.reg_of_regs (by simp) (by simp) x

/-! ## What `setByte` leaves -/

@[simp] theorem State.setByte_opt (s : State) (a : Nat) (b : Byte) : (s.setByte a b).opt = s.opt := rfl
@[simp] theorem State.setByte_tb (s : State) (a : Nat) (b : Byte) : (s.setByte a b).tb = s.tb := rfl
@[simp] theorem State.setByte_free (s : State) (a : Nat) (b : Byte) : (s.setByte a b).free = s.free := rfl
@[simp] theorem State.setByte_regs (s : State) (a : Nat) (b : Byte) : (s.setByte a b).regs = s.regs := rfl
@[simp] theorem State.setByte_bank (s : State) (a : Nat) (b : Byte) : (s.setByte a b).bank = s.bank := rfl
@[simp] theorem State.setByte_routes (s : State) (a : Nat) (b : Byte) : (s.setByte a b).routes = s.routes := rfl
@[simp] theorem State.setByte_pads (s : State) (a : Nat) (b : Byte) : (s.setByte a b).pads = s.pads := rfl
@[simp] theorem State.setByte_comp (s : State) (a : Nat) (b : Byte) : (s.setByte a b).comp = s.comp := rfl
@[simp] theorem State.setByte_ramEcc (s : State) (a : Nat) (b : Byte) : (s.setByte a b).ramEcc = s.ramEcc := rfl
@[simp] theorem State.setByte_flashEcc (s : State) (a : Nat) (b : Byte) : (s.setByte a b).flashEcc = s.flashEcc := rfl
@[simp] theorem State.setByte_ports (s : State) (a : Nat) (b : Byte) : (s.setByte a b).ports = s.ports := rfl
@[simp] theorem State.setByte_lr (s : State) (a : Nat) (b : Byte) : (s.setByte a b).lr = s.lr := rfl
@[simp] theorem State.setByte_icache (s : State) (a : Nat) (b : Byte) : (s.setByte a b).icache = s.icache := rfl
@[simp] theorem State.setByte_pmp (s : State) (a : Nat) (b : Byte) : (s.setByte a b).pmp = s.pmp := rfl
@[simp] theorem State.setByte_loadOpen (s : State) (a : Nat) (b : Byte) : (s.setByte a b).loadOpen = s.loadOpen := rfl
@[simp] theorem State.setByte_rings (s : State) (a : Nat) (b : Byte) : (s.setByte a b).rings = s.rings := rfl
@[simp] theorem State.setByte_waitHits (s : State) (a : Nat) (b : Byte) : (s.setByte a b).waitHits = s.waitHits := rfl
@[simp] theorem State.setByte_semRes (s : State) (a : Nat) (b : Byte) : (s.setByte a b).semRes = s.semRes := rfl
@[simp] theorem State.setByte_elems (s : State) (a : Nat) (b : Byte) : (s.setByte a b).elems = s.elems := rfl
@[simp] theorem State.setByte_loops (s : State) (a : Nat) (b : Byte) : (s.setByte a b).loops = s.loops := rfl
@[simp] theorem State.setByte_gates (s : State) (a : Nat) (b : Byte) : (s.setByte a b).gates = s.gates := rfl
@[simp] theorem State.setByte_erases (s : State) (a : Nat) (b : Byte) : (s.setByte a b).erases = s.erases := rfl
@[simp] theorem State.setByte_wearTold (s : State) (a : Nat) (b : Byte) : (s.setByte a b).wearTold = s.wearTold := rfl
@[simp] theorem State.setByte_scrOn (s : State) (a : Nat) (b : Byte) : (s.setByte a b).scrOn = s.scrOn := rfl
@[simp] theorem State.setByte_scrNext (s : State) (a : Nat) (b : Byte) : (s.setByte a b).scrNext = s.scrNext := rfl
@[simp] theorem State.setByte_scrCorrTold (s : State) (a : Nat) (b : Byte) : (s.setByte a b).scrCorrTold = s.scrCorrTold := rfl
@[simp] theorem State.setByte_flcRun (s : State) (a : Nat) (b : Byte) : (s.setByte a b).flcRun = s.flcRun := rfl
@[simp] theorem State.setByte_flcWait (s : State) (a : Nat) (b : Byte) : (s.setByte a b).flcWait = s.flcWait := rfl
@[simp] theorem State.setByte_tlmListed (s : State) (a : Nat) (b : Byte) : (s.setByte a b).tlmListed = s.tlmListed := rfl
@[simp] theorem State.setByte_tlmTold (s : State) (a : Nat) (b : Byte) : (s.setByte a b).tlmTold = s.tlmTold := rfl
@[simp] theorem State.setByte_tlmOut (s : State) (a : Nat) (b : Byte) : (s.setByte a b).tlmOut = s.tlmOut := rfl
@[simp] theorem State.setByte_cfc (s : State) (a : Nat) (b : Byte) : (s.setByte a b).cfc = s.cfc := rfl
@[simp] theorem State.setByte_link (s : State) (a : Nat) (b : Byte) : (s.setByte a b).link = s.link := rfl
@[simp] theorem State.setByte_clk (s : State) (a : Nat) (b : Byte) : (s.setByte a b).clk = s.clk := rfl
@[simp] theorem State.setByte_pmu (s : State) (a : Nat) (b : Byte) : (s.setByte a b).pmu = s.pmu := rfl
@[simp] theorem State.setByte_wires (s : State) (a : Nat) (b : Byte) : (s.setByte a b).wires = s.wires := rfl
@[simp] theorem State.setByte_ang (s : State) (a : Nat) (b : Byte) : (s.setByte a b).ang = s.ang := rfl
@[simp] theorem State.setByte_crkPositions (s : State) (a : Nat) (b : Byte) : (s.setByte a b).crkPositions = s.crkPositions := rfl
@[simp] theorem State.setByte_eng (s : State) (a : Nat) (b : Byte) : (s.setByte a b).eng = s.eng := rfl
@[simp] theorem State.setByte_pwr (s : State) (a : Nat) (b : Byte) : (s.setByte a b).pwr = s.pwr := rfl
@[simp] theorem State.setByte_egv (s : State) (a : Nat) (b : Byte) : (s.setByte a b).egv = s.egv := rfl
@[simp] theorem State.setByte_chg (s : State) (a : Nat) (b : Byte) : (s.setByte a b).chg = s.chg := rfl
@[simp] theorem State.setByte_rcm (s : State) (a : Nat) (b : Byte) : (s.setByte a b).rcm = s.rcm := rfl
@[simp] theorem State.setByte_plm (s : State) (a : Nat) (b : Byte) : (s.setByte a b).plm = s.plm := rfl
@[simp] theorem State.setByte_saf (s : State) (a : Nat) (b : Byte) : (s.setByte a b).saf = s.saf := rfl
@[simp] theorem State.setByte_key (s : State) (a : Nat) (b : Byte) : (s.setByte a b).key = s.key := rfl
@[simp] theorem State.setByte_vlt (s : State) (a : Nat) (b : Byte) : (s.setByte a b).vlt = s.vlt := rfl
@[simp] theorem State.setByte_cry (s : State) (a : Nat) (b : Byte) : (s.setByte a b).cry = s.cry := rfl
@[simp] theorem State.setByte_met (s : State) (a : Nat) (b : Byte) : (s.setByte a b).met = s.met := rfl
@[simp] theorem State.setByte_bil (s : State) (a : Nat) (b : Byte) : (s.setByte a b).bil = s.bil := rfl
@[simp] theorem State.setByte_upd (s : State) (a : Nat) (b : Byte) : (s.setByte a b).upd = s.upd := rfl
@[simp] theorem State.setByte_lsw (s : State) (a : Nat) (b : Byte) : (s.setByte a b).lsw = s.lsw := rfl
@[simp] theorem State.setByte_ser (s : State) (a : Nat) (b : Byte) : (s.setByte a b).ser = s.ser := rfl
@[simp] theorem State.setByte_dbg (s : State) (a : Nat) (b : Byte) : (s.setByte a b).dbg = s.dbg := rfl
@[simp] theorem State.setByte_pending (s : State) (a : Nat) (b : Byte) : (s.setByte a b).pending = s.pending := rfl
@[simp] theorem State.setByte_reg (s : State) (a : Nat) (b : Byte) (x : Nat) : (s.setByte a b).reg x = s.reg x := State.reg_of_regs (by simp) (by simp) x

/-! ## What `setBytes` leaves -/

@[simp] theorem State.setBytes_opt (s : State) (a : Nat) (bs : List Byte) : (s.setBytes a bs).opt = s.opt := rfl
@[simp] theorem State.setBytes_tb (s : State) (a : Nat) (bs : List Byte) : (s.setBytes a bs).tb = s.tb := rfl
@[simp] theorem State.setBytes_free (s : State) (a : Nat) (bs : List Byte) : (s.setBytes a bs).free = s.free := rfl
@[simp] theorem State.setBytes_regs (s : State) (a : Nat) (bs : List Byte) : (s.setBytes a bs).regs = s.regs := rfl
@[simp] theorem State.setBytes_bank (s : State) (a : Nat) (bs : List Byte) : (s.setBytes a bs).bank = s.bank := rfl
@[simp] theorem State.setBytes_routes (s : State) (a : Nat) (bs : List Byte) : (s.setBytes a bs).routes = s.routes := rfl
@[simp] theorem State.setBytes_pads (s : State) (a : Nat) (bs : List Byte) : (s.setBytes a bs).pads = s.pads := rfl
@[simp] theorem State.setBytes_comp (s : State) (a : Nat) (bs : List Byte) : (s.setBytes a bs).comp = s.comp := rfl
@[simp] theorem State.setBytes_ramEcc (s : State) (a : Nat) (bs : List Byte) : (s.setBytes a bs).ramEcc = s.ramEcc := rfl
@[simp] theorem State.setBytes_flashEcc (s : State) (a : Nat) (bs : List Byte) : (s.setBytes a bs).flashEcc = s.flashEcc := rfl
@[simp] theorem State.setBytes_ports (s : State) (a : Nat) (bs : List Byte) : (s.setBytes a bs).ports = s.ports := rfl
@[simp] theorem State.setBytes_lr (s : State) (a : Nat) (bs : List Byte) : (s.setBytes a bs).lr = s.lr := rfl
@[simp] theorem State.setBytes_icache (s : State) (a : Nat) (bs : List Byte) : (s.setBytes a bs).icache = s.icache := rfl
@[simp] theorem State.setBytes_pmp (s : State) (a : Nat) (bs : List Byte) : (s.setBytes a bs).pmp = s.pmp := rfl
@[simp] theorem State.setBytes_loadOpen (s : State) (a : Nat) (bs : List Byte) : (s.setBytes a bs).loadOpen = s.loadOpen := rfl
@[simp] theorem State.setBytes_rings (s : State) (a : Nat) (bs : List Byte) : (s.setBytes a bs).rings = s.rings := rfl
@[simp] theorem State.setBytes_waitHits (s : State) (a : Nat) (bs : List Byte) : (s.setBytes a bs).waitHits = s.waitHits := rfl
@[simp] theorem State.setBytes_semRes (s : State) (a : Nat) (bs : List Byte) : (s.setBytes a bs).semRes = s.semRes := rfl
@[simp] theorem State.setBytes_elems (s : State) (a : Nat) (bs : List Byte) : (s.setBytes a bs).elems = s.elems := rfl
@[simp] theorem State.setBytes_loops (s : State) (a : Nat) (bs : List Byte) : (s.setBytes a bs).loops = s.loops := rfl
@[simp] theorem State.setBytes_gates (s : State) (a : Nat) (bs : List Byte) : (s.setBytes a bs).gates = s.gates := rfl
@[simp] theorem State.setBytes_erases (s : State) (a : Nat) (bs : List Byte) : (s.setBytes a bs).erases = s.erases := rfl
@[simp] theorem State.setBytes_wearTold (s : State) (a : Nat) (bs : List Byte) : (s.setBytes a bs).wearTold = s.wearTold := rfl
@[simp] theorem State.setBytes_scrOn (s : State) (a : Nat) (bs : List Byte) : (s.setBytes a bs).scrOn = s.scrOn := rfl
@[simp] theorem State.setBytes_scrNext (s : State) (a : Nat) (bs : List Byte) : (s.setBytes a bs).scrNext = s.scrNext := rfl
@[simp] theorem State.setBytes_scrCorrTold (s : State) (a : Nat) (bs : List Byte) : (s.setBytes a bs).scrCorrTold = s.scrCorrTold := rfl
@[simp] theorem State.setBytes_flcRun (s : State) (a : Nat) (bs : List Byte) : (s.setBytes a bs).flcRun = s.flcRun := rfl
@[simp] theorem State.setBytes_flcWait (s : State) (a : Nat) (bs : List Byte) : (s.setBytes a bs).flcWait = s.flcWait := rfl
@[simp] theorem State.setBytes_tlmListed (s : State) (a : Nat) (bs : List Byte) : (s.setBytes a bs).tlmListed = s.tlmListed := rfl
@[simp] theorem State.setBytes_tlmTold (s : State) (a : Nat) (bs : List Byte) : (s.setBytes a bs).tlmTold = s.tlmTold := rfl
@[simp] theorem State.setBytes_tlmOut (s : State) (a : Nat) (bs : List Byte) : (s.setBytes a bs).tlmOut = s.tlmOut := rfl
@[simp] theorem State.setBytes_cfc (s : State) (a : Nat) (bs : List Byte) : (s.setBytes a bs).cfc = s.cfc := rfl
@[simp] theorem State.setBytes_link (s : State) (a : Nat) (bs : List Byte) : (s.setBytes a bs).link = s.link := rfl
@[simp] theorem State.setBytes_clk (s : State) (a : Nat) (bs : List Byte) : (s.setBytes a bs).clk = s.clk := rfl
@[simp] theorem State.setBytes_pmu (s : State) (a : Nat) (bs : List Byte) : (s.setBytes a bs).pmu = s.pmu := rfl
@[simp] theorem State.setBytes_wires (s : State) (a : Nat) (bs : List Byte) : (s.setBytes a bs).wires = s.wires := rfl
@[simp] theorem State.setBytes_ang (s : State) (a : Nat) (bs : List Byte) : (s.setBytes a bs).ang = s.ang := rfl
@[simp] theorem State.setBytes_crkPositions (s : State) (a : Nat) (bs : List Byte) : (s.setBytes a bs).crkPositions = s.crkPositions := rfl
@[simp] theorem State.setBytes_eng (s : State) (a : Nat) (bs : List Byte) : (s.setBytes a bs).eng = s.eng := rfl
@[simp] theorem State.setBytes_pwr (s : State) (a : Nat) (bs : List Byte) : (s.setBytes a bs).pwr = s.pwr := rfl
@[simp] theorem State.setBytes_egv (s : State) (a : Nat) (bs : List Byte) : (s.setBytes a bs).egv = s.egv := rfl
@[simp] theorem State.setBytes_chg (s : State) (a : Nat) (bs : List Byte) : (s.setBytes a bs).chg = s.chg := rfl
@[simp] theorem State.setBytes_rcm (s : State) (a : Nat) (bs : List Byte) : (s.setBytes a bs).rcm = s.rcm := rfl
@[simp] theorem State.setBytes_plm (s : State) (a : Nat) (bs : List Byte) : (s.setBytes a bs).plm = s.plm := rfl
@[simp] theorem State.setBytes_saf (s : State) (a : Nat) (bs : List Byte) : (s.setBytes a bs).saf = s.saf := rfl
@[simp] theorem State.setBytes_key (s : State) (a : Nat) (bs : List Byte) : (s.setBytes a bs).key = s.key := rfl
@[simp] theorem State.setBytes_vlt (s : State) (a : Nat) (bs : List Byte) : (s.setBytes a bs).vlt = s.vlt := rfl
@[simp] theorem State.setBytes_cry (s : State) (a : Nat) (bs : List Byte) : (s.setBytes a bs).cry = s.cry := rfl
@[simp] theorem State.setBytes_met (s : State) (a : Nat) (bs : List Byte) : (s.setBytes a bs).met = s.met := rfl
@[simp] theorem State.setBytes_bil (s : State) (a : Nat) (bs : List Byte) : (s.setBytes a bs).bil = s.bil := rfl
@[simp] theorem State.setBytes_upd (s : State) (a : Nat) (bs : List Byte) : (s.setBytes a bs).upd = s.upd := rfl
@[simp] theorem State.setBytes_lsw (s : State) (a : Nat) (bs : List Byte) : (s.setBytes a bs).lsw = s.lsw := rfl
@[simp] theorem State.setBytes_ser (s : State) (a : Nat) (bs : List Byte) : (s.setBytes a bs).ser = s.ser := rfl
@[simp] theorem State.setBytes_dbg (s : State) (a : Nat) (bs : List Byte) : (s.setBytes a bs).dbg = s.dbg := rfl
@[simp] theorem State.setBytes_pending (s : State) (a : Nat) (bs : List Byte) : (s.setBytes a bs).pending = s.pending := rfl
@[simp] theorem State.setBytes_reg (s : State) (a : Nat) (bs : List Byte) (x : Nat) : (s.setBytes a bs).reg x = s.reg x := State.reg_of_regs (by simp) (by simp) x

/-! ## What `setWord` leaves -/

@[simp] theorem State.setWord_opt (s : State) (a : Nat) (v : Word) : (s.setWord a v).opt = s.opt := rfl
@[simp] theorem State.setWord_tb (s : State) (a : Nat) (v : Word) : (s.setWord a v).tb = s.tb := rfl
@[simp] theorem State.setWord_free (s : State) (a : Nat) (v : Word) : (s.setWord a v).free = s.free := rfl
@[simp] theorem State.setWord_regs (s : State) (a : Nat) (v : Word) : (s.setWord a v).regs = s.regs := rfl
@[simp] theorem State.setWord_bank (s : State) (a : Nat) (v : Word) : (s.setWord a v).bank = s.bank := rfl
@[simp] theorem State.setWord_routes (s : State) (a : Nat) (v : Word) : (s.setWord a v).routes = s.routes := rfl
@[simp] theorem State.setWord_pads (s : State) (a : Nat) (v : Word) : (s.setWord a v).pads = s.pads := rfl
@[simp] theorem State.setWord_comp (s : State) (a : Nat) (v : Word) : (s.setWord a v).comp = s.comp := rfl
@[simp] theorem State.setWord_ramEcc (s : State) (a : Nat) (v : Word) : (s.setWord a v).ramEcc = s.ramEcc := rfl
@[simp] theorem State.setWord_flashEcc (s : State) (a : Nat) (v : Word) : (s.setWord a v).flashEcc = s.flashEcc := rfl
@[simp] theorem State.setWord_ports (s : State) (a : Nat) (v : Word) : (s.setWord a v).ports = s.ports := rfl
@[simp] theorem State.setWord_lr (s : State) (a : Nat) (v : Word) : (s.setWord a v).lr = s.lr := rfl
@[simp] theorem State.setWord_icache (s : State) (a : Nat) (v : Word) : (s.setWord a v).icache = s.icache := rfl
@[simp] theorem State.setWord_pmp (s : State) (a : Nat) (v : Word) : (s.setWord a v).pmp = s.pmp := rfl
@[simp] theorem State.setWord_loadOpen (s : State) (a : Nat) (v : Word) : (s.setWord a v).loadOpen = s.loadOpen := rfl
@[simp] theorem State.setWord_rings (s : State) (a : Nat) (v : Word) : (s.setWord a v).rings = s.rings := rfl
@[simp] theorem State.setWord_waitHits (s : State) (a : Nat) (v : Word) : (s.setWord a v).waitHits = s.waitHits := rfl
@[simp] theorem State.setWord_semRes (s : State) (a : Nat) (v : Word) : (s.setWord a v).semRes = s.semRes := rfl
@[simp] theorem State.setWord_elems (s : State) (a : Nat) (v : Word) : (s.setWord a v).elems = s.elems := rfl
@[simp] theorem State.setWord_loops (s : State) (a : Nat) (v : Word) : (s.setWord a v).loops = s.loops := rfl
@[simp] theorem State.setWord_gates (s : State) (a : Nat) (v : Word) : (s.setWord a v).gates = s.gates := rfl
@[simp] theorem State.setWord_erases (s : State) (a : Nat) (v : Word) : (s.setWord a v).erases = s.erases := rfl
@[simp] theorem State.setWord_wearTold (s : State) (a : Nat) (v : Word) : (s.setWord a v).wearTold = s.wearTold := rfl
@[simp] theorem State.setWord_scrOn (s : State) (a : Nat) (v : Word) : (s.setWord a v).scrOn = s.scrOn := rfl
@[simp] theorem State.setWord_scrNext (s : State) (a : Nat) (v : Word) : (s.setWord a v).scrNext = s.scrNext := rfl
@[simp] theorem State.setWord_scrCorrTold (s : State) (a : Nat) (v : Word) : (s.setWord a v).scrCorrTold = s.scrCorrTold := rfl
@[simp] theorem State.setWord_flcRun (s : State) (a : Nat) (v : Word) : (s.setWord a v).flcRun = s.flcRun := rfl
@[simp] theorem State.setWord_flcWait (s : State) (a : Nat) (v : Word) : (s.setWord a v).flcWait = s.flcWait := rfl
@[simp] theorem State.setWord_tlmListed (s : State) (a : Nat) (v : Word) : (s.setWord a v).tlmListed = s.tlmListed := rfl
@[simp] theorem State.setWord_tlmTold (s : State) (a : Nat) (v : Word) : (s.setWord a v).tlmTold = s.tlmTold := rfl
@[simp] theorem State.setWord_tlmOut (s : State) (a : Nat) (v : Word) : (s.setWord a v).tlmOut = s.tlmOut := rfl
@[simp] theorem State.setWord_cfc (s : State) (a : Nat) (v : Word) : (s.setWord a v).cfc = s.cfc := rfl
@[simp] theorem State.setWord_link (s : State) (a : Nat) (v : Word) : (s.setWord a v).link = s.link := rfl
@[simp] theorem State.setWord_clk (s : State) (a : Nat) (v : Word) : (s.setWord a v).clk = s.clk := rfl
@[simp] theorem State.setWord_pmu (s : State) (a : Nat) (v : Word) : (s.setWord a v).pmu = s.pmu := rfl
@[simp] theorem State.setWord_wires (s : State) (a : Nat) (v : Word) : (s.setWord a v).wires = s.wires := rfl
@[simp] theorem State.setWord_ang (s : State) (a : Nat) (v : Word) : (s.setWord a v).ang = s.ang := rfl
@[simp] theorem State.setWord_crkPositions (s : State) (a : Nat) (v : Word) : (s.setWord a v).crkPositions = s.crkPositions := rfl
@[simp] theorem State.setWord_eng (s : State) (a : Nat) (v : Word) : (s.setWord a v).eng = s.eng := rfl
@[simp] theorem State.setWord_pwr (s : State) (a : Nat) (v : Word) : (s.setWord a v).pwr = s.pwr := rfl
@[simp] theorem State.setWord_egv (s : State) (a : Nat) (v : Word) : (s.setWord a v).egv = s.egv := rfl
@[simp] theorem State.setWord_chg (s : State) (a : Nat) (v : Word) : (s.setWord a v).chg = s.chg := rfl
@[simp] theorem State.setWord_rcm (s : State) (a : Nat) (v : Word) : (s.setWord a v).rcm = s.rcm := rfl
@[simp] theorem State.setWord_plm (s : State) (a : Nat) (v : Word) : (s.setWord a v).plm = s.plm := rfl
@[simp] theorem State.setWord_saf (s : State) (a : Nat) (v : Word) : (s.setWord a v).saf = s.saf := rfl
@[simp] theorem State.setWord_key (s : State) (a : Nat) (v : Word) : (s.setWord a v).key = s.key := rfl
@[simp] theorem State.setWord_vlt (s : State) (a : Nat) (v : Word) : (s.setWord a v).vlt = s.vlt := rfl
@[simp] theorem State.setWord_cry (s : State) (a : Nat) (v : Word) : (s.setWord a v).cry = s.cry := rfl
@[simp] theorem State.setWord_met (s : State) (a : Nat) (v : Word) : (s.setWord a v).met = s.met := rfl
@[simp] theorem State.setWord_bil (s : State) (a : Nat) (v : Word) : (s.setWord a v).bil = s.bil := rfl
@[simp] theorem State.setWord_upd (s : State) (a : Nat) (v : Word) : (s.setWord a v).upd = s.upd := rfl
@[simp] theorem State.setWord_lsw (s : State) (a : Nat) (v : Word) : (s.setWord a v).lsw = s.lsw := rfl
@[simp] theorem State.setWord_ser (s : State) (a : Nat) (v : Word) : (s.setWord a v).ser = s.ser := rfl
@[simp] theorem State.setWord_dbg (s : State) (a : Nat) (v : Word) : (s.setWord a v).dbg = s.dbg := rfl
@[simp] theorem State.setWord_pending (s : State) (a : Nat) (v : Word) : (s.setWord a v).pending = s.pending := rfl
@[simp] theorem State.setWord_reg (s : State) (a : Nat) (v : Word) (x : Nat) : (s.setWord a v).reg x = s.reg x := State.reg_of_regs (by simp) (by simp) x

/-! ## What `answer` leaves -/

@[simp] theorem State.answer_opt (s : State) (m : Nat) (v : Word) (e : Exc) : (s.answer m v e).opt = s.opt := rfl
@[simp] theorem State.answer_tb (s : State) (m : Nat) (v : Word) (e : Exc) : (s.answer m v e).tb = s.tb := rfl
@[simp] theorem State.answer_free (s : State) (m : Nat) (v : Word) (e : Exc) : (s.answer m v e).free = s.free := rfl
@[simp] theorem State.answer_regs (s : State) (m : Nat) (v : Word) (e : Exc) : (s.answer m v e).regs = s.regs := rfl
@[simp] theorem State.answer_bank (s : State) (m : Nat) (v : Word) (e : Exc) : (s.answer m v e).bank = s.bank := rfl
@[simp] theorem State.answer_routes (s : State) (m : Nat) (v : Word) (e : Exc) : (s.answer m v e).routes = s.routes := rfl
@[simp] theorem State.answer_pads (s : State) (m : Nat) (v : Word) (e : Exc) : (s.answer m v e).pads = s.pads := rfl
@[simp] theorem State.answer_comp (s : State) (m : Nat) (v : Word) (e : Exc) : (s.answer m v e).comp = s.comp := rfl
@[simp] theorem State.answer_mem (s : State) (m : Nat) (v : Word) (e : Exc) : (s.answer m v e).mem = s.mem := rfl
@[simp] theorem State.answer_ramEcc (s : State) (m : Nat) (v : Word) (e : Exc) : (s.answer m v e).ramEcc = s.ramEcc := rfl
@[simp] theorem State.answer_flashEcc (s : State) (m : Nat) (v : Word) (e : Exc) : (s.answer m v e).flashEcc = s.flashEcc := rfl
@[simp] theorem State.answer_lr (s : State) (m : Nat) (v : Word) (e : Exc) : (s.answer m v e).lr = s.lr := rfl
@[simp] theorem State.answer_icache (s : State) (m : Nat) (v : Word) (e : Exc) : (s.answer m v e).icache = s.icache := rfl
@[simp] theorem State.answer_pmp (s : State) (m : Nat) (v : Word) (e : Exc) : (s.answer m v e).pmp = s.pmp := rfl
@[simp] theorem State.answer_loadOpen (s : State) (m : Nat) (v : Word) (e : Exc) : (s.answer m v e).loadOpen = s.loadOpen := rfl
@[simp] theorem State.answer_rings (s : State) (m : Nat) (v : Word) (e : Exc) : (s.answer m v e).rings = s.rings := rfl
@[simp] theorem State.answer_waitHits (s : State) (m : Nat) (v : Word) (e : Exc) : (s.answer m v e).waitHits = s.waitHits := rfl
@[simp] theorem State.answer_semRes (s : State) (m : Nat) (v : Word) (e : Exc) : (s.answer m v e).semRes = s.semRes := rfl
@[simp] theorem State.answer_elems (s : State) (m : Nat) (v : Word) (e : Exc) : (s.answer m v e).elems = s.elems := rfl
@[simp] theorem State.answer_loops (s : State) (m : Nat) (v : Word) (e : Exc) : (s.answer m v e).loops = s.loops := rfl
@[simp] theorem State.answer_gates (s : State) (m : Nat) (v : Word) (e : Exc) : (s.answer m v e).gates = s.gates := rfl
@[simp] theorem State.answer_erases (s : State) (m : Nat) (v : Word) (e : Exc) : (s.answer m v e).erases = s.erases := rfl
@[simp] theorem State.answer_wearTold (s : State) (m : Nat) (v : Word) (e : Exc) : (s.answer m v e).wearTold = s.wearTold := rfl
@[simp] theorem State.answer_scrOn (s : State) (m : Nat) (v : Word) (e : Exc) : (s.answer m v e).scrOn = s.scrOn := rfl
@[simp] theorem State.answer_scrNext (s : State) (m : Nat) (v : Word) (e : Exc) : (s.answer m v e).scrNext = s.scrNext := rfl
@[simp] theorem State.answer_scrCorrTold (s : State) (m : Nat) (v : Word) (e : Exc) : (s.answer m v e).scrCorrTold = s.scrCorrTold := rfl
@[simp] theorem State.answer_flcRun (s : State) (m : Nat) (v : Word) (e : Exc) : (s.answer m v e).flcRun = s.flcRun := rfl
@[simp] theorem State.answer_flcWait (s : State) (m : Nat) (v : Word) (e : Exc) : (s.answer m v e).flcWait = s.flcWait := rfl
@[simp] theorem State.answer_tlmListed (s : State) (m : Nat) (v : Word) (e : Exc) : (s.answer m v e).tlmListed = s.tlmListed := rfl
@[simp] theorem State.answer_tlmTold (s : State) (m : Nat) (v : Word) (e : Exc) : (s.answer m v e).tlmTold = s.tlmTold := rfl
@[simp] theorem State.answer_tlmOut (s : State) (m : Nat) (v : Word) (e : Exc) : (s.answer m v e).tlmOut = s.tlmOut := rfl
@[simp] theorem State.answer_cfc (s : State) (m : Nat) (v : Word) (e : Exc) : (s.answer m v e).cfc = s.cfc := rfl
@[simp] theorem State.answer_link (s : State) (m : Nat) (v : Word) (e : Exc) : (s.answer m v e).link = s.link := rfl
@[simp] theorem State.answer_clk (s : State) (m : Nat) (v : Word) (e : Exc) : (s.answer m v e).clk = s.clk := rfl
@[simp] theorem State.answer_pmu (s : State) (m : Nat) (v : Word) (e : Exc) : (s.answer m v e).pmu = s.pmu := rfl
@[simp] theorem State.answer_wires (s : State) (m : Nat) (v : Word) (e : Exc) : (s.answer m v e).wires = s.wires := rfl
@[simp] theorem State.answer_ang (s : State) (m : Nat) (v : Word) (e : Exc) : (s.answer m v e).ang = s.ang := rfl
@[simp] theorem State.answer_crkPositions (s : State) (m : Nat) (v : Word) (e : Exc) : (s.answer m v e).crkPositions = s.crkPositions := rfl
@[simp] theorem State.answer_eng (s : State) (m : Nat) (v : Word) (e : Exc) : (s.answer m v e).eng = s.eng := rfl
@[simp] theorem State.answer_pwr (s : State) (m : Nat) (v : Word) (e : Exc) : (s.answer m v e).pwr = s.pwr := rfl
@[simp] theorem State.answer_egv (s : State) (m : Nat) (v : Word) (e : Exc) : (s.answer m v e).egv = s.egv := rfl
@[simp] theorem State.answer_chg (s : State) (m : Nat) (v : Word) (e : Exc) : (s.answer m v e).chg = s.chg := rfl
@[simp] theorem State.answer_rcm (s : State) (m : Nat) (v : Word) (e : Exc) : (s.answer m v e).rcm = s.rcm := rfl
@[simp] theorem State.answer_plm (s : State) (m : Nat) (v : Word) (e : Exc) : (s.answer m v e).plm = s.plm := rfl
@[simp] theorem State.answer_saf (s : State) (m : Nat) (v : Word) (e : Exc) : (s.answer m v e).saf = s.saf := rfl
@[simp] theorem State.answer_key (s : State) (m : Nat) (v : Word) (e : Exc) : (s.answer m v e).key = s.key := rfl
@[simp] theorem State.answer_vlt (s : State) (m : Nat) (v : Word) (e : Exc) : (s.answer m v e).vlt = s.vlt := rfl
@[simp] theorem State.answer_cry (s : State) (m : Nat) (v : Word) (e : Exc) : (s.answer m v e).cry = s.cry := rfl
@[simp] theorem State.answer_met (s : State) (m : Nat) (v : Word) (e : Exc) : (s.answer m v e).met = s.met := rfl
@[simp] theorem State.answer_bil (s : State) (m : Nat) (v : Word) (e : Exc) : (s.answer m v e).bil = s.bil := rfl
@[simp] theorem State.answer_upd (s : State) (m : Nat) (v : Word) (e : Exc) : (s.answer m v e).upd = s.upd := rfl
@[simp] theorem State.answer_lsw (s : State) (m : Nat) (v : Word) (e : Exc) : (s.answer m v e).lsw = s.lsw := rfl
@[simp] theorem State.answer_ser (s : State) (m : Nat) (v : Word) (e : Exc) : (s.answer m v e).ser = s.ser := rfl
@[simp] theorem State.answer_dbg (s : State) (m : Nat) (v : Word) (e : Exc) : (s.answer m v e).dbg = s.dbg := rfl
@[simp] theorem State.answer_pending (s : State) (m : Nat) (v : Word) (e : Exc) : (s.answer m v e).pending = s.pending := rfl
@[simp] theorem State.answer_reg (s : State) (m : Nat) (v : Word) (e : Exc) (x : Nat) : (s.answer m v e).reg x = s.reg x := State.reg_of_regs (by simp) (by simp) x

/-! ## What `setRing` leaves -/

@[simp] theorem State.setRing_opt (s : State) (w : Win) (n : Nat) (r : Ring) : (s.setRing w n r).opt = s.opt := rfl
@[simp] theorem State.setRing_tb (s : State) (w : Win) (n : Nat) (r : Ring) : (s.setRing w n r).tb = s.tb := rfl
@[simp] theorem State.setRing_free (s : State) (w : Win) (n : Nat) (r : Ring) : (s.setRing w n r).free = s.free := rfl
@[simp] theorem State.setRing_regs (s : State) (w : Win) (n : Nat) (r : Ring) : (s.setRing w n r).regs = s.regs := rfl
@[simp] theorem State.setRing_bank (s : State) (w : Win) (n : Nat) (r : Ring) : (s.setRing w n r).bank = s.bank := rfl
@[simp] theorem State.setRing_routes (s : State) (w : Win) (n : Nat) (r : Ring) : (s.setRing w n r).routes = s.routes := rfl
@[simp] theorem State.setRing_pads (s : State) (w : Win) (n : Nat) (r : Ring) : (s.setRing w n r).pads = s.pads := rfl
@[simp] theorem State.setRing_comp (s : State) (w : Win) (n : Nat) (r : Ring) : (s.setRing w n r).comp = s.comp := rfl
@[simp] theorem State.setRing_mem (s : State) (w : Win) (n : Nat) (r : Ring) : (s.setRing w n r).mem = s.mem := rfl
@[simp] theorem State.setRing_ramEcc (s : State) (w : Win) (n : Nat) (r : Ring) : (s.setRing w n r).ramEcc = s.ramEcc := rfl
@[simp] theorem State.setRing_flashEcc (s : State) (w : Win) (n : Nat) (r : Ring) : (s.setRing w n r).flashEcc = s.flashEcc := rfl
@[simp] theorem State.setRing_ports (s : State) (w : Win) (n : Nat) (r : Ring) : (s.setRing w n r).ports = s.ports := rfl
@[simp] theorem State.setRing_lr (s : State) (w : Win) (n : Nat) (r : Ring) : (s.setRing w n r).lr = s.lr := rfl
@[simp] theorem State.setRing_icache (s : State) (w : Win) (n : Nat) (r : Ring) : (s.setRing w n r).icache = s.icache := rfl
@[simp] theorem State.setRing_pmp (s : State) (w : Win) (n : Nat) (r : Ring) : (s.setRing w n r).pmp = s.pmp := rfl
@[simp] theorem State.setRing_loadOpen (s : State) (w : Win) (n : Nat) (r : Ring) : (s.setRing w n r).loadOpen = s.loadOpen := rfl
@[simp] theorem State.setRing_waitHits (s : State) (w : Win) (n : Nat) (r : Ring) : (s.setRing w n r).waitHits = s.waitHits := rfl
@[simp] theorem State.setRing_semRes (s : State) (w : Win) (n : Nat) (r : Ring) : (s.setRing w n r).semRes = s.semRes := rfl
@[simp] theorem State.setRing_elems (s : State) (w : Win) (n : Nat) (r : Ring) : (s.setRing w n r).elems = s.elems := rfl
@[simp] theorem State.setRing_loops (s : State) (w : Win) (n : Nat) (r : Ring) : (s.setRing w n r).loops = s.loops := rfl
@[simp] theorem State.setRing_gates (s : State) (w : Win) (n : Nat) (r : Ring) : (s.setRing w n r).gates = s.gates := rfl
@[simp] theorem State.setRing_erases (s : State) (w : Win) (n : Nat) (r : Ring) : (s.setRing w n r).erases = s.erases := rfl
@[simp] theorem State.setRing_wearTold (s : State) (w : Win) (n : Nat) (r : Ring) : (s.setRing w n r).wearTold = s.wearTold := rfl
@[simp] theorem State.setRing_scrOn (s : State) (w : Win) (n : Nat) (r : Ring) : (s.setRing w n r).scrOn = s.scrOn := rfl
@[simp] theorem State.setRing_scrNext (s : State) (w : Win) (n : Nat) (r : Ring) : (s.setRing w n r).scrNext = s.scrNext := rfl
@[simp] theorem State.setRing_scrCorrTold (s : State) (w : Win) (n : Nat) (r : Ring) : (s.setRing w n r).scrCorrTold = s.scrCorrTold := rfl
@[simp] theorem State.setRing_flcRun (s : State) (w : Win) (n : Nat) (r : Ring) : (s.setRing w n r).flcRun = s.flcRun := rfl
@[simp] theorem State.setRing_flcWait (s : State) (w : Win) (n : Nat) (r : Ring) : (s.setRing w n r).flcWait = s.flcWait := rfl
@[simp] theorem State.setRing_tlmListed (s : State) (w : Win) (n : Nat) (r : Ring) : (s.setRing w n r).tlmListed = s.tlmListed := rfl
@[simp] theorem State.setRing_tlmTold (s : State) (w : Win) (n : Nat) (r : Ring) : (s.setRing w n r).tlmTold = s.tlmTold := rfl
@[simp] theorem State.setRing_tlmOut (s : State) (w : Win) (n : Nat) (r : Ring) : (s.setRing w n r).tlmOut = s.tlmOut := rfl
@[simp] theorem State.setRing_cfc (s : State) (w : Win) (n : Nat) (r : Ring) : (s.setRing w n r).cfc = s.cfc := rfl
@[simp] theorem State.setRing_link (s : State) (w : Win) (n : Nat) (r : Ring) : (s.setRing w n r).link = s.link := rfl
@[simp] theorem State.setRing_clk (s : State) (w : Win) (n : Nat) (r : Ring) : (s.setRing w n r).clk = s.clk := rfl
@[simp] theorem State.setRing_pmu (s : State) (w : Win) (n : Nat) (r : Ring) : (s.setRing w n r).pmu = s.pmu := rfl
@[simp] theorem State.setRing_wires (s : State) (w : Win) (n : Nat) (r : Ring) : (s.setRing w n r).wires = s.wires := rfl
@[simp] theorem State.setRing_ang (s : State) (w : Win) (n : Nat) (r : Ring) : (s.setRing w n r).ang = s.ang := rfl
@[simp] theorem State.setRing_crkPositions (s : State) (w : Win) (n : Nat) (r : Ring) : (s.setRing w n r).crkPositions = s.crkPositions := rfl
@[simp] theorem State.setRing_eng (s : State) (w : Win) (n : Nat) (r : Ring) : (s.setRing w n r).eng = s.eng := rfl
@[simp] theorem State.setRing_pwr (s : State) (w : Win) (n : Nat) (r : Ring) : (s.setRing w n r).pwr = s.pwr := rfl
@[simp] theorem State.setRing_egv (s : State) (w : Win) (n : Nat) (r : Ring) : (s.setRing w n r).egv = s.egv := rfl
@[simp] theorem State.setRing_chg (s : State) (w : Win) (n : Nat) (r : Ring) : (s.setRing w n r).chg = s.chg := rfl
@[simp] theorem State.setRing_rcm (s : State) (w : Win) (n : Nat) (r : Ring) : (s.setRing w n r).rcm = s.rcm := rfl
@[simp] theorem State.setRing_plm (s : State) (w : Win) (n : Nat) (r : Ring) : (s.setRing w n r).plm = s.plm := rfl
@[simp] theorem State.setRing_saf (s : State) (w : Win) (n : Nat) (r : Ring) : (s.setRing w n r).saf = s.saf := rfl
@[simp] theorem State.setRing_key (s : State) (w : Win) (n : Nat) (r : Ring) : (s.setRing w n r).key = s.key := rfl
@[simp] theorem State.setRing_vlt (s : State) (w : Win) (n : Nat) (r : Ring) : (s.setRing w n r).vlt = s.vlt := rfl
@[simp] theorem State.setRing_cry (s : State) (w : Win) (n : Nat) (r : Ring) : (s.setRing w n r).cry = s.cry := rfl
@[simp] theorem State.setRing_met (s : State) (w : Win) (n : Nat) (r : Ring) : (s.setRing w n r).met = s.met := rfl
@[simp] theorem State.setRing_bil (s : State) (w : Win) (n : Nat) (r : Ring) : (s.setRing w n r).bil = s.bil := rfl
@[simp] theorem State.setRing_upd (s : State) (w : Win) (n : Nat) (r : Ring) : (s.setRing w n r).upd = s.upd := rfl
@[simp] theorem State.setRing_lsw (s : State) (w : Win) (n : Nat) (r : Ring) : (s.setRing w n r).lsw = s.lsw := rfl
@[simp] theorem State.setRing_ser (s : State) (w : Win) (n : Nat) (r : Ring) : (s.setRing w n r).ser = s.ser := rfl
@[simp] theorem State.setRing_dbg (s : State) (w : Win) (n : Nat) (r : Ring) : (s.setRing w n r).dbg = s.dbg := rfl
@[simp] theorem State.setRing_pending (s : State) (w : Win) (n : Nat) (r : Ring) : (s.setRing w n r).pending = s.pending := rfl
@[simp] theorem State.setRing_reg (s : State) (w : Win) (n : Nat) (r : Ring) (x : Nat) : (s.setRing w n r).reg x = s.reg x := State.reg_of_regs (by simp) (by simp) x

/-! ## What `modRing` leaves -/

@[simp] theorem State.modRing_opt (s : State) (w : Win) (n : Nat) (f : Ring → Ring) : (s.modRing w n f).opt = s.opt := rfl
@[simp] theorem State.modRing_tb (s : State) (w : Win) (n : Nat) (f : Ring → Ring) : (s.modRing w n f).tb = s.tb := rfl
@[simp] theorem State.modRing_free (s : State) (w : Win) (n : Nat) (f : Ring → Ring) : (s.modRing w n f).free = s.free := rfl
@[simp] theorem State.modRing_regs (s : State) (w : Win) (n : Nat) (f : Ring → Ring) : (s.modRing w n f).regs = s.regs := rfl
@[simp] theorem State.modRing_bank (s : State) (w : Win) (n : Nat) (f : Ring → Ring) : (s.modRing w n f).bank = s.bank := rfl
@[simp] theorem State.modRing_routes (s : State) (w : Win) (n : Nat) (f : Ring → Ring) : (s.modRing w n f).routes = s.routes := rfl
@[simp] theorem State.modRing_pads (s : State) (w : Win) (n : Nat) (f : Ring → Ring) : (s.modRing w n f).pads = s.pads := rfl
@[simp] theorem State.modRing_comp (s : State) (w : Win) (n : Nat) (f : Ring → Ring) : (s.modRing w n f).comp = s.comp := rfl
@[simp] theorem State.modRing_mem (s : State) (w : Win) (n : Nat) (f : Ring → Ring) : (s.modRing w n f).mem = s.mem := rfl
@[simp] theorem State.modRing_ramEcc (s : State) (w : Win) (n : Nat) (f : Ring → Ring) : (s.modRing w n f).ramEcc = s.ramEcc := rfl
@[simp] theorem State.modRing_flashEcc (s : State) (w : Win) (n : Nat) (f : Ring → Ring) : (s.modRing w n f).flashEcc = s.flashEcc := rfl
@[simp] theorem State.modRing_ports (s : State) (w : Win) (n : Nat) (f : Ring → Ring) : (s.modRing w n f).ports = s.ports := rfl
@[simp] theorem State.modRing_lr (s : State) (w : Win) (n : Nat) (f : Ring → Ring) : (s.modRing w n f).lr = s.lr := rfl
@[simp] theorem State.modRing_icache (s : State) (w : Win) (n : Nat) (f : Ring → Ring) : (s.modRing w n f).icache = s.icache := rfl
@[simp] theorem State.modRing_pmp (s : State) (w : Win) (n : Nat) (f : Ring → Ring) : (s.modRing w n f).pmp = s.pmp := rfl
@[simp] theorem State.modRing_loadOpen (s : State) (w : Win) (n : Nat) (f : Ring → Ring) : (s.modRing w n f).loadOpen = s.loadOpen := rfl
@[simp] theorem State.modRing_waitHits (s : State) (w : Win) (n : Nat) (f : Ring → Ring) : (s.modRing w n f).waitHits = s.waitHits := rfl
@[simp] theorem State.modRing_semRes (s : State) (w : Win) (n : Nat) (f : Ring → Ring) : (s.modRing w n f).semRes = s.semRes := rfl
@[simp] theorem State.modRing_elems (s : State) (w : Win) (n : Nat) (f : Ring → Ring) : (s.modRing w n f).elems = s.elems := rfl
@[simp] theorem State.modRing_loops (s : State) (w : Win) (n : Nat) (f : Ring → Ring) : (s.modRing w n f).loops = s.loops := rfl
@[simp] theorem State.modRing_gates (s : State) (w : Win) (n : Nat) (f : Ring → Ring) : (s.modRing w n f).gates = s.gates := rfl
@[simp] theorem State.modRing_erases (s : State) (w : Win) (n : Nat) (f : Ring → Ring) : (s.modRing w n f).erases = s.erases := rfl
@[simp] theorem State.modRing_wearTold (s : State) (w : Win) (n : Nat) (f : Ring → Ring) : (s.modRing w n f).wearTold = s.wearTold := rfl
@[simp] theorem State.modRing_scrOn (s : State) (w : Win) (n : Nat) (f : Ring → Ring) : (s.modRing w n f).scrOn = s.scrOn := rfl
@[simp] theorem State.modRing_scrNext (s : State) (w : Win) (n : Nat) (f : Ring → Ring) : (s.modRing w n f).scrNext = s.scrNext := rfl
@[simp] theorem State.modRing_scrCorrTold (s : State) (w : Win) (n : Nat) (f : Ring → Ring) : (s.modRing w n f).scrCorrTold = s.scrCorrTold := rfl
@[simp] theorem State.modRing_flcRun (s : State) (w : Win) (n : Nat) (f : Ring → Ring) : (s.modRing w n f).flcRun = s.flcRun := rfl
@[simp] theorem State.modRing_flcWait (s : State) (w : Win) (n : Nat) (f : Ring → Ring) : (s.modRing w n f).flcWait = s.flcWait := rfl
@[simp] theorem State.modRing_tlmListed (s : State) (w : Win) (n : Nat) (f : Ring → Ring) : (s.modRing w n f).tlmListed = s.tlmListed := rfl
@[simp] theorem State.modRing_tlmTold (s : State) (w : Win) (n : Nat) (f : Ring → Ring) : (s.modRing w n f).tlmTold = s.tlmTold := rfl
@[simp] theorem State.modRing_tlmOut (s : State) (w : Win) (n : Nat) (f : Ring → Ring) : (s.modRing w n f).tlmOut = s.tlmOut := rfl
@[simp] theorem State.modRing_cfc (s : State) (w : Win) (n : Nat) (f : Ring → Ring) : (s.modRing w n f).cfc = s.cfc := rfl
@[simp] theorem State.modRing_link (s : State) (w : Win) (n : Nat) (f : Ring → Ring) : (s.modRing w n f).link = s.link := rfl
@[simp] theorem State.modRing_clk (s : State) (w : Win) (n : Nat) (f : Ring → Ring) : (s.modRing w n f).clk = s.clk := rfl
@[simp] theorem State.modRing_pmu (s : State) (w : Win) (n : Nat) (f : Ring → Ring) : (s.modRing w n f).pmu = s.pmu := rfl
@[simp] theorem State.modRing_wires (s : State) (w : Win) (n : Nat) (f : Ring → Ring) : (s.modRing w n f).wires = s.wires := rfl
@[simp] theorem State.modRing_ang (s : State) (w : Win) (n : Nat) (f : Ring → Ring) : (s.modRing w n f).ang = s.ang := rfl
@[simp] theorem State.modRing_crkPositions (s : State) (w : Win) (n : Nat) (f : Ring → Ring) : (s.modRing w n f).crkPositions = s.crkPositions := rfl
@[simp] theorem State.modRing_eng (s : State) (w : Win) (n : Nat) (f : Ring → Ring) : (s.modRing w n f).eng = s.eng := rfl
@[simp] theorem State.modRing_pwr (s : State) (w : Win) (n : Nat) (f : Ring → Ring) : (s.modRing w n f).pwr = s.pwr := rfl
@[simp] theorem State.modRing_egv (s : State) (w : Win) (n : Nat) (f : Ring → Ring) : (s.modRing w n f).egv = s.egv := rfl
@[simp] theorem State.modRing_chg (s : State) (w : Win) (n : Nat) (f : Ring → Ring) : (s.modRing w n f).chg = s.chg := rfl
@[simp] theorem State.modRing_rcm (s : State) (w : Win) (n : Nat) (f : Ring → Ring) : (s.modRing w n f).rcm = s.rcm := rfl
@[simp] theorem State.modRing_plm (s : State) (w : Win) (n : Nat) (f : Ring → Ring) : (s.modRing w n f).plm = s.plm := rfl
@[simp] theorem State.modRing_saf (s : State) (w : Win) (n : Nat) (f : Ring → Ring) : (s.modRing w n f).saf = s.saf := rfl
@[simp] theorem State.modRing_key (s : State) (w : Win) (n : Nat) (f : Ring → Ring) : (s.modRing w n f).key = s.key := rfl
@[simp] theorem State.modRing_vlt (s : State) (w : Win) (n : Nat) (f : Ring → Ring) : (s.modRing w n f).vlt = s.vlt := rfl
@[simp] theorem State.modRing_cry (s : State) (w : Win) (n : Nat) (f : Ring → Ring) : (s.modRing w n f).cry = s.cry := rfl
@[simp] theorem State.modRing_met (s : State) (w : Win) (n : Nat) (f : Ring → Ring) : (s.modRing w n f).met = s.met := rfl
@[simp] theorem State.modRing_bil (s : State) (w : Win) (n : Nat) (f : Ring → Ring) : (s.modRing w n f).bil = s.bil := rfl
@[simp] theorem State.modRing_upd (s : State) (w : Win) (n : Nat) (f : Ring → Ring) : (s.modRing w n f).upd = s.upd := rfl
@[simp] theorem State.modRing_lsw (s : State) (w : Win) (n : Nat) (f : Ring → Ring) : (s.modRing w n f).lsw = s.lsw := rfl
@[simp] theorem State.modRing_ser (s : State) (w : Win) (n : Nat) (f : Ring → Ring) : (s.modRing w n f).ser = s.ser := rfl
@[simp] theorem State.modRing_dbg (s : State) (w : Win) (n : Nat) (f : Ring → Ring) : (s.modRing w n f).dbg = s.dbg := rfl
@[simp] theorem State.modRing_pending (s : State) (w : Win) (n : Nat) (f : Ring → Ring) : (s.modRing w n f).pending = s.pending := rfl
@[simp] theorem State.modRing_reg (s : State) (w : Win) (n : Nat) (f : Ring → Ring) (x : Nat) : (s.modRing w n f).reg x = s.reg x := State.reg_of_regs (by simp) (by simp) x

/-! ## What `setComp` leaves -/

@[simp] theorem State.setComp_opt (s : State) (w : Win) (c : Option (Nat × Nat × Word)) : (s.setComp w c).opt = s.opt := rfl
@[simp] theorem State.setComp_tb (s : State) (w : Win) (c : Option (Nat × Nat × Word)) : (s.setComp w c).tb = s.tb := rfl
@[simp] theorem State.setComp_free (s : State) (w : Win) (c : Option (Nat × Nat × Word)) : (s.setComp w c).free = s.free := rfl
@[simp] theorem State.setComp_regs (s : State) (w : Win) (c : Option (Nat × Nat × Word)) : (s.setComp w c).regs = s.regs := rfl
@[simp] theorem State.setComp_bank (s : State) (w : Win) (c : Option (Nat × Nat × Word)) : (s.setComp w c).bank = s.bank := rfl
@[simp] theorem State.setComp_routes (s : State) (w : Win) (c : Option (Nat × Nat × Word)) : (s.setComp w c).routes = s.routes := rfl
@[simp] theorem State.setComp_pads (s : State) (w : Win) (c : Option (Nat × Nat × Word)) : (s.setComp w c).pads = s.pads := rfl
@[simp] theorem State.setComp_mem (s : State) (w : Win) (c : Option (Nat × Nat × Word)) : (s.setComp w c).mem = s.mem := rfl
@[simp] theorem State.setComp_ramEcc (s : State) (w : Win) (c : Option (Nat × Nat × Word)) : (s.setComp w c).ramEcc = s.ramEcc := rfl
@[simp] theorem State.setComp_flashEcc (s : State) (w : Win) (c : Option (Nat × Nat × Word)) : (s.setComp w c).flashEcc = s.flashEcc := rfl
@[simp] theorem State.setComp_ports (s : State) (w : Win) (c : Option (Nat × Nat × Word)) : (s.setComp w c).ports = s.ports := rfl
@[simp] theorem State.setComp_lr (s : State) (w : Win) (c : Option (Nat × Nat × Word)) : (s.setComp w c).lr = s.lr := rfl
@[simp] theorem State.setComp_icache (s : State) (w : Win) (c : Option (Nat × Nat × Word)) : (s.setComp w c).icache = s.icache := rfl
@[simp] theorem State.setComp_pmp (s : State) (w : Win) (c : Option (Nat × Nat × Word)) : (s.setComp w c).pmp = s.pmp := rfl
@[simp] theorem State.setComp_loadOpen (s : State) (w : Win) (c : Option (Nat × Nat × Word)) : (s.setComp w c).loadOpen = s.loadOpen := rfl
@[simp] theorem State.setComp_rings (s : State) (w : Win) (c : Option (Nat × Nat × Word)) : (s.setComp w c).rings = s.rings := rfl
@[simp] theorem State.setComp_waitHits (s : State) (w : Win) (c : Option (Nat × Nat × Word)) : (s.setComp w c).waitHits = s.waitHits := rfl
@[simp] theorem State.setComp_semRes (s : State) (w : Win) (c : Option (Nat × Nat × Word)) : (s.setComp w c).semRes = s.semRes := rfl
@[simp] theorem State.setComp_elems (s : State) (w : Win) (c : Option (Nat × Nat × Word)) : (s.setComp w c).elems = s.elems := rfl
@[simp] theorem State.setComp_loops (s : State) (w : Win) (c : Option (Nat × Nat × Word)) : (s.setComp w c).loops = s.loops := rfl
@[simp] theorem State.setComp_gates (s : State) (w : Win) (c : Option (Nat × Nat × Word)) : (s.setComp w c).gates = s.gates := rfl
@[simp] theorem State.setComp_erases (s : State) (w : Win) (c : Option (Nat × Nat × Word)) : (s.setComp w c).erases = s.erases := rfl
@[simp] theorem State.setComp_wearTold (s : State) (w : Win) (c : Option (Nat × Nat × Word)) : (s.setComp w c).wearTold = s.wearTold := rfl
@[simp] theorem State.setComp_scrOn (s : State) (w : Win) (c : Option (Nat × Nat × Word)) : (s.setComp w c).scrOn = s.scrOn := rfl
@[simp] theorem State.setComp_scrNext (s : State) (w : Win) (c : Option (Nat × Nat × Word)) : (s.setComp w c).scrNext = s.scrNext := rfl
@[simp] theorem State.setComp_scrCorrTold (s : State) (w : Win) (c : Option (Nat × Nat × Word)) : (s.setComp w c).scrCorrTold = s.scrCorrTold := rfl
@[simp] theorem State.setComp_flcRun (s : State) (w : Win) (c : Option (Nat × Nat × Word)) : (s.setComp w c).flcRun = s.flcRun := rfl
@[simp] theorem State.setComp_flcWait (s : State) (w : Win) (c : Option (Nat × Nat × Word)) : (s.setComp w c).flcWait = s.flcWait := rfl
@[simp] theorem State.setComp_tlmListed (s : State) (w : Win) (c : Option (Nat × Nat × Word)) : (s.setComp w c).tlmListed = s.tlmListed := rfl
@[simp] theorem State.setComp_tlmTold (s : State) (w : Win) (c : Option (Nat × Nat × Word)) : (s.setComp w c).tlmTold = s.tlmTold := rfl
@[simp] theorem State.setComp_tlmOut (s : State) (w : Win) (c : Option (Nat × Nat × Word)) : (s.setComp w c).tlmOut = s.tlmOut := rfl
@[simp] theorem State.setComp_cfc (s : State) (w : Win) (c : Option (Nat × Nat × Word)) : (s.setComp w c).cfc = s.cfc := rfl
@[simp] theorem State.setComp_link (s : State) (w : Win) (c : Option (Nat × Nat × Word)) : (s.setComp w c).link = s.link := rfl
@[simp] theorem State.setComp_clk (s : State) (w : Win) (c : Option (Nat × Nat × Word)) : (s.setComp w c).clk = s.clk := rfl
@[simp] theorem State.setComp_pmu (s : State) (w : Win) (c : Option (Nat × Nat × Word)) : (s.setComp w c).pmu = s.pmu := rfl
@[simp] theorem State.setComp_wires (s : State) (w : Win) (c : Option (Nat × Nat × Word)) : (s.setComp w c).wires = s.wires := rfl
@[simp] theorem State.setComp_ang (s : State) (w : Win) (c : Option (Nat × Nat × Word)) : (s.setComp w c).ang = s.ang := rfl
@[simp] theorem State.setComp_crkPositions (s : State) (w : Win) (c : Option (Nat × Nat × Word)) : (s.setComp w c).crkPositions = s.crkPositions := rfl
@[simp] theorem State.setComp_eng (s : State) (w : Win) (c : Option (Nat × Nat × Word)) : (s.setComp w c).eng = s.eng := rfl
@[simp] theorem State.setComp_pwr (s : State) (w : Win) (c : Option (Nat × Nat × Word)) : (s.setComp w c).pwr = s.pwr := rfl
@[simp] theorem State.setComp_egv (s : State) (w : Win) (c : Option (Nat × Nat × Word)) : (s.setComp w c).egv = s.egv := rfl
@[simp] theorem State.setComp_chg (s : State) (w : Win) (c : Option (Nat × Nat × Word)) : (s.setComp w c).chg = s.chg := rfl
@[simp] theorem State.setComp_rcm (s : State) (w : Win) (c : Option (Nat × Nat × Word)) : (s.setComp w c).rcm = s.rcm := rfl
@[simp] theorem State.setComp_plm (s : State) (w : Win) (c : Option (Nat × Nat × Word)) : (s.setComp w c).plm = s.plm := rfl
@[simp] theorem State.setComp_saf (s : State) (w : Win) (c : Option (Nat × Nat × Word)) : (s.setComp w c).saf = s.saf := rfl
@[simp] theorem State.setComp_key (s : State) (w : Win) (c : Option (Nat × Nat × Word)) : (s.setComp w c).key = s.key := rfl
@[simp] theorem State.setComp_vlt (s : State) (w : Win) (c : Option (Nat × Nat × Word)) : (s.setComp w c).vlt = s.vlt := rfl
@[simp] theorem State.setComp_cry (s : State) (w : Win) (c : Option (Nat × Nat × Word)) : (s.setComp w c).cry = s.cry := rfl
@[simp] theorem State.setComp_met (s : State) (w : Win) (c : Option (Nat × Nat × Word)) : (s.setComp w c).met = s.met := rfl
@[simp] theorem State.setComp_bil (s : State) (w : Win) (c : Option (Nat × Nat × Word)) : (s.setComp w c).bil = s.bil := rfl
@[simp] theorem State.setComp_upd (s : State) (w : Win) (c : Option (Nat × Nat × Word)) : (s.setComp w c).upd = s.upd := rfl
@[simp] theorem State.setComp_lsw (s : State) (w : Win) (c : Option (Nat × Nat × Word)) : (s.setComp w c).lsw = s.lsw := rfl
@[simp] theorem State.setComp_ser (s : State) (w : Win) (c : Option (Nat × Nat × Word)) : (s.setComp w c).ser = s.ser := rfl
@[simp] theorem State.setComp_dbg (s : State) (w : Win) (c : Option (Nat × Nat × Word)) : (s.setComp w c).dbg = s.dbg := rfl
@[simp] theorem State.setComp_pending (s : State) (w : Win) (c : Option (Nat × Nat × Word)) : (s.setComp w c).pending = s.pending := rfl
@[simp] theorem State.setComp_reg (s : State) (w : Win) (c : Option (Nat × Nat × Word)) (x : Nat) : (s.setComp w c).reg x = s.reg x := State.reg_of_regs (by simp) (by simp) x

end Sys2Proof.Machine
end

