-- ==== Sys2Proof/Laws/Bus.lean ====
section
/-! SUPPORT. What an access of a master does, once for all registers: the checks it passes and the effect it then has. -/
namespace Sys2Proof.Machine

/-- A meaning that leaves the queue and the fuses alone answers the state it computes. -/
theorem act_of {f : State → State} {s : State} (ho : (f s).opt = s.opt) (hp : (f s).pending = s.pending) :
    act f s = .next (f s) := by
  simp only [act, ← ho, ← hp]

theorem canWrite_atWindow {s : State} {w : Win} {m : Nat} (h : s.CanWrite w m) (a : Nat) (eff : State → State) :
    s.atWindow w m a eff = eff s := by
  obtain ⟨h1, h2, h3, h4, h5⟩ := h
  simp only [State.live, Bool.and_eq_true] at h5
  have h6 : ¬ (w = .vlt ∧ s.standsFor m ≠ mH0) := fun ⟨x, y⟩ => y (h4 x)
  simp [State.atWindow, h1, h2, h3, h5.1, h5.2, h6]

theorem canRead_readAt {s : State} {w : Win} {m : Nat} (h : s.CanRead w m) (a : Nat) (eff : State → State) :
    s.readAt w m a eff = eff s := by
  obtain ⟨h1, h2, h3⟩ := h
  simp only [State.live, Bool.and_eq_true] at h3
  simp [State.readAt, h1, h2, h3.1, h3.2]

@[simp] theorem State.setComp_locked (s : State) (w : Win) (c : Option (Nat × Nat × Word)) (w' : Win) :
    (s.setComp w c).locked w' = s.locked w' := by
  simp [State.locked, State.flag]

/-- A WP write whose pair is ready has its effect, and the pair is consumed (R102, R881). -/
theorem pairReady_wpWrite {s : State} {w : Win} {m a : Nat} {v : Word} (h : s.PairReady w m a v) (eff : State → State) :
    s.wpWrite w m a 4 v eff = eff (s.setComp w none) := by
  obtain ⟨h1, h2, h3⟩ := h
  rw [State.wpWrite, canWrite_atWindow h1]
  simp only [State.judgePair, h2, ne_eq, not_true_eq_false, if_false, BitVec.not_not]
  by_cases hl : isLk a = true
  · simp [hl, h3 hl]
  · simp [hl]

/-- A write to a register that is not WP has its effect (R99, R104). -/
theorem unhindered_plainWrite {s : State} {w : Win} {m a : Nat} (h : s.Unhindered w m a) (eff : State → State) :
    s.plainWrite w m a eff = eff s := by
  obtain ⟨h1, h2, h3⟩ := h
  rw [State.plainWrite, canWrite_atWindow h1]
  simp only [State.disturb, h2]
  by_cases hl : isLk a = true
  · simp [hl, h3 hl]
  · simp [hl]

/-- A write on the bus to a WP register whose pair is ready. -/
theorem busWrite_wp {s : State} {m a : Nat} {v : Word} {w : Win} {r : RegInfo} (hw : winOf a = some w)
    (ho : a % 0x1000 - a % 4 < 0x800 ∧ a % 0x1000 - a % 4 ≠ 0x600) (hr : regInfo (a - a % 4) = some r) (ht : r.acc = .wp)
    (h : s.PairReady w m (a - a % 4) v) :
    busWrite m a 4 v s = (s.setComp w none).wpEffect w ⟨m, a, 4, v⟩ := by
  have h1 : ¬ (0x800 ≤ BusW.o ⟨m, a, 4, v⟩) := by simp only [BusW.o]; omega
  have h2 : BusW.o ⟨m, a, 4, v⟩ ≠ 0x600 := ho.2
  have hr' : regInfo (BusW.ra ⟨m, a, 4, v⟩) = some r := hr
  unfold busWrite
  simp only [hw, h1, h2, if_false, hr', ht]
  exact pairReady_wpWrite h _

/-- A write on the bus to an RW register. -/
theorem busWrite_rw {s : State} {m a size : Nat} {v : Word} {w : Win} {r : RegInfo} (hw : winOf a = some w)
    (ho : a % 0x1000 - a % 4 < 0x800 ∧ a % 0x1000 - a % 4 ≠ 0x600) (hr : regInfo (a - a % 4) = some r) (ht : r.acc = .rw)
    (h : s.Unhindered w m (a - a % 4)) :
    busWrite m a size v s = s.rwEffect w ⟨m, a, size, v⟩ := by
  have h1 : ¬ (0x800 ≤ BusW.o ⟨m, a, size, v⟩) := by simp only [BusW.o]; omega
  have h2 : BusW.o ⟨m, a, size, v⟩ ≠ 0x600 := ho.2
  have hr' : regInfo (BusW.ra ⟨m, a, size, v⟩) = some r := hr
  unfold busWrite
  simp only [hw, h1, h2, if_false, hr', ht]
  exact unhindered_plainWrite h _

/-- A write on the bus to a W1C register. -/
theorem busWrite_w1c {s : State} {m a size : Nat} {v : Word} {w : Win} {r : RegInfo} (hw : winOf a = some w)
    (ho : a % 0x1000 - a % 4 < 0x800 ∧ a % 0x1000 - a % 4 ≠ 0x600) (hr : regInfo (a - a % 4) = some r) (ht : r.acc = .w1c)
    (h : s.Unhindered w m (a - a % 4)) :
    busWrite m a size v s = s.w1cEffect w ⟨m, a, size, v⟩ := by
  have h1 : ¬ (0x800 ≤ BusW.o ⟨m, a, size, v⟩) := by simp only [BusW.o]; omega
  have h2 : BusW.o ⟨m, a, size, v⟩ ≠ 0x600 := ho.2
  have hr' : regInfo (BusW.ra ⟨m, a, size, v⟩) = some r := hr
  unfold busWrite
  simp only [hw, h1, h2, if_false, hr', ht]
  exact unhindered_plainWrite h _

/-- A write on the bus to a read-only register. -/
theorem busWrite_ro {s : State} {m a size : Nat} {v : Word} {w : Win} {r : RegInfo} (hw : winOf a = some w)
    (ho : a % 0x1000 - a % 4 < 0x800 ∧ a % 0x1000 - a % 4 ≠ 0x600) (hr : regInfo (a - a % 4) = some r) (ht : r.acc = .ro)
    (h : s.Unhindered w m (a - a % 4)) :
    busWrite m a size v s = s.roEffect w ⟨m, a, size, v⟩ := by
  have h1 : ¬ (0x800 ≤ BusW.o ⟨m, a, size, v⟩) := by simp only [BusW.o]; omega
  have h2 : BusW.o ⟨m, a, size, v⟩ ≠ 0x600 := ho.2
  have hr' : regInfo (BusW.ra ⟨m, a, size, v⟩) = some r := hr
  unfold busWrite
  simp only [hw, h1, h2, if_false, hr', ht]
  exact unhindered_plainWrite h _

/-- A write on the bus to a register that takes write-to-unlock sequences. -/
theorem busWrite_sl {s : State} {m a : Nat} {v : Word} {w : Win} {r : RegInfo} (hw : winOf a = some w)
    (ho : a % 0x1000 - a % 4 < 0x800 ∧ a % 0x1000 - a % 4 ≠ 0x600) (hr : regInfo (a - a % 4) = some r) (ht : r.acc = .sl)
    (h : s.Unhindered w m (a - a % 4)) :
    busWrite m a 4 v s = s.slEffect v := by
  have h1 : ¬ (0x800 ≤ BusW.o ⟨m, a, 4, v⟩) := by simp only [BusW.o]; omega
  have h2 : BusW.o ⟨m, a, 4, v⟩ ≠ 0x600 := ho.2
  have hr' : regInfo (BusW.ra ⟨m, a, 4, v⟩) = some r := hr
  unfold busWrite
  simp only [hw, h1, h2, if_false, hr', ht]
  refine (unhindered_plainWrite h _).trans ?_
  simp

end Sys2Proof.Machine
end

