-- ==== Sys2Proof/WellFormed.lean ====
section
/-! DEFINITION. Which commands are well formed: operands that the spec's part can present. A command outside these bounds has no
effect of its own in the spec; `exec` answers for it too. -/
namespace Sys2Proof
open Sys2Proof.Machine

/-- A signed sample of `n` bits. -/
def fitsSigned (n : Nat) (x : Int) : Bool := decide (-(2 ^ (n - 1) : Int) ≤ x ∧ x < 2 ^ (n - 1))

/-- The windows whose rings can ask KEY for a key (R606). -/
def keyUser (w : Win) : Bool := [Win.cry, .pke, .plm, .upd].contains w

/-- The operands of accesses: alignment, and that the spec puts such a register there. -/
def Instr.wfAccess : Instr → Bool
  | .pdRegisterRead _ a z => pdRegister a.toNat && aligned a.toNat z.bytes
  | .pdRegisterWrite _ a z _ => pdRegister a.toNat && aligned a.toNat z.bytes
  | .registerWrite _ a z _ => (winOf a.toNat).isSome && aligned a.toNat z.bytes
  | .wpRegisterWrite _ a z _ => isWp (a.toNat - a.toNat % 4) && aligned a.toNat z.bytes
  | .complementWrite _ _ off z _ => decide (off.toNat < 0x800) && aligned off.toNat z.bytes
  | .offDomainAccess _ a => (winOf a.toNat).isSome
  | .loopStep w n _ => (loopDef w n).isSome
  | .loopBoundWrite _ w n _ _ _ => (loopDef w n).isSome
  | .loopPosWrite _ w n _ _ => (loopDef w n).isSome
  | .loopModeWrite _ w n _ _ => (loopDef w n).isSome
  | .fairnessSlot w => w.background
  | .gateCmt _ w g _ _ => (gateDef w g).isSome
  | .gateDeadline w g => (gateDef w g).isSome
  | .escalatedClear _ w g _ _ => (gateDef w g).isSome
  | .keyRequest w _ _ => keyUser w
  | _ => true

/-- The operands of measurements and frames: their ranges and lengths. -/
def Instr.wfValues : Instr → Bool
  | .wakeEvent src => !(decide (4 ≤ src.val) && decide (src.val ≤ 9))
  | .tamperEvent i _ => decide (5 ≤ i.val)
  | .ignDiagChange _ st => st.val != 3
  | .knockSample x _ _ => fitsSigned 16 x
  | .hbPeriod _ cur => fitsSigned 16 cur
  | .deadTimeStep g delays => delays.length == (grpLegs g).length
  | .plmFrameArrival _ _ _ _ sound => (match sound with | some p => p.1.length == 16 && p.2.length == 58 | none => true)
  | .metConverterStart cal => cal.length == 7
  | .metSample codes delayed => codes.length == 7 && delayed.length == 3
  | .metWindow _ qs => qs.length == 3
  | .canFrameReceived _ _ _ data _ _ => decide (data.length ≤ 64)
  | .setupWait pkt => pkt.length == 8
  | .inXfer n => n.val != 0
  | .outXfer n _ => n.val != 0
  | .recoveryData payload _ => decide (payload.length ≤ 1024)
  | .cutinSwitch c => decide (2 ≤ c.val)
  | .coldSwitch c => decide (2 ≤ c.val)
  | .stopSwitch c => decide (2 ≤ c.val)
  | .jtagAuth (some r) => r.2.1.length == 96 && r.2.2.length == 96
  | _ => true

/-- Is a command well formed? -/
def Instr.wf (i : Instr) : Bool := i.wfAccess && i.wfValues

end Sys2Proof
end

