-- ==== Sys2Proof/Tests/Slice0.lean ====
section
/-! SUPPORT. Tests: states that meet the hypotheses of the statements, ill-formed commands that WellFormed refuses, and single steps
whose expected results are the spec's own. -/
set_option maxRecDepth 100000
set_option linter.unusedVariables false
open Sys2Proof Sys2Proof.Machine
namespace Sys2Proof.Tests

/-! ## Helpers -/


/-- The state after reset with these registers written. -/
def st (l : List (Nat × Word)) : State := l.foldl (fun s p => s.setReg p.1 p.2) State.reset
/-- A link transaction of H0. -/
def lreq (isRead : Bool) : LinkReq := ⟨0, A.LS_STAT, isRead, 0, 4, 0#32, false⟩
/-- The table row of a register. -/
def row (a : Nat) : RegInfo := (regInfo a).getD ⟨"", 0, 0, 0, .ro, false, false, 0, false, 0, []⟩
/-- A state in which ring `n` of a window has been started in host SRAM, with these indices and this descriptor in hand. -/
def rg (w : Win) (n state pidx cidx fidx : Nat) (desc : List Word) (l : List (Nat × Word)) : State :=
  (st ([(slotReg w n 0, 0x20000000#32), (slotReg w n 4, 0x20000200#32), (slotReg w n 8, 0x20000400#32), (slotReg w n 0xC, 3#32),
    (ringStatA w n, wd state), (ringPidxA w n, wd pidx), (ringCidxA w n, wd (cidx + 65536 * fidx))] ++ l)).setRing w n
    { base := 0x20000000#32, cpl := 0x20000200#32, shadow := 0x20000400#32, cfg := 3#32, desc := desc }
/-- Ring `n` of a window in RUN with one descriptor in hand. -/
def hand (w : Win) (n : Nat) (desc : List Word) (l : List (Nat × Word)) : State := rg w n 1 1 0 1 desc l
/-- A CRK domain in a state, with a 12 - 1 wheel, its last tooth at position 3 at tick 1000 after an interval of 100 ticks. -/
def crk (d : Nat) (l : List (Nat × Word)) (f : Crk → Crk) : State :=
  { st ([(A.ANG_STAT, wd d), (A.CRK_WIN, 0x50003000#32), (A.CRK_LOCK, 0x222#32)] ++ l) with
    tb := 1100, crkPositions := 12,
    ang := { crk := f { pat := presetPattern 5, pos := some 3, tooth := ⟨1000, 1⟩, tPrev := ⟨100, 1⟩, aPrev := 87381,
                        anchorT := ⟨1000, 1⟩, anchorC := 262144, lastReal := some 1000, realIv := 100, realA := 87381, realPos := some 2,
                        edges := 9, run := 9 } } }
/-- CRK locked, and one slot in use. -/
def slotSt (l : List (Nat × Word)) (n : Nat) (x : Slot) : State := (crk 3 l id).setSlot n x
/-- The same, with a descriptor in hand on ring 0 of the angle engine. -/
def slotHand (desc : List Word) (n : Nat) (x : Slot) : State :=
  let s := hand .ang 0 desc [(A.ANG_STAT, 3), (A.SLOT_OWN, 0)]
  s.setSlot n x
/-- A PWM group in a state, with its period's work. -/
def pwmSt (l : List (Nat × Word)) (g st0 : Nat) (x : PwmGrp) : State :=
  ({ st ([(A.PWM_STAT, wd (st0 * 4 ^ g))] ++ l) with tb := 5000, saf := { pta := false, ptb := false } }).modGrp g (fun _ => x)
/-- A tariff calendar that passes every check: one season, one day profile. -/
def goodCal : List Byte :=
  natLe 4 1 ++ [0#8, 0#8, 0#8, 0#8] ++ zeros 8 ++ [1#8, 1#8, 0#8, 0#8] ++ (List.range 3).flatMap (fun _ => [0#8, 0#8, 0xFF#8, 0#8]) ++
    zeros 64 ++ natLe 2 0 ++ List.replicate 22 0xFF#8 ++ zeros 616 ++ natLe 4 3455343895
/-- A 16-byte symmetric key as KEY delivers it, and a P-256 private key. -/
def symKey : KeyGot := ⟨5, 1, List.replicate 16 7#8, [1#8, 2#8, 3#8, 4#8, 5#8, 6#8, 7#8, 8#8], 9⟩
/-- The private key 1 of P-256. -/
def oneKey : KeyGot := ⟨50, 0x10, List.replicate 31 0#8 ++ [1#8], [], 0⟩
/-- A descriptor in hand on ring 0 of a window whose key, if it needs one, has been delivered. -/
def keyed (w : Win) (desc : List Word) (g : Option KeyGot) (l : List (Nat × Word)) : State :=
  (hand w 0 desc l).modRing w 0 (fun r => { r with key := g })
/-- A descriptor of CRY over 16 bytes, with a 16-byte tag. -/
def cryHand (op : Nat) (g : Option KeyGot) : State :=
  keyed .cry [wd op, 16#32, 0x20000800#32, 0x20000900#32, 0x1005#32, 0x20000A00#32, 0x20000B00#32] g []
/-- A DRBG in some state; TRNG is READY. -/
def drbgSt (s : State) (d : Drbg) : State := { s.setReg A.TRNG_STAT 2#32 with cry := { drbg := some d } }
/-- A DRBG state. -/
def someDrbg : Drbg := { key := List.replicate 32 1#8, v := List.replicate 16 2#8 }
/-- Bank `b` has a record with this STATE. -/
def bankSt (s : State) (b st : Nat) : State := s.writeRec b st 0 (zeros 64)
/-- The image of bank 1 has one section, of this TYPE, layout 7, taking over layout 5, of no bytes: its hash is that of the empty string. -/
def imgSt (s : State) (typ : Nat) : State :=
  (s.setByte 0x08400006 1#8).setBytes 0x084000C0 ([BitVec.ofNat 8 typ, 0#8, 7#8, 0#8] ++ zeros 12 ++ [5#8, 0#8] ++ List.replicate 6 0xFF#8 ++ zeros 8 ++
    natBe 48 0x38b060a751ac96384cd9327eb1b1e36a21fdb71114be07434c0cc7bf63f6e1da274edebfe76f65fbd51ad2f14898b95b)
/-- A cut-in of core `c` switches. -/
def swSt (s : State) (c : Nat) (w : Switching) : State := s.modUpd (fun u => { u with sw := u.sw.set (fun _ => none) c (some w) })
/-- A safety parameter block: one emergency stop on inputs 0 and 1, no outputs. -/
def safBlock : List Byte :=
  [0x53#8, 0x41#8, 0x46#8, 0x50#8, 1#8, 0#8, 1#8, 0xFF#8, 100#8, 0#8, 5#8] ++ zeros 5 ++ (List.range 16).flatMap (fun _ => [1#8, 0#8, 1#8, 0#8]) ++
    [1#8, 0#8, 0#8, 0#8, 0#8, 1#8, 0xFF#8, 0xFF#8, 0xF4#8, 1#8, 0xF4#8, 1#8] ++ zeros 20 ++ zeros 224 ++
    (List.range 4).flatMap (fun _ => 0xFF#8 :: zeros 15)
/-- Both safety cores run with that block; these are the channels. -/
def safSt (l : List (Nat × Word)) (a b : SafChan) : State :=
  { st ((A.CORE_STAT, 0x2AAA#32) :: l) with
    mem := Tab.seg memReset 0x30600000 safBlock ++ Tab.seg memReset 0x30800000 safBlock, saf := { ch := [(0, a), (1, b)] } }
/-- The same for the first core, with a section of no bytes, its hash, and the block's check value in place, before the start. -/
def safFresh : State :=
  { safSt [] {} {} with
    mem := Tab.seg memReset 0x30600000 (safBlock ++ zeros 108 ++ natLe 4 0x31df4694) ++
      Tab.seg memReset 0x3060BFC4 (natBe 32 0xe3b0c44298fc1c149afbf4c8996fb92427ae41e4649b934ca495991b7852b855) }
/-- Load switches with these registers and this hidden state. -/
def lsSt (l : List (Nat × Word)) (x : LswSt) (t : BitVec 64) : State := { st l with lsw := x, tb := t }
/-- UART `p` with these registers and this hidden state. -/
def uSt (s : State) (p : Nat) (u : Uart) : State := s.modUart p (fun _ => u)
/-- A descriptor in hand that has been started. -/
def begun (w : Win) (n : Nat) (desc : List Word) (l : List (Nat × Word)) (aux : Nat) : State :=
  (hand w n desc l).modRing w n (fun r => { r with aux := aux })

/-! ## No empty hypotheses -/

/-- States and operands that meet the hypotheses of LinkRegisterAccesses: clauses 1, 2, 3, 4, 5, 6. -/
theorem test_meets_LinkRegisterAccesses :
    (∃ (s : State) (w : Win) (m : Fin 8) (a : Word) (z : AccSize), winOf a.toNat = some w ∧ pdRegister a.toNat = true ∧
        aligned a.toNat z.bytes = true ∧ s.CanRead w m ∧ s.linkUp = true) ∧
    (∃ (s : State) (w : Win) (m : Fin 8) (a : Word) (z : AccSize), winOf a.toNat = some w ∧ pdRegister a.toNat = true ∧
        aligned a.toNat z.bytes = true ∧ s.CanRead w m ∧ s.linkUp = false) ∧
    (∃ (s : State) (w : Win) (m : Fin 8) (a : Word) (z : AccSize) (v : Word) (r : RegInfo), winOf a.toNat = some w ∧
        regInfo (a.toNat - a.toNat % 4) = some r ∧ r.acc = .rw ∧ pdRegister a.toNat = true ∧ aligned a.toNat z.bytes = true ∧
        s.Unhindered w m (a.toNat - a.toNat % 4) ∧ s.linkUp = true) ∧
    (∃ (s : State) (w : Win) (m : Fin 8) (a v : Word) (r : RegInfo), winOf a.toNat = some w ∧ a.toNat % 4 = 0 ∧
        regInfo a.toNat = some r ∧ r.acc = .wp ∧ pdRegister a.toNat = true ∧ s.PairReady w m a.toNat v ∧ s.linkUp = false) ∧
    (∃ (s : State) (m : Fin 8) (v : Word), s.PairReady .sys m A.LML_CTL v ∧ bit v 0 = false) ∧
    (∃ (s : State) (m : Fin 8), s.PairReady .sys m A.LML_CTL (setBit (s.reg A.LML_CTL) 0 true) ∧ m.val = s.primaryHost ∧
        s.linkUp = true ∧ s.flag A.LML_STAT 2 = true ∧ s.safeHolds 7 = false) :=
  ⟨⟨(st [(A.LML_STAT, 1)]), .lsw, 0, wd (A.LS_DIAG 2), .word, by decide⟩,
   ⟨(st []), .lsw, 0, wd (A.LS_DIAG 2), .half, by decide⟩,
   ⟨(st [(A.LML_STAT, 1)]), .eng, 0, wd (loopA .eng 0), .byte, 1#32, row (loopA .eng 0), by decide⟩,
   ⟨((st []).setComp .edr (some (0, A.EDR_CTL, ~~~ 5#32))), .edr, 0, wd A.EDR_CTL, 5#32, row A.EDR_CTL, by decide⟩,
   ⟨((st []).setComp .sys (some (0, A.LML_CTL, ~~~ 0x90000#32))), 0, 0x90000#32, by decide⟩,
   ⟨((st [(A.LML_STAT, 5)]).setComp .sys (some (0, A.LML_CTL, ~~~ 0x36401#32))), 0, by decide⟩⟩

/-- States and operands that meet the hypotheses of LinkFrames: clauses 1, 2, 4, 5, 6, 7, 8. -/
theorem test_meets_LinkFrames :
    (∃ (s : State) (r : LinkReq) (rest : List LinkReq), s.link.flight = none ∧ s.link.queue = r :: rest ∧ s.linkUp = true) ∧
    (∃ (s : State) (f : Flight), s.link.flight = some f ∧ s.link.pdTag ≠ some f.tag ∧ f.req.isRead = true) ∧
    (∃ (s : State) (f : Flight), s.link.flight = some f ∧ s.link.pdTag = some f.tag ∧ f.req.isRead = true) ∧
    (∃ (s : State) (f : Flight), s.link.flight = some f ∧ s.link.pdTag = some f.tag ∧ f.retries < s.field A.LML_CTL 16 4) ∧
    (∃ (s : State) (f : Flight), s.link.flight = some f ∧ f.retries < s.field A.LML_CTL 16 4) ∧
    (∃ (s : State), s.link.flight = none) ∧
    (∃ (s : State), s.link.flight = none) :=
  ⟨⟨({ st [(A.LML_STAT, 1)] with link := { queue := [lreq true] } }), lreq true, [], by decide⟩,
   ⟨({ st [] with link := { flight := some ⟨lreq true, 3, 0⟩ } }), ⟨lreq true, 3, 0⟩, by decide⟩,
   ⟨({ st [] with link := { flight := some ⟨lreq true, 3, 0⟩, pdTag := some 3, pdData := 0x1234#32 } }), ⟨lreq true, 3, 0⟩,
       by decide⟩,
   ⟨({ st [] with link := { flight := some ⟨lreq true, 3, 1⟩, pdTag := some 3 } }), ⟨lreq true, 3, 1⟩, by decide⟩,
   ⟨({ st [] with link := { flight := some ⟨lreq false, 3, 1⟩ } }), ⟨lreq false, 3, 1⟩, by decide⟩,
   ⟨(st []), by decide⟩,
   ⟨(st []), by decide⟩⟩

/-- States and operands that meet the hypotheses of LinkLossAndReset: clauses 1, 2, 3, 4, 5, 9. -/
theorem test_meets_LinkLossAndReset :
    (∃ (s : State), s.linkUp = true ∧ s.link.validCd + 16000 ≤ s.now) ∧
    (∃ (s : State), s.link.validPd + 16000 ≤ s.now) ∧
    (∃ (s : State), s.link.pdResetToReport = false) ∧
    (∃ (s : State), s.link.pdLoss = true ∧ s.link.pdAuton = false) ∧
    (∃ (s : State), s.linkUp = false) ∧
    (∃ (s : State), s.wires.pdflt = false) :=
  ⟨⟨({ st [(A.LML_STAT, 1)] with tb := 16000, link := { queue := [lreq false], flight := some ⟨lreq true, 1, 0⟩ } }), by decide⟩,
   ⟨({ st [] with tb := 16000 }), by decide⟩,
   ⟨(st []), by decide⟩,
   ⟨({ st [] with link := { pdLoss := true, pdAuton := false }, wires := { inj := 15, coil := 3 } }), by decide⟩,
   ⟨({ st [(A.LS_STAT, 5), (A.EDR_CTL, 0xFF)] with link := { pdAuton := false }, wires := { inj := 15, coil := 3, sta := false, stb := false } }),
       by decide⟩,
   ⟨(st [(A.CORE_STAT, 0x2AA)] |> fun s => ({ s with routes := [(29, 3)] } : State)), by decide⟩⟩

/-- States and operands that meet the hypotheses of CoreAccesses: clauses 1, 2, 3, 4, 5, 6, 7, 8, 9, 10. -/
theorem test_meets_CoreAccesses :
    (∃ (s : State) (m : Fin 8) (a : Word) (z : AccSize) (v : Word), s.mayIssue m = true ∧ a.toNat % z.bytes = 0 ∧
        s.pmpAllows m false .store a.toNat = true ∧ s.coreReach m .store (regionOf (s.phys m a.toNat)) = true ∧
        s.regionOn (regionOf (s.phys m a.toNat)) = true ∧ s.regionAbsent (regionOf (s.phys m a.toNat)) = false ∧
        (ramArray (s.phys m a.toNat)).isSome = true ∧ s.ecc (s.phys m a.toNat) ≠ 2) ∧
    (∃ (s : State) (m : Fin 8) (a : Word) (z : AccSize), s.mayIssue m = true ∧ a.toNat % z.bytes = 0 ∧
        s.pmpAllows m false .load a.toNat = true ∧ s.coreReach m .load (regionOf (s.phys m a.toNat)) = true ∧
        s.regionOn (regionOf (s.phys m a.toNat)) = true ∧ s.regionAbsent (regionOf (s.phys m a.toNat)) = false ∧
        (ramArray (s.phys m a.toNat)).isSome = true ∧ s.ecc (s.phys m a.toNat) ≠ 2) ∧
    (∃ (s : State) (m : Fin 8) (a : Word) (z : AccSize), s.mayIssue m = true ∧ a.toNat % z.bytes = 0 ∧
        s.pmpAllows m false .load a.toNat = true ∧ s.coreReach m .load (regionOf (s.phys m a.toNat)) = false ∧
        s.flag A.FAB_STAT 0 = false) ∧
    (∃ (s : State) (m : Fin 8) (i : Fin 16) (cfg : BitVec 8) (a v : Word), s.mayIssue m = true ∧ m.val ≤ 1 ∧
        (s.pmp.get (fun _ => {}) (m * 16 + i)).locked = false ∧ cfg.toNat / 8 % 4 ≠ 2) ∧
    (∃ (s : State) (m : Fin 8) (a v : Word), s.mayIssue m = true ∧ m.val < 4 ∧ a.toNat % 4 = 0 ∧
        amoRegion m (regionOf (s.phys m a.toNat)) = true ∧ s.regionOn (regionOf (s.phys m a.toNat)) = true ∧
        s.ecc (s.phys m a.toNat) ≠ 2) ∧
    (∃ (s : State) (m : Fin 8) (a : Word), s.mayIssue m = true ∧ m.val < 4 ∧ a.toNat % 4 = 0 ∧
        amoRegion m (regionOf (s.phys m a.toNat)) = true ∧ s.regionOn (regionOf (s.phys m a.toNat)) = true ∧
        s.ecc (s.phys m a.toNat) ≠ 2) ∧
    (∃ (s : State) (m : Fin 8) (a v : Word), s.mayIssue m = true ∧ m.val < 4 ∧ a.toNat % 4 = 0 ∧
        amoRegion m (regionOf (s.phys m a.toNat)) = true ∧ s.regionOn (regionOf (s.phys m a.toNat)) = true ∧
        s.ecc (s.phys m a.toNat) ≠ 2 ∧ s.lr.get (fun _ => none) m ≠ some (s.phys m a.toNat)) ∧
    (∃ (s : State) (m : Fin 8), s.mayIssue m = true) ∧
    (∃ (s : State) (m : Fin 8), s.mayIssue m = true) ∧
    (∃ (s : State) (m : Fin 8) (store : Bool), s.mayIssue m = true) :=
  ⟨⟨(st []), 0, 0x20000012#32, .half, 0xBEEF#32, by decide⟩,
   ⟨((st []).setWord 0x20000010 0x12345678#32), 0, 0x20000012#32, .half, by decide⟩,
   ⟨(st [(A.CORE_STAT, 0x2AA)]), 2, 0x50000000#32, .word, by decide⟩,
   ⟨(st []), 0, 3, 0x9F#8, 0x08000000#32, 0#32, by decide⟩,
   ⟨((st []).setWord 0x20000010 0xFFFFFFFF#32), 0, 0x20000010#32, 2#32, by decide⟩,
   ⟨(st []), 0, 0x20000010#32, by decide⟩,
   ⟨(st []), 0, 0x20000010#32, 1#32, by decide⟩,
   ⟨({ st [] with icache := [(0x08000000, some 1#8)] }), 0, by decide⟩,
   ⟨(st []), 0, by decide⟩,
   ⟨(st []), 0, true, by decide⟩⟩

/-- States and operands that meet the hypotheses of RegisterWrites: clauses 1, 2, 3, 4, 5, 6, 7, 8, 9, 10. -/
theorem test_meets_RegisterWrites :
    (∃ (s : State) (m : Fin 8) (a : Word) (z : AccSize) (v : Word) (r : RegInfo), winOf a.toNat = some .sys ∧
        aligned a.toNat z.bytes = true ∧ a.toNat % 0x1000 < 0x600 ∧ regInfo (a.toNat - a.toNat % 4) = some r ∧ r.acc = .ro ∧
        s.Unhindered .sys m (a.toNat - a.toNat % 4)) ∧
    (∃ (s : State) (m : Fin 8) (a : Word) (z : AccSize) (v : Word), a.toNat - a.toNat % 4 = A.LML_ERR ∧
        aligned a.toNat z.bytes = true ∧ s.Unhindered .sys m A.LML_ERR) ∧
    (∃ (s : State) (m : Fin 8) (z : AccSize) (v : Word), s.Unhindered .evr m A.EVR_RT_IDX) ∧
    (∃ (s : State) (w : Win) (m : Fin 8) (a v : Word), winOf a.toNat = some w ∧ a.toNat % 4 = 0 ∧ isWp a.toNat = true ∧
        isLk a.toNat = true ∧ isPd a.toNat = false ∧ a.toNat % 0x1000 < 0x600 ∧ s.CanWrite w m ∧ s.pendingComp w = some (m.val,
        a.toNat, ~~~ v) ∧ s.locked w = true) ∧
    (∃ (s : State) (m : Fin 8) (v : Word), s.PairReady .cfc m A.CFC_ARM v) ∧
    (∃ (s : State) (w : Win) (m : Fin 8) (a v : Word), winOf a.toNat = some w ∧ a.toNat % 4 = 0 ∧ isWp a.toNat = true ∧
        a.toNat % 0x1000 < 0x800 ∧ a.toNat % 0x1000 ≠ 0x600 ∧ s.CanWrite w m ∧ s.pendingComp w = none) ∧
    (∃ (s : State) (w : Win) (m : Fin 8) (off : BitVec 12) (v : Word), off.toNat < 0x800 ∧ off.toNat % 4 = 0 ∧
        isWp (w.base + off.toNat) = true ∧ s.CanWrite w m ∧ s.pendingComp w = none) ∧
    (∃ (s : State) (w : Win) (m a : Nat) (c : Word), s.pendingComp w = some (m, a, c) ∧ m < 16) ∧
    (∃ (s : State) (m : Fin 8) (w : Win) (v : Word), s.PairReady w m (w.base + 0x3FC) v ∧ bit v 0 = true) ∧
    (∃ (s : State) (m : Fin 8) (w : Win) (a : Word), winOf a.toNat = some w ∧ s.mayIssue m = true ∧ windowReach m w = true ∧
        s.present w = true ∧ s.domOn w.domain = false) :=
  ⟨⟨(st []), 0, wd A.LML_STAT, .word, 7#32, row A.LML_STAT, by decide⟩,
   ⟨(st [(A.LML_ERR, 0x7F)]), 0, wd (A.LML_ERR), .byte, 5#32, by decide⟩,
   ⟨(st []), 0, .half, 0x7FF#32, by decide⟩,
   ⟨((st [(Win.pmu.base + 0x3FC, 1)]).setComp .pmu (some (0, A.WAKE_EN, ~~~ 3#32))), .pmu, 0, wd A.WAKE_EN, 3#32, by decide⟩,
   ⟨((st []).setComp .cfc (some (0, A.CFC_ARM, ~~~ 0x1FF#32))), 0, 0x1FF#32, by decide⟩,
   ⟨(st []), .cfc, 0, wd A.CFC_ARM, 1#32, by decide⟩,
   ⟨(st []), .cfc, 0, 4#12, 1#32, by decide⟩,
   ⟨((st []).setComp .cfc (some (0, A.CFC_ARM, 1#32))), .cfc, 0, A.CFC_ARM, 1#32, by decide⟩,
   ⟨((st []).setComp .cfc (some (0, Win.cfc.base + 0x3FC, ~~~ 1#32))), 0, .cfc, 1#32, by decide⟩,
   ⟨(st [(A.PWR_STAT, 0x7FFFFF &&& ~~~ 0x400)]), 0, .met, wd A.MET_STAT, by decide⟩⟩

/-- States and operands that meet the hypotheses of RingCommands: clauses 1, 2, 3, 4, 5, 6, 7. -/
theorem test_meets_RingCommands :
    (∃ (s : State) (w : Win) (n m : Fin 8), s.Unhindered w m (slotReg w n 0x10) ∧ s.ringMayCommand w n m = true ∧
        s.ringState w n = 0 ∧ s.setupStatus w n = 0 ∧ w ≠ .cry ∧ w ≠ .pke ∧ w ≠ .upd) ∧
    (∃ (s : State) (w : Win) (n m : Fin 8), s.Unhindered w m (slotReg w n 0x10) ∧ s.ringMayCommand w n m = true ∧
        s.ringState w n = 1 ∧ (s.ring w n).desc = []) ∧
    (∃ (s : State) (w : Win) (n m : Fin 8), s.Unhindered w m (slotReg w n 0x10) ∧ s.ringMayCommand w n m = true ∧
        s.ringState w n = 1 ∧ (s.ring w n).desc ≠ [] ∧ (s.ring w n).done = none ∧ w ≠ .cry) ∧
    (∃ (s : State) (w : Win) (n m : Fin 8), s.Unhindered w m (slotReg w n 0x10) ∧ s.ringMayCommand w n m = true ∧
        (s.ringState w n = 1 ∨ s.ringState w n = 2) ∧ (s.ring w n).desc = [] ∧ (s.ring w n).held = none ∧
        (s.ring w n).shadowDue = false ∧ s.cidx w n = s.pidx w n ∧ w ≠ .cry ∧ w ≠ .pke ∧ w ≠ .upd ∧
        s.cplReach w (s.ring w n).host (s.ring w n).shadow.toNat 4 = true) ∧
    (∃ (s : State) (w : Win) (n m : Fin 8), s.Unhindered w m (slotReg w n 0x10) ∧ s.ringMayCommand w n m = true ∧
        s.ringState w n = 2 ∧ (s.ring w n).held = none ∧ (s.ring w n).shadowDue = false) ∧
    (∃ (s : State) (w : Win) (n m : Fin 8), s.Unhindered w m (slotReg w n 0x10) ∧ s.ringState w n = 3 ∧ s.standsFor m = mH0 ∧
        (s.ring w n).desc = [] ∧ (s.ring w n).held = none ∧ (s.ring w n).shadowDue = false ∧ s.cidx w n = s.pidx w n) ∧
    (∃ (s : State) (w : Win) (n m : Fin 8), s.Unhindered w m (slotReg w n 0x10) ∧ s.ringState w n ≠ 0) :=
  ⟨⟨(rg .tmb 0 0 5 4 4 [] []), .tmb, 0, 0, by decide⟩,
   ⟨(rg .tmb 0 1 5 5 5 [] []), .tmb, 0, 0, by decide⟩,
   ⟨(hand .tmb 0 [0x10#32] []), .tmb, 0, 0, by decide⟩,
   ⟨(rg .tmb 0 1 5 5 5 [] []), .tmb, 0, 0, by decide⟩,
   ⟨(rg .tmb 0 2 5 5 5 [] []), .tmb, 0, 0, by decide⟩,
   ⟨(rg .tmb 0 3 5 5 5 [] []), .tmb, 0, 0, by decide⟩,
   ⟨(rg .tmb 0 1 5 5 5 [] []), .tmb, 0, 0, by decide⟩⟩

/-- States and operands that meet the hypotheses of DescriptorFlow: clauses 1, 2, 3, 4, 5. -/
theorem test_meets_DescriptorFlow :
    (∃ (s : State) (w : Win) (m : Fin 8) (v : Word), s.Unhindered w m (w.base + 0x600) ∧ fld v 16 4 < 8 ∧
        s.ringState w (fld v 16 4) ≠ 0 ∧
        (s.pidx w (fld v 16 4) + 65536 - s.cidx w (fld v 16 4)) % 65536 ≤ (fld v 0 16 + 65536 - s.cidx w (fld v 16 4)) % 65536 ∧
        (fld v 0 16 + 65536 - s.cidx w (fld v 16 4)) % 65536 ≤ (s.ring w (fld v 16 4)).size) ∧
    (∃ (s : State) (w : Win) (n : Fin 8), (s.ring w n).desc = [] ∧ s.fidx w n ≠ s.pidx w n ∧ (s.ring w n).held = none ∧
        s.ringState w n = 1 ∧ s.safeHolds 4 = false ∧ (s.ring w n).wish ≠ .abort ∧ s.fetchHeld w = false ∧
        s.rangeReach w (s.ring w n).host .load ((s.ring w n).descAddr (s.fidx w n)) 32 = true ∧
        s.badRead (s.ring w n).host ((s.ring w n).descAddr (s.fidx w n)) 32 = none ∧
        s.badSource w n (s.ring w n).host (s.viewWords (s.ring w n).host ((s.ring w n).descAddr (s.fidx w n)) 8) = none) ∧
    (∃ (s : State) (w : Win) (n : Fin 8) (d0 : Word) (ds : List Word) (c : Cpl), (s.ring w n).done = some c ∧
        (s.ring w n).desc = d0 :: ds ∧ s.ringState w n = 1 ∧ (s.ring w n).wish = .none ∧ (s.ring w n).stopOnErr = false ∧
        s.cplReach w (s.ring w n).host ((s.ring w n).cplAddr ((s.fidx w n + 65535) % 65536)) 16 = true ∧
        s.cplReach w (s.ring w n).host (s.ring w n).shadow.toNat 4 = true ∧
        overlap (s.phys (s.ring w n).host ((s.ring w n).cplAddr ((s.fidx w n + 65535) % 65536) + 4)) 4 (s.phys (s.ring w n).host (s.ring w n).shadow.toNat) 4 = false ∧
        overlap (s.phys (s.ring w n).host ((s.ring w n).cplAddr ((s.fidx w n + 65535) % 65536))) 4 (s.phys (s.ring w n).host ((s.ring w n).cplAddr ((s.fidx w n + 65535) % 65536) + 4)) 4 = false ∧
        overlap (s.phys (s.ring w n).host ((s.ring w n).cplAddr ((s.fidx w n + 65535) % 65536) + 8)) 4 (s.phys (s.ring w n).host ((s.ring w n).cplAddr ((s.fidx w n + 65535) % 65536) + 4)) 4 = false ∧
        overlap (s.phys (s.ring w n).host ((s.ring w n).cplAddr ((s.fidx w n + 65535) % 65536) + 12)) 4 (s.phys (s.ring w n).host ((s.ring w n).cplAddr ((s.fidx w n + 65535) % 65536) + 4)) 4 = false) ∧
    (∃ (s : State) (w : Win) (n : Fin 8), (s.inHand w n).isSome = true ∧ bit ((s.ring w n).desc.getD 0 0#32) 10 = false) ∧
    (∃ (s : State) (w : Win) (n : Fin 8) (op k unit : Nat), s.inHand w n = some op ∧ logTimeout w n op = some (k, unit) ∧
        (s.ring w n).aux ≠ 0 ∧ (s.ring w n).t0 + fld (s.dw w n k) 0 16 * unit ≤ s.now) :=
  ⟨⟨(rg .tmb 0 1 5 5 5 [] []), .tmb, 0, 7#32, by decide⟩,
   ⟨((rg .tmb 0 1 1 0 0 [] []).setWord 0x20000000 0x10#32), .tmb, 0, by decide⟩,
   ⟨(((hand .tmb 0 [0xABCD0110#32] []).modRing .tmb 0 (fun r => { r with done := some { status := 0, result := 0x55#32 } }))),
       .tmb, 0, 0xABCD0110#32, [], { status := 0, result := 0x55#32 }, by decide⟩,
   ⟨(hand .tmb 0 [0x10#32] []), .tmb, 0, by decide⟩,
   ⟨({ ((hand .lam 0 [0x10#32, 0#32, 0#32, 0#32, 0#32, 2#32] []).modRing .lam 0 (fun r => { r with aux := 1, count := 32 })) with tb := 800000 }),
       .lam, 0, 0x10, 5, 400000, by decide⟩⟩

/-- States and operands that meet the hypotheses of ConfigurationCheck: clauses 1, 2, 3, 4, 5, 6. -/
theorem test_meets_ConfigurationCheck :
    (∃ (s : State), s.flag A.CFC_CTL 0 = true ∧ s.cfc.passOn = false) ∧
    (∃ (s : State), s.cfc.passOn = true ∧ s.cfc.stale ≠ 2 ∧ fld (s.reg A.CFC_ARM) 0 7 = 0 ∧ s.cfc.bound = 0) ∧
    (∃ (s : State), s.flag A.CFC_ARM 7 = false ∧ s.cfc.bound = 0 ∧ s.cfc.start7 = (s.domainCrc 7).toNat) ∧
    (∃ (s : State) (m : Fin 8) (v : Word), s.PairReady .cfc m A.CFC_CMD v) ∧
    (∃ (s : State) (m : Fin 8) (v : Word), s.PairReady .cfc m A.CFC_CTL v ∧ bit v 0 = false) ∧
    (∃ (s : State) (m : Fin 8) (z : AccSize) (v : Word), s.Unhindered .cfc m A.CFC_STAT ∧ fld (s.reg A.CFC_SAFE) 0 8 = 0) :=
  ⟨⟨(st []), by decide⟩,
   ⟨({ st [] with cfc := { passOn := true, matched := 255 } }), by decide⟩,
   ⟨({ st [] with cfc := { stale := 2, start7 := ((st []).domainCrc 7).toNat } }), by decide⟩,
   ⟨((st []).setComp .cfc (some (0, A.CFC_CMD, ~~~ 5#32))), 0, 5#32, by decide⟩,
   ⟨(({ st [] with cfc := { passOn := true } }).setComp .cfc (some (0, A.CFC_CTL, ~~~ 0#32))), 0, 0#32, by decide⟩,
   ⟨(st [(A.CFC_STAT, 0x7FF)]), 0, .half, 0xFF#32, by decide⟩⟩

/-- States and operands that meet the hypotheses of MismatchActsAtOnce: clause 1. -/
theorem test_meets_MismatchActsAtOnce_clause1 :
    ∃ (s : State), s.flag A.CFC_ARM 7 = true ∧ s.flag A.CFC_CMD 7 = false ∧ s.reg (A.CFC_REF 7) ≠ s.domainCrc 7 ∧
        s.field A.CFC_ACT 14 2 = 1 ∧ s.cfc.start7 = (s.domainCrc 7).toNat :=
  ⟨({ st [(A.CFC_ARM, 0x80), (A.CFC_REF 7, 1)] with cfc := { start7 := ((st []).domainCrc 7).toNat } }), by decide +kernel⟩

/-- States and operands that meet the hypotheses of EventRouting: clauses 2, 3, 4, 5, 6, 7, 8. -/
theorem test_meets_EventRouting :
    (∃ (s : State) (m : Fin 8) (v : Word), s.Unhindered .evr m A.EVR_ACK ∧ m.val ≤ 6 ∧ fld v 0 11 ≤ 1215) ∧
    (∃ (s : State) (m : Fin 8) (v : Word), s.Unhindered .evr m A.EVR_SWEV) ∧
    (∃ (s : State) (m : Fin 8) (v : Word), s.PairReady .evr m A.EVR_RT_DATA v ∧ s.standsFor m = mH0 ∧
        s.field A.EVR_RT_IDX 0 11 ≤ 1215) ∧
    (∃ (s : State) (n : Fin 8), InHand s .evr n 0x10 ∧ fld (s.dw .evr n 5) 0 24 ≠ 0 ∧ fld (s.dw .evr n 4) 0 11 ≤ 1215) ∧
    (∃ (s : State) (n : Fin 8) (at_ : Nat), InHand s .evr n 0x10 ∧ (s.ring .evr n).aux = 1 ∧
        s.waitHits.get (fun _ => none) n = some at_) ∧
    (∃ (s : State) (n : Fin 8), InHand s .evr n 0x10 ∧ (s.ring .evr n).aux = 1 ∧ s.waitHits.get (fun _ => none) n = none) ∧
    (∃ (s : State) (n : Fin 8), InHand s .evr n 0x11) :=
  ⟨⟨((st []).setBanked 0 (pendAddr 29) 0xFFFFFFFF#32), 0, 29#32, by decide⟩,
   ⟨({ st [] with routes := [(72, 1), (75, 1)] }), 0, 9#32, by decide⟩,
   ⟨((st [(A.EVR_RT_IDX, 29)]).setComp .evr (some (0, A.EVR_RT_DATA, ~~~ 0x503#32))), 0, 0x503#32, by decide⟩,
   ⟨(hand .evr 0 [0x10#32, 0#32, 0#32, 0#32, 29#32, 100#32] []), 0, by decide⟩,
   ⟨({ (hand .evr 0 [0x10#32] []).modRing .evr 0 (fun r => { r with aux := 1 }) with waitHits := [(0, some 77)] }), 0, 77,
       by decide⟩,
   ⟨((hand .evr 0 [0x10#32] []).modRing .evr 0 (fun r => { r with aux := 1 })), 0, by decide⟩,
   ⟨({ hand .evr 0 [0x11#32, 0#32, 0#32, 0#32, 8#32] [] with routes := [(75, 1)] }), 0, by decide⟩⟩

/-- States and operands that meet the hypotheses of SemaphoresAndMailboxes: clauses 1, 2, 3, 4, 5, 6, 7, 8. -/
theorem test_meets_SemaphoresAndMailboxes :
    (∃ (s : State) (m : Fin 8) (n : Fin 64) (wait : Bool), s.Unhindered .sem m (A.SEM n) ∧ m.val < 4 ∧ (s.sem n).state = 0) ∧
    (∃ (s : State) (m : Fin 8) (n : Fin 64), s.Unhindered .sem m (A.SEM n) ∧ m.val < 4 ∧ (s.sem n).state = 1 ∧
        (s.sem n).owner ≠ m) ∧
    (∃ (s : State) (m : Fin 8) (n : Fin 64), s.Unhindered .sem m (A.SEM n) ∧ m.val < 4 ∧ (s.sem n).state = 1 ∧
        (s.sem n).owner = m ∧ (s.sem n).repair = false) ∧
    (∃ (s : State) (m : Fin 8) (n : Fin 64), s.Unhindered .sem m (A.SEM n) ∧ m.val < 4 ∧ (s.sem n).state = 1 ∧
        (s.sem n).owner = m) ∧
    (∃ (s : State) (m : Fin 8) (n : Fin 64), s.Unhindered .sem m (A.SEM n) ∧ m.val < 4 ∧ s.standsFor m = mH0 ∧
        (s.sem n).state = 1) ∧
    (∃ (s : State) (m k : Fin 8) (v : Word), s.Unhindered .sem m (A.MBX_DATA k) ∧ s.mbxUnset k = false ∧ m.val = s.mbxSender k ∧
        s.flag (A.MBX_STAT k) 0 = false) ∧
    (∃ (s : State) (m k : Fin 8), s.Unhindered .sem m (A.MBX_STAT k) ∧ s.mbxUnset k = false ∧ m.val = s.mbxReceiver k ∧
        s.flag (A.MBX_STAT k) 0 = true) ∧
    (∃ (s : State) (m k : Fin 8), s.Unhindered .sem m (A.MBX_STAT k) ∧ s.mbxUnset k = false ∧ m.val = s.mbxSender k) :=
  ⟨⟨(st []), 0, 5, true, by decide⟩,
   ⟨(st [(A.SEM 5, 0x11)]), 0, 5, by decide⟩,
   ⟨(st [(A.SEM 5, 0x20001)]), 0, 5, by decide⟩,
   ⟨(st [(A.SEM 5, 0x205)]), 0, 5, by decide⟩,
   ⟨(st [(A.SEM 5, 0x21)]), 0, 5, by decide⟩,
   ⟨(st [(A.MBX_CFG 2, 0x10)]), 0, 2, 0x1234#32, by decide⟩,
   ⟨(st [(A.MBX_CFG 2, 0x01), (A.MBX_STAT 2, 1)]), 0, 2, by decide⟩,
   ⟨(st [(A.MBX_CFG 2, 0x10), (A.MBX_STAT 2, 7)]), 0, 2, by decide⟩⟩

/-- States and operands that meet the hypotheses of OneCoreResets: clauses 1, 2. -/
theorem test_meets_OneCoreResets :
    (∃ (s : State) (c : Fin 7), (c.val = 2 ∨ c.val = 3) ∧ 2 ≤ s.coreState c) ∧
    (∃ (s : State) (c : Fin 7), s.coreState c < 2) :=
  ⟨⟨(st [(A.CORE_STAT, 0x2AA), (A.SEM 3, 0x21)]), 2, by decide⟩,
   ⟨(st []), 2, by decide⟩⟩

/-- States and operands that meet the hypotheses of LoopsAndSlots: clauses 1, 2, 3, 4, 5, 6. -/
theorem test_meets_LoopsAndSlots :
    (∃ (s : State) (n : Fin 16) (margin : Nat) (l : LoopDef), loopDef .pwm n = some l ∧ s.live .pwm = true ∧
        s.field (loopA .pwm n) 0 2 = 0 ∧ s.loopLo .pwm n ≤ s.loopHi .pwm n) ∧
    (∃ (s : State) (m : Fin 8) (w : Win) (n : Fin 16) (v : Word) (l : LoopDef), loopDef w n = some l ∧ l.pd = false ∧
        s.PairReady w m (loopLoA w n) v) ∧
    (∃ (s : State) (m : Fin 8) (w : Win) (n : Fin 16) (v : Word) (l : LoopDef), loopDef w n = some l ∧ l.pd = false ∧ w ≠ .ang ∧
        s.Unhindered w m (loopA w n + 12) ∧ (s.loop w n).mode ≠ 0 ∧ s.loopLo w n ≤ s.loopHi w n) ∧
    (∃ (s : State) (m : Fin 8) (w : Win) (n : Fin 16) (v : Word) (l : LoopDef), loopDef w n = some l ∧ l.pd = false ∧
        s.Unhindered w m (loopA w n + 12) ∧ (s.loop w n).mode = 0) ∧
    (∃ (s : State) (m : Fin 8) (w : Win) (n : Fin 16) (v : Word) (l : LoopDef), loopDef w n = some l ∧ l.pd = false ∧
        s.Unhindered w m (loopA w n) ∧ fld v 0 2 ≠ 3) ∧
    (∃ (s : State) (w : Win), w.background = true ∧ s.live w = true ∧ 63 ≤ s.field (w.base + 0x3F0) 0 7) :=
  ⟨⟨(st []), 2, 0, ⟨.pwm, 2, 1, 0x40, 0x6400, 0x100, 0x1900, 0xC80, false, 533⟩, by decide⟩,
   ⟨((st []).setComp .pwm (some (0, loopLoA .pwm 2, ~~~ 0x20#32))), 0, .pwm, 2, 0x20#32, ⟨.pwm, 2, 1, 0x40, 0x6400, 0x100,
       0x1900, 0xC80, false, 533⟩, by decide⟩,
   ⟨({ st [] with loops := [(loopA .pwm 2, { mode := 1 })] }), 0, .pwm, 2, 0x20#32, ⟨.pwm, 2, 1, 0x40, 0x6400, 0x100, 0x1900,
       0xC80, false, 533⟩, by decide⟩,
   ⟨(st []), 0, .pwm, 2, 0x20#32, ⟨.pwm, 2, 1, 0x40, 0x6400, 0x100, 0x1900, 0xC80, false, 533⟩, by decide⟩,
   ⟨(st []), 0, .egv, 0, 1#32, ⟨.egv, 0, 1, 0, 20000, 1500, 3600, 3000, false, 643⟩, by decide⟩,
   ⟨(st [(Win.scr.base + 0x3F0, 63)]), .scr, by decide⟩⟩

/-- States and operands that meet the hypotheses of CommitGates: clauses 1, 2, 3, 4. -/
theorem test_meets_CommitGates :
    (∃ (s : State) (m : Fin 8) (v : Word), s.Unhindered .lam m (gateA .lam 0 + 8) ∧ m.val = s.gateHost .lam 0 ∧
        fld v 0 8 = s.gateSeq .lam 0) ∧
    (∃ (s : State) (m : Fin 8) (w : Win) (g : Fin 3) (v : Word), (gateDef w g).isSome = true ∧
        s.Unhindered w m (gateA w g + 8) ∧ m.val ≠ s.gateHost w g) ∧
    (∃ (s : State) (vs : List Nat), s.live .lam = true ∧ s.flag A.LAM_CTL 0 = true ∧ (s.gate .lam 0).commit = some vs ∧
        s.flag (gateA .lam 0 + 4) 3 = false) ∧
    (∃ (s : State) (m : Fin 8) (w : Win) (g : Fin 3) (v : Word), (gateDef w g).isSome = true ∧
        s.Unhindered w m (gateA w g + 4) ∧ (s.gate w g).lastOk = true) :=
  ⟨⟨(st [(A.CORE_STAT, 0x2AA), (A.LAM_PUMP_STG, 7)]), 2, 0x0#32, by decide⟩,
   ⟨(st [(A.CORE_STAT, 0x2AA)]), 0, .pwm, 1, 5#32, by decide⟩,
   ⟨({ st [(A.LAM_CTL, 1)] with gates := [(gateA .lam 0, { commit := some [9] })] }), [9], by decide⟩,
   ⟨({ st [(gateA .pwm 1 + 4, 15)] with gates := [(gateA .pwm 1, { lastOk := true })] }), 0, .pwm, 1, 15#32, by decide⟩⟩

/-- States and operands that meet the hypotheses of ScrubAndFlash: clauses 1, 2, 3, 4, 5, 6, 7, 8, 9. -/
theorem test_meets_ScrubAndFlash :
    (∃ (s : State), s.flag A.SCR_CTL 0 = true ∧ s.scrOn = false) ∧
    (∃ (s : State) (c i : Nat), s.scrOn = true ∧ scrPlace s.scrNext 0 arrayWords = some (c, i) ∧
        s.domOn (arrayDomain c) = true ∧ s.ecc (arrayBase c + 4 * i) = 1 ∧
        (scrPlace (s.scrNext + 1) 0 arrayWords).isSome = true) ∧
    (∃ (s : State), s.scrOn = true) ∧
    (∃ (s : State) (n : Fin 8), InHand s .scr n 0x10 ∧ (s.dw .scr n 1).toNat = 8 ∧ s.dw .scr n 2 = 0x20000000#32 ∧
        s.ecc 0x20000000 = 0 ∧ s.ecc 0x20000004 = 0) ∧
    (∃ (s : State), InHand s .flc 0 0x10 ∧ (s.ring .flc 0).aux ≠ 1 ∧ s.flcRun = none ∧ s.flcWait = [] ∧
        flcRange 0 (s.dw .flc 0 3).toNat (s.dw .flc 0 1).toNat false = true ∧
        (List.range ((s.dw .flc 0 1).toNat / 16)).all (fun i => s.lineErased ((s.dw .flc 0 3).toNat + 16 * i)) = true) ∧
    (∃ (s : State), InHand s .flc 1 0x11 ∧ (s.ring .flc 1).aux ≠ 1 ∧ s.flcRun = none ∧ s.flcWait = [] ∧
        (s.dw .flc 1 3).toNat % 4096 = 0 ∧ flcRange 1 (s.dw .flc 1 3).toNat 4096 true = true ∧
        (calCopy (s.dw .flc 1 3).toNat 4096 = true → s.sealOpen = true) ∧ bit (s.dw .flc 1 0) 12 = false) ∧
    (∃ (s : State) (n : Fin 8), InHand s .flc n 0x12 ∧ inFlash (s.dw .flc n 3).toNat = true) ∧
    (∃ (s : State) (q : FlcReq), s.flcRun = some q ∧ q.erase = false ∧ (s.ring .flc q.ring).done = none ∧
        (s.ring .flc q.ring).desc ≠ [] ∧ s.fidx .flc q.ring = q.idx ∧ s.flcWait = [] ∧
        (s.dw .flc q.ring 1).toNat ≤ (s.ring .flc q.ring).count + 16) ∧
    (∃ (s : State) (diff : Nat), s.flag A.FLC_CTL 0 = true ∧ s.flcRun = none ∧ s.flashEcc = [] ∧
        s.field A.FLC_STAT 16 16 < 2063) :=
  ⟨⟨(st []), by decide⟩,
   ⟨({ st [] with scrOn := true, ramEcc := [(0x20000000 / 4 + 5, 1)], scrNext := 5 }), 0, 5, by decide⟩,
   ⟨({ st [] with scrOn := true }), by decide⟩,
   ⟨(hand .scr 0 [0x10#32, 8#32, 0x20000000#32] []), 0, by decide⟩,
   ⟨(hand .flc 0 [0x10#32, 32#32, 0x20000100#32, 0x08801A00#32] []), by decide⟩,
   ⟨(hand .flc 1 [0x11#32, 0#32, 0#32, 0x08802000#32] []), by decide⟩,
   ⟨(hand .flc 0 [0x12#32, 0#32, 0#32, 0x08802000#32] []), 0, by decide⟩,
   ⟨({ hand .flc 0 [0x10#32, 16#32, 0x20000100#32, 0x08801A00#32] [] with flcRun := some { req := 4, win := Win.flc.code, ring := 0, addr := 0x08801A00, idx := 1 } }),
       { req := 4, win := Win.flc.code, ring := 0, addr := 0x08801A00, idx := 1 }, by decide⟩,
   ⟨(st [(A.FLC_CTL, 1), (A.FLC_STAT, 0x50000)]), 3, by decide⟩⟩

/-- States and operands that meet the hypotheses of Telemetry: clauses 1, 2, 3, 4, 5. -/
theorem test_meets_Telemetry :
    (∃ (s : State), s.linkUp = true) ∧
    (∃ (s : State) (n : Fin 16) (v : BitVec 16), s.flag A.TLM_CTL 0 = true ∧ s.tlmListed = true ∧ s.linkUp = true ∧
        tlmCode s n ≠ 0xFF ∧ tlmReg (tlmCode s n) = none) ∧
    (∃ (s : State) (c v : Nat) (rest : List (Nat × Nat)), s.tlmOut = (c, v) :: rest ∧
        (List.range 16).filter (fun n => tlmCode s n == c) = [0] ∧ s.inHand .tlm 0 = none ∧ s.inHand .tlm 1 = none) ∧
    (∃ (s : State) (n : Fin 16), s.flag A.TLM_CTL 0 = true ∧ tlmCode s n ≠ 0xFF ∧ s.tlmTold.testBit n = false) ∧
    (∃ (s : State) (n : Fin 8), InHand s .tlm n 0x10 ∧ (s.ring .tlm n).aux = 0 ∧ fld (s.dw .tlm n 5) 0 16 ≠ 0 ∧
        fld (s.dw .tlm n 4) 0 16 ≠ 0) :=
  ⟨⟨(st [(A.LML_STAT, 1)]), by decide⟩,
   ⟨({ st [(A.LML_STAT, 1), (A.TLM_CTL, 1), (0x40009010, 5)] with tlmListed := true }), 0, 77#16, by decide⟩,
   ⟨({ st [(0x40009010, 5)] with tlmOut := [(5, 77)] }), 5, 77, [], by decide⟩,
   ⟨(st [(A.TLM_CTL, 1), (0x40009010 + 4 * 3, 5)]), 3, by decide⟩,
   ⟨(hand .tlm 0 [0x10#32, 64#32, 0x20000800#32, 0#32, 5#32, 100#32] []), 0, by decide⟩⟩

/-- States and operands that meet the hypotheses of ClockControl: clauses 1, 2, 3, 4, 5, 6, 7, 8, 9, 10, 11, 12. -/
theorem test_meets_ClockControl :
    (∃ (s : State) (m : Fin 8) (n : Fin 28) (v : Word), s.Unhindered .clk m (A.CLK_DOM n) ∧ clockPresent s.opt n = true ∧
        firmwareGate n = true ∧ n.val ≠ 17 ∧ n.val ≠ 18 ∧ n.val ≠ 19 ∧ n.val ≠ 20) ∧
    (∃ (s : State), s.spllMode = 1) ∧
    (∃ (s : State) (count : BitVec 16), s.spllMode ≠ 0 ∧ s.domOn 19 = true ∧ (s.monLimits 5).1 ≤ count.toNat ∧
        count.toNat ≤ (s.monLimits 5).2) ∧
    (∃ (s : State), s.spllMode ≠ 3) ∧
    (∃ (s : State), s.field A.CLK_STAT 5 2 = 1 ∧ s.flag A.CLK_ERR 0 = true ∧ s.spllMode ≠ 3) ∧
    (∃ (s : State), s.flag A.CLK_STAT 2 = true ∧ s.spllMode ≠ 3) ∧
    (∃ (s : State), s.spllMode = 2) ∧
    (∃ (s : State), s.spllMode = 2) ∧
    (∃ (s : State), s.flag A.CLK_STAT 10 = true ∧ s.flag A.CLK_STAT 3 = true ∧ s.field A.CLK_STAT 5 2 = 0 ∧
        10 ≤ s.clk.mon4Passes) ∧
    (∃ (s : State), s.pmu.mode ≠ .standby) ∧
    (∃ (s : State) (m : Fin 8) (v : Word), s.PairReady .clk m A.CLK_CTL v ∧ bit v 8 = true ∧ s.flag A.CLK_ERR 0 = true) ∧
    (∃ (s : State), s.clk.readopt = true ∧ 10 ≤ s.clk.mon0Passes ∧ s.spllMode ≠ 3) :=
  ⟨⟨(st []), 0, 9, 0#32, by decide⟩,
   ⟨(st [(A.CLK_STAT, 0x104), (A.SSC_CFG, 0x00010002)]), by decide⟩,
   ⟨(st [(A.CLK_STAT, 0x104), (A.MON_CFG5, 0x00200010)]), 0x18#16, by decide⟩,
   ⟨(st [(A.CLK_STAT, 0x11F)]), by decide⟩,
   ⟨(st [(A.CLK_STAT, 0x220), (A.CLK_ERR, 1)]), by decide⟩,
   ⟨(st [(A.CLK_STAT, 0x104)]), by decide⟩,
   ⟨(st [(A.CLK_STAT, 0x200)]), by decide⟩,
   ⟨(st [(A.CLK_STAT, 0x200)]), by decide⟩,
   ⟨({ st [(A.CLK_STAT, 0x408)] with clk := { mon4Passes := 10 } }), by decide⟩,
   ⟨(st []), by decide⟩,
   ⟨((st [(A.CLK_ERR, 1)]).setComp .clk (some (0, A.CLK_CTL, ~~~ 0x11D#32))), 0, 0x11D#32, by decide⟩,
   ⟨({ st [(A.CLK_STAT, 0x124)] with clk := { readopt := true, mon0Passes := 10 } }), by decide⟩⟩

/-- States and operands that meet the hypotheses of TimeBaseAndPads: clauses 1, 2, 3, 4, 5, 6, 7, 8, 9. -/
theorem test_meets_TimeBaseAndPads :
    (∃ (s : State) (ticks : Word), s.flag A.TB_CTL 0 = true ∧ s.qual = 0) ∧
    (∃ (s : State) (m : Fin 8), s.CanRead .tmb m) ∧
    (∃ (s : State) (c : Fin 8), s.flag (A.TB_CMP_CTL c) 0 = true ∧ s.cmpTarget c ≤ s.now ∧ s.reg (A.TB_CMP_RELOAD c) = 0#32) ∧
    (∃ (s : State) (c : Fin 8), s.flag (A.TB_CMP_CTL c) 0 = true ∧ s.cmpTarget c ≤ s.now ∧ s.reg (A.TB_CMP_RELOAD c) ≠ 0#32) ∧
    (∃ (s : State) (m c : Fin 8) (v : Word), s.Unhindered .tmb m (A.TB_CMP_CTL c) ∧ m.val = s.cmpOwner c ∧
        s.now < s.cmpTarget c ∧ bit v 0 = true) ∧
    (∃ (s : State) (m : Fin 8) (v : Word), s.PairReady .clk m A.PAD_CFG v ∧ padDigital (s.field A.PAD_IDX 0 9) = true) ∧
    (∃ (s : State) (n : Fin 8) (count : Nat), InHand s .clk n 0x10 ∧ fld (s.dw .clk n 4) 0 5 < 27 ∧
        clockPresent s.opt (fld (s.dw .clk n 4) 0 5) = true ∧ s.clockRuns (fld (s.dw .clk n 4) 0 5) = true) ∧
    (∃ (s : State) (n : Fin 8), InHand s .tmb n 0x10 ∧ (s.ring .tmb n).t0 ≤ s.alarmTarget n ∧ s.alarmTarget n ≤ s.now) ∧
    (∃ (s : State) (n : Fin 8), InHand s .tmb n 0x11 ∧ (s.ring .tmb n).host = 0 ∧ (s.dw .tmb n 2).toNat % 4 = 0) :=
  ⟨⟨(st [(A.TB_CTL, 1), (A.TB_AUX, 0)]), 9000#32, by decide⟩,
   ⟨({ st [] with tb := 0x123456789AB }), 0, by decide⟩,
   ⟨({ st [(A.TB_CMP_CTL 3, 1), (A.TB_CMP_LO 3, 100)] with tb := 100 }), 3, by decide⟩,
   ⟨({ st [(A.TB_CMP_CTL 3, 1), (A.TB_CMP_LO 3, 100), (A.TB_CMP_RELOAD 3, 50)] with tb := 100 }), 3, by decide⟩,
   ⟨(st [(A.TB_CMP_HI 3, 0xFFFF0000)]), 0, 3, 1#32, by decide⟩,
   ⟨((st [(A.PAD_IDX, 50)]).setComp .clk (some (0, A.PAD_CFG, ~~~ 0x11#32))), 0, 0x11#32, by decide⟩,
   ⟨(hand .clk 0 [0x10#32, 1#32, 0#32, 0#32, 9#32] []), 0, 123, by decide⟩,
   ⟨({ hand .tmb 0 [0x10#32, 0#32, 0#32, 0#32, 9#32, 0#32] [] with tb := 10 }), 0, by decide⟩,
   ⟨({ hand .tmb 0 [0x11#32, 16#32, 0x20000800#32] [] with tb := 77 }), 0, by decide⟩⟩

/-- States and operands that meet the hypotheses of DomainsAndCores: clauses 1, 2, 3, 4, 5, 6, 7, 8, 9. -/
theorem test_meets_DomainsAndCores :
    (∃ (s : State) (m : Fin 8) (v : Word), s.PairReady .pmu m A.PWR_REQ v ∧ (∀ n : Fin 24,
        bit (s.asked v) n = false → s.offReason (s.asked v) n = 0)) ∧
    (∃ (s : State) (n : Fin 24), s.nextUp = some n.val) ∧
    (∃ (s : State) (n : Fin 24), s.nextDown = some n.val ∧ (n.val = 16 ∨ n.val = 21 ∨ n.val = 18)) ∧
    (∃ (s : State) (n : Fin 8), InHand s .pmu n 0x10 ∧ (s.ring .pmu n).aux = 0 ∧ s.dw .pmu n 4 = 0#32 ∧ s.dw .pmu n 5 = 0#32 ∧
        s.asked (s.reg A.PWR_REQ) = s.reg A.PWR_REQ ∧ s.nextUp = none ∧ s.nextDown = none) ∧
    (∃ (s : State) (n : Fin 8) (vin vio vcore : Nat) (temp : Int), InHand s .pmu n 0x11 ∧ (s.ring .pmu n).host = 0 ∧
        (s.dw .pmu n 2).toNat % 4 = 0 ∧ vin < 65536 ∧ vio < 65536 ∧ vcore < 65536) ∧
    (∃ (s : State) (n : Fin 8), InHand s .sys n 0x10 ∧ s.dw .sys n 4 = 3#32 ∧ corePresent s.opt 3 = true ∧
        0x30200000 ≤ (s.dw .sys n 3).toNat ∧ (s.dw .sys n 3).toNat + (s.dw .sys n 1).toNat ≤ 0x30220000 ∧
        0x08000000 ≤ (s.dw .sys n 2).toNat ∧ (s.dw .sys n 2).toNat + (s.dw .sys n 1).toNat ≤ 0x08800000 ∧ s.domOn 9 = true ∧
        s.domOn 17 = true ∧ s.domOn 18 = true ∧ (s.dw .sys n 3).toNat < 0x30220000 ∧ (s.dw .sys n 2).toNat < 0x08800000 ∧
        s.coreState 3 < 2 ∧ s.cutBusy 3 = false) ∧
    (∃ (s : State) (n : Fin 8), InHand s .sys n 0x11 ∧ s.dw .sys n 4 = 3#32 ∧ s.coreState 3 = 1) ∧
    (∃ (s : State) (m : Fin 8) (v : Word), s.PairReady .sys m A.CORE_CTL v ∧ m.val = 0 ∧ s.standsFor 0 = 0 ∧ bit v 3 = true ∧
        bit v 1 = false ∧ bit v 2 = false ∧ s.coreState 3 = 1 ∧ s.coreState 1 < 2 ∧ s.coreState 2 < 2) ∧
    (∃ (s : State) (m : Fin 8) (v : Word), s.PairReady .sys m A.SYS_RST_CTL v ∧ bit v 0 = true ∧ s.standsFor m = mH0) :=
  ⟨⟨((st []).setComp .pmu (some (0, A.PWR_REQ, ~~~ 0x7EFFFF#32))), 0, 0x7EFFFF#32, by decide⟩,
   ⟨(st [(A.PWR_STAT, 0x7EFFFF)]), 16, by decide⟩,
   ⟨(st [(A.PWR_REQ, 0x7EFFFF)]), 16, by decide⟩,
   ⟨(hand .pmu 0 [0x10#32, 0#32, 0#32, 0#32, 0#32, 0#32] []), 0, by decide⟩,
   ⟨(hand .pmu 0 [0x11#32, 16#32, 0x20000800#32] []), 0, 12000, 3300, 800, 250, by decide⟩,
   ⟨(hand .sys 0 [0x10#32, 32#32, 0x08000000#32, 0x30200000#32, 3#32] []), 0, by decide⟩,
   ⟨(hand .sys 0 [0x11#32, 0#32, 0#32, 0#32, 3#32] []), 0, by decide⟩,
   ⟨((st []).setComp .sys (some (0, A.CORE_CTL, ~~~ 0x8#32))), 0, 8#32, by decide⟩,
   ⟨((st []).setComp .sys (some (0, A.SYS_RST_CTL, ~~~ 0x1#32))), 0, 1#32, by decide⟩⟩

/-- States and operands that meet the hypotheses of ResetsAndStart: clauses 1, 2, 3, 4, 6, 7, 8, 9, 10, 11, 12, 13. -/
theorem test_meets_ResetsAndStart :
    (∃ (s : State), s.pmu.mode ≠ .off ∧ s.pmu.inReset = false) ∧
    (∃ (s : State), s.pmu.mode ≠ .off ∧ s.pmu.inReset = true) ∧
    (∃ (s : State) (vio : Bool), s.pmu.mode ≠ .off) ∧
    (∃ (s : State), s.pmu.mode = .off) ∧
    (∃ (s : State), s.pmu.inReset = false ∧ s.pmu.mode = .run ∧ s.pmu.t0Due = true ∧ ¬ (1 ≤ s.opt ∧ s.opt ≤ 3)) ∧
    (∃ (s : State) (a b c : Bool), s.pmu.inReset = false ∧ s.pmu.mode = .run ∧ s.pmu.t0Due = true ∧ 1 ≤ s.opt ∧ s.opt ≤ 3) ∧
    (∃ (s : State), s.pmu.optionStop = true) ∧
    (∃ (s : State) (m : Fin 8) (v : Word), s.Unhindered .sys m A.CORE_RDY ∧ m.val < 2) ∧
    (∃ (s : State) (c : Fin 7), s.pmu.booting = true ∧ s.bootWaits c = true ∧ s.flag A.CORE_RDY c = false ∧
        s.pmu.relAt + 40000000 ≤ s.now) ∧
    (∃ (s : State), s.pmu.booting = true ∧ s.upd.safeAt = none ∧ (∀ c : Fin 7,
        s.bootWaits c = true → s.flag A.CORE_RDY c = true) ∧ s.bankState (s.field A.BOOT_STAT 0 1) ≠ 4) ∧
    (∃ (s : State), s.pmu.hostRst = true) ∧
    (∃ (s : State) (vbat : Bool), s.pmu.mode = .off) :=
  ⟨⟨({ st [] with tb := 99 }), by decide⟩,
   ⟨({ st [] with pmu := { inReset := true, t0Due := false } }), by decide⟩,
   ⟨({ st [] with tb := 99 }), true, by decide⟩,
   ⟨({ st [] with pmu := { mode := .off, inReset := true } }), by decide⟩,
   ⟨({ st [] with opt := 9 }), by decide⟩,
   ⟨(st []), true, true, true, by decide⟩,
   ⟨({ st [] with pmu := { optionStop := true } }), by decide⟩,
   ⟨(st []), 0, 1#32, by decide⟩,
   ⟨({ st [] with pmu := { booting := true }, tb := 40000000 }), 5, by decide⟩,
   ⟨({ st [(A.CORE_RDY, 0x7F)] with pmu := { booting := true }, tb := 40000000 }), by decide⟩,
   ⟨({ st [] with pmu := { hostRst := true } }), by decide⟩,
   ⟨({ st [(A.PMU_STAT, 8)] with pmu := { mode := .off, inReset := true } }), true, by decide⟩⟩

/-- States and operands that meet the hypotheses of ModesAndSupplies: clauses 1, 2, 3, 4, 5, 6, 7, 8, 9, 10, 11, 12. -/
theorem test_meets_ModesAndSupplies_part1 :
    (∃ (s : State) (m : Fin 8) (v : Word), s.PairReady .pmu m A.PMU_MODE v ∧ fld v 0 2 = 2 ∧ s.pmu.mode = .run ∧
        (standbyDomains.find? (fun n => s.domOn n)) = none) ∧
    (∃ (s : State), s.pmu.mode = .entrySave ∧ s.flag A.CORE_RDY 4 = false) ∧
    (∃ (s : State), s.pmu.mode = .entryOff ∧ s.pmu.wakeDue = false) ∧
    (∃ (s : State) (src : Fin 15), s.pmu.mode = .standby ∧ s.flag A.WAKE_EN src = true ∧ (src.val < 4 ∨ 9 < src.val)) ∧
    (∃ (s : State) (a b : Bool), s.pmu.mode = .run ∧ s.flag A.PMU_CTL 0 = true ∧ a = true ∧ b = true ∧ s.meip 0 = false ∧
        s.meip 1 = false) ∧
    (∃ (s : State), s.pmu.mode = .doze ∧ s.meip 0 = true) ∧
    (∃ (s : State) (vin : Nat), vin < s.pfLevel ∧ s.flag A.PMU_STAT 2 = true) ∧
    (∃ (s : State) (vin : Nat), s.pfLevel + 200 < vin ∧ s.flag A.PMU_STAT 2 = false) ∧
    (∃ (s : State) (v : Nat), v < 2200 ∧ s.flag A.PMU_STAT 5 = true) ∧
    (∃ (s : State) (c : Int), 10 * (s.field A.TEMP_CFG 0 8 : Int) ≤ c ∧ s.pmu.tempWarned = false) ∧
    (∃ (s : State) (margin : Nat), margin < 5) ∧
    (∃ (s : State) (c : Int), 1600 ≤ c ∧ s.wires.hot = false) :=
  ⟨⟨((st [(A.PWR_STAT, 0x4E1C07)]).setComp .pmu (some (0, A.PMU_MODE, ~~~ 0x2#32))), 0, 2#32, by decide⟩,
   ⟨({ st [(A.CORE_STAT, 0x2AAA)] with pmu := { mode := .entrySave } }), by decide⟩,
   ⟨({ st [(A.PWR_STAT, 0x4E1C07), (A.SRAM_RET, 1)] with pmu := { mode := .entryOff } }), by decide⟩,
   ⟨({ st [] with pmu := { mode := .standby }, tb := 55 }), 2, by decide⟩,
   ⟨(st [(A.PMU_CTL, 1)]), true, true, by decide⟩,
   ⟨(({ st [(A.EVR_CTL, 1), (A.PMU_MODE, 1)] with pmu := { mode := .doze }, routes := [(29, 0x501)] }).setBanked 0 (pendAddr 29) 0xFFFFFFFF#32),
       by decide⟩,
   ⟨(st []), 4000, by decide⟩,
   ⟨(st [(A.PMU_STAT, 0), (A.PMU_ERR, 8)]), 12000, by decide⟩,
   ⟨(st []), 2100, by decide⟩,
   ⟨(st []), 1300, by decide⟩,
   ⟨(st []), 3, by decide⟩,
   ⟨(st []), 1650, by decide⟩⟩

/-- States and operands that meet the hypotheses of ModesAndSupplies: clauses 13, 15. -/
theorem test_meets_ModesAndSupplies_part2 :
    (∃ (s : State) (c : Int), c ≤ 1400 ∧ s.wires.hot = true) ∧
    (∃ (s : State) (c : Fin 2) (n : Fin 4), s.wires.soHot.testBit (2 * n.val + c.val) = true) :=
  ⟨⟨({ st [] with wires := { hot := true, pdflt := true } }), 1350, by decide⟩,
   ⟨({ st [] with wires := { soHot := 16 } }), 0, 2, by decide⟩⟩

/-- States and operands that meet the hypotheses of WatchdogCommands: clauses 1, 2, 3. -/
theorem test_meets_WatchdogCommands :
    (∃ (s : State) (m : Fin 8) (c : Fin 5), s.Unhindered .sys m (A.WDT_KICK c) ∧ m.val = c.val) ∧
    (∃ (s : State) (c : Fin 5) (v : Word), s.Unhindered .sys c (A.WDT_KICK c) ∧ (c.val = 2 ∨ c.val = 3) ∧ v ≠ 0x4B1C#32 ∧
        s.coreState c = 2) ∧
    (∃ (s : State) (c : Fin 5), s.flag (A.WDT_CFG c) 16 = true ∧ s.wdtSuspended c = false ∧ s.wdtTicks c ≤ s.wdtCounted c ∧
        (c.val = 2 ∨ c.val = 3) ∧ s.coreState c = 2) :=
  ⟨⟨({ st [] with tb := 100 }), 0, 0, by decide⟩,
   ⟨(st [(A.CORE_STAT, 0x2AA), (A.WDT_CFG 3, 0x10001)]), 3, 0x1234#32, by decide⟩,
   ⟨({ st [(A.CORE_STAT, 0x2AA), (A.WDT_CFG 3, 0x10001)] with tb := 400000 }), 3, by decide⟩⟩

/-- States and operands that meet the hypotheses of CrankAndCam: clauses 1, 2, 3, 4, 5, 6, 7, 8, 9, 10, 11, 12. -/
theorem test_meets_CrankAndCam_part1 :
    (∃ (s : State), s.domState 0 = 1 ∧ s.ang.crk.lastReal = none) ∧
    (∃ (s : State), s.domState 0 = 3 ∧ s.ang.crk.camMode = 0 ∧ s.ang.crk.virtSeen = 0 ∧ s.flag A.PART_STAT 0 = false ∧
        s.crkWindow.any (fun w => w.1.le (Frac.ofNat s.now) && (Frac.ofNat s.now).le w.2) = true) ∧
    (∃ (s : State) (p : Nat), s.domState 0 = 3 ∧
        s.crkWindow.any (fun w => !w.1.le (Frac.ofNat s.now) && (Frac.ofNat s.now).le w.2) = true ∧ s.ang.crk.pos = some p ∧
        s.ang.crk.afterGap (s.ang.crk.next p) = false) ∧
    (∃ (s : State) (p : Nat), s.domState 0 = 3 ∧ s.crkOverdue s.now = true ∧ s.ang.crk.camMode = 0 ∧ s.ang.crk.pos = some p ∧
        s.field A.CRK_POS 8 4 + 1 ≤ s.field A.CRK_LOCK 0 4 ∧ s.ang.crk.virtRev + 1 ≤ s.field A.CRK_LOCK 4 4) ∧
    (∃ (s : State) (p : Nat), s.domState 0 = 3 ∧ s.crkOverdue s.now = true ∧ s.ang.crk.pos = some p ∧
        s.field A.CRK_LOCK 0 4 < s.field A.CRK_POS 8 4 + 1) ∧
    (∃ (s : State), s.domState 0 = 2) ∧
    (∃ (s : State), s.domState 0 = 3 ∧ s.ang.crk.camMode = 1 ∧ s.ang.crk.pos.isSome = true ∧
        inWindow s.ang.crk.camLo s.ang.crk.camHi (s.crkAngle s.now) = true) ∧
    (∃ (s : State) (m : Fin 8), s.Unhindered .ang m A.CRK_CMD ∧ s.phase = 1 ∧ s.domValid 0 = true) ∧
    (∃ (s : State) (m : Fin 8), s.Unhindered .ang m A.CRK_CMD ∧ s.domState 0 ≠ 0) ∧
    (∃ (s : State) (m : Fin 8), s.Unhindered .ang m A.CRK_CMD) ∧
    (∃ (s : State) (p : Nat), s.flag A.PART_STAT 0 = true ∧ 0 < s.ang.crk.partK ∧ 6 * s.ang.crk.partK ≤ s.ang.crk.partIdx ∧
        s.ang.crk.pos = some p) ∧
    (∃ (s : State), s.flag A.PART_STAT 0 = true ∧ s.ang.crk.partIdx < 6 * s.ang.crk.partK ∧
        s.ang.crk.partRun + 1 ≤ s.ang.crk.partMiss) :=
  ⟨⟨crk 1 [] (fun c => c.lose), by decide⟩,
   ⟨crk 3 [] id, by decide⟩,
   ⟨{ crk 3 [(A.CRK_CNT, 0x10002)] id with tb := 1050 }, 3, by decide⟩,
   ⟨{ crk 3 [] id with tb := 1200 }, 3, by decide⟩,
   ⟨{ crk 3 [(A.CRK_POS, 0x203)] id with tb := 1200 }, 3, by decide⟩,
   ⟨crk 2 [] id, by decide⟩,
   ⟨crk 3 [] (fun c => { c with camMode := 1, camHi := 600000 }), by decide⟩,
   ⟨crk 3 [(A.CRK_POS, 0x1003)] (fun c => { c with four := true }), 0, by decide⟩,
   ⟨crk 3 [] id, 0, by decide⟩,
   ⟨crk 3 [(A.CRK_CNT, 0x20003)] id, 0, by decide⟩,
   ⟨crk 3 [(A.PART_STAT, 1)] (fun c => { c with partK := 6, partIdx := 36 }), 3, by decide⟩,
   ⟨crk 3 [(A.PART_STAT, 1)] (fun c => { c with partK := 6, partIdx := 5, partMiss := 3, partRun := 1 }), by decide⟩⟩

/-- States and operands that meet the hypotheses of CrankAndCam: clause 13. -/
theorem test_meets_CrankAndCam_part2 :
    ∃ (s : State), s.flag A.PART_STAT 0 = true ∧ s.ang.crk.partIdx < 6 * s.ang.crk.partK ∧
        s.ang.crk.partMiss < s.ang.crk.partRun + 1 :=
  ⟨crk 3 [(A.PART_STAT, 1)] (fun c => { c with partK := 6, partIdx := 5, partMiss := 3, partRun := 3 }), by decide⟩

/-- States and operands that meet the hypotheses of AlternatorGridInverter: clauses 1, 2, 3, 4, 5, 6, 7, 8, 9, 10. -/
theorem test_meets_AlternatorGridInverter :
    (∃ (s : State) (m : Fin 8) (v : Word), s.PairReady .ang m A.ANG_CTL v ∧ (∀ d : Fin 5, s.domState d = 0) ∧ bit v 0 = false ∧
        s.flag A.INV_CFG 0 = false) ∧
    (∃ (s : State) (m : Fin 8) (v : Word), s.PairReady .ang m A.ANG_CTL v ∧ fld v 0 5 = 0) ∧
    (∃ (s : State) (ph : Fin 3) (rise : Bool), s.domState 1 = 1 ∧ s.ang.alt.raw = none) ∧
    (∃ (s : State) (ampl mhz angle : Nat) (pherr : Int), s.domState 2 = 1 ∧ s.field A.GRD_VNOM 0 24 ≠ 0 ∧
        s.field A.GRD_LIM 0 8 * s.field A.GRD_VNOM 0 24 ≤ 100 * ampl ∧ 45000 ≤ mhz ∧ mhz ≤ 65000) ∧
    (∃ (s : State) (m : Fin 8) (v : Word), s.PairReady .ang m A.INV_FREQ v ∧ s.flag A.INV_CFG 0 = false) ∧
    (∃ (s : State), s.domState 3 ≠ 0 ∧ s.ang.inv.follow = false) ∧
    (∃ (s : State) (n : Fin 8), InHand s .ang n 0x10 ∧ (s.ring .ang n).host = 0) ∧
    (∃ (s : State) (n : Fin 8), InHand s .ang n 0x11 ∧ (s.ring .ang n).aux = 0 ∧ fld (s.dw .ang n 4) 0 16 ≠ 0) ∧
    (∃ (s : State) (n : Fin 8), InHand s .ang n 0x12 ∧ (s.ring .ang n).host = 0 ∧ s.domState 0 ≠ 0 ∧
        (s.dw .ang n 1).toNat = 2 * s.crkPositions) ∧
    (∃ (s : State) (n : Fin 8), InHand s .ang n 0x13 ∧ s.domState 0 ≠ 0 ∧ (s.loop .ang 0).mode ≠ 0 ∧
        (s.dw .ang n 1).toNat = 2 * s.crkPositions) :=
  ⟨⟨((st []).setComp .ang (some (0, A.ANG_CTL, ~~~ 0x1E#32))), 0, 0x1E#32, by decide⟩,
   ⟨((crk 3 [] id).setComp .ang (some (0, A.ANG_CTL, ~~~ 0#32))), 0, 0#32, by decide⟩,
   ⟨{ st [(A.ANG_STAT, 0x10)] with tb := 5000 }, 0, true, by decide⟩,
   ⟨{ st [(A.ANG_STAT, 0x100), (A.GRD_VNOM, 100000), (A.GRD_LIM, 50)] with tb := 5000 }, 90000, 50000, 77, 4000, by decide⟩,
   ⟨((st [(A.ANG_STAT, 0x3000)]).setComp .ang (some (0, A.INV_FREQ, ~~~ 1000#32))), 0, 1000#32, by decide⟩,
   ⟨{ st [(A.ANG_STAT, 0x3000)] with tb := 5000 }, by decide⟩,
   ⟨hand .ang 0 [0x10#32, 36#32, 0x20000800#32] [], 0, by decide⟩,
   ⟨hand .ang 1 [0x11#32, 0x800#32, 0x20000800#32, 0#32, 0x40#32] [], 1, by decide⟩,
   ⟨{ hand .ang 0 [0x12#32, 24#32, 0x20000800#32] [(A.ANG_STAT, 3)] with crkPositions := 12 }, 0, by decide⟩,
   ⟨({ hand .ang 0 [0x13#32, 24#32, 0x20000800#32] [(A.ANG_STAT, 3)] with crkPositions := 12 }).setLoop .ang 0 { mode := 1 }, 0,
       by decide⟩⟩

/-- States and operands that meet the hypotheses of SlotDescriptors: clauses 1, 2, 3, 4, 5, 6, 7. -/
theorem test_meets_SlotDescriptors :
    (∃ (s : State) (k : Fin 8), InHand s .ang k 0x20 ∧ (s.ring .ang k).aux = 0 ∧
        s.slotCheck k (fld (s.dw .ang k 4) 0 8) (s.viewWords (s.ring .ang k).host (s.dw .ang k 2).toNat 8) = none ∧
        (s.slot (fld (s.dw .ang k 4) 0 8)).st ≠ 3 ∧
        s.domAnchor ({ record := s.viewWords (s.ring .ang k).host (s.dw .ang k 2).toNat 8 } : Slot).domain = none) ∧
    (∃ (s : State) (k : Fin 8), InHand s .ang k 0x20 ∧ (s.ring .ang k).aux = 0 ∧
        s.slotCheck k (fld (s.dw .ang k 4) 0 8) (s.viewWords (s.ring .ang k).host (s.dw .ang k 2).toNat 8) = none ∧
        (s.slot (fld (s.dw .ang k 4) 0 8)).st = 3) ∧
    (∃ (s : State) (k : Fin 8) (status : Nat), InHand s .ang k 0x20 ∧ (s.ring .ang k).aux = 0 ∧
        s.slotCheck k (fld (s.dw .ang k 4) 0 8) (s.viewWords (s.ring .ang k).host (s.dw .ang k 2).toNat 8) = some status) ∧
    (∃ (s : State) (k : Fin 8), InHand s .ang k 0x21 ∧ s.slotOwned (fld (s.dw .ang k 4) 0 8) (s.ring .ang k).host = true ∧
        (s.slot (fld (s.dw .ang k 4) 0 8)).charging = false) ∧
    (∃ (s : State) (k : Fin 8), InHand s .ang k 0x22 ∧ (s.ring .ang k).aux = 0 ∧
        s.slotOwned (fld (s.dw .ang k 4) 0 8) (s.ring .ang k).host = true ∧ fld (s.dw .ang k 5) 0 16 ≠ 0 ∧ (∀ j : Fin 8,
        j ≠ k → s.slotWaits j (fld (s.dw .ang k 4) 0 8) = false)) ∧
    (∃ (s : State) (k : Fin 8), InHand s .ang k 0x22 ∧ (s.ring .ang k).aux = 1) ∧
    (∃ (s : State) (k : Fin 8), InHand s .ang k 0x23 ∧ (s.ring .ang k).host = 0) :=
  ⟨⟨({ hand .ang 0 [0x20#32, 32#32, 0x20000800#32, 0#32, 7#32] [(A.SLOT_OWN, 0)] with tb := 9 }).putWords 0 0x20000800 [0x02200100#32,
       0#32, 0#32, 100#32], 0, by decide⟩,
   ⟨(({ hand .ang 0 [0x20#32, 32#32, 0x20000800#32, 0#32, 7#32] [(A.SLOT_OWN, 0)] with tb := 9 }).putWords 0 0x20000800 [0x02200100#32,
       0#32, 0#32, 100#32]).setSlot 7 { st := 3, high := true }, 0, by decide⟩,
   ⟨({ hand .ang 0 [0x20#32, 32#32, 0x20000800#32, 0#32, 7#32] [(A.SLOT_OWN, 0)] with tb := 9 }).putWords 0 0x20000800 [0x05200100#32,
       0#32, 0#32, 100#32], 0, 0x82, by decide⟩,
   ⟨slotHand [0x21#32, 0#32, 0#32, 0#32, 7#32] 7 { st := 1, record := [0x02200100#32] }, 0, by decide⟩,
   ⟨slotHand [0x22#32, 0#32, 0#32, 0#32, 7#32, 5#32] 7 { st := 1, record := [0x02200100#32] }, 0, by decide⟩,
   ⟨(hand .ang 0 [0x22#32, 0#32, 0#32, 0#32, 7#32, 5#32] []).modRing .ang 0 (fun r => { r with aux := 1 }), 0, by decide⟩,
   ⟨slotHand [0x23#32, 48#32, 0x20000800#32, 0#32, 7#32] 7 { st := 1, record := [0x02200100#32], lastAt := 77 }, 0, by decide⟩⟩

/-- States and operands that meet the hypotheses of SlotFirings: clauses 1, 2, 3, 4, 5, 6, 7, 8, 9, 10, 11. -/
theorem test_meets_SlotFirings :
    (∃ (s : State) (ign : Bool) (n : Fin 256) (x : Slot), s.ang.slots = [(n.val, x)] ∧ x.st = 1 ∧
        x.kind = (if ign then 6 else 5) ∧ x.armed = false ∧ x.domain = 0 ∧ x.high = false ∧ s.domState 0 = 3 ∧
        s.ang.crk.virtAnchor = false ∧ (s.crkInstant (s.armPoint x)).any (fun t => decide (t ≤ s.now)) = true ∧
        subC (s.armPoint x) s.ang.crk.anchorC < subC (s.ang.crk.count (s.ang.crk.next (s.ang.crk.pos.getD 0))) s.ang.crk.anchorC) ∧
    (∃ (s : State) (n : Fin 256) (i : Nat), (s.slot n).st = 2 ∧ (s.slot n).kind = 2 ∧ (s.slot n).domain = 0 ∧
        s.domValid 0 = true ∧ (s.slot n).record ≠ [] ∧ (s.slot n).instant = some i ∧ i ≤ s.now) ∧
    (∃ (s : State) (n : Fin 256) (i : Nat), (s.slot n).st = 2 ∧ (s.slot n).kind = 5 ∧ (s.slot n).domain = 0 ∧
        s.domValid 0 = true ∧ (s.slot n).armed = true ∧ (s.slot n).record ≠ [] ∧ (s.slot n).instant = some i ∧ i ≤ s.now ∧
        s.tripHolds = true) ∧
    (∃ (s : State) (n : Fin 256) (i : Nat), (s.slot n).st = 2 ∧ (s.slot n).kind = 6 ∧ (s.slot n).armed = true ∧
        (s.slot n).dwellAt = none ∧ (s.slot n).instant = some i ∧ i ≤ s.now + (s.slot n).dwell ∧ s.tripHolds = false ∧
        s.gateHolds (s.slot n) = false ∧ s.ang.dwaAt = [] ∧ s.slotsWhere Slot.charging = []) ∧
    (∃ (s : State) (n : Fin 256) (i : Nat), (s.slot n).charging = true ∧ (s.slot n).dwellAt = some i ∧
        i + s.dwellMax (s.slotChannel (s.slot n)) ≤ s.now) ∧
    (∃ (s : State) (c : Fin 4), s.ang.dwaAt.get (fun _ => 0) c ≠ 0 ∧
        s.ang.dwaAt.get (fun _ => 0) c - 1 + s.field A.DWA_HOLD 0 16 * 400 ≤ s.now) ∧
    (∃ (s : State) (n : Fin 256), (s.slot n).high = true ∧ (s.slot n).kind ≠ 6 ∧
        ((s.slot n).kind = 3 ∨ (s.slot n).endAt ≤ s.now) ∧ (s.slot n).next = none) ∧
    (∃ (s : State) (m : Fin 8) (k : Fin 32) (v : Word), s.PairReady .ang m (A.AO_ROUTE k) v ∧ fld v 0 6 < 29 ∧
        destAbsent s.opt (fld v 0 6) = false ∧ s.slotsWhere (fun x => x.ao == k.val) = [] ∧ (∀ j : Fin 32,
        j ≠ k → s.aoDest j = fld v 0 6 → fld v 0 6 = 0 ∨ 8 < fld v 0 6)) ∧
    (∃ (s : State) (m : Fin 8) (k : Fin 32) (v : Word), s.PairReady .ang m (A.AO_ROUTE k) v ∧
        s.slotsWhere (fun x => x.ao == k.val) ≠ []) ∧
    (∃ (s : State) (r : Fin 3) (c : Fin 4) (v : Word), s.Unhindered .ang mE (stagingA r c) ∧ s.opt ≠ optCP) ∧
    (∃ (s : State) (m : Fin 8) (r : Fin 3) (c : Fin 4) (v : Word), s.Unhindered .ang m (stagingA r c) ∧ s.opt ≠ optCP ∧
        m.val ≠ mE) :=
  ⟨⟨slotSt [] 5 { st := 1, record := [0x05048000#32, 0#32, 0#32] }, false, 5,
       { st := 1, record := [0x05048000#32, 0#32, 0#32] }, by decide⟩,
   ⟨slotSt [] 5 { st := 2, record := [0x02048000#32, 0x2#32, 0#32, 400#32], instant := some 1090 }, 5, 1090, by decide⟩,
   ⟨{ slotSt [] 5 { st := 2, record := [0x05048000#32, 0x2#32, 0#32, 400#32], instant := some 1090, armed := true } with wires := { sta := true } },
       5, 1090, by decide⟩,
   ⟨{ slotSt [] 5 { st := 2, record := [0x06048000#32, 0x2#32, 0#32], instant := some 1300, armed := true, dwell := 300 } with wires := { sta := false, stb := false } },
       5, 1300, by decide⟩,
   ⟨{ slotSt [] 5 { st := 3, record := [0x06048000#32, 0x2#32, 0#32], armed := true, dwellAt := some 10, high := true } with tb := 99999999 },
       5, 10, by decide⟩,
   ⟨{ st [] with tb := 999999999, ang := { dwaAt := [(2, 5)] } }, 2, by decide⟩,
   ⟨slotSt [] 5 { st := 3, record := [0x02048000#32, 0x2#32, 0#32, 40#32], high := true, endAt := 1000 }, 5, by decide⟩,
   ⟨((st []).setComp .ang (some (0, A.AO_ROUTE 3, ~~~ 0x1C#32))), 0, 3, 0x1C#32, by decide⟩,
   ⟨((slotSt [] 5 { st := 1, record := [0x02048000#32, 0x3#32] }).setComp .ang (some (0, A.AO_ROUTE 3, ~~~ 0x1C#32))), 0, 3,
       0x1C#32, by decide⟩,
   ⟨st [(A.CORE_STAT, 0x2AA)], 0, 3, 0x5678#32, by decide⟩,
   ⟨st [], 0, 0, 3, 0x5678#32, by decide⟩⟩

/-- States and operands that meet the hypotheses of EngineInputs: clauses 1, 2, 3, 4, 5, 6, 7, 8, 9, 10, 11, 12. -/
theorem test_meets_EngineInputs_part1 :
    (∃ (s : State) (n : Fin 2) (peak noise : BitVec 16), s.present .eng = true ∧ s.flag A.ENG_CTL (4 + n) = true ∧
        s.vrDiag n = 0 ∧ s.vrThreshold n < 10 * peak.toNat * 65536) ∧
    (∃ (s : State) (n : Fin 2) (peak noise : BitVec 16), 10 * peak.toNat * 65536 ≤ s.vrThreshold n) ∧
    (∃ (s : State) (h : Fin 4) (level : Bool), s.present .eng = true) ∧
    (∃ (s : State) (n : Fin 2) (code : Fin 4), s.present .eng = true ∧ s.flag (A.VR_CFG n) 14 = true ∧ s.vrDiag n ≠ code.val) ∧
    (∃ (s : State) (line : Fin 4) (delay : Fin 3) (q : Fin 8), s.sarOn = true ∧ s.sarWith (1 + line) = [q.val] ∧ delay.val ≠ 1 ∧
        s.sarRunning (s.sarConv q) = none) ∧
    (∃ (s : State) (c : Fin 2) (value : BitVec 12) (q ch : Nat) (late : Bool), s.sarRunning c = some ⟨q, [ch], late⟩ ∧ ch < 16 ∧
        s.sarPending c = none) ∧
    (∃ (s : State) (q : Fin 8), s.sarOn = true ∧ s.sarWith 5 = [q.val] ∧ s.sarRunning (s.sarConv q) = none) ∧
    (∃ (s : State) (m : Fin 8) (v : Word) (q : Fin 8), s.Unhindered .eng m A.SAR_SWTRIG ∧ s.sarOn = true ∧
        s.sarWith 6 = [q.val] ∧ bit v q = true ∧ s.sarRunning (s.sarConv q) = none) ∧
    (∃ (s : State) (m : Fin 8) (v : Word) (q : Fin 8), s.Unhindered .eng m A.SAR_SWTRIG ∧ s.sarOn = true ∧
        s.sarWith 6 = [q.val] ∧ bit v q = true ∧ (s.sarRunning (s.sarConv q)).isSome = true ∧
        (s.sarPending (s.sarConv q)).isSome = true) ∧
    (∃ (s : State), s.live .eng = true ∧ s.flag A.ENG_CTL 3 = true ∧ s.sarRunning 0 = none ∧ s.sarRunning 1 = none) ∧
    (∃ (s : State) (x y0 y1 : Int) (k : KnkWin), s.live .eng = true ∧ s.flag A.ENG_CTL 1 = true ∧ s.eng.knk = some k ∧
        s.eng.knkHigh = true ∧ x ≠ 32767 ∧ x ≠ -32768) ∧
    (∃ (s : State) (x y0 y1 : Int), s.live .eng = true ∧ s.flag A.ENG_CTL 1 = true ∧ (x = 32767 ∨ x = -32768)) :=
  ⟨⟨st [(A.ENG_CTL, 0x30)], 1, 5000#16, 100#16, by decide⟩,
   ⟨st [(A.ENG_CTL, 0x30), (A.VR_CFG 1, 1)], 1, 0#16, 100#16, by decide⟩,
   ⟨st [], 2, true, by decide⟩,
   ⟨st [(A.VR_CFG 1, 0x4000)], 1, 2, by decide⟩,
   ⟨st [(A.ENG_CTL, 1), (A.SAR_SEQC 3, 0x122), (A.SAR_LIST 3, 0x65)], 1, 2, 3, by decide⟩,
   ⟨{ st [(A.ENG_CTL, 1)] with eng := { sarRun := [(1, some ⟨3, [5], true⟩)] } }, 1, 777#12, 3, 5, true, by decide⟩,
   ⟨st [(A.ENG_CTL, 1), (A.SAR_SEQC 3, 0x152), (A.SAR_LIST 3, 0x65)], 3, by decide⟩,
   ⟨st [(A.ENG_CTL, 1), (A.SAR_SEQC 3, 0x162), (A.SAR_LIST 3, 0x65)], 0, 8#32, 3, by decide⟩,
   ⟨{ st [(A.ENG_CTL, 1), (A.SAR_SEQC 3, 0x162)] with eng := { sarRun := [(1, some ⟨2, [5], true⟩)], sarPend := [(1, some (4, false))] } },
       0, 8#32, 3, by decide⟩,
   ⟨st [(A.ENG_CTL, 9)], by decide⟩,
   ⟨{ st [(A.ENG_CTL, 2)] with eng := { knk := some {}, knkHigh := true } }, -1000, 30, -20, {}, by decide⟩,
   ⟨{ st [(A.ENG_CTL, 2)] with eng := { knk := some {} } }, 32767, 30, -20, by decide⟩⟩

/-- States and operands that meet the hypotheses of EngineInputs: clauses 13, 14, 15, 16, 17, 18, 19, 20, 21. -/
theorem test_meets_EngineInputs_part2 :
    (∃ (s : State) (k : KnkWin), s.eng.knk = some k ∧ s.eng.knkHigh = false ∧ k.n ≠ 0) ∧
    (∃ (s : State) (n : Fin 8), InHand s .eng n 0x11 ∧ (s.ring .eng n).aux = 0 ∧ fld (s.dw .eng n 5) 0 16 ≠ 0) ∧
    (∃ (s : State) (n : Fin 8), InHand s .eng n 0x10 ∧ (s.ring .eng n).aux = 0 ∧ fld (s.dw .eng n 5) 0 16 ≠ 0) ∧
    (∃ (s : State) (n : Fin 8), InHand s .edr n 0x10 ∧ (s.ring .edr n).aux = 0 ∧ fld (s.dw .edr n 5) 0 16 ≠ 0) ∧
    (∃ (s : State) (n : Fin 8), InHand s .edr n 0x11 ∧ (s.ring .edr n).aux = 0 ∧ fld (s.dw .edr n 5) 0 16 ≠ 0) ∧
    (∃ (s : State) (n : Fin 8), InHand s .lam n 0x10 ∧ (s.ring .lam n).aux = 0 ∧ fld (s.dw .lam n 5) 0 16 ≠ 0) ∧
    (∃ (s : State) (nernst ri nb : Nat) (sat : Bool), s.live .lam = true ∧ s.flag A.LAM_CTL 0 = true) ∧
    (∃ (s : State) (v : Word), s.Unhindered .lam mE A.LAM_PUMP_STG) ∧
    (∃ (s : State) (m : Fin 8) (v : Word), s.Unhindered .lam m A.LAM_PUMP_STG ∧ m.val ≠ mE) :=
  ⟨⟨{ st [(A.ENG_CTL, 2)] with eng := { knk := some { n := 3, data := [1, 2, 3] } } }, { n := 3, data := [1, 2, 3] }, by decide⟩,
   ⟨hand .eng 2 [0x11#32, 0x800#32, 0x20000800#32, 0#32, 0#32, 9#32] [], 2, by decide⟩,
   ⟨hand .eng 2 [0x10#32, 0x800#32, 0x20000800#32, 0#32, 0#32, 9#32] [], 2, by decide⟩,
   ⟨hand .edr 2 [0x10#32, 0x800#32, 0x20000800#32, 0#32, 0#32, 9#32] [], 2, by decide⟩,
   ⟨hand .edr 2 [0x11#32, 0x800#32, 0x20000800#32, 0#32, 0#32, 9#32] [], 2, by decide⟩,
   ⟨hand .lam 1 [0x10#32, 0x800#32, 0x20000800#32, 0#32, 0#32, 9#32] [], 1, by decide⟩,
   ⟨st [(A.LAM_CTL, 0x807)], 20000, 800, 30000, false, by decide⟩,
   ⟨st [(A.CORE_STAT, 0x2AA)], 0x5678#32, by decide⟩,
   ⟨st [], 0, 0x5678#32, by decide⟩⟩

/-- States and operands that meet the hypotheses of EngineOutputs: clauses 1, 2, 3, 4, 5, 6, 7, 8, 9, 10, 11, 12. -/
theorem test_meets_EngineOutputs_part1 :
    (∃ (s : State) (c : Fin 4), s.wires.injOut.getLsbD c = true) ∧
    (∃ (s : State) (c : Fin 4) (d : Fin 5), s.present .edr = true ∧ d.val ≠ s.injState c ∧
        (s.flag (A.INJ_CFG c) 13 = true ∨ (d.val ≠ 1 ∧ d.val ≠ 3))) ∧
    (∃ (s : State) (c : Fin 4) (d : Nat), s.present .edr = true ∧ s.linkUp = true ∧ s.eng.odMeas.get (fun _ => none) c = some d) ∧
    (∃ (s : State) (c : Fin 4), s.present .edr = true ∧ s.flag A.ENG_CTL 2 = true) ∧
    (∃ (s : State) (c : Fin 4) (x : Nat), s.present .edr = true ∧ (s.injTrack c).limited = false ∧
        s.field (A.INJ_OPD c) 0 16 * 10 ≤ x ∧ x ≤ s.field (A.INJ_OPD c) 16 16 * 10) ∧
    (∃ (s : State) (d : InjDone) (l : List InjDone), s.eng.injDone = d :: l ∧ d.limited = false) ∧
    (∃ (s : State), s.live .eng = true ∧ s.flag A.ENG_CTL 2 = true ∧ s.domValid 0 = true) ∧
    (∃ (s : State) (c : Fin 4), s.wires.coil.getLsbD c = true) ∧
    (∃ (s : State) (c : Fin 4) (d : Fin 5), s.present .edr = true ∧ d.val ≠ 3 ∧ d.val ≠ 2 ∧ s.field (A.IGN_DIAG c) 0 3 ≠ d.val) ∧
    (∃ (s : State) (c : Fin 4), s.wires.ramp.getLsbD c = true ∧ s.wires.coil = 0#4) ∧
    (∃ (s : State) (b : Fin 4) (cur : Int), s.live .hbr = true ∧ s.flag A.HB_CTL b = true) ∧
    (∃ (s : State) (b : Fin 4) (cur : Int), s.live .hbr = true ∧ s.flag A.HB_CTL b = true ∧ s.flag A.HB_CTL 6 = false ∧
        s.flag A.HB_CTL 7 = false ∧ s.thrBridge ≠ some b.val) :=
  ⟨⟨{ st [(A.EDR_CTL, 0xF)] with wires := { inj := 2, injOut := 2, sta := false, stb := false } }, 1, by decide⟩,
   ⟨st [], 1, 4, by decide⟩,
   ⟨{ st [(A.LML_STAT, 1)] with eng := { odMeas := [(2, some 777)] } }, 2, 777, by decide⟩,
   ⟨st [(A.ENG_CTL, 4)], 2, by decide⟩,
   ⟨st [(A.INJ_OPD 1, 0x00640001)], 1, 500, by decide⟩,
   ⟨{ st [(A.FUEL_FLOW 1, 5000)] with eng := { injDone := [⟨1, 400000, 100, false⟩], fuelSum := 7 } }, ⟨1, 400000, 100, false⟩,
       [], by decide⟩,
   ⟨{ st [(A.ENG_CTL, 4), (A.ANG_STAT, 3)] with eng := { fuelSum := 123456, fuelRem := 9000 } }, by decide⟩,
   ⟨{ st [(A.EDR_CTL, 0xF0)] with wires := { coil := 4, ign := 4, sta := false, stb := false } }, 2, by decide⟩,
   ⟨st [], 2, 1, by decide⟩,
   ⟨{ st [] with wires := { ramp := 4 } }, 2, by decide⟩,
   ⟨st [(A.HB_CTL, 0xF), (A.HB_STG 0, 0x4000)], 0, -55, by decide⟩,
   ⟨st [(A.HB_CTL, 0xF), (A.HB_STG 3, 0xC000), (A.HB_CFG 3, 500)], 3, 12, by decide⟩⟩

/-- States and operands that meet the hypotheses of EngineOutputs: clauses 13, 14, 15, 16, 17, 18, 19. -/
theorem test_meets_EngineOutputs_part2 :
    (∃ (s : State) (m : Fin 8) (b : Fin 4) (v : Word), s.Unhindered .hbr m (A.HB_STG b) ∧ s.flag A.HB_CTL 6 = false ∧
        s.flag A.HB_CTL 7 = false ∧ s.thrBridge ≠ some b.val ∧ m.val ≤ 2) ∧
    (∃ (s : State) (m : Fin 8) (b : Fin 4) (v : Word), s.Unhindered .hbr m (A.HB_STG b) ∧ s.flag A.HB_CTL 6 = true ∧
        (b.val = 1 ∨ b.val = 2)) ∧
    (∃ (s : State) (b : Fin 4), s.wires.hbOut.getLsbD b = true) ∧
    (∃ (s : State) (b : Fin 4) (ot : Bool), s.live .hbr = true) ∧
    (∃ (s : State) (n : Fin 8) (k : Nat), InHand s .hbr n 0x10 ∧ (s.ring .hbr n).aux = 0 ∧ fld (s.dw .hbr n 4) 0 16 ≠ 0 ∧
        1 ≤ fld (s.dw .hbr n 5) 0 11 ∧ fld (s.dw .hbr n 5) 0 11 ≤ 2000 ∧ s.flag A.HB_CTL 6 = true ∧ s.stepping = false) ∧
    (∃ (s : State) (n : Fin 8) (k : Nat), InHand s .hbr n 0x10 ∧ (s.ring .hbr n).aux = 1 ∧ s.tripWire = false ∧
        (s.ring .hbr n).count + k < (toSigned 16 (fld (s.dw .hbr n 4) 0 16)).natAbs) ∧
    (∃ (s : State), s.tripWire = true ∧ s.stepping = true) :=
  ⟨⟨st [(A.HB_CTL, 0x1F)], 0, 3, 0x1234#32, by decide⟩,
   ⟨st [(A.HB_CTL, 0x4F)], 0, 2, 0x1234#32, by decide⟩,
   ⟨{ st [(A.HB_CTL, 0xF)] with wires := { hbOut := 8 } }, 3, by decide⟩,
   ⟨st [], 3, true, by decide⟩,
   ⟨hand .hbr 0 [0x10#32, 0#32, 0#32, 0#32, 0xFFF0#32, 100#32] [(A.HB_CTL, 0x46)], 0, 5, by decide⟩,
   ⟨{ (hand .hbr 0 [0x10#32, 0#32, 0#32, 0#32, 0xFFF0#32, 100#32] [(A.HB_CTL, 0x46)]).modRing .hbr 0 (fun r => { r with aux := 1, count := 3 }) with wires := { sta := false, stb := false } },
       0, 5, by decide⟩,
   ⟨{ (hand .hbr 0 [0x10#32, 0#32, 0#32, 0#32, 0xFFF0#32, 100#32] [(A.HB_CTL, 0x46)]).modRing .hbr 0 (fun r => { r with aux := 1 }) with wires := { sta := true } },
       by decide⟩⟩

/-- States and operands that meet the hypotheses of PwmAndTrips: clauses 1, 2, 3, 4, 5, 6, 7, 8, 9, 10, 11, 12. -/
theorem test_meets_PwmAndTrips_part1 :
    (∃ (s : State) (g : Fin 3) (vs : List Nat), s.live .pwm = true ∧ s.grpState g = 1 ∧ (s.grp g).released = some (vs, true) ∧
        (s.grp g).relSafe = false ∧ s.grpBlocked g = false ∧ s.flag (gateA .pwm g + 4) 3 = false ∧ s.safe2 = false) ∧
    (∃ (s : State) (g : Fin 3), s.live .pwm = true ∧ s.grpState g = 1 ∧ (s.grp g).released = none) ∧
    (∃ (s : State) (g : Fin 3) (frac : Fin 32), s.live .pwm = true ∧ s.grpState g ≠ 0 ∧ s.flag (A.GRP_CFG g) 2 = true) ∧
    (∃ (s : State) (l : Fin 8) (v : Word), s.Unhindered .pwm mP (A.DUTY_STG l)) ∧
    (∃ (s : State) (m l : Fin 8) (v : Word), s.Unhindered .pwm m (A.DUTY_STG l) ∧ m.val ≠ mP) ∧
    (∃ (s : State) (m : Fin 8) (v : Word), s.PairReady .pwm m A.PWM_CTL v ∧ bit v 6 = false) ∧
    (∃ (s : State) (m : Fin 8) (v : Word), s.PairReady .pwm m A.PWM_CTL v ∧ bit v 6 = true ∧ bit v 0 = true ∧ s.opt ≠ optCP ∧
        s.grpState 0 = 2 ∧ s.domState 1 ≠ 0) ∧
    (∃ (s : State) (m : Fin 8) (v : Word), s.PairReady .pwm m A.PWM_CTL v ∧ bit v 6 = true ∧ s.flag A.PWM_CTL 6 = false ∧
        s.opt ≠ optCP ∧ (s.grpState 0 ≠ 2 ∨ s.domState 1 = 0)) ∧
    (∃ (s : State), s.flag A.PWM_CTL 6 = true) ∧
    (∃ (s : State) (g : Fin 3) (d : List (Option Nat)), s.live .pwm = true) ∧
    (∃ (s : State) (k : Fin 16), s.live .pwm = true ∧ s.flag A.PWM_CTL 5 = true) ∧
    (∃ (s : State) (i : Fin 14), s.live .pwm = true) :=
  ⟨⟨pwmSt [(A.CAR_PER 1, 20000)] 1 1 { released := some ([1, 2, 3, 4], true) }, 1, [1, 2, 3, 4], by decide⟩,
   ⟨pwmSt [(A.CAR_PER 1, 20000)] 1 1 { len := 640000 }, 1, by decide⟩,
   ⟨pwmSt [(A.CAR_PER 1, 20000), (A.GRP_CFG 1, 4), (A.GRP_LIM 1, 0x640000)] 1 2 { len := 640000, start := 100000 }, 1, 7,
       by decide⟩,
   ⟨st [(A.CORE_STAT, 0x2AA)], 5, 0x1ABCDEF#32, by decide⟩,
   ⟨st [], 0, 5, 0xABCDE#32, by decide⟩,
   ⟨((st []).setComp .pwm (some (0, A.PWM_CTL, ~~~ 0x25#32))), 0, 0x25#32, by decide⟩,
   ⟨((pwmSt [(A.ANG_STAT, 0x10), (A.PWM_CTL, 1)] 0 2 {}).setComp .pwm (some (0, A.PWM_CTL, ~~~ 0x61#32))), 0, 0x61#32,
       by decide⟩,
   ⟨((pwmSt [] 0 1 {}).setComp .pwm (some (0, A.PWM_CTL, ~~~ 0x61#32))), 0, 0x61#32, by decide⟩,
   ⟨pwmSt [(A.PWM_CTL, 0x61)] 0 2 {}, by decide⟩,
   ⟨st [(A.PWM_CTL, 0xA0)], 0, [some 100, none], by decide⟩,
   ⟨st [(A.PWM_CTL, 0x20)], 9, by decide⟩,
   ⟨pwmSt [(A.PWM_CTL, 0x21), (A.TRIP_CFG 3, 1)] 0 2 {}, 3, by decide⟩⟩

/-- States and operands that meet the hypotheses of PwmAndTrips: clauses 14, 15, 16, 17. -/
theorem test_meets_PwmAndTrips_part2 :
    (∃ (s : State) (b : Bool), s.live .pwm = true ∧ s.saf.pta = false ∧ s.saf.ptb = false) ∧
    (∃ (s : State) (m : Fin 8) (v : Word), s.Unhindered .pwm m A.TRIP_LATCH ∧ s.saf.pta = false ∧ s.saf.ptb = false ∧
        s.safe2 = false) ∧
    (∃ (s : State) (n : Fin 8), InHand s .pwm n 0x10 ∧ (s.ring .pwm n).host = mP ∧ s.dw .pwm n 4 = 0x21#32 ∧
        s.dw .pwm n 1 = 8#32) ∧
    (∃ (s : State) (n : Fin 8), InHand s .pwm n 0x11 ∧ (s.ring .pwm n).aux = 0 ∧ fld (s.dw .pwm n 5) 0 16 ≠ 0) :=
  ⟨⟨pwmSt [(A.PWM_CTL, 0x27)] 2 2 {}, true, by decide⟩,
   ⟨{ st [(A.TRIP_LATCH, 0x2F), (A.TRIP_STAT, 8)] with saf := { pta := false, ptb := false } }, 0, 0x2B#32, by decide⟩,
   ⟨((hand .pwm 0 [0x10#32, 8#32, 0x20000800#32, 0#32,
       0x21#32] []).modRing .pwm 0 (fun r => { r with cfg := 0x33#32 })).putWords 3 0x20000800 [5#32, 7#32], 0, by decide⟩,
   ⟨hand .pwm 2 [0x11#32, 0x800#32, 0x20000800#32, 0#32, 0#32, 9#32] [], 2, by decide⟩⟩

/-- States and operands that meet the hypotheses of SenseFaultGovernor: clauses 1, 2, 3, 4, 5, 6, 8, 9, 10, 11, 12, 13. -/
theorem test_meets_SenseFaultGovernor_part1 :
    (∃ (s : State) (k : Fin 12) (sum : Nat), s.live .psc = true ∧ s.flag A.PSC_CTL k = true ∧
        s.flag A.PSC_CTL (12 + s.field (A.SD_CFG k) 6 1) = true ∧ sum ≤ s.osr k ^ 3 ∧ s.flag A.PSC_STAT k = false ∧
        s.setsOf k = []) ∧
    (∃ (s : State) (k : Fin 12) (sum : Nat), s.flag A.PSC_STAT k = true) ∧
    (∃ (s : State) (k : Fin 12), s.live .psc = true ∧ s.flag A.PSC_CTL k = true ∧ s.setsOf k = []) ∧
    (∃ (s : State) (k : Fin 12) (sum : Nat), s.live .psc = true ∧ s.flag A.PSC_CTL k = true ∧ s.flag A.PSC_STAT k = false ∧
        s.setsOf k = [] ∧ s.field A.FC_ACT (2 * k) 2 ≠ 0 ∧ toSigned 16 (s.field (A.FC_THR k) 0 16) < fastOut sum) ∧
    (∃ (s : State) (g : Fin 3), s.live .psc = true ∧ (s.setNeeds g).any (fun k => decide (12 ≤ k)) = true) ∧
    (∃ (s : State) (g : Fin 3), s.live .psc = true ∧ (s.setNeeds g).any (fun k => decide (12 ≤ k)) = false ∧
        s.checksOk g ((s.setPhases g).map s.mean) = true ∧ (s.setNeeds g).any (fun k => s.flag A.PSC_STAT k) = false) ∧
    (∃ (s : State), s.live .psc = true ∧ s.grpState 1 = 2 ∧ s.invfStat = 0 ∧ 0 < s.field A.INVF_CFG 0 16 ∧
        s.field A.INVF_CFG 0 16 ≤ (s.grp 1).limitRun) ∧
    (∃ (s : State), s.live .psc = true ∧ (s.invfStat = 1 ∨ s.invfStat = 2)) ∧
    (∃ (s : State), s.live .psc = true ∧ s.invfStat = 1 ∧ s.pwr.invfAt + s.field A.INVF_VEH 0 16 * 400000 ≤ s.now) ∧
    (∃ (s : State), s.live .psc = true ∧ s.invfStat ≠ 0 ∧ s.zcOk = true ∧ s.ocClosed = false) ∧
    (∃ (s : State) (m : Fin 8), s.Unhindered .psc m A.INVF_STAT ∧ s.invfStat = 0) ∧
    (∃ (s : State), s.live .psc = true ∧ s.syncOk = false) :=
  ⟨⟨st [(A.PSC_CTL, 0xFFFFFFFF)], 9, 100000, by decide⟩,
   ⟨st [(A.PSC_CTL, 0xFFFFFFFF), (A.PSC_STAT, 0x200)], 9, 100000, by decide⟩,
   ⟨st [(A.PSC_CTL, 0xFFFFFFFF)], 9, by decide⟩,
   ⟨st [(A.PSC_CTL, 0xFFFFFFFF), (A.FC_ACT, 0x55555555), (A.FC_THR 9, 0)], 9, 250, by decide⟩,
   ⟨st [(A.SET_CFG 1, 0xFFFFFFFF)], 1, by decide⟩,
   ⟨st [(A.SET_CFG 2, 0x0054FFF0), (A.PLAUS_STAT 2, 0x40)], 2, by decide⟩,
   ⟨pwmSt [(A.INVF_CFG, 0x32000005)] 1 2 { limitRun := 5 }, by decide⟩,
   ⟨st [(A.INVF_STAT, 1)], by decide⟩,
   ⟨{ pwmSt [(A.INVF_STAT, 1), (A.INVF_VEH, 1)] 1 2 {} with tb := 900000 }, by decide⟩,
   ⟨{ st [(A.INVF_STAT, 3), (A.PSC_STAT, 0x1000)] with chg := { faultDuty := some 3 } }, by decide⟩,
   ⟨{ st [] with pwr := { limFault := true } }, 0, by decide⟩,
   ⟨st [(A.INVF_STAT, 0)], by decide⟩⟩

/-- States and operands that meet the hypotheses of SenseFaultGovernor: clauses 14, 15, 16, 17, 18, 19, 20, 21. -/
theorem test_meets_SenseFaultGovernor_part2 :
    (∃ (s : State), s.syncOk = true) ∧
    (∃ (s : State) (i : Nat), s.parSince = some i ∧ i + s.field A.XFER_CFG 16 16 * 400000 ≤ s.now) ∧
    (∃ (s : State), s.live .egv = true ∧ s.egv.phase = 0) ∧
    (∃ (s : State), s.live .egv = true ∧ s.egv.phase = 1) ∧
    (∃ (s : State), s.live .egv = true ∧ s.egv.phase = 3) ∧
    (∃ (s : State) (n : Fin 8), InHand s .psc n 0x10 ∧ (s.ring .psc n).aux = 0 ∧ fld (s.dw .psc n 5) 0 16 ≠ 0) ∧
    (∃ (s : State) (n : Fin 8), InHand s .egv n 0x10 ∧ (s.ring .egv n).aux = 0 ∧ fld (s.dw .egv n 5) 0 16 ≠ 0) ∧
    (∃ (s : State) (n : Fin 8), InHand s .psc n 0x11 ∧ (s.ring .psc n).host = 0) :=
  ⟨⟨{ st [(A.INV_STAT, 1)] with saf := { ch := [(0, { latch := false })] } }, by decide⟩,
   ⟨{ (pwmSt [] 1 2 {}).setByte 0x30600150 2#8 with wires := { sofb := 3 }, tb := 999999999 }, 0, by decide⟩,
   ⟨st [(A.DCE_ACC, 55)], by decide⟩,
   ⟨{ st [(A.DCE_ACC, 55)] with egv := { phase := 1, e0 := 5 } }, by decide⟩,
   ⟨{ st [(A.DCE_ACC, 55)] with egv := { phase := 3, e0 := 5 } }, by decide⟩,
   ⟨hand .psc 2 [0x10#32, 0x800#32, 0x20000800#32, 0#32, 0#32, 9#32] [], 2, by decide⟩,
   ⟨hand .egv 1 [0x10#32, 0x800#32, 0x20000800#32, 0#32, 0#32, 9#32] [], 1, by decide⟩,
   ⟨hand .psc 0 [0x11#32, 128#32, 0x20000800#32] [(A.DCE_ACC, 99)], 0, by decide⟩⟩

/-- States and operands that meet the hypotheses of PilotAndOutlet: clauses 1, 2, 3, 4, 5, 6, 7, 8, 9, 10, 11, 12. -/
theorem test_meets_PilotAndOutlet_part1 :
    (∃ (s : State), s.cpEn = true) ∧
    (∃ (s : State) (m : Fin 8) (v : Word), s.PairReady .chg m A.CHG_CTL v ∧ s.cpEn = true ∧ bit v 0 = false) ∧
    (∃ (s : State) (m : Fin 8) (v : Word), s.PairReady .chg m A.CHG_CTL v ∧ s.cpEn = false ∧ bit v 0 = true ∧ fld v 1 2 = 2) ∧
    (∃ (s : State) (v : Int), s.live .chg = true ∧ s.cpValid true (s.now - 400) = true) ∧
    (∃ (s : State) (v : Int), s.live .chg = true ∧ s.cpValid false (s.now - 400) = true) ∧
    (∃ (s : State) (hi : Bool) (v : Int), s.live .chg = true ∧ s.cpValid hi (s.now - 400) = false) ∧
    (∃ (s : State), s.cpEn = true ∧ s.chg.out ≠ 0 ∧ s.field A.CP_SMPCFG 16 8 ≤ s.chg.stale ∧ s.cpState ≠ 6) ∧
    (∃ (s : State) (mv : Nat), s.live .chg = true ∧ s.flag A.CHG_CTL 9 = true) ∧
    (∃ (s : State) (n : Fin 8) (fb : Bool), InHand s .chg n 0x11 ∧ bit (s.dw .chg n 4) 0 = true ∧
        (fb != s.flag A.LOCK_CFG 24) = true) ∧
    (∃ (s : State) (n : Fin 8) (fb : Bool), InHand s .chg n 0x11 ∧ (s.ring .chg n).aux = 0 ∧ bit (s.dw .chg n 4) 0 = true ∧
        (fb != s.flag A.LOCK_CFG 24) = false) ∧
    (∃ (s : State) (level : Bool), s.live .chg = true ∧ s.lockShown = true ∧ (level != s.flag A.LOCK_CFG 24) = false ∧
        (∀ n : Fin 8, s.lockRuns n = false)) ∧
    (∃ (s : State) (m : Fin 8), s.Unhindered .chg m A.CHG_CMD ∧ s.requestOn = false ∧ s.ilkBits &&& ilkMask ≠ ilkMask) :=
  ⟨⟨{ st [(A.CHG_CTL, 5), (A.CP_SET, 50000)] with tb := 999 }, by decide⟩,
   ⟨((st [(A.CHG_CTL, 5), (A.CHG_STAT, 1)]).setComp .chg (some (0, A.CHG_CTL, ~~~ 4#32))), 0, 4#32, by decide⟩,
   ⟨((st []).setComp .chg (some (0, A.CHG_CTL, ~~~ 5#32))), 0, 5#32, by decide⟩,
   ⟨{ st [(A.CHG_CTL, 5)] with tb := 100000, chg := { t0 := 50000, high := 200000, out := 2 } }, 900, by decide⟩,
   ⟨{ st [(A.CHG_CTL, 5)] with tb := 300000, chg := { t0 := 50000, high := 200000, out := 2 } }, -1200, by decide⟩,
   ⟨st [(A.CHG_CTL, 5)], true, 900, by decide⟩,
   ⟨{ st [(A.CHG_CTL, 5), (A.CHG_STAT, 1)] with chg := { stale := 9999, out := 2 } }, by decide⟩,
   ⟨st [(A.CHG_CTL, 0x200), (A.PP_CFG, 330)], 1000, by decide⟩,
   ⟨hand .chg 0 [0x11#32, 0#32, 0#32, 0#32, 1#32] [], 0, true, by decide⟩,
   ⟨hand .chg 0 [0x11#32, 0#32, 0#32, 0#32, 1#32] [], 0, false, by decide⟩,
   ⟨{ st [] with chg := { lockFb := true } }, false, by decide⟩,
   ⟨st [], 0, by decide⟩⟩

/-- States and operands that meet the hypotheses of PilotAndOutlet: clauses 13, 14, 15, 16, 17, 18, 19, 20. -/
theorem test_meets_PilotAndOutlet_part2 :
    (∃ (s : State), s.live .chg = true ∧ s.requestOn = true ∧ s.ilkBits &&& ilkMask ≠ ilkMask) ∧
    (∃ (s : State) (m : Fin 8), s.Unhindered .chg m A.CHG_CMD) ∧
    (∃ (s : State) (m : Fin 8), s.Unhindered .chg m A.CHG_CMD ∧ s.ocClosed = false) ∧
    (∃ (s : State) (i : Fin 16) (level : Bool), s.live .chg = true ∧ s.linkUp = true ∧ i.val = s.field A.OC_CFG 0 4 ∧
        (level != s.flag A.OC_CFG 4) ≠ s.ocClosed) ∧
    (∃ (s : State), s.live .chg = true ∧ s.linkUp = true ∧ s.requestOn = true ∧ s.chg.mirrorDue = true ∧ s.ocClosed = false ∧
        s.chg.mirrorT + s.mirrorTicks ≤ s.now) ∧
    (∃ (s : State), s.live .chg = true ∧ s.linkUp = true ∧ s.requestOn = false ∧ s.chg.mirrorDue = true ∧ s.ocClosed = true ∧
        s.chg.mirrorT + s.mirrorTicks ≤ s.now) ∧
    (∃ (s : State) (n : Fin 8), InHand s .chg n 0x10 ∧ (s.ring .chg n).aux = 0 ∧ fld (s.dw .chg n 5) 0 16 ≠ 0) ∧
    (∃ (s : State) (n : Fin 8), InHand s .chg n 0x12 ∧ (s.ring .chg n).aux = 0 ∧ fld (s.dw .chg n 5) 0 16 ≠ 0 ∧
        bit (s.dw .chg n 4) s.cpState = true) :=
  ⟨⟨st [(A.CHG_STAT, 0x180)], by decide⟩,
   ⟨st [(A.CHG_STAT, 0x180)], 0, by decide⟩,
   ⟨st [(A.CHG_ERR, 2)], 0, by decide⟩,
   ⟨st [(A.LML_STAT, 1)], 0, true, by decide⟩,
   ⟨{ st [(A.LML_STAT, 1), (A.CHG_STAT, 0x100)] with tb := 9999999999, chg := { mirrorDue := true } }, by decide⟩,
   ⟨{ st [(A.LML_STAT, 1), (A.CHG_STAT, 0x200)] with tb := 9999999999, chg := { mirrorDue := true } }, by decide⟩,
   ⟨hand .chg 2 [0x10#32, 0x800#32, 0x20000800#32, 0#32, 0#32, 9#32] [], 2, by decide⟩,
   ⟨hand .chg 2 [0x12#32, 0x800#32, 0x20000800#32, 0#32, 0x40#32, 9#32] [(A.CHG_STAT, 6)], 2, by decide⟩⟩

/-- States and operands that meet the hypotheses of ResidualAndModem: clauses 1, 2, 3, 4, 5, 6, 7, 8, 9, 10, 11, 12. -/
theorem test_meets_ResidualAndModem_part1 :
    (∃ (s : State) (v : Int), s.live .rcm = true ∧ s.flag A.RCM_CTL 0 = true ∧ s.rcmTesting = false ∧
        s.flag A.RCM_STAT 1 = false ∧ -32768 ≤ v ∧ v ≤ 32767 ∧ (∀ l : Fin 3, v.natAbs < s.field (rdcLvl l) 0 16)) ∧
    (∃ (s : State) (v : Int) (i : Nat), s.live .rcm = true ∧ s.flag A.RCM_CTL 0 = true ∧ s.rcmTesting = false ∧
        s.flag A.RCM_STAT 1 = false ∧ -32768 ≤ v ∧ v ≤ 32767 ∧ s.field A.RDC_LVL1 0 16 ≤ v.natAbs ∧
        s.rcm.above.get (fun _ => none) 0 = some i ∧ i + s.field A.RDC_LVL1 16 16 * 4000000 ≤ s.now) ∧
    (∃ (s : State), s.live .rcm = true ∧ s.flag A.RCM_CTL 0 = true) ∧
    (∃ (s : State) (m : Fin 8), s.Unhindered .rcm m A.RCM_ERR ∧ s.rdcDc.natAbs < s.field A.RDC_LVL1 0 16) ∧
    (∃ (s : State) (m : Fin 8), s.Unhindered .rcm m A.RCM_ERR ∧ s.field A.RDC_LVL1 0 16 ≤ s.rdcDc.natAbs) ∧
    (∃ (s : State) (n : Fin 8), InHand s .rcm n 0x10 ∧ (s.ring .rcm n).aux = 0 ∧ s.requestOn = false ∧ s.ocClosed = false ∧
        s.rcmTesting = false) ∧
    (∃ (s : State) (n : Fin 8), InHand s .rcm n 0x10 ∧ (s.ring .rcm n).aux = 0 ∧ (s.requestOn = true ∨ s.ocClosed = true)) ∧
    (∃ (s : State), s.live .rcm = true ∧ s.field A.ST_CFG 0 11 * 60 ≤ s.stAge.toNat ∧ s.flag A.RCM_STAT 0 = true) ∧
    (∃ (s : State) (v : Nat), s.live .rcm = true ∧ s.flag A.RCM_CTL 1 = true) ∧
    (∃ (s : State) (dvm du drift : Int) (ampl : Nat) (pe : Bool), s.imdRuns = true) ∧
    (∃ (s : State), s.imdRuns = true) ∧
    (∃ (s : State), s.live .rcm = true ∧ s.itNow = true ∧ s.flag A.RCM_STAT 8 = false) :=
  ⟨⟨st [(A.RCM_CTL, 1)], 50, by decide⟩,
   ⟨{ st [(A.RCM_CTL, 1), (A.RDC_LVL1, 500)] with rcm := { above := [(0, some 0)] }, tb := 99999999999 }, 600, 0, by decide⟩,
   ⟨st [(A.RCM_CTL, 1), (A.RCM_STAT, 5)], by decide⟩,
   ⟨st [(A.RCM_ERR, 1), (A.RCM_STAT, 2)], 0, by decide⟩,
   ⟨st [(A.RCM_ERR, 1), (A.RCM_STAT, 2), (A.RDC_LVL1, 1), (A.RDC_DC, 700)], 0, by decide⟩,
   ⟨hand .rcm 0 [0x10#32] [], 0, by decide⟩,
   ⟨hand .rcm 0 [0x10#32] [(A.CHG_STAT, 0x100)], 0, by decide⟩,
   ⟨{ st [(A.RCM_STAT, 1), (A.ST_CFG, 0)] with rcm := { stPass := some 0 } }, by decide⟩,
   ⟨st [(A.RCM_CTL, 3)], 700, by decide⟩,
   ⟨{ st [(A.RCM_CTL, 4), (A.RCM_STAT, 0x100)] with link := { pdAuton := false }, wires := { hot := false, pdrst := false } },
       100, 1000, 0, 2000, true, by decide⟩,
   ⟨{ st [(A.RCM_CTL, 4), (A.RCM_STAT, 0x300)] with link := { pdAuton := false }, wires := { hot := false, pdrst := false } },
       by decide⟩,
   ⟨st [(A.CHG_CTL, 0x20)], by decide⟩⟩

/-- States and operands that meet the hypotheses of ResidualAndModem: clauses 13, 14, 15, 16, 17, 18, 19, 20, 21, 22. -/
theorem test_meets_ResidualAndModem_part2 :
    (∃ (s : State), s.live .rcm = true ∧ s.flag A.RCM_STAT 9 = true ∧ s.rcm.settleAt + 3 * s.imdPeriod ≤ s.now) ∧
    (∃ (s : State), s.plmOn = true ∧ s.flag A.PLM_CTL 1 = true) ∧
    (∃ (s : State), s.plmOn = true ∧ s.flag A.PLM_CTL 1 = false) ∧
    (∃ (s : State) (n : Fin 8) (k : Nat) (ack : Bool), InHand s .plm n 0x10 ∧ fld (s.dw .plm n 4) 2 2 ≠ 3 ∧
        bit (s.dw .plm n 4) 4 = false ∧ s.plmOn = true) ∧
    (∃ (s : State) (n : Fin 8), InHand s .plm n 0x11 ∧ (s.ring .plm n).aux = 0) ∧
    (∃ (s : State) (frame : List Byte) (mgmt : Bool) (n : Fin 8), s.plmOn = true ∧ s.rxRing = some n.val) ∧
    (∃ (s : State) (frame : List Byte) (enc mgmt : Bool), s.plmOn = true ∧ s.rxRing = none) ∧
    (∃ (s : State) (frame : List Byte) (enc mgmt : Bool) (snd : Option (List Byte × List Nat)), s.plmOn = true ∧
        s.flag A.PLM_STAT 0 = false) ∧
    (∃ (s : State) (n : Fin 8), InHand s .plm n 0x12 ∧ (s.ring .plm n).aux = 0 ∧ 1 ≤ fld (s.dw .plm n 4) 0 5 ∧
        fld (s.dw .plm n 4) 0 5 ≤ 30 ∧ fld (s.dw .plm n 5) 0 16 ≠ 0) ∧
    (∃ (s : State) (n : Fin 8), InHand s .rcm n 0x11 ∧ (s.ring .rcm n).aux = 0 ∧ fld (s.dw .rcm n 5) 0 16 ≠ 0) :=
  ⟨⟨{ st [(A.RCM_STAT, 0x300)] with tb := 99999999999 }, by decide⟩,
   ⟨st [(A.PLM_CTL, 3)], by decide⟩,
   ⟨st [(A.PLM_CTL, 1), (A.PLM_STAT, 3)], by decide⟩,
   ⟨hand .plm 0 [0x10#32, 64#32, 0x20000800#32, 0#32, 0#32] [(A.PLM_CTL, 1)], 0, 2, true, by decide⟩,
   ⟨hand .plm 0 [0x11#32, 64#32, 0x20000800#32] [], 0, by decide⟩,
   ⟨(hand .plm 2 [0x11#32, 64#32, 0x20000800#32] [(A.PLM_CTL, 1)]).modRing .plm 2 (fun r => { r with aux := 1 }), [1#8, 2#8],
       true, 2, by decide⟩,
   ⟨st [(A.PLM_CTL, 1)], [1#8, 2#8], true, true, by decide⟩,
   ⟨st [(A.PLM_CTL, 1)], [], true, true, none, by decide⟩,
   ⟨hand .plm 2 [0x12#32, 64#32, 0x20000800#32, 0x20000900#32, 10#32, 9#32] [], 2, by decide⟩,
   ⟨hand .rcm 2 [0x11#32, 0x800#32, 0x20000800#32, 0#32, 0#32, 9#32] [], 2, by decide⟩⟩

/-- States and operands that meet the hypotheses of MetrologyMeasuring: clauses 1, 2, 3, 4, 5, 6, 7, 8, 9, 10, 11, 12. -/
theorem test_meets_MetrologyMeasuring_part1 :
    (∃ (s : State) (cal : List (Int × Int × Int)), s.mRuns = true ∧ s.measRun = false ∧ s.met.dead = false) ∧
    (∃ (s : State) (codes delayed : List Int), s.measRun = true) ∧
    (∃ (s : State) (freq : Nat) (qs : List Int), s.measRun = true ∧ s.met.win.n ≠ 0) ∧
    (∃ (s : State) (avg : Int), s.measRun = true ∧ s.spare ≠ 7 ∧ s.flag A.MET_STAT 5 = false ∧ s.met.phase = 0 ∧
        s.reelDue + 16000 ≤ s.met.n + s.reelPer) ∧
    (∃ (s : State), s.measRun = true ∧ s.met.phase = 4 ∧ s.reelDue + s.met.defers ≤ s.met.n + 2000 ∧ s.mBusy = false) ∧
    (∃ (s : State) (delay : Int) (c : Nat), s.measRun = true ∧ s.met.phase = 5 ∧ 2000 ≤ s.met.ovN ∧
        s.convOf s.inputDue = some c ∧ s.spare < 7 ∧ s.spare ≠ c) ∧
    (∃ (s : State) (c : Fin 7), s.measRun = true ∧ s.convMap c < 6 ∧ s.spare < 7 ∧ s.spare ≠ c.val) ∧
    (∃ (s : State) (c : Fin 7), s.measRun = true ∧ s.convMap c < 6 ∧ s.spare = 7) ∧
    (∃ (s : State), s.mRuns = true ∧ s.flag A.CLK_STAT 4 = false ∧ s.flag A.MET_STAT 4 = false) ∧
    (∃ (s : State), (s.measRun = true ∨ s.mRuns = true)) ∧
    (∃ (s : State) (n : Fin 8), InHand s .met n 0x10 ∧ (s.ring .met n).host = 0) ∧
    (∃ (s : State) (n : Fin 8), InHand s .met n 0x11 ∧ (s.ring .met n).aux = 0 ∧ fld (s.dw .met n 5) 0 16 ≠ 0) :=
  ⟨⟨st [(A.CORE_STAT, 0x2AA)], [], by decide⟩,
   ⟨st [(A.CORE_STAT, 0x2AA), (A.MET_STAT, 2)], [5, 6, 7], [], by decide⟩,
   ⟨{ st [(A.CORE_STAT, 0x2AA), (A.MET_STAT, 2)] with met := { win := { n := 8, sq := [1, 2, 3, 4, 5, 6], p := [7, 8, 9] } } },
       50000, [1, 2, 3], by decide⟩,
   ⟨{ st [(A.MET_STAT, 2), (A.REEL_STAT, 6)] with met := { n := 100000 } }, 55, by decide⟩,
   ⟨{ st [(A.MET_STAT, 2)] with met := { n := 9999999, phase := 4 } }, by decide⟩,
   ⟨{ st [(A.MET_STAT, 2), (A.REEL_MAP, 0x1AC688), (A.REEL_STAT, 6)] with met := { n := 9999999, phase := 5, ovN := 2000, ovLive := 7, ovSpare := 7 } },
       9, 0, by decide⟩,
   ⟨st [(A.MET_STAT, 2), (A.REEL_MAP, 0x1AC688), (A.REEL_STAT, 6)], 2, by decide⟩,
   ⟨st [(A.MET_STAT, 2), (A.REEL_MAP, 0x1AC688), (A.REEL_STAT, 7)], 2, by decide⟩,
   ⟨st [(A.CORE_STAT, 0x2AA), (A.CLK_STAT, 0)], by decide⟩,
   ⟨st [(A.CORE_STAT, 0x2AA), (A.MET_STAT, 2)], by decide⟩,
   ⟨hand .met 0 [0x10#32, 176#32, 0x20000800#32] [(A.MET_SNAP_SEQ, 5)], 0, by decide⟩,
   ⟨hand .met 2 [0x11#32, 0x800#32, 0x20000800#32, 0#32, 0#32, 9#32] [], 2, by decide⟩⟩

/-- States and operands that meet the hypotheses of MetrologyMeasuring: clauses 13, 14. -/
theorem test_meets_MetrologyMeasuring_part2 :
    (∃ (s : State) (n : Fin 8), InHand s .met n 0x12 ∧ (s.ring .met n).host = 0) ∧
    (∃ (s : State) (m : Fin 8), s.CanRead .met m) :=
  ⟨⟨hand .met 0 [0x12#32, 64#32, 0x20000800#32, 0#32, 1#32] [(A.MET_LOG, 9)], 0, by decide⟩,
   ⟨st [(A.MET_SNAP_SEQ, 5)], 0, by decide⟩⟩

/-- States and operands that meet the hypotheses of SealAndCalibration: clauses 1, 2, 3, 4, 5, 6, 7, 8, 9, 10. -/
theorem test_meets_SealAndCalibration :
    (∃ (s : State), s.mRuns = true ∧ s.sealOpen = false ∧ s.met.fuse = true ∧ s.logUsed ≤ 1272) ∧
    (∃ (s : State), s.mRuns = true ∧ s.sealOpen = false ∧ s.met.fuse = true ∧ s.logUsed ≤ 1272) ∧
    (∃ (s : State), s.mRuns = true ∧ s.sealOpen = true) ∧
    (∃ (s : State) (m : Fin 8) (v : Word), s.Unhindered .met m A.MET_PARAM_DATA ∧ s.mRuns = true ∧ s.sealOpen = false) ∧
    (∃ (s : State) (m : Fin 8) (v : Word), s.Unhindered .met m A.MET_PARAM_DATA ∧ s.mRuns = true ∧ s.sealOpen = true ∧
        s.met.paramAt = none) ∧
    (∃ (s : State) (m : Fin 8) (v : Word) (i : Nat), s.Unhindered .met m A.MET_PARAM_DATA ∧ s.mRuns = true ∧ s.sealOpen = true ∧
        s.met.paramAt = some i ∧ s.now < i + 8000) ∧
    (∃ (s : State) (n : Fin 8) (x h1 h2 : Int) (freq : Nat), InHand s .met n 0x13 ∧ s.mRuns = true ∧ s.met.commitTo = none ∧
        s.sealOpen = false) ∧
    (∃ (s : State) (n : Fin 8) (x h1 h2 : Int) (freq : Nat), InHand s .met n 0x13 ∧ s.mRuns = true ∧ s.met.commitTo = none ∧
        s.sealOpen = true ∧ 6 ≤ fld (s.dw .met n 4) 0 5 ∧ fld (s.dw .met n 4) 0 5 < 12 ∧
        s.inputs.contains (fld (s.dw .met n 4) 0 5 - 6) = true ∧ 10 ≤ (s.dw .met n 6).toNat ∧ (s.dw .met n 6).toNat ≤ 500 ∧
        x ≠ 0 ∧ freq ≠ 0 ∧ (h1 - h2).natAbs * 2000 ≤ x.natAbs ∧
        966367642 ≤ roundI (toSigned 32 (s.met.work.getD (fld (s.dw .met n 4) 0 5) 0) * (s.dw .met n 5).toNat * 1000) x.natAbs ∧
        roundI (toSigned 32 (s.met.work.getD (fld (s.dw .met n 4) 0 5) 0) * (s.dw .met n 5).toNat * 1000) x.natAbs ≤ 1181116006) ∧
    (∃ (s : State) (n : Fin 8), InHand s .met n 0x14 ∧ s.mRuns = true ∧ s.met.commitTo = none ∧ s.sealOpen = true ∧
        s.logUsed ≤ 1277) ∧
    (∃ (s : State) (n : Fin 8) (k : Fin 2), InHand s .met n 0x14 ∧ s.mRuns = true ∧ s.met.commitTo = some (k.val, n.val) ∧
        s.sealOpen = true ∧ bit (s.dw .met n 4) 0 = false) :=
  ⟨⟨st [(A.CORE_STAT, 0x2AA)], by decide⟩,
   ⟨st [(A.CORE_STAT, 0x2AA)], by decide⟩,
   ⟨{ st [(A.CORE_STAT, 0x2AA), (A.MET_SEAL, 5)] with met := { work := [1, 2, 3] } }, by decide⟩,
   ⟨st [(A.CORE_STAT, 0x2AA)], 0, 55#32, by decide⟩,
   ⟨{ st [(A.CORE_STAT, 0x2AA), (A.MET_SEAL, 1), (A.MET_PARAM_IDX, 1)] with tb := 9999999 }, 0, 5500#32, by decide⟩,
   ⟨{ st [(A.CORE_STAT, 0x2AA), (A.MET_SEAL, 1), (A.MET_PARAM_IDX, 1)] with met := { paramAt := some 5 }, tb := 6 }, 0, 5500#32,
       5, by decide⟩,
   ⟨hand .met 0 [0x13#32, 0#32, 0#32, 0#32, 6#32, 230000#32, 50#32] [(A.CORE_STAT, 0x2AA)], 0, 5, 6, 7, 50000, by decide⟩,
   ⟨hand .met 0 [0x13#32, 0#32, 0#32, 0#32, 6#32, 230000#32, 50#32] [(A.CORE_STAT, 0x2AA), (A.MET_SEAL, 1)], 0, 230000000,
       229999000, 230001000, 50000, by decide⟩,
   ⟨hand .met 0 [0x14#32, 0#32, 0#32, 0#32, 0#32] [(A.CORE_STAT, 0x2AA), (A.MET_SEAL, 1)], 0, by decide⟩,
   ⟨{ hand .met 0 [0x14#32, 0#32, 0#32, 0#32, 0#32] [(A.CORE_STAT, 0x2AA), (A.MET_SEAL, 1)] with met := { commitTo := some (1, 0) } },
       0, 1, by decide⟩⟩

/-- States and operands that meet the hypotheses of TariffsAndDemand: clauses 1, 2, 5, 6, 7. -/
theorem test_meets_TariffsAndDemand :
    (∃ (s : State), s.mRuns = true ∧ s.calPresent = false) ∧
    (∃ (s : State), s.mRuns = true ∧ s.calPresent = false ∧ s.bil.dst = true) ∧
    (∃ (s : State) (c : List Byte), s.mRuns = true ∧ s.bil.calPend = some c ∧ s.calValid = true ∧
        (s.reg A.BIL_CALACT).toNat ≤ s.seconds) ∧
    (∃ (s : State), s.mRuns = true ∧ s.mdDue = true ∧ s.calValid = true ∧ s.bil.mdBad = false ∧ s.bil.mdTariff < 8 ∧
        (s.reg (A.MD s.bil.mdTariff)).toNat < (s.reg A.MD_CUR).toNat / 250) ∧
    (∃ (s : State) (n : Fin 8), InHand s .bil n 0x17 ∧ s.bilFree = true) :=
  ⟨⟨st [(A.CORE_STAT, 0x2AA), (A.BIL_STAT, 0x500)], by decide⟩,
   ⟨{ st [(A.CORE_STAT, 0x2AA), (A.MD_CUR, 77)] with bil := { dst := true } }, by decide⟩,
   ⟨({ st [(A.CORE_STAT, 0x2AA), (A.BIL_STAT, 2)] with bil := { calPend := some (List.replicate 740 7#8) } }).setWords 0x50000200 [100#32,
       0#32, 1#32], List.replicate 740 7#8, by decide⟩,
   ⟨({ st [(A.CORE_STAT, 0x2AA), (A.MD_CUR, 5000)] with bil := { mdBad := false, mdTariff := 3 } }).setWords 0x50000200 [100000#32,
       0#32, 1#32], by decide⟩,
   ⟨hand .bil 0 [0x17#32] [(A.CORE_STAT, 0x2AA), (A.MD 3, 55)], 0, by decide⟩⟩

/-- States and operands that meet the hypotheses of TariffsAndDemand: clause 3. -/
theorem test_meets_TariffsAndDemand_clause3 :
    ∃ (s : State) (n : Fin 8) (o : Nat), InHand s .bil n 0x11 ∧ s.bilFree = true ∧
        calendarBad (s.viewBytes (s.ring .bil n).host (s.dw .bil n 2).toNat 740) = some o :=
  ⟨hand .bil 0 [0x11#32, 740#32, 0x20000800#32, 0#32, 5#32] [(A.CORE_STAT, 0x2AA)], 0, 0x2E0, by decide +kernel⟩

/-- States and operands that meet the hypotheses of TariffsAndDemand: clause 4. -/
theorem test_meets_TariffsAndDemand_clause4 :
    ∃ (s : State) (n : Fin 8), InHand s .bil n 0x11 ∧ s.bilFree = true ∧
        calendarBad (s.viewBytes (s.ring .bil n).host (s.dw .bil n 2).toNat 740) = none :=
  ⟨{ hand .bil 0 [0x11#32, 740#32, 0x20000800#32, 0#32, 5#32] [(A.CORE_STAT, 0x2AA)] with mem := Tab.seg memReset 0x20000800 goodCal },
       0, by decide +kernel⟩

/-- States and operands that meet the hypotheses of SessionsAndDisplay: clauses 1, 2, 3, 4, 5, 6, 7, 8, 9, 10, 11, 12. -/
theorem test_meets_SessionsAndDisplay_part1 :
    (∃ (s : State) (n : Fin 8), InHand s .bil n 0x12 ∧ s.bilFree = true ∧ s.sesOpen = false ∧ s.measRun = true ∧
        s.meterFault = false) ∧
    (∃ (s : State) (n : Fin 8), InHand s .bil n 0x12 ∧ s.bilFree = true ∧ s.sesOpen = true) ∧
    (∃ (s : State) (n : Fin 8), InHand s .bil n 0x13 ∧ s.bilFree = true ∧ s.sesOpen = true ∧ s.keyReady = true ∧
        (s.kslot 63).st ≠ 1) ∧
    (∃ (s : State), s.mRuns = true ∧ s.bil.signing.isSome = true ∧ s.keyReady = true ∧ (s.kslot 63).st ≠ 1) ∧
    (∃ (s : State) (n : Fin 8), InHand s .bil n 0x14 ∧ s.bilFree = true ∧ (s.dw .bil n 4).toNat < (s.reg A.REC_OLDEST).toNat) ∧
    (∃ (s : State) (n : Fin 8), InHand s .bil n 0x14 ∧ s.bilFree = true ∧ (s.reg A.REC_OLDEST).toNat ≤ (s.dw .bil n 4).toNat ∧
        (s.ring .bil n).host = 0) ∧
    (∃ (s : State), s.mRuns = true ∧ 0 < s.bil.jDue) ∧
    (∃ (s : State) (ok : Bool) (i : Nat), s.mRuns = true ∧ s.bil.pfWarn = true ∧ s.bil.pf = some i ∧ i + 4000000 ≤ s.now) ∧
    (∃ (s : State), s.mRuns = true ∧ s.bil.restored = false) ∧
    (∃ (s : State) (i : Nat), s.mRuns = true ∧ s.measRun = true ∧ s.bil.signing = none ∧ s.bil.resTime = some i ∧
        s.bil.ended = none ∧ s.sesOpen = true ∧ s.keyReady = true ∧ (s.kslot 63).st ≠ 1) ∧
    (∃ (s : State) (n : Fin 8), InHand s .bil n 0x15 ∧ s.bilFree = true ∧ s.dw .bil n 1 = 8#32 ∧
        s.viewWords (s.ring .bil n).host (s.dw .bil n 2).toNat 2 = [0x050001#32, 0x050004#32]) ∧
    (∃ (s : State), s.mRuns = true ∧ s.bil.showing = false) :=
  ⟨⟨hand .bil 0 [0x12#32, 0#32, 0#32, 0#32, 11#32, 12#32] [(A.CORE_STAT, 0x2AA), (A.MET_STAT, 2), (A.SES_GRID, 5)], 0,
       by decide⟩,
   ⟨hand .bil 0 [0x12#32] [(A.CORE_STAT, 0x2AA), (A.BIL_STAT, 8)], 0, by decide⟩,
   ⟨hand .bil 0 [0x13#32] [(A.CORE_STAT, 0x2AA), (A.BIL_STAT, 8), (A.KEY_STAT, 1)], 0, by decide⟩,
   ⟨{ st [(A.CORE_STAT, 0x2AA), (A.KEY_STAT, 1), (A.REC_NEXT, 14)] with bil := { ended := some (5, 1, 0, 0), signing := some (none, 0) } },
       by decide⟩,
   ⟨hand .bil 0 [0x14#32, 256#32, 0x20000800#32, 0#32, 1#32] [(A.CORE_STAT, 0x2AA), (A.REC_NEXT, 14), (A.REC_OLDEST, 2)], 0,
       by decide⟩,
   ⟨hand .bil 0 [0x14#32, 256#32, 0x20000800#32, 0#32, 3#32] [(A.CORE_STAT, 0x2AA), (A.REC_NEXT, 14), (A.REC_OLDEST, 2)], 0,
       by decide⟩,
   ⟨{ st [(A.CORE_STAT, 0x2AA)] with bil := { jDue := 3, jNext := 4, jDirty := true, seq := 9 } }, by decide⟩,
   ⟨{ st [(A.CORE_STAT, 0x2AA)] with bil := { pfWarn := true, pf := some 5, seq := 9 }, tb := 5000000 }, true, 5, by decide⟩,
   ⟨st [(A.CORE_STAT, 0x2AA)], by decide⟩,
   ⟨{ st [(A.CORE_STAT, 0x2AA), (A.MET_STAT, 2), (A.BIL_STAT, 8), (A.KEY_STAT, 1)] with bil := { resTime := some 77 } }, 77,
       by decide⟩,
   ⟨(hand .bil 0 [0x15#32, 8#32, 0x20000800#32] [(A.CORE_STAT, 0x2AA)]).putWords 0 0x20000800 [0x050001#32, 0x050004#32], 0,
       by decide⟩,
   ⟨{ st [(A.CORE_STAT, 0x2AA)] with bil := { showing := false }, tb := 7 }, by decide⟩⟩

/-- States and operands that meet the hypotheses of SessionsAndDisplay: clauses 13, 14, 15, 16. -/
theorem test_meets_SessionsAndDisplay_part2 :
    (∃ (s : State), s.mRuns = true) ∧
    (∃ (s : State) (n : Fin 8), InHand s .bil n 0x16 ∧ s.bilFree = true ∧
        (s.viewBytes (s.ring .bil n).host (s.dw .bil n 2).toNat 8).all (fun b => (glyph b.toNat).isSome) = true) ∧
    (∃ (s : State) (n : Fin 8), InHand s .bil n 0x10 ∧ s.bilFree = true ∧ (s.ring .bil n).host = 0) ∧
    (∃ (s : State) (m : Fin 8), s.CanRead .bil m) :=
  ⟨⟨st [(A.CORE_STAT, 0x2AA)], by decide⟩,
   ⟨(hand .bil 0 [0x16#32, 8#32, 0x20000800#32, 0#32, 2#32] [(A.CORE_STAT, 0x2AA)]).putBytes 0 0x20000800 [0x30#8, 0x31#8,
       0x32#8, 0x33#8, 0x20#8, 0x20#8, 0x20#8, 0x2D#8], 0, by decide⟩,
   ⟨hand .bil 0 [0x10#32, 272#32, 0x20000800#32] [(A.CORE_STAT, 0x2AA), (A.BIL_SNAP_SEQ, 8)], 0, by decide⟩,
   ⟨st [(A.BIL_SNAP_SEQ, 5)], 0, by decide⟩⟩

/-- States and operands that meet the hypotheses of KeysAndRequests: clauses 1, 2, 3, 4, 5, 6, 7, 8, 9, 10, 11. -/
theorem test_meets_KeysAndRequests :
    (∃ (s : State), s.live .key = true ∧ s.keyReady = false ∧ s.vlt.por = false ∧ s.vlt.eraseDue = false) ∧
    (∃ (s : State), s.live .key = true ∧ s.keyReady = false ∧ s.vlt.por = true ∧ s.vlt.eraseDue = false) ∧
    (∃ (s : State) (d : Drbg), s.keyReady = true ∧ s.rootPresent = false ∧ s.eraseHeld = false ∧ s.trngReady = true ∧
        s.cry.drbg = some d ∧ s.reseedDue = false ∧ s.flag A.TRNG_CTL 0 = false) ∧
    (∃ (s : State) (w : Win) (n : Fin 8) (b : Bool) (q : KeyNeed), s.keyNeed w n = some q ∧ (s.ring w n).key = none ∧
        s.keyReady = true ∧ s.rewriting q.code = false ∧ (q.code = 0xF0 ∨ q.code = 0xF1) ∧
        q.types.contains (if q.code = 0xF0 then 0x10 else 2) = true ∧
        Nat.testBit (if q.code = 0xF0 then 0x388 else 0x142) q.use = true ∧
        Nat.testBit (if q.code = 0xF0 then 0x388 else 0x142) (8 + (if q.code = 0xF1 then s.standsFor q.host else q.host)) = true) ∧
    (∃ (s : State) (w : Win) (n : Fin 8) (q : KeyNeed), s.keyNeed w n = some q ∧ (s.ring w n).key = none ∧ s.keyReady = true ∧
        w ≠ .plm ∧ s.rewriting q.code = false ∧ q.code < 64 ∧ (s.kslot q.code).st = 1 ∧
        (s.kslot q.code).usage.testBit q.use = true ∧ (s.kslot q.code).usage.testBit (8 + q.host) = true ∧
        q.types.contains (s.kslot q.code).typ = true) ∧
    (∃ (s : State) (b : Bool), s.keyReady = true ∧ s.flag A.KEY_CTL 0 = true ∧ (∀ i : Fin 64,
        s.key.patrol ≤ i → (s.kslot i).st ≠ 1)) ∧
    (∃ (s : State), s.keyReady = true ∧ s.flag A.KEY_CTL 0 = true ∧ s.key.patrol < 64 ∧ (s.kslot s.key.patrol).st = 1 ∧
        s.rewriting s.key.patrol = false) ∧
    (∃ (s : State) (n : Fin 8) (b : Bool) (e i : Nat), InHand s .key n 0x10 ∧ s.keyReady = true ∧ (s.ring .key n).aux = 0 ∧
        s.key.kuOps = [] ∧ s.kuCheck n = .inl (e, i)) ∧
    (∃ (s : State) (n : Fin 8) (e : List Byte), InHand s .key n 0x10 ∧ s.keyReady = true ∧ (s.ring .key n).aux = 1 ∧
        s.key.kuOps = [e] ∧ e.getD 0 0#8 = 3#8 ∧ (e.getD 1 0#8).toNat < 64) ∧
    (∃ (s : State) (n : Fin 8), InHand s .key n 0x11 ∧ s.keyReady = true ∧ fld (s.dw .key n 4) 0 8 = 0xF0 ∧
        s.dw .key n 1 = 64#32 ∧ (s.ring .key n).host = 0) ∧
    (∃ (s : State) (n : Fin 8), InHand s .key n 0x11 ∧ s.keyReady = true ∧ fld (s.dw .key n 4) 0 8 = 0xF1) :=
  ⟨⟨{ st [] with vlt := { por := false } }, by decide⟩,
   ⟨st [], by decide⟩,
   ⟨{ st [(A.KEY_STAT, 1), (A.TRNG_STAT, 2)] with cry := { drbg := some { key := List.replicate 32 1#8, v := List.replicate 16 2#8 } } },
       { key := List.replicate 32 1#8, v := List.replicate 16 2#8 }, by decide⟩,
   ⟨hand .cry 0 [0x15#32, 16#32, 0x20000800#32, 0x20000900#32, 0xF1#32] [(A.KEY_STAT, 1)], .cry, 0, false, ⟨0xF1, 1, 0, [1, 2],
       false⟩, by decide⟩,
   ⟨{ hand .cry 0 [0x15#32, 16#32, 0x20000800#32, 0x20000900#32, 5#32] [(A.KEY_STAT, 1)] with key := { slots := [(5, { st := 1, head := [5#8, 1#8, 0#8, 0#8, 0xFF#8, 0xFF#8], key := List.replicate 16 7#8 })] } },
       .cry, 0, ⟨5, 1, 0, [1, 2], false⟩, by decide⟩,
   ⟨st [(A.KEY_STAT, 1), (A.KEY_CTL, 1)], true, by decide⟩,
   ⟨{ st [(A.KEY_STAT, 1), (A.KEY_CTL, 1)] with key := { slots := [(5, { st := 1, head := [5#8, 1#8, 0#8, 0#8, 0xFF#8, 0xFF#8], key := List.replicate 16 7#8 })], patrol := 5 } },
       by decide⟩,
   ⟨hand .key 0 [0x10#32, 143#32, 0x20000800#32] [(A.KEY_STAT, 1)], 0, true, 0x11, 0, by decide⟩,
   ⟨{ hand .key 0 [0x10#32, 144#32, 0x20000800#32] [(A.KEY_STAT, 1)] with key := { kuOps := [[3#8, 7#8]], kuCounter := 9, slots := [(7, { st := 1 })] }, rings := (rg .key 0 1 1 0 1 [0x10#32, 144#32, 0x20000800#32] []).rings.set (fun _ => {}) (ringKey .key 0) { base := 0x20000000#32, desc := [0x10#32, 144#32, 0x20000800#32], aux := 1 } },
       0, [3#8, 7#8], by decide⟩,
   ⟨hand .key 0 [0x11#32, 64#32, 0x20000800#32, 0#32, 0xF0#32] [(A.KEY_STAT, 1)], 0, by decide⟩,
   ⟨hand .key 0 [0x11#32, 64#32, 0x20000800#32, 0#32, 0xF1#32] [(A.KEY_STAT, 1)], 0, by decide⟩⟩

/-- States and operands that meet the hypotheses of TamperAndCalendar: clauses 1, 2, 3, 4, 5, 6, 7, 8, 9, 10, 11. -/
theorem test_meets_TamperAndCalendar :
    (∃ (s : State) (i : Fin 8), 5 ≤ i ∧ s.pmu.mode = .run ∧ s.flag A.TAMP_EN i = true ∧ s.flag A.VLT_STAT (8 + i) = false ∧
        s.vlt.armedOff.testBit i = false ∧ s.flag A.TAMP_ACT i = false) ∧
    (∃ (s : State) (i : Fin 8), 5 ≤ i ∧ s.pmu.mode = .run ∧ s.live .key = true ∧ s.flag A.TAMP_EN i = true ∧
        s.flag A.VLT_STAT (8 + i) = false ∧ s.vlt.armedOff.testBit i = false ∧ s.flag A.TAMP_ACT i = true) ∧
    (∃ (s : State) (i : Fin 8), 5 ≤ i ∧ s.pmu.mode = .off ∧ s.flag A.TAMP_EN i = true ∧ s.flag A.VLT_STAT (8 + i) = false ∧
        s.vlt.armedOff.testBit i = false ∧ s.flag A.TAMP_ACT i = true) ∧
    (∃ (s : State) (i : Fin 8), 5 ≤ i ∧ s.flag A.TAMP_EN i = true ∧ s.flag A.VLT_STAT (8 + i) = true) ∧
    (∃ (s : State) (b : BitVec 4) (mesh : Bool), s.field A.TAMP_EN 0 5 = 0) ∧
    (∃ (s : State) (b : BitVec 4) (mesh : Bool), s.field A.TAMP_EN 0 5 = 1 ∧ s.vlt.differ.testBit 0 = true ∧
        s.flag A.TAMP_ACT 0 = false ∧ b.getLsbD 0 ≠ s.flag A.TAMP_BALL 0 ∧ s.flag A.VLT_STAT 8 = false ∧
        s.vlt.armedOff.testBit 0 = false ∧ s.pmu.mode = .run) ∧
    (∃ (s : State), s.flag A.CAL_ALARM_CTL 0 = false) ∧
    (∃ (s : State), s.flag A.CAL_ALARM_CTL 0 = true ∧ (s.reg A.CAL_ALARM).toNat ≤ (s.word 0x50000200 + 1#32).toNat ∧
        s.pmu.mode = .run) ∧
    (∃ (s : State) (n : Fin 8), InHand s .vlt n 0x10 ∧ s.onLprc = false) ∧
    (∃ (s : State) (n : Fin 8), InHand s .vlt n 0x10 ∧ s.onLprc = true) ∧
    (∃ (s : State) (m : Fin 8) (sub : BitVec 15), s.mayIssue m = true ∧ s.coreReach m .load .calendar = true ∧
        sub.toNat ≤ s.subsec) :=
  ⟨⟨{ st [(A.TAMP_EN, 0xFF), (A.TAMP_ACT, 0x0)] with pmu := { State.reset.pmu with mode := .run } }, 5, by decide⟩,
   ⟨{ st [(A.TAMP_EN, 0xFF), (A.TAMP_ACT, 0xFF), (A.KEY_STAT, 1)] with pmu := { State.reset.pmu with mode := .run } }, 6,
       by decide⟩,
   ⟨{ st [(A.TAMP_EN, 0xFF), (A.TAMP_ACT, 0xFF)] with pmu := { State.reset.pmu with mode := .off } }, 7, by decide⟩,
   ⟨{ st [(A.TAMP_EN, 0xFF), (A.VLT_STAT, 0x2000)] with tb := 77 }, 5, by decide⟩,
   ⟨st [], 5#4, true, by decide⟩,
   ⟨{ st [(A.TAMP_EN, 1)] with vlt := { differ := 1 }, pmu := { State.reset.pmu with mode := .run } }, 1#4, true, by decide⟩,
   ⟨{ st [] with mem := [(0x50000200, 9#8), (0x50000205, 0x7F#8)] }, by decide⟩,
   ⟨{ st [(A.CAL_ALARM_CTL, 1), (A.CAL_ALARM, 10)] with mem := [(0x50000200, 9#8)], pmu := { State.reset.pmu with mode := .run } },
       by decide⟩,
   ⟨hand .vlt 0 [0x10#32, 0#32, 0#32, 0#32, 1000#32, 0x8123#32] [], 0, by decide⟩,
   ⟨{ hand .vlt 0 [0x10#32, 0#32, 0#32, 0#32, 1000#32, 0x8123#32] [] with mem := [(0x50000208, 2#8)] }, 0, by decide⟩,
   ⟨{ st [] with mem := [(0x50000200, 9#8)] }, 0, 0#15, by decide⟩⟩

/-- States and operands that meet the hypotheses of CiphersAndHashes: clauses 1, 2, 3, 4, 5, 6, 7, 8, 9, 10, 11, 12. -/
theorem test_meets_CiphersAndHashes_part1 :
    (∃ (s : State) (n : Fin 8) (g : KeyGot) (d a v : List Byte), InHand s .cry n 0x10 ∧ (s.cryCtx n).live = false ∧
        bit (s.dw .cry n 0) 11 = false ∧ (s.ring .cry n).host = 0 ∧ s.bytes (s.dw .cry n 2).toNat (s.dw .cry n 1).toNat = d ∧
        (s.ring .cry n).key = some g ∧ g.iv.length = 8 ∧ g.iv ++ natBe 4 g.cnt = v ∧
        s.bytes (s.dw .cry n 5).toNat (fld (s.dw .cry n 4) 16 16) = a ∧ fld (s.dw .cry n 4) 8 5 ≤ 16 ∧
        (s.dw .cry n 3).toNat + (s.dw .cry n 1).toNat ≤ (s.dw .cry n 6).toNat) ∧
    (∃ (s : State) (n : Fin 8) (g : KeyGot) (d a v : List Byte), InHand s .cry n 0x11 ∧ (s.cryCtx n).live = false ∧
        bit (s.dw .cry n 0) 11 = false ∧ (s.ring .cry n).host = 0 ∧ s.bytes (s.dw .cry n 2).toNat (s.dw .cry n 1).toNat = d ∧
        (s.ring .cry n).key = some g ∧ s.bytes (s.dw .cry n 6).toNat 12 = v ∧
        s.bytes (s.dw .cry n 5).toNat (fld (s.dw .cry n 4) 16 16) = a ∧ fld (s.dw .cry n 4) 8 5 ≤ 16) ∧
    (∃ (s : State) (n : Fin 8) (g : KeyGot) (d a v : List Byte), InHand s .cry n 0x12 ∧ (s.cryCtx n).live = false ∧
        bit (s.dw .cry n 0) 11 = false ∧ (s.ring .cry n).host = 0 ∧ s.bytes (s.dw .cry n 2).toNat (s.dw .cry n 1).toNat = d ∧
        (s.ring .cry n).key = some g ∧ g.iv.length = 8 ∧ g.iv ++ natBe 4 g.cnt = v ∧
        s.bytes (s.dw .cry n 5).toNat (fld (s.dw .cry n 4) 16 16) = a ∧ fld (s.dw .cry n 4) 8 5 ≤ 16 ∧
        (s.dw .cry n 3).toNat + (s.dw .cry n 1).toNat ≤ (s.dw .cry n 6).toNat) ∧
    (∃ (s : State) (n : Fin 8) (g : KeyGot) (d a v : List Byte), InHand s .cry n 0x13 ∧ (s.cryCtx n).live = false ∧
        bit (s.dw .cry n 0) 11 = false ∧ (s.ring .cry n).host = 0 ∧ s.bytes (s.dw .cry n 2).toNat (s.dw .cry n 1).toNat = d ∧
        (s.ring .cry n).key = some g ∧ s.bytes (s.dw .cry n 6).toNat 12 = v ∧
        s.bytes (s.dw .cry n 5).toNat (fld (s.dw .cry n 4) 16 16) = a ∧ fld (s.dw .cry n 4) 8 5 ≤ 16) ∧
    (∃ (s : State) (n : Fin 8) (g : KeyGot) (d v : List Byte), InHand s .cry n 0x14 ∧ (s.cryCtx n).live = false ∧
        bit (s.dw .cry n 0) 11 = false ∧ (s.ring .cry n).host = 0 ∧ s.bytes (s.dw .cry n 2).toNat (s.dw .cry n 1).toNat = d ∧
        (s.ring .cry n).key = some g ∧ g.iv.length = 8 ∧ g.iv ++ natBe 4 g.cnt = v ∧
        (s.dw .cry n 3).toNat + (s.dw .cry n 1).toNat ≤ (s.dw .cry n 6).toNat) ∧
    (∃ (s : State) (n : Fin 8) (g : KeyGot) (d v : List Byte), InHand s .cry n 0x15 ∧ (s.cryCtx n).live = false ∧
        bit (s.dw .cry n 0) 11 = false ∧ (s.ring .cry n).host = 0 ∧ s.bytes (s.dw .cry n 2).toNat (s.dw .cry n 1).toNat = d ∧
        (s.ring .cry n).key = some g ∧ s.bytes (s.dw .cry n 6).toNat 16 = v ∧
        ctrOf v + ((s.dw .cry n 1).toNat + 15) / 16 ≤ 4294967296) ∧
    (∃ (s : State) (n : Fin 8) (g : KeyGot) (v : List Byte), InHand s .cry n 0x15 ∧ (s.cryCtx n).live = false ∧
        bit (s.dw .cry n 0) 11 = false ∧ (s.ring .cry n).host = 0 ∧ (s.ring .cry n).key = some g ∧
        s.bytes (s.dw .cry n 6).toNat 16 = v ∧ 4294967296 < ctrOf v + ((s.dw .cry n 1).toNat + 15) / 16) ∧
    (∃ (s : State) (n : Fin 8) (g : KeyGot) (d : List Byte), InHand s .cry n 0x16 ∧ (s.cryCtx n).live = false ∧
        bit (s.dw .cry n 0) 11 = false ∧ (s.ring .cry n).host = 0 ∧ s.bytes (s.dw .cry n 2).toNat (s.dw .cry n 1).toNat = d ∧
        (s.ring .cry n).key = some g ∧ bit (s.dw .cry n 0) 12 = false) ∧
    (∃ (s : State) (n : Fin 8) (g : KeyGot) (d : List Byte), InHand s .cry n 0x16 ∧ (s.cryCtx n).live = false ∧
        bit (s.dw .cry n 0) 11 = false ∧ (s.ring .cry n).host = 0 ∧ s.bytes (s.dw .cry n 2).toNat (s.dw .cry n 1).toNat = d ∧
        (s.ring .cry n).key = some g ∧ bit (s.dw .cry n 0) 12 = true) ∧
    (∃ (s : State) (n : Fin 8) (d : List Byte), InHand s .cry n 0x18 ∧ (s.cryCtx n).live = false ∧
        bit (s.dw .cry n 0) 11 = false ∧ (s.ring .cry n).host = 0 ∧ s.bytes (s.dw .cry n 2).toNat (s.dw .cry n 1).toNat = d ∧
        bit (s.dw .cry n 0) 12 = false) ∧
    (∃ (s : State) (n : Fin 8) (d : List Byte), InHand s .cry n 0x19 ∧ (s.cryCtx n).live = false ∧
        bit (s.dw .cry n 0) 11 = false ∧ (s.ring .cry n).host = 0 ∧ s.bytes (s.dw .cry n 2).toNat (s.dw .cry n 1).toNat = d ∧
        bit (s.dw .cry n 0) 12 = false) ∧
    (∃ (s : State) (n : Fin 8) (g : KeyGot) (d : List Byte), InHand s .cry n 0x1A ∧ (s.cryCtx n).live = false ∧
        bit (s.dw .cry n 0) 11 = false ∧ (s.ring .cry n).host = 0 ∧ s.bytes (s.dw .cry n 2).toNat (s.dw .cry n 1).toNat = d ∧
        (s.ring .cry n).key = some g ∧ bit (s.dw .cry n 0) 12 = false) :=
  ⟨⟨cryHand 0x10 (some symKey), 0, symKey, zeros 16, [], symKey.iv ++ natBe 4 9, by decide⟩,
   ⟨cryHand 0x11 (some symKey), 0, symKey, zeros 16, [], zeros 12, by decide⟩,
   ⟨cryHand 0x12 (some symKey), 0, symKey, zeros 16, [], symKey.iv ++ natBe 4 9, by decide⟩,
   ⟨cryHand 0x13 (some symKey), 0, symKey, zeros 16, [], zeros 12, by decide⟩,
   ⟨cryHand 0x14 (some symKey), 0, symKey, zeros 16, symKey.iv ++ natBe 4 9, by decide⟩,
   ⟨cryHand 0x15 (some symKey), 0, symKey, zeros 16, zeros 16, by decide⟩,
   ⟨(keyed .cry [0x15#32, 32#32, 0x20000800#32, 0x20000900#32, 0x1005#32, 0x20000A00#32,
       0x20000B00#32] (some symKey) []).putBytes 0 0x20000B0C [0xFF#8, 0xFF#8, 0xFF#8, 0xFF#8], 0, symKey, [0#8, 0#8, 0#8, 0#8,
       0#8, 0#8, 0#8, 0#8, 0#8, 0#8, 0#8, 0#8, 0xFF#8, 0xFF#8, 0xFF#8, 0xFF#8], by decide⟩,
   ⟨cryHand 0x16 (some symKey), 0, symKey, zeros 16, by decide⟩,
   ⟨keyed .cry [0x16#32 ||| 0x1000#32, 16#32, 0x20000800#32, 0x20000900#32, 0x1005#32] (some symKey) [], 0, symKey, zeros 16,
       by decide⟩,
   ⟨cryHand 0x18 none, 0, zeros 16, by decide⟩,
   ⟨cryHand 0x19 none, 0, zeros 16, by decide⟩,
   ⟨cryHand 0x1A (some symKey), 0, symKey, zeros 16, by decide⟩⟩

/-- States and operands that meet the hypotheses of CiphersAndHashes: clauses 13, 14, 15, 16, 17, 18. -/
theorem test_meets_CiphersAndHashes_part2 :
    (∃ (s : State) (n : Fin 8) (g : KeyGot) (d : List Byte), InHand s .cry n 0x1A ∧ (s.cryCtx n).live = false ∧
        bit (s.dw .cry n 0) 11 = false ∧ (s.ring .cry n).host = 0 ∧ s.bytes (s.dw .cry n 2).toNat (s.dw .cry n 1).toNat = d ∧
        (s.ring .cry n).key = some g ∧ bit (s.dw .cry n 0) 12 = true) ∧
    (∃ (s : State) (n : Fin 8) (g : KeyGot) (d : List Byte), InHand s .cry n 0x1B ∧ (s.cryCtx n).live = false ∧
        bit (s.dw .cry n 0) 11 = false ∧ (s.ring .cry n).host = 0 ∧ s.bytes (s.dw .cry n 2).toNat (s.dw .cry n 1).toNat = d ∧
        (s.ring .cry n).key = some g ∧ bit (s.dw .cry n 0) 12 = false) ∧
    (∃ (s : State) (n : Fin 8) (g : KeyGot) (d : List Byte), InHand s .cry n 0x1B ∧ (s.cryCtx n).live = false ∧
        bit (s.dw .cry n 0) 11 = false ∧ (s.ring .cry n).host = 0 ∧ s.bytes (s.dw .cry n 2).toNat (s.dw .cry n 1).toNat = d ∧
        (s.ring .cry n).key = some g ∧ bit (s.dw .cry n 0) 12 = true) ∧
    (∃ (s : State) (n : Fin 8) (d : List Byte), InHand s .cry n 0x18 ∧ (s.cryCtx n).live = false ∧
        bit (s.dw .cry n 0) 11 = true ∧ (s.ring .cry n).host = 0 ∧ s.bytes (s.dw .cry n 2).toNat (s.dw .cry n 1).toNat = d) ∧
    (∃ (s : State) (n : Fin 8), InHand s .cry n 0x10 ∧ (s.cryCtx n).live = true ∧ (s.cryCtx n).lost = false ∧
        (s.cryCtx n).op ≠ 0x10) ∧
    (∃ (s : State) (n : Fin 8), (s.cryCtx n).live = true ∧ (s.cryCtx n).lost = true ∧ (s.cryCtx n).told = false) :=
  ⟨⟨keyed .cry [0x1A#32 ||| 0x1000#32, 16#32, 0x20000800#32, 0x20000900#32, 0x1005#32] (some symKey) [], 0, symKey, zeros 16,
       by decide⟩,
   ⟨cryHand 0x1B (some symKey), 0, symKey, zeros 16, by decide⟩,
   ⟨keyed .cry [0x1B#32 ||| 0x1000#32, 16#32, 0x20000800#32, 0x20000900#32, 0x1005#32] (some symKey) [], 0, symKey, zeros 16,
       by decide⟩,
   ⟨keyed .cry [0x818#32, 16#32, 0x20000800#32, 0x20000900#32, 0x1005#32] none [], 0, zeros 16, by decide⟩,
   ⟨{ cryHand 0x10 none with cry := { ctx := [(0, { live := true, op := 0x18 })] } }, 0, by decide⟩,
   ⟨{ st [] with cry := { ctx := [(0, { live := true, lost := true, op := 0x16 })] } }, 0, by decide⟩⟩

/-- States and operands that meet the hypotheses of PublicKeysAndRandom: clauses 1, 2, 3, 4, 5, 6, 7, 8, 9, 10, 11, 12. -/
theorem test_meets_PublicKeysAndRandom_part1 :
    (∃ (s : State) (n : Fin 8) (g : KeyGot) (faulty : Bool), InHand s .pke n 0x10 ∧ (s.ring .pke n).key = some g ∧
        (s.ring .pke n).host = 0 ∧ (faulty && s.flag A.PKE_CTL 0) = false ∧
        (State.signLoop (curveOf g.typ) (beNat g.key) ((curveOf g.typ).digest (s.pkeData n)) 64 s).isSome = true) ∧
    (∃ (s : State) (n : Fin 8) (g : KeyGot), InHand s .pke n 0x10 ∧ (s.ring .pke n).key = some g ∧ s.flag A.PKE_CTL 0 = true ∧
        (State.signLoop (curveOf g.typ) (beNat g.key) ((curveOf g.typ).digest (s.pkeData n)) 64 s).isSome = true) ∧
    (∃ (s : State) (n : Fin 8), InHand s .pke n 0x11 ∧ (s.ring .pke n).host = 0 ∧ fld (s.dw .pke n 5) 0 8 = 0 ∧
        p256.on (p256.dec (s.bytes (s.dw .pke n 3).toNat 64)) = true) ∧
    (∃ (s : State) (n : Fin 8), InHand s .pke n 0x11 ∧ (s.ring .pke n).host = 0 ∧ fld (s.dw .pke n 5) 0 8 = 0 ∧
        p256.on (p256.dec (s.bytes (s.dw .pke n 3).toNat 64)) = false) ∧
    (∃ (s : State) (n : Fin 8) (g : KeyGot), InHand s .pke n 0x12 ∧ (s.ring .pke n).key = some g ∧ (s.ring .pke n).host = 0 ∧
        (s.dw .pke n 1).toNat = curvePub (g.typ - 0x10) ∧
        s.rangeReach .pke 0 .store (s.dw .pke n 3).toNat (curveSecret (g.typ - 0x10)) = true ∧
        (sharedSecret (g.typ - 0x10) g.key (s.pkeData n)).isSome = true) ∧
    (∃ (s : State) (n : Fin 8) (d : Drbg), InHand s .pke n 0x13 ∧ (s.ring .pke n).host = 0 ∧ fld (s.dw .pke n 5) 0 8 = 4 ∧
        s.trngReady = true ∧ s.cry.drbg = some d ∧ s.reseedDue = false ∧ s.flag A.TRNG_CTL 0 = false) ∧
    (∃ (s : State) (n : Fin 8) (d : Drbg), InHand s .pke n 0x13 ∧ (s.ring .pke n).host = 0 ∧ fld (s.dw .pke n 5) 0 8 ≤ 2 ∧
        s.trngReady = true ∧ s.cry.drbg = some d ∧ s.reseedDue = false ∧ s.flag A.TRNG_CTL 0 = false) ∧
    (∃ (s : State) (n : Fin 8) (c : Nat) (k : List Byte), InHand s .pke n 0x14 ∧ (s.ring .pke n).host = 0 ∧ (c ≤ 2 ∨ c = 4) ∧
        fld (s.dw .pke n 5) 0 8 = c ∧ s.cry.eph.get (fun _ => none) n = some (c, k) ∧
        (sharedSecret c k (s.pkeData n)).isSome = true) ∧
    (∃ (s : State) (n : Fin 8), InHand s .pke n 0x14 ∧ (fld (s.dw .pke n 5) 0 8 ≤ 2 ∨ fld (s.dw .pke n 5) 0 8 = 4) ∧
        s.cry.eph.get (fun _ => none) n = none) ∧
    (∃ (s : State) (n : Fin 8) (g : KeyGot) (faulty : Bool), InHand s .pke n 0x15 ∧ (s.ring .pke n).key = some g ∧
        (s.ring .pke n).host = 0 ∧ (faulty && s.flag A.PKE_CTL 0) = false) ∧
    (∃ (s : State) (n : Fin 8), InHand s .pke n 0x16 ∧ (s.ring .pke n).host = 0) ∧
    (∃ (s : State) (n : Fin 8) (d : Drbg), InHand s .trng n 0x10 ∧ (s.ring .trng n).host = 0 ∧ bit (s.dw .trng n 0) 12 = false ∧
        s.trngReady = true ∧ s.cry.drbg = some d ∧ s.reseedDue = false ∧ s.flag A.TRNG_CTL 0 = false) :=
  ⟨⟨drbgSt (keyed .pke [0x10#32, 32#32, 0x20000800#32, 0x20000900#32, 0#32, 0x3200#32] (some oneKey) []) {}, 0, oneKey, false,
       by decide⟩,
   ⟨drbgSt (keyed .pke [0x10#32, 32#32, 0x20000800#32, 0x20000900#32, 0#32, 0x3200#32] (some oneKey) [(A.PKE_CTL, 1)]) {}, 0,
       oneKey, by decide⟩,
   ⟨(keyed .pke [0x11#32, 32#32, 0x20000800#32, 0x20000900#32] none []).putBytes 0 0x20000900 (p256.enc (p256.gx, p256.gy)), 0,
       by decide⟩,
   ⟨keyed .pke [0x11#32, 32#32, 0x20000800#32, 0x20000900#32] none [], 0, by decide⟩,
   ⟨(keyed .pke [0x12#32, 64#32, 0x20000800#32, 0x20000900#32] (some oneKey) []).putBytes 0 0x20000800 (p256.enc (p256.gx,
       p256.gy)), 0, oneKey, by decide⟩,
   ⟨drbgSt (keyed .pke [0x13#32, 0#32, 0#32, 0x20000900#32, 0#32, 4#32] none []) someDrbg, 0, someDrbg, by decide⟩,
   ⟨(let s := drbgSt (keyed .pke [0x13#32, 0#32, 0#32, 0x20000900#32, 0#32, 0#32] none []) {}; s), 0, {}, by decide⟩,
   ⟨{ (keyed .pke [0x14#32, 64#32, 0x20000800#32, 0x20000900#32] none []).putBytes 0 0x20000800 (p256.enc (p256.gx, p256.gy)) with cry := { eph := [(0, some (0, oneKey.key))] } },
       0, 0, oneKey.key, by decide⟩,
   ⟨keyed .pke [0x14#32, 64#32, 0x20000800#32, 0x20000900#32] none [], 0, by decide⟩,
   ⟨keyed .pke [0x15#32, 5#32, 0x20000800#32, 0x20000900#32, 0#32, 0x3300#32] (some ⟨51, 0x13, zeros 57, [], 0⟩) [], 0, ⟨51,
       0x13, zeros 57, [], 0⟩, false, by decide⟩,
   ⟨keyed .pke [0x16#32, 5#32, 0x20000800#32, 0x20000900#32] none [], 0, by decide⟩,
   ⟨drbgSt (hand .trng 0 [0x10#32, 24#32, 0x20000800#32] []) someDrbg, 0, someDrbg, by decide⟩⟩

/-- States and operands that meet the hypotheses of PublicKeysAndRandom: clauses 13, 14, 15, 16, 17, 18. -/
theorem test_meets_PublicKeysAndRandom_part2 :
    (∃ (s : State) (n : Fin 8), InHand s .trng n 0x10 ∧ s.trngReady = false) ∧
    (∃ (s : State), s.live .trng = true ∧ s.trngState ≤ 1) ∧
    (∃ (s : State) (kat : Bool), s.live .trng = true ∧ s.trngState ≤ 1) ∧
    (∃ (s : State) (apt : Bool), s.live .trng = true ∧ (s.trngState = 1 ∨ s.trngState = 2) ∧ s.recentFails.length < 2) ∧
    (∃ (s : State) (apt : Bool), s.live .trng = true ∧ (s.trngState = 1 ∨ s.trngState = 2) ∧ 2 ≤ s.recentFails.length) ∧
    (∃ (s : State) (d : Drbg), s.trngReady = true ∧ s.reseedDue = true ∧ s.cry.drbg = some d) :=
  ⟨⟨hand .trng 0 [0x10#32, 24#32, 0x20000800#32] [], 0, by decide⟩,
   ⟨st [(A.TRNG_STAT, 1)], by decide⟩,
   ⟨st [(A.TRNG_STAT, 1)], true, by decide⟩,
   ⟨{ st [(A.TRNG_STAT, 2)] with tb := 5 }, true, by decide⟩,
   ⟨{ st [(A.TRNG_STAT, 2)] with cry := { fails := [5, 6] }, tb := 9 }, false, by decide⟩,
   ⟨drbgSt (st [(A.TRNG_REQS, 65536)]) someDrbg, someDrbg, by decide⟩⟩

/-- States and operands that meet the hypotheses of ImagesAndBanks: clauses 1, 2, 3, 4, 5, 6, 7, 8, 9, 10, 11. -/
theorem test_meets_ImagesAndBanks :
    (∃ (s : State) (n : Fin 8) (b a : Nat), InHand s .upd n 0x10 ∧ s.updBank n = b ∧ b ≤ 1 ∧ s.bankBusy b = false ∧
        s.nextSeq < 4294967296 ∧ bankBase b ≤ a ∧ a < bankBase b + 0x400000) ∧
    (∃ (s : State) (n : Fin 8), InHand s .upd n 0x10 ∧ (1 < s.updBank n ∨ s.bankBusy (s.updBank n) = true)) ∧
    (∃ (s : State) (n : Fin 8) (b : Nat) (g : KeyGot) (x : WriteCtx), InHand s .upd n 0x11 ∧ s.updBank n = b ∧ b ≤ 1 ∧
        s.bankBusy b = false ∧ s.bankState b = 1 ∧ s.upd.wr.get (fun _ => none) n = some x ∧ x.bank = b ∧
        bit (s.dw .upd n 0) 12 = false ∧ bit (s.dw .upd n 0) 11 = true ∧ (s.dw .upd n 1).toNat % 16 = 0 ∧
        x.pos + (s.dw .upd n 1).toNat ≤ x.total ∧ (s.ring .upd n).key = some g ∧ (s.ring .upd n).host = 0) ∧
    (∃ (s : State) (n : Fin 8) (b : Nat), InHand s .upd n 0x11 ∧ s.updBank n = b ∧ s.bankState b ≠ 1) ∧
    (∃ (s : State) (n : Fin 8) (b : Nat), InHand s .upd n 0x12 ∧ s.updBank n = b ∧ b ≤ 1 ∧ s.bankBusy b = false ∧
        (s.bankState b = 1 ∨ s.bankState b = 6) ∧ s.nextSeq < 4294967296) ∧
    (∃ (s : State) (n : Fin 8) (b : Nat), InHand s .upd n 0x13 ∧ s.updBank n = b ∧ b ≤ 1 ∧ s.bankState b = 2 ∧
        s.nextSeq < 4294967296) ∧
    (∃ (s : State) (n : Fin 8) (b : Nat), InHand s .upd n 0x17 ∧ s.updBank n = b ∧ b ≤ 1 ∧ s.bankState b = 2 ∧
        s.nextSeq < 4294967296 ∧ (∀ c : Fin 4, c ≠ 1 → (s.runSect (sectType c)).map (fun x => x.bank) = some b ∧
        (s.healthOf c).confirmed = true ∧ (s.healthOf c).bank = b)) ∧
    (∃ (s : State) (p : List Byte) (c : BitVec 16), s.pmu.recovery = true ∧ p.length ≤ 1024 ∧
        crc16 ([0x01#8] ++ natLe 2 p.length ++ p) = c.toNat ∧ s.upd.recOpen = true) ∧
    (∃ (s : State) (p : List Byte) (c : BitVec 16), s.pmu.recovery = true ∧ p.length ≤ 1024 ∧
        crc16 ([0x01#8] ++ natLe 2 p.length ++ p) = c.toNat ∧ s.upd.recOpen = false ∧ s.nextSeq < 4294967296) ∧
    (∃ (s : State) (p : List Byte) (c : BitVec 16), s.pmu.recovery = true ∧ crc16 ([0x01#8] ++ natLe 2 p.length ++ p) ≠ c.toNat) ∧
    (∃ (s : State) (p : List Byte) (c : BitVec 16), s.pmu.recovery = true ∧
        crc16 ([0x02#8] ++ natLe 2 p.length ++ p) = c.toNat ∧ s.nextSeq < 4294967294) :=
  ⟨⟨hand .upd 0 [0x10#32, 0#32, 0#32, 0#32, 1#32] [], 0, 1, 0x08400004, by decide⟩,
   ⟨hand .upd 0 [0x10#32, 0#32, 0#32, 0#32, 0#32] [], 0, by decide⟩,
   ⟨{ bankSt (keyed .upd [0x811#32, 16#32, 0x20000800#32, 0#32, 1#32] (some symKey) []) 1 1 with upd := { wr := [(0, some { bank := 1, header := zeros 64, total := 4096, pos := 1024 })] } },
       0, 1, symKey, { bank := 1, header := zeros 64, total := 4096, pos := 1024 }, by decide⟩,
   ⟨hand .upd 0 [0x811#32, 16#32, 0x20000800#32, 0#32, 1#32] [], 0, 1, by decide⟩,
   ⟨bankSt (hand .upd 0 [0x12#32, 0#32, 0#32, 0#32, 1#32] []) 1 1, 0, 1, by decide⟩,
   ⟨bankSt (hand .upd 0 [0x13#32, 0#32, 0#32, 0#32, 1#32] []) 1 2, 0, 1, by decide⟩,
   ⟨{ bankSt (hand .upd 0 [0x17#32, 0#32, 0#32, 0#32, 1#32] []) 1 2 with upd := { run := [(1, some { bank := 1 }), (2, some { bank := 1 }), (3, some { bank := 1 })], health := [(0, { confirmed := true, bank := 1 }), (2, { confirmed := true, bank := 1 }), (3, { confirmed := true, bank := 1 })] } },
       0, 1, by decide⟩,
   ⟨{ st [] with pmu := { State.reset.pmu with recovery := true }, upd := { recOpen := true, recBuf := [1#8] } }, [7#8, 8#8],
       0x4EAA#16, by decide⟩,
   ⟨{ st [] with pmu := { State.reset.pmu with recovery := true } }, [7#8, 8#8], 0x4EAA#16, by decide⟩,
   ⟨{ st [] with pmu := { State.reset.pmu with recovery := true } }, [7#8, 8#8], 1#16, by decide⟩,
   ⟨{ st [] with pmu := { State.reset.pmu with recovery := true } }, [], 0xA2FC#16, by decide⟩⟩

/-- States and operands that meet the hypotheses of CutInsAndFallback: clauses 1, 2, 3, 4, 5, 6, 7, 8, 9, 10, 11, 12. -/
theorem test_meets_CutInsAndFallback_part1 :
    (∃ (s : State) (n : Fin 8) (b : Nat) (x : Sect), InHand s .upd n 0x14 ∧ (s.ring .upd n).aux = 0 ∧ (s.ring .upd n).host = 0 ∧
        s.byte (s.dw .upd n 2).toNat = 1#8 ∧ leNat (s.bytes ((s.dw .upd n 2).toNat + 4) 4) = b ∧ s.section b 1 = some x ∧
        s.coreState mH1 = 1 ∧ s.domOn 3 = true ∧ b ≤ 1 ∧ s.bankState b = 2 ∧ s.bankBusy b = false ∧
        (s.armedCut 0).isNone = true) ∧
    (∃ (s : State) (n : Fin 8) (c b : Nat), InHand s .upd n 0x14 ∧ (s.ring .upd n).aux = 0 ∧ (s.ring .upd n).host = 0 ∧
        (c = 2 ∨ c = 3) ∧ (s.byte (s.dw .upd n 2).toNat).toNat = c ∧ leNat (s.bytes ((s.dw .upd n 2).toNat + 4) 4) = b ∧
        s.cutStatus c b (leNat (s.bytes ((s.dw .upd n 2).toNat + 8) 4)) (leNat (s.bytes ((s.dw .upd n 2).toNat + 12) 4)) (cutRegions (s.bytes (s.dw .upd n 2).toNat 64)) = none) ∧
    (∃ (s : State) (x : Cutin) (back : Bool) (i : Nat), s.waiting 2 = some (x, back) ∧ s.crkCrosses x.winLo = true ∧
        s.domState 0 = 3 ∧ s.windowFree x.winLo x.winHi = true ∧ s.noSem mE = true ∧ s.crkInstant x.winHi = some i ∧
        s.now + switchT x.regions ≤ i) ∧
    (∃ (s : State) (x : Cutin) (back : Bool), s.waiting 3 = some (x, back) ∧ x.winLo < 3 ∧ (s.grp x.winLo).start / 32 = s.now ∧
        s.grpState x.winLo = 2 ∧ (back = true ∨ s.commitsHeld = true) ∧ s.reg A.TRIP_LATCH = 0#32 ∧ s.noSem mP = true) ∧
    (∃ (s : State) (c : Fin 4) (w : Switching) (n : Fin 8), 2 ≤ c ∧ s.upd.sw.get (fun _ => none) c = some w ∧
        w.at_ + switchT w.cut.regions ≤ s.now ∧ w.kind ≠ 2 ∧ w.cut.ring = some n.val) ∧
    (∃ (s : State) (c : Fin 4) (x : Cutin), 2 ≤ c ∧ s.armedCut c = some x ∧ x.cold = true ∧ s.stopHeld c s.stopT = true) ∧
    (∃ (s : State) (c : Fin 4) (x : Cutin) (back : Bool), 2 ≤ c ∧ s.waiting c = some (x, back) ∧
        s.stopHeld c (if back then 0 else s.stopT) = true) ∧
    (∃ (s : State) (n : Fin 8), InHand s .upd n 0x15 ∧ (s.ring .upd n).aux = 0 ∧ (s.ring .upd n).host = s.primaryHost ∧
        s.primaryHost = 0 ∧ (∀ i : Fin 4, i ≠ 1 → i.val ≠ n.val → s.inHand .upd i = none) ∧ n.val ≠ 1 ∧ n < 4 ∧
        InHand s .upd 1 0x16 ∧ (s.ring .upd 1).aux ≠ 0 ∧ (s.ring .upd 1).host = 1 ∧
        (s.dw .upd n 1).toNat ≤ (s.dw .upd 1 1).toNat) ∧
    (∃ (s : State) (n : Fin 8), InHand s .upd n 0x16 ∧ (s.ring .upd n).aux = 0 ∧ (s.ring .upd n).host ≠ s.primaryHost ∧
        (∀ i : Fin 4, i.val ≠ n.val → s.inHand .upd i = none)) ∧
    (∃ (s : State) (m : Fin 8) (c : Nat), s.Unhindered .upd m A.UPD_HEALTH ∧ s.healthCore m = some c ∧
        (s.healthOf c).isOpen = true ∧ (s.healthOf c).fromStart = false) ∧
    (∃ (s : State) (m : Fin 8) (c : Nat), s.Unhindered .upd m A.UPD_HEALTH ∧ s.healthCore m = some c ∧
        (s.healthOf c).isOpen = true ∧ (s.healthOf c).fromStart = false ∧ (s.healthOf c).revert = 0) ∧
    (∃ (s : State) (c : Fin 4), (s.healthOf c).isOpen = true ∧ (s.healthOf c).fromStart = false ∧ (s.healthOf c).revert = 0 ∧
        (s.healthOf c).openAt + 4 * s.hwTime ≤ s.now) :=
  ⟨⟨(imgSt (bankSt (hand .upd 0 [0x14#32, 64#32, 0x20000800#32] [(A.CORE_STAT, 0x6)]) 1 2) 1).putBytes 0 0x20000800 [1#8, 0#8,
       0#8, 0#8, 1#8], 0, 1,
       { bank := 1, stateId := 7, accepts := [5, 0xFFFF, 0xFFFF, 0xFFFF], hash := natBe 48 0x38b060a751ac96384cd9327eb1b1e36a21fdb71114be07434c0cc7bf63f6e1da274edebfe76f65fbd51ad2f14898b95b },
       by decide⟩,
   ⟨((imgSt (bankSt (hand .upd 0 [0x14#32, 64#32, 0x20000800#32] [(A.CORE_STAT, 0x82), (A.CAR_PER 0,
       20000)]) 1 2) 3).putBytes 0 0x20000800 [3#8, 0#8, 0#8, 0#8, 1#8]).setRunSect 3 (some { stateId := 5 }), 0, 3, 1,
       by decide⟩,
   ⟨{ (crk 3 [(A.CORE_STAT, 0x2AA)] id) with tb := 1000, upd := { cuts := [(2, some { ring := some 0, winLo := 262144, winHi := 900000 })] }, rings := ((hand .upd 0 [0x14#32] []).modRing .upd 0 (fun r => { r with aux := 1 })).rings },
       { ring := some 0, winLo := 262144, winHi := 900000 }, false, 1730, by decide⟩,
   ⟨{ pwmSt [(A.CORE_STAT, 0x2AA), (A.GRP_CFG 0, 1)] 0 2 { start := 160000 } with upd := { cuts := [(3, some { ring := some 0, winLo := 0 })] }, rings := ((hand .upd 0 [0x14#32] []).modRing .upd 0 (fun r => { r with aux := 1 })).rings },
       { ring := some 0, winLo := 0 }, false, by decide⟩,
   ⟨{ swSt (hand .upd 0 [0x14#32] [(A.CORE_STAT, 0x2EA)]) 3 { cut := { ring := some 0, sect := { bank := 1, stateId := 7 } }, at_ := 500 } with tb := 900 },
       3, { cut := { ring := some 0, sect := { bank := 1, stateId := 7 } }, at_ := 500 }, 0, by decide⟩,
   ⟨{ st [(A.CORE_STAT, 0x2AA)] with upd := { cuts := [(3, some { cold := true, sect := { bank := 1, stateId := 7 } })] }, tb := 4000000000 },
       3, { cold := true, sect := { bank := 1, stateId := 7 } }, by decide⟩,
   ⟨{ st [(A.CORE_STAT, 0x2AA)] with upd := { cuts := [(3, some { ring := some 0 })] }, tb := 4000000000, rings := ((hand .upd 0 [0x14#32] []).modRing .upd 0 (fun r => { r with aux := 1 })).rings },
       3, { ring := some 0 }, false, by decide⟩,
   ⟨{ hand .upd 0 [0x15#32, 8#32, 0x20000800#32] [] with rings := ((hand .upd 0 [0x15#32, 8#32, 0x20000800#32] []).setRing .upd 1 { base := 0x20000000#32, cfg := 0x13#32, desc := [0x16#32, 16#32, 0x20000900#32], aux := 1 }).rings, upd := { started := 1 } }.setReg (ringStatA .upd 1) 1 |>.setReg (ringPidxA .upd 1) 1 |>.setReg (ringCidxA .upd 1) 0x10000,
       0, by decide⟩,
   ⟨{ hand .upd 0 [0x16#32, 8#32, 0x20000800#32] [] with rings := ((hand .upd 0 [0x16#32, 8#32, 0x20000800#32] []).modRing .upd 0 (fun r => { r with cfg := 0x13#32 })).rings },
       0, by decide⟩,
   ⟨{ st [(A.CORE_STAT, 0x2AA)] with upd := { health := [(3, { isOpen := true })] } }, 3, 3, by decide⟩,
   ⟨{ st [(A.CORE_STAT, 0x2AA)] with upd := { health := [(3, { isOpen := true })] } }, 3, 3, by decide⟩,
   ⟨{ st [(A.CORE_STAT, 0x2AA), (A.UPD_HCFG, 1)] with upd := { health := [(3, { isOpen := true })] }, tb := 2000000000 }, 3,
       by decide⟩⟩

/-- States and operands that meet the hypotheses of CutInsAndFallback: clauses 13, 14, 15, 16, 17, 18. -/
theorem test_meets_CutInsAndFallback_part2 :
    (∃ (s : State) (c : Fin 4), 2 ≤ c ∧ (s.healthOf c).isOpen = true ∧ (s.healthOf c).fromStart = false ∧
        (s.healthOf c).revert = 0 ∧
        (gateDefs.any (fun d => s.live d.win && s.gateHost d.win d.g == c.val && s.flag (gateA d.win d.g + 4) 3 && decide ((s.healthOf c).openAt ≤ (s.gate d.win d.g).escAt))) = true) ∧
    (∃ (s : State) (m : Fin 8), s.Unhindered .upd m A.UPD_REVACK ∧ s.healthCore m = some 0 ∧ (s.healthOf 0).revert = 1 ∧
        s.now ≤ (s.healthOf 0).revAt + s.revT) ∧
    (∃ (s : State) (c : Fin 4), (s.healthOf c).revert = 1 ∧ (s.healthOf c).revAt + s.revT < s.now ∧
        (s.upd.sw.get (fun _ => none) c).isNone = true ∧ s.upd.resetAt = none ∧ (s.healthOf c).bank ≤ 1 ∧
        s.nextSeq < 4294967296) ∧
    (∃ (s : State) (i : Nat), s.upd.resetAt = some i ∧ s.upd.resetStage = 0 ∧ i + 40000000 ≤ s.now ∧ s.now < i + 80000000 ∧
        2 ≤ s.domState 0 ∧ s.now < i + s.stopT ∧ s.live .pwm = true) ∧
    (∃ (s : State) (i : Nat), s.upd.resetAt = some i ∧ s.upd.resetStage = 1 ∧ i + 80000000 ≤ s.now ∧ i + s.stopT ≤ s.now) ∧
    (∃ (s : State) (i : Nat), s.upd.safeAt = some i ∧ s.flag A.BOOT_STAT 4 = false ∧ i + 40000000 ≤ s.now ∧
        s.nextSeq < 4294967296) :=
  ⟨⟨{ st [(A.CORE_STAT, 0x2AA), (gateA .pwm 0, 0x33), (gateA .pwm 0 + 4, 8)] with upd := { health := [(3, { isOpen := true })] } },
       3, by decide⟩,
   ⟨{ st [(A.CORE_STAT, 0x2AA), (A.UPD_RCFG, 100)] with upd := { health := [(0, { isOpen := true, revert := 1, revAt := 5 })] }, tb := 10 },
       0, by decide⟩,
   ⟨{ st [(A.CORE_STAT, 0x2AA)] with upd := { health := [(3, { isOpen := true, revert := 1, revAt := 5, bank := 1 })] }, tb := 2000000000 },
       3, by decide⟩,
   ⟨{ st [(A.PWM_CTL, 7), (A.ANG_STAT, 3)] with upd := { resetAt := some 5 }, tb := 50000000 }, 5, by decide⟩,
   ⟨{ st [] with upd := { resetAt := some 5, resetStage := 1 }, tb := 40000000000000 }, 5, by decide⟩,
   ⟨{ st [] with upd := { safeAt := some 5 }, tb := 50000000 }, 5, by decide⟩⟩

/-- States and operands that meet the hypotheses of HostHandover: clauses 1, 2, 3. -/
theorem test_meets_HostHandover :
    (∃ (s : State) (x : Cutin) (n : Fin 8), s.PairReady .upd mH1 A.UPD_OWN 1#32 ∧ s.flag A.UPD_OWN 0 = false ∧
        s.armedCut 0 = some x ∧ x.ring = some n.val ∧ (s.sem (s.field A.UPD_CTL 0 6)).state = 1 ∧
        (s.sem (s.field A.UPD_CTL 0 6)).owner = mH1 ∧ (∀ i : Fin 64, (s.sem i).state = 1 → (s.sem i).owner ≠ mH0)) ∧
    (∃ (s : State), s.PairReady .upd mH1 A.UPD_OWN 1#32 ∧ s.flag A.UPD_OWN 0 = false ∧ s.armedCut 0 = none) ∧
    (∃ (s : State), s.PairReady .upd mH1 A.UPD_OWN 0#32 ∧ s.flag A.UPD_OWN 0 = true ∧ (s.healthOf 0).revert = 0) :=
  ⟨⟨{ hand .upd 0 [0x14#32] [(A.CORE_STAT, 0x2AA), (A.UPD_STAT, 2), (A.UPD_CTL, 3), (A.SEM 3, 0x11)] with comp := [((Win.code .upd), some (1, A.UPD_OWN, 0xFFFFFFFE#32))], upd := { cuts := [(0, some { ring := some 0, sect := { bank := 1 } })] } }.modRing .upd 0 (fun r => { r with aux := 1 }),
       { ring := some 0, sect := { bank := 1 } }, 0, by decide⟩,
   ⟨{ st [(A.CORE_STAT, 0x2AA)] with comp := [((Win.code .upd), some (1, A.UPD_OWN, 0xFFFFFFFE#32))] }, by decide⟩,
   ⟨{ st [(A.CORE_STAT, 0x2AA), (A.UPD_OWN, 1), (A.UPD_STAT, 5)] with comp := [((Win.code .upd), some (1, A.UPD_OWN, 0xFFFFFFFF#32))], upd := { moveSet := [.route 5 false, .mbx 0 true false] } },
       by decide⟩⟩

/-- States and operands that meet the hypotheses of SafetyChannels: clauses 2, 3, 4, 5, 6, 7, 8, 9. -/
theorem test_meets_SafetyChannels :
    (∃ (s : State) (c : Fin 2) (test : Bool), s.coreRuns (safCore c) = true ∧ (s.saf1 c).started = false ∧
        s.safSectionOk c = false) ∧
    (∃ (s : State) (c : Fin 2), s.safActive c = true ∧ (s.saf1 c).lastMs ≠ some (s.now / 400000) ∧ (s.saf1 c).comm = false) ∧
    (∃ (s : State) (c : Fin 2) (v : BitVec 16), s.safActive c = true ∧ (∀ i : Fin 16, s.pb c (0x11 + 4 * i) = 0)) ∧
    (∃ (s : State) (c : Fin 2) (v : BitVec 16), s.safActive c = false) ∧
    (∃ (s : State) (c : Fin 2) (k : Fin 4) (mid post : BitVec 16) (i : Fin 16), s.safActive c = true ∧
        s.pb c (0x11 + 4 * i) = k + 1 ∧ (s.saf1 c).raw.testBit i = true ∧ mid.getLsbD i = true) ∧
    (∃ (s : State) (c : Fin 2) (k : Fin 4) (mid post : BitVec 16) (i : Fin 16), s.safActive c = true ∧
        s.pb c (0x11 + 4 * i) = k + 1 ∧ (s.saf1 c).raw.testBit i = true ∧ mid.getLsbD i = false) ∧
    (∃ (s : State) (c : Fin 2), s.safActive c = true ∧ (s.saf1 c).kickAt + 640000 ≤ s.now) ∧
    (∃ (s : State) (c : Fin 2), s.coreRuns (safCore c) = true ∧ s.flag A.CLK_ERR (13 + c) = true) :=
  ⟨⟨st [(A.CORE_STAT, 0x2AAA)], 1, true, by decide⟩,
   ⟨{ safSt [] { started := true, cycle := 7, crc := 5#32 } {} with tb := 4000000 }, 0, by decide⟩,
   ⟨safSt [] { started := true, deb := 4, cnt := [(3, 1)] } {}, 0, 0x000D#16, by decide⟩,
   ⟨st [], 1, 0x000D#16, by decide⟩,
   ⟨(safSt [] { started := true, raw := 1 } {}).setByte 0x30600011 2#8, 0, 1, 1#16, 1#16, 0, by decide⟩,
   ⟨(safSt [] { started := true, raw := 1, tpFault := 1, tpPass := [(0, 1)] } {}).setByte 0x30600011 2#8, 0, 1, 0#16, 1#16, 0,
       by decide⟩,
   ⟨{ safSt [] { started := true } {} with tb := 640000 }, 0, by decide⟩,
   ⟨safSt [(A.CLK_ERR, 0x2000)] { started := true } {}, 0, by decide⟩⟩

/-- States and operands that meet the hypotheses of SafetyChannels: clause 1. -/
theorem test_meets_SafetyChannels_clause1 :
    ∃ (s : State) (c : Fin 2), s.coreRuns (safCore c) = true ∧ (s.saf1 c).started = false ∧ s.safSectionOk c = true ∧
        s.paramsOk c = true :=
  ⟨safFresh, 0, by decide +kernel⟩

/-- States and operands that meet the hypotheses of SafetyOutputs: clauses 1, 2, 3, 4, 5, 6, 7, 8, 9, 10, 11, 12. -/
theorem test_meets_SafetyOutputs :
    (∃ (s : State) (c : Fin 2) (n : Fin 4) (on : Bool), s.safActive c = false) ∧
    (∃ (s : State) (c : Fin 2) (n : Fin 4), s.safActive c = true ∧ (s.saf1 c).cmdAt.get (fun _ => 0) n + 400000 ≤ s.now ∧
        s.role c n ≠ 0xFF ∧ (s.saf1 c).cmd.testBit n = false ∧ (s.saf1 c).stuck.testBit n = false) ∧
    (∃ (s : State) (c : Fin 2) (n : Fin 4), s.safActive c = true ∧ (s.saf1 c).cmd.testBit n = true ∧ s.soOn n = true) ∧
    (∃ (s : State) (c : Fin 2) (n : Fin 4), True) ∧
    (∃ (s : State) (n : Fin 4), s.safActive 0 = true ∧ s.role 0 n ≠ 0xFF ∧ s.ob 0 n 4 ≠ 0xFF ∧
        s.released 0 n = (s.saf1 0).cmd.testBit n ∧ s.saf.edm.testBit n = false ∧
        s.saf.edmAt.get (fun _ => 0) n + s.oh 0 n 6 * 400000 ≤ s.now) ∧
    (∃ (s : State) (c : Fin 2), s.safActive c = true ∧ (s.saf1 c).reset = true ∧ s.flag A.SAF_STAT 9 = false) ∧
    (∃ (s : State) (f : Fin 8), s.safActive 0 = true ∧ s.fnUsed 0 f = true ∧ ((s.saf1 0).fnOf f).st = 2 ∧
        ((s.saf1 0).fnOf f).since + s.fh 0 f 10 * 400000 ≤ s.now) ∧
    (∃ (s : State), True) ∧
    (∃ (s : State) (m : Fin 8) (v : Word), s.Unhindered .saf m A.SAF_CMD ∧ m.val = s.primaryHost) ∧
    (∃ (s : State) (m : Fin 8) (v : Word), s.PairReady .saf m A.SAF_COMM v ∧ m.val = s.primaryHost ∧ s.notComm = true ∧
        s.flag A.SAF_STAT 8 = false) ∧
    (∃ (s : State), s.flag A.SAF_STAT 8 = true ∧ s.domOn 17 = true ∧ s.reg A.COMM_REQA = s.reg A.COMM_REQB ∧ s.commRow = none) ∧
    (∃ (s : State), s.flag A.SAF_STAT 9 = true ∧ s.saf.commAt + 4000000000 ≤ s.now) :=
  ⟨⟨st [], 0, 2, true, by decide⟩,
   ⟨{ (safSt [(A.SAF_CTLA, 4)] { started := true } { started := true }).setByte 0x30600170 0#8 with tb := 400000 }, 0, 2,
       by decide⟩,
   ⟨{ safSt [(A.SAF_CTLA, 4)] { started := true, cmd := 4 } { started := true } with wires := { State.reset.wires with sofb := 0xFF#8 } },
       0, 2, by decide⟩,
   ⟨st [], 0, 2, by decide⟩,
   ⟨{ ((safSt [(A.SAF_CTLA, 4)] { started := true, cmd := 4, deb := 0x20 } { started := true }).setBytes 0x30600170 [0#8, 0#8, 0#8, 0#8, 5#8, 0#8, 10#8, 0#8]) with tb := 4000000 },
       2, by decide⟩,
   ⟨safSt [] { started := true, reset := true, fn := [(0, { st := 4 })] } { started := true }, 0, by decide⟩,
   ⟨{ safSt [] { started := true, fn := [(0, { st := 2, since := 0 })] } {} with tb := 400000000 }, 0, by decide⟩,
   ⟨safSt [] { started := true, latch := true } { started := true, latch := true }, by decide⟩,
   ⟨st [(A.CORE_STAT, 0x2AA)], 0, 0x155#32, by decide⟩,
   ⟨{ safSt [] { started := true, compared := true } { started := true, compared := true } with comp := [((Win.code .saf), some (0, A.SAF_COMM, ~~~ 77#32))], tb := 9 },
       0, 77#32, by decide⟩,
   ⟨safSt [(A.SAF_STAT, 0x100), (A.COMM_REQA, 9), (A.COMM_REQB, 9), (A.PWR_STAT,
       0xFFFFFFFF)] { started := true } { started := true }, by decide⟩,
   ⟨{ safSt [(A.SAF_STAT, 0x200)] {} {} with tb := 4000000000 }, by decide⟩⟩

/-- States and operands that meet the hypotheses of LoadSwitches: clauses 1, 2, 3, 4, 5, 6, 7, 8, 9, 10, 11, 13. -/
theorem test_meets_LoadSwitches_part1 :
    (∃ (s : State) (m : Fin 8) (v : Word), s.Unhindered .lsw m A.LS_SET ∧ (∀ i : Fin 16, bit v i = true → s.lsOwner i = m)) ∧
    (∃ (s : State) (m : Fin 8) (v : Word) (k : Fin 16), s.Unhindered .lsw m A.LS_CLR ∧ bit v k = true ∧ s.lsOwner k ≠ m) ∧
    (∃ (s : State) (m : Fin 8) (v : Word) (i : Fin 16), s.Unhindered .lsw m A.LS_LCLR ∧ bit v i = true ∧ s.lsState i = 7 ∧
        s.lsWanted i = false ∧ s.lsOn i = false) ∧
    (∃ (s : State), s.linkUp = true ∧ s.flag A.LML_STAT 2 = false ∧ s.live .lsw = true ∧ s.safeHolds 5 = false ∧
        s.lsw.fwd ≠ some (s.reg A.LS_MODE, s.reg A.LS_CMD)) ∧
    (∃ (s : State), s.linkUp = false) ∧
    (∃ (s : State) (i : Fin 16) (on : Bool), fld s.lsw.mode (2 * i) 2 = 2 ∧ s.lsState i < 6 ∧ s.lsw.lowPower = false ∧
        s.wires.hot = false ∧ s.wires.pdrst = false) ∧
    (∃ (s : State) (i : Fin 16) (temp : Int), s.lsOn i = true ∧ (s.lsCh i).limAt = none ∧ temp < 1650) ∧
    (∃ (s : State) (i : Fin 16) (temp : Int) (k : Nat), s.lsOn i = true ∧ (s.lsCh i).limAt = some k ∧
        (k + lsLimT i * 400000 ≤ s.now ∨ 1650 ≤ temp) ∧ s.lsRst i < fld (s.lsCfg i) 4 4) ∧
    (∃ (s : State) (i : Fin 16) (temp : Int), s.lsOn i = true ∧ 1650 ≤ temp ∧ fld (s.lsCfg i) 4 4 ≤ s.lsRst i) ∧
    (∃ (s : State) (i : Fin 16) (temp : Int), s.lsState i = 6 ∧ (s.lsCh i).offAt + fld (s.lsCfg i) 24 8 * 400000 ≤ s.now ∧
        temp ≤ 1500 ∧ s.lsWanted i = true ∧ s.lsw.lowPower = false ∧ s.wires.hot = false ∧ s.lsRst i < 15) ∧
    (∃ (s : State) (i : Fin 16), s.lsState i ≠ 7 ∧ s.lsOn i = true ∧ (s.lsCh i).since + 400000000 ≤ (s.lsCh i).acc + s.now ∧
        (s.lsCh i).since ≤ s.now) ∧
    (∃ (s : State) (i : Fin 16), s.lsOn i = true ∧ lsRated i * s.elem .lsw i 0 < 1000 * (s.field (A.LS_CUR i) 16 12 * lsLsb i) ∧
        (s.lsCh i).overs + 1 ≤ fld (s.lsCfg i) 8 8) :=
  ⟨⟨lsSt [(A.CORE_STAT, 0x2AA), (A.LS_OWN, 0), (A.LS_CMD, 1)] {} 0, 0, 0x8004#32, by decide⟩,
   ⟨lsSt [(A.CORE_STAT, 0x2AA), (A.LS_OWN, 2), (A.LS_CMD, 0xFFFF)] {} 0, 0, 0xFFFF#32, 0, by decide⟩,
   ⟨lsSt [(A.CORE_STAT, 0x2AA), (A.LS_DIAG 3, 0x127)] {} 9, 0, 0x8#32, 3, by decide⟩,
   ⟨lsSt [(A.LML_STAT, 1), (A.LS_MODE, 5), (A.LS_CMD, 3)] {} 0, by decide⟩,
   ⟨lsSt [] {} 0, by decide⟩,
   ⟨lsSt [] { mode := 0x80#32 } 77, 3, true, by decide⟩,
   ⟨lsSt [(A.LS_STAT, 8)] {} 77, 3, 1200, by decide⟩,
   ⟨lsSt [(A.LS_STAT, 8), (A.LS_CFG 3, 0x0A7D0AA5)] { ch := [(3, { limAt := some 7 })] } 800007, 3, 1200, 7, by decide⟩,
   ⟨lsSt [(A.LS_STAT, 8), (A.LS_CFG 3, 0x0A7D0A05)] { ch := [(3, { limAt := some 7 })] } 77, 3, 1700, by decide⟩,
   ⟨lsSt [(A.LS_DIAG 3, 6)] { mode := 0x40#32, cmd := 8#32 } 5000000, 3, 1200, by decide⟩,
   ⟨lsSt [(A.LS_DIAG 3, 0x301), (A.LS_STAT, 8)] {} 400000000, 3, by decide⟩,
   ⟨lsSt [(A.LS_STAT, 8), (A.LS_CUR 3, 0x0FFF0FFF)] { ch := [(3, { overs := 2 })] } 9, 3, by decide⟩⟩

/-- States and operands that meet the hypotheses of LoadSwitches: clauses 14, 15, 16. -/
theorem test_meets_LoadSwitches_part2 :
    (∃ (s : State) (i : Fin 16), s.lsOn i = true ∧ lsRated i * s.elem .lsw i 0 < 1000 * (s.field (A.LS_CUR i) 16 12 * lsLsb i) ∧
        fld (s.lsCfg i) 8 8 ≤ (s.lsCh i).overs) ∧
    (∃ (s : State) (i : Fin 16) (ol : Bool), s.lsOn i = false ∧ (s.lsCh i).since + 200000 ≤ s.now ∧ bit (s.lsCfg i) 2 = true ∧
        s.lsState i < 6) ∧
    (∃ (s : State) (i : Fin 16), s.lsOn i = false ∧ (s.lsCh i).since + 200000 ≤ s.now ∧ bit (s.lsCfg i) 1 = true ∧
        s.lsState i < 6) :=
  ⟨⟨lsSt [(A.LS_STAT, 8), (A.LS_CUR 3, 0x0FFF0FFF)] { ch := [(3, { overs := 200 })] } 9, 3, by decide⟩,
   ⟨lsSt [(A.LS_CFG 3, 6)] {} 200000, 3, true, by decide⟩,
   ⟨lsSt [(A.LS_CFG 3, 6)] {} 200000, 3, by decide⟩⟩

/-- States and operands that meet the hypotheses of LoadSamplesAndLogs: clauses 1, 2, 3, 4, 5, 6. -/
theorem test_meets_LoadSamplesAndLogs :
    (∃ (s : State) (i : Fin 16) (code : BitVec 12) (q : BitVec 8), s.linkUp = true ∧ s.live .lsw = true ∧ (∀ k : Fin 4,
        s.logging .lsw k 0x10 = false)) ∧
    (∃ (s : State) (i : Fin 16) (code : BitVec 12) (q : BitVec 8), s.linkUp = true ∧ s.live .lsw = true ∧
        s.logging .lsw 1 0x10 = true ∧ (∀ k : Fin 4, k ≠ 1 → s.logging .lsw k 0x10 = false) ∧ bit (s.dw .lsw 1 4) i = true ∧
        fld (s.dw .lsw 1 4) 16 16 ≤ 1 ∧ (s.ring .lsw 1).host = 0 ∧ (s.ring .lsw 1).count = 0 ∧ 8 < (s.dw .lsw 1 1).toNat) ∧
    (∃ (s : State) (n : Fin 8), InHand s .lsw n 0x10 ∧ (s.ring .lsw n).aux = 0 ∧ fld (s.dw .lsw n 5) 0 16 ≠ 0 ∧
        fld (s.dw .lsw n 4) 0 16 ≠ 0 ∧ 1 ≤ fld (s.dw .lsw n 4) 16 16 ∧ fld (s.dw .lsw n 4) 16 16 ≤ 1000) ∧
    (∃ (s : State) (n : Fin 8), InHand s .lsw n 0x10 ∧ (s.ring .lsw n).aux = 0 ∧ fld (s.dw .lsw n 5) 0 16 ≠ 0 ∧
        fld (s.dw .lsw n 4) 0 16 = 0) ∧
    (∃ (s : State) (n : Fin 8), InHand s .lsw n 0x11 ∧ (s.ring .lsw n).aux = 0 ∧ fld (s.dw .lsw n 5) 0 16 ≠ 0 ∧
        fld (s.dw .lsw n 4) 0 16 ≠ 0) ∧
    (∃ (s : State) (n : Fin 8), InHand s .lsw n 0x12 ∧ (s.ring .lsw n).host = 0) :=
  ⟨⟨lsSt [(A.LML_STAT, 1)] { ch := [(3, { seq := some 4, samples := [100, 200] })] } 9, 3, 300#12, 6#8, by decide⟩,
   ⟨{ hand .lsw 1 [0x10#32, 32#32, 0x20000800#32, 0#32, 0x10008#32, 5#32] [(A.LML_STAT, 1)] with rings := ((hand .lsw 1 [0x10#32, 32#32, 0x20000800#32, 0#32, 0x10008#32, 5#32] []).modRing .lsw 1 (fun r => { r with aux := 1 })).rings },
       3, 300#12, 6#8, by decide⟩,
   ⟨hand .lsw 1 [0x10#32, 32#32, 0x20000800#32, 0#32, 0x10008#32, 5#32] [], 1, by decide⟩,
   ⟨hand .lsw 1 [0x10#32, 32#32, 0x20000800#32, 0#32, 0x10000#32, 5#32] [], 1, by decide⟩,
   ⟨hand .lsw 1 [0x11#32, 0#32, 0#32, 0#32, 8#32, 5#32] [], 1, by decide⟩,
   ⟨hand .lsw 1 [0x12#32, 64#32, 0x20000800#32] [(A.LS_DIAG 3, 0x44)], 1, by decide⟩⟩

/-- States and operands that meet the hypotheses of Uarts: clauses 1, 2, 3, 4, 5, 6, 7, 8, 9, 10, 11, 12. -/
theorem test_meets_Uarts_part1 :
    (∃ (s : State) (p : Fin 6) (c : BitVec 9), p < 2 ∧ s.uOn p = true ∧ s.uRing p = false ∧ s.uPhy p = 0 ∧
        s.field (uA p A.U_FRAME) 0 2 = 1 ∧ s.uCtl p 6 = false ∧ (s.uart p).rx = [] ∧ (s.uart p).lost = false ∧
        (s.uart p).de = false) ∧
    (∃ (s : State) (p : Fin 6) (c : BitVec 9) (brk : Bool), 2 ≤ p ∧ s.uOn p = true ∧ s.uPhy p = 0 ∧
        s.field (uA p A.U_FRAME) 0 2 = 1 ∧ (s.uart p).rx.length < 64 ∧ s.logging (uartWin p) 1 0x11 = false ∧
        (s.uart p).de = false) ∧
    (∃ (s : State) (p : Fin 6) (c : Nat), (s.uart p).shift = some (.data c) ∧ (s.uart p).tx = [] ∧ (s.uart p).flow = [] ∧
        s.uSending p = false ∧ (s.uart p).de = false) ∧
    (∃ (s : State) (m : Fin 8) (p : Fin 6) (e : Nat), s.CanRead (uartWin p) m ∧ s.uRing p = false ∧ (s.uart p).rx = [e]) ∧
    (∃ (s : State) (m : Fin 8) (p : Fin 6) (v : Word), s.Unhindered (uartWin p) m (uA p A.U_DATA) ∧ s.uRing p = false ∧
        (s.uart p).tx = [] ∧ (s.uart p).shift = none ∧ (s.uart p).flow = [] ∧ (s.uart p).paused = none ∧ s.uOn p = true ∧
        s.uHeld p = false ∧ s.uPhy p = 0 ∧ s.uNine p = false ∧ s.uSending p = false) ∧
    (∃ (s : State) (p : Fin 6) (c : BitVec 9), p < 2 ∧ s.pmu.mode = .standby ∧ s.uCtl p 0 = true ∧ s.uCtl p 4 = true ∧
        s.uCtl p 5 = true ∧ s.uNine p = true ∧ c.getLsbD 8 = true ∧ c.toNat % 256 = s.field (uA p A.U_ADDR) 0 8 ∧
        s.flag A.WAKE_EN (4 + p) = true) ∧
    (∃ (s : State) (p : Fin 6), 2 ≤ p ∧ s.uOn p = true ∧ s.uCtl p 7 = true ∧ (s.uart p).xoffSent = false ∧
        fld (s.reg (uA p A.U_FLOW)) 24 6 ≤ (s.uart p).rx.length ∧ (s.uart p).shift.isSome = true) ∧
    (∃ (s : State) (p : Fin 6) (i : Nat), (s.uart p).paused = some i ∧ s.field (uA p A.U_XOFF_T) 0 16 ≠ 0 ∧
        i + s.field (uA p A.U_XOFF_T) 0 16 * 400000 ≤ s.now) ∧
    (∃ (s : State) (p : Fin 6), InHand s (uartWin p) 0 0x10 ∧ (s.ring (uartWin p) 0).aux = 0 ∧ (s.ring (uartWin p) 0).host = 0 ∧
        s.uRing p = true ∧ s.uHeld p = false ∧ s.uOn p = true ∧ s.dw (uartWin p) 0 1 ≠ 0#32 ∧ s.uNine p = false ∧ s.uPhy p = 0 ∧
        (s.uart p).shift = none ∧ (s.uart p).tx = [] ∧ (s.uart p).flow = [] ∧ (s.uart p).paused = none) ∧
    (∃ (s : State) (p : Fin 6), InHand s (uartWin p) 0 0x10 ∧ (s.ring (uartWin p) 0).aux = 0 ∧ s.uRing p = false) ∧
    (∃ (s : State) (p : Fin 6), 2 ≤ p ∧ InHand s (uartWin p) 1 0x11 ∧ (s.ring (uartWin p) 1).aux = 0 ∧
        fld (s.dw (uartWin p) 1 5) 0 16 ≠ 0 ∧ (s.uart p).rx = []) ∧
    (∃ (s : State) (p : Fin 6), s.field (uA p A.U_IDLE) 0 8 ≠ 0 ∧ s.logging (uartWin p) 1 0x11 = true ∧
        0 < (s.ring (uartWin p) 1).count ∧ (s.uart p).rxAt + s.field (uA p A.U_IDLE) 0 8 * s.uChar p ≤ s.now) :=
  ⟨⟨st [(uA 1 A.U_CTL, 1), (uA 1 A.U_FRAME, 1)], 1, 0x41#9, by decide⟩,
   ⟨st [(uA 3 A.U_CTL, 1), (uA 3 A.U_FRAME, 1)], 3, 0x41#9, true, by decide⟩,
   ⟨uSt (st [(uA 3 A.U_CTL, 1)]) 3 { shift := some (.data 65) }, 3, 65, by decide⟩,
   ⟨uSt (st [(A.CORE_STAT, 0x2AA), (uA 1 A.U_CTL, 1)]) 1 { rx := [0x441], flags := 4, shown := 4 }, 0, 1, 0x441, by decide⟩,
   ⟨st [(A.CORE_STAT, 0x2AA), (uA 1 A.U_CTL, 1), (uA 1 A.U_FRAME, 1)], 0, 1, 0x141#32, by decide⟩,
   ⟨{ st [(uA 1 A.U_CTL, 0x31), (uA 1 A.U_FRAME, 2), (uA 1 A.U_ADDR, 0x41), (A.WAKE_EN, 0x20)] with pmu := { State.reset.pmu with mode := .standby } },
       1, 0x141#9, by decide⟩,
   ⟨uSt (st [(uA 3 A.U_CTL, 0x81), (uA 3 A.U_FLOW, 0x10041311)]) 3 { rx := List.replicate 20 65, shift := some (.data 1) }, 3,
       by decide⟩,
   ⟨{ uSt (st [(uA 3 A.U_CTL, 0x41), (uA 3 A.U_XOFF_T, 5)]) 3 { paused := some 7 } with tb := 9000000 }, 3, 7, by decide⟩,
   ⟨(hand .uq1 0 [0x10#32, 2#32, 0x20000800#32] [(uA 3 A.U_CTL, 3), (uA 3 A.U_FRAME, 1)]).setByte 0x20000800 0x41#8, 3,
       by decide⟩,
   ⟨hand .ul1 0 [0x10#32, 2#32, 0x20000800#32] [(uA 1 A.U_CTL, 1)], 1, by decide⟩,
   ⟨hand .uq1 1 [0x11#32, 64#32, 0x20000800#32, 0#32, 0#32, 9#32] [(uA 3 A.U_CTL, 3)], 3, by decide⟩,
   ⟨{ (begun .uq1 1 [0x11#32, 64#32, 0x20000800#32, 0#32, 0#32, 9#32] [(uA 3 A.U_CTL, 3), (uA 3 A.U_IDLE, 3)] 1).modRing .uq1 1 (fun r => { r with count := 6 }) with tb := 400000000000 },
       3, by decide⟩⟩

/-- States and operands that meet the hypotheses of Uarts: clauses 13, 14, 15, 16. -/
theorem test_meets_Uarts_part2 :
    (∃ (s : State) (p : Fin 6), InHand s (uartWin p) 0 0x12 ∧ (s.ring (uartWin p) 0).aux = 0 ∧ s.uRing p = true ∧
        s.uHeld p = false ∧ s.uOn p = true) ∧
    (∃ (s : State) (p : Fin 6), InHand s (uartWin p) 0 0x13 ∧ (s.ring (uartWin p) 0).aux = 0 ∧ s.uRing p = true ∧
        s.uHeld p = false ∧ s.uOn p = true ∧ bit (s.dw (uartWin p) 0 4) 0 = false) ∧
    (∃ (s : State) (p : Fin 6) (k : Nat), InHand s (uartWin p) 0 0x13 ∧ (s.ring (uartWin p) 0).aux = 1 ∧
        bit (s.dw (uartWin p) 0 4) 0 = true) ∧
    (∃ (s : State) (p : Fin 6), s.uPhy p = 2 ∧ s.uCtl p 10 = true ∧ (s.uart p).echo.isSome = true) :=
  ⟨⟨hand .uq1 0 [0x12#32, 0#32, 0#32, 0#32, 20#32] [(uA 3 A.U_CTL, 3)], 3, by decide⟩,
   ⟨hand .uq1 0 [0x13#32, 2#32, 0x20000800#32] [(uA 3 A.U_CTL, 0xB)], 3, by decide⟩,
   ⟨begun .uq1 0 [0x13#32, 2#32, 0x20000800#32, 0#32, 1#32] [(uA 3 A.U_CTL, 0xB)] 1, 3, 99999, by decide⟩,
   ⟨uSt (begun .uq1 0 [0x10#32, 2#32, 0x20000800#32] [(uA 3 A.U_CTL, 0x40B)] 1) 3 { echo := some 65, tx := [3] }, 3, by decide⟩⟩

/-- States and operands that meet the hypotheses of CanControllers: clauses 1, 2, 3, 4, 5, 6, 7, 8, 9. -/
theorem test_meets_CanControllers :
    (∃ (s : State) (c : Fin 2) (o : Fin 3) (e : BitVec 5) (sof : Nat), InHand s (canWin c) 0 0x10 ∧
        (s.ring (canWin c) 0).aux = 0) ∧
    (∃ (s : State) (c : Fin 2) (e : BitVec 5) (sof : Nat), InHand s (canWin c) 0 0x10 ∧ (s.ring (canWin c) 0).aux ≠ 0 ∧
        (s.ring (canWin c) 0).host = 0 ∧ s.canActive c = true ∧ s.safeHolds 6 = false ∧ s.gated (canWin c) = false ∧
        s.flag (cA c A.CAN_CTL) 3 = false ∧ s.flag (cA c A.CAN_CTL) 4 = false) ∧
    (∃ (s : State) (c : Fin 2), InHand s (canWin c) 1 0x11 ∧ (s.ring (canWin c) 1).aux = 0 ∧
        fld (s.dw (canWin c) 1 5) 0 16 ≠ 0 ∧ (s.can c).queue = []) ∧
    (∃ (s : State) (c : Fin 2) (w0 w1 : Word) (d : List Byte) (sof : Nat), s.canActive c = true ∧
        (bit w0 31 = true → s.flag (cA c A.CAN_CTL) 1 = true) ∧ (s.canFilter c w0).isSome = true ∧
        s.logging (canWin c) 1 0x11 = false ∧ (s.can c).queue.length < 8) ∧
    (∃ (s : State) (c : Fin 2) (w0 w1 : Word) (d : List Byte) (sof e : Nat), s.canActive c = true ∧ bit w0 31 = false ∧
        e % 32 ≠ 0) ∧
    (∃ (s : State) (c : Fin 2), s.canActive c = true) ∧
    (∃ (s : State) (m : Fin 8) (c : Fin 2) (v : Word), s.Unhindered (canWin c) m (cA c A.CAN_CMD) ∧ bit v 0 = true ∧
        s.canState c = 2) ∧
    (∃ (s : State) (c : Fin 2), s.canOn c = true ∧ s.canState c = 2 ∧ (s.can c).recovering = true) ∧
    (∃ (s : State) (c : Fin 2), s.canOn c = true ∧ s.canState c = 3) :=
  ⟨⟨hand .can0 0 [0x10#32, 80#32, 0x20000800#32] [(cA 0 A.CAN_CTL, 1)], 0, 0, 0#5, 7, by decide⟩,
   ⟨begun .can0 0 [0x10#32, 80#32, 0x20000800#32] [(cA 0 A.CAN_CTL, 1), (cA 0 A.CAN_STAT, 0), (A.CLK_DOM 18, 1)] 1, 0, 0#5, 7,
       by decide⟩,
   ⟨hand .can0 1 [0x11#32, 80#32, 0x20000800#32, 0#32, 0#32, 9#32] [(cA 0 A.CAN_CTL, 1)], 0, by decide⟩,
   ⟨st [(cA 0 A.CAN_CTL, 0x81), (cA 0 A.CAN_STAT, 0), (A.CLK_DOM 18, 1)], 0, 0x123#32, 2#32, [1#8, 2#8], 9, by decide⟩,
   ⟨st [(cA 0 A.CAN_CTL, 0x81), (cA 0 A.CAN_STAT, 0), (A.CLK_DOM 18, 1)], 0, 0x123#32, 2#32, [1#8, 2#8], 9, 6, by decide⟩,
   ⟨begun .can0 0 [0x10#32, 80#32, 0x20000800#32] [(cA 0 A.CAN_CTL, 1), (cA 0 A.CAN_STAT, 0), (A.CLK_DOM 18, 1)] 1, 0,
       by decide⟩,
   ⟨st [(A.CORE_STAT, 0x2AA), (cA 0 A.CAN_CTL, 1), (cA 0 A.CAN_STAT, 2)], 0, 0, 1#32, by decide⟩,
   ⟨{ st [(cA 0 A.CAN_CTL, 1), (cA 0 A.CAN_STAT, 2), (A.CLK_DOM 18, 1)] with ser := { can := [(0, { recovering := true })] } },
       0, by decide⟩,
   ⟨st [(cA 0 A.CAN_CTL, 1), (cA 0 A.CAN_STAT, 3), (A.CLK_DOM 18, 1)], 0, by decide⟩⟩

/-- States and operands that meet the hypotheses of EthernetAndSpi: clauses 1, 2, 3, 4, 5, 6, 7, 8, 9, 10, 11. -/
theorem test_meets_EthernetAndSpi :
    (∃ (s : State) (o : Fin 3) (sfd : Nat), InHand s .eth 0 0x10 ∧ (s.ring .eth 0).aux = 0) ∧
    (∃ (s : State) (o : Fin 3) (sfd : Nat), InHand s .eth 0 0x10 ∧ (s.ring .eth 0).aux ≠ 0 ∧ (s.ring .eth 0).host = 0 ∧
        s.ethOn = true ∧ s.safeHolds 6 = false ∧ s.gated .eth = false ∧ s.ser.eth.pauseTo ≤ s.now ∧
        (s.flag A.ETH_CTL 1 = true ∨ o = 0) ∧ s.dw .eth 0 3 ≠ 0#32) ∧
    (∃ (s : State) (sfd : Nat), InHand s .eth 0 0x10 ∧ (s.ring .eth 0).aux ≠ 0 ∧ s.ethOn = true ∧ s.safeHolds 6 = false ∧
        s.gated .eth = false ∧ s.ser.eth.pauseTo ≤ s.now ∧ s.flag A.ETH_CTL 1 = false) ∧
    (∃ (s : State), InHand s .eth 1 0x11 ∧ (s.ring .eth 1).aux = 0 ∧ s.ser.eth.queue = []) ∧
    (∃ (s : State) (f : EthFrame) (rest : List EthFrame), InHand s .eth 1 0x11 ∧ (s.ring .eth 1).aux = 0 ∧
        s.ser.eth.queue = f :: rest ∧ (s.ring .eth 1).host = 0) ∧
    (∃ (s : State) (fr : List Byte) (sfd : Nat), s.ethOn = true ∧ 60 ≤ fr.length ∧ fr.length ≤ 1518 ∧ s.ethForUs fr = true ∧
        (s.flag A.ETH_CTL 5 = false ∨ pauseQuanta fr = none) ∧ s.logging .eth 1 0x11 = false ∧ s.ser.eth.queue = []) ∧
    (∃ (s : State) (fr : List Byte) (sfd q : Nat), s.ethOn = true ∧ 60 ≤ fr.length ∧ fr.length ≤ 1518 ∧
        s.flag A.ETH_CTL 5 = true ∧ s.flag A.ETH_CTL 1 = true ∧ pauseQuanta fr = some q) ∧
    (∃ (s : State) (d : BitVec 16), InHand s .eth 0 0x12) ∧
    (∃ (s : State) (p : Fin 3) (n : Fin 2) (rx : List Byte) (fl : Bool), InHand s (spiWin p) n 0x10 ∧ s.live (spiWin p) = true ∧
        s.flag (spA p A.SPI_CTL) 0 = true ∧ s.safeHolds 6 = false ∧ s.spiPeriph p = false ∧ (s.ring (spiWin p) n).count = 0 ∧
        (s.ring (spiWin p) n).host = 0 ∧ s.dw (spiWin p) n 3 ≠ 0#32) ∧
    (∃ (s : State) (p : Fin 3) (n : Fin 2), s.spiPeriph p = true ∧ s.logging (spiWin p) n 0x10 = true) ∧
    (∃ (s : State) (p : Fin 3), s.live (spiWin p) = true ∧ s.flag (spA p A.SPI_CTL) 0 = true ∧ s.spiPeriph p = true ∧
        s.inHand (spiWin p) 0 = none ∧ s.inHand (spiWin p) 1 = none) :=
  ⟨⟨hand .eth 0 [0x10#32, 64#32, 0x20000800#32] [], 0, 7, by decide⟩,
   ⟨begun .eth 0 [0x10#32, 14#32, 0x20000800#32, 0x20000900#32] [(A.ETH_CTL, 3), (A.CLK_DOM 19, 1)] 1, 0, 7, by decide⟩,
   ⟨begun .eth 0 [0x10#32, 14#32, 0x20000800#32] [(A.ETH_CTL, 1), (A.CLK_DOM 19, 1)] 1, 7, by decide⟩,
   ⟨hand .eth 1 [0x11#32, 1522#32, 0x20000800#32, 0x20000F00#32, 0#32, 9#32] [], by decide⟩,
   ⟨{ hand .eth 1 [0x11#32, 1522#32, 0x20000800#32, 0x20000F00#32, 0#32, 9#32] [] with ser := { eth := { queue := [⟨[1#8, 2#8, 3#8], 4, 77⟩] } } },
       ⟨[1#8, 2#8, 3#8], 4, 77⟩, [], by decide⟩,
   ⟨st [(A.ETH_CTL, 0x13), (A.CLK_DOM 19, 1)], List.replicate 60 0xFF#8, 7, by decide⟩,
   ⟨st [(A.ETH_CTL, 0x23), (A.CLK_DOM 19, 1)], [0x01#8, 0x80#8, 0xC2#8, 0x00#8, 0x00#8, 0x01#8] ++ zeros 6 ++ [0x88#8, 0x08#8,
       0x00#8, 0x01#8, 0#8, 9#8] ++ zeros 42, 7, 9, by decide⟩,
   ⟨hand .eth 0 [0x12#32, 0#32, 0#32, 0#32, 0x21#32] [], 0xBEEF#16, by decide⟩,
   ⟨hand .spi1 0 [0x10#32, 4#32, 0x20000800#32, 0x20000900#32, 1#32] [(spA 1 A.SPI_CTL, 0xE1)], 1, 0, [1#8, 2#8, 3#8, 4#8],
       false, by decide⟩,
   ⟨{ (begun .spi1 0 [0x10#32, 4#32, 0x20000800#32, 0x20000900#32, 1#32] [(spA 1 A.SPI_CTL, 0xE3)] 1) with ser := { spi := [(1, { filled := true })] } },
       1, 0, by decide⟩,
   ⟨st [(spA 1 A.SPI_CTL, 0xE3), (spA 1 A.SPI_FILL, 0x55)], 1, by decide⟩⟩

/-- States and operands that meet the hypotheses of I2cPorts: clauses 1, 2, 3, 4, 5, 6, 7, 8. -/
theorem test_meets_I2cPorts :
    (∃ (s : State) (p : Fin 2), InHand s (i2cWin p) 0 0x10 ∧ (s.ring (i2cWin p) 0).aux = 1 ∧ s.i2cOn p = true ∧
        s.safeHolds 6 = false ∧ s.gated (i2cWin p) = false ∧ (s.ring (i2cWin p) 0).host = 0) ∧
    (∃ (s : State) (p : Fin 2) (rx : List Byte), InHand s (i2cWin p) 0 0x11 ∧ (s.ring (i2cWin p) 0).aux = 1 ∧ s.i2cOn p = true ∧
        s.safeHolds 6 = false ∧ s.gated (i2cWin p) = false ∧ (s.ring (i2cWin p) 0).host = 0) ∧
    (∃ (s : State) (p : Fin 2) (rx : List Byte), InHand s (i2cWin p) 0 0x12 ∧ (s.ring (i2cWin p) 0).aux = 1 ∧ s.i2cOn p = true ∧
        s.safeHolds 6 = false ∧ s.gated (i2cWin p) = false ∧ (s.ring (i2cWin p) 0).host = 0) ∧
    (∃ (s : State) (p : Fin 2) (sda : Bool), InHand s (i2cWin p) 0 0x13 ∧ (s.ring (i2cWin p) 0).aux = 1 ∧ s.i2cOn p = true ∧
        s.safeHolds 6 = false ∧ s.gated (i2cWin p) = false) ∧
    (∃ (s : State) (p : Fin 2), s.field (icA p A.I2C_TMO) 0 8 ≠ 0 ∧ (s.inHand (i2cWin p) 0).isSome = true ∧
        (s.ring (i2cWin p) 0).aux = 1 ∧ (s.ring (i2cWin p) 0).t0 + s.field (icA p A.I2C_TMO) 0 8 * 400000 ≤ s.now) ∧
    (∃ (s : State) (p : Fin 2) (a : BitVec 10) (rd : Bool), s.i2cOn p = true ∧ s.flag (icA p A.I2C_CTL) 1 = true ∧
        a.toNat = s.field (icA p A.I2C_OWN) 0 (if s.flag (icA p A.I2C_CTL) 5 then 10 else 7)) ∧
    (∃ (s : State) (p : Fin 2) (d : List Byte), InHand s (i2cWin p) 1 0x18 ∧ (s.ring (i2cWin p) 1).aux ≠ 0 ∧
        (s.i2c p).target = some false ∧ s.safeHolds 6 = false ∧ (s.ring (i2cWin p) 1).host = 0) ∧
    (∃ (s : State) (p : Fin 2) (k : Nat), InHand s (i2cWin p) 1 0x19 ∧ (s.ring (i2cWin p) 1).aux ≠ 0 ∧
        (s.i2c p).target = some true ∧ s.safeHolds 6 = false ∧ (s.ring (i2cWin p) 1).host = 0) :=
  ⟨⟨begun .i2c0 0 [0x10#32, 2#32, 0x20000800#32, 0#32, 0x50#32] [(icA 0 A.I2C_CTL, 1)] 1, 0, by decide⟩,
   ⟨begun .i2c0 0 [0x11#32, 2#32, 0x20000800#32, 0#32, 0x50#32] [(icA 0 A.I2C_CTL, 1)] 1, 0, [7#8, 8#8], by decide⟩,
   ⟨begun .i2c0 0 [0x12#32, 2#32, 0x20000800#32, 0x20000900#32, 0x50#32, 3#32] [(icA 0 A.I2C_CTL, 1)] 1, 0, [7#8, 8#8, 9#8],
       by decide⟩,
   ⟨begun .i2c0 0 [0x13#32] [(icA 0 A.I2C_CTL, 1)] 1, 0, true, by decide⟩,
   ⟨{ begun .i2c0 0 [0x10#32, 2#32, 0x20000800#32, 0#32, 0x50#32] [(icA 0 A.I2C_CTL, 1), (icA 0 A.I2C_TMO, 5)] 1 with tb := 2000000 },
       0, by decide⟩,
   ⟨st [(icA 0 A.I2C_CTL, 3), (icA 0 A.I2C_OWN, 0x42)], 0, 0x42#10, true, by decide⟩,
   ⟨{ (begun .i2c0 1 [0x18#32, 2#32, 0x20000800#32, 0#32, 0#32, 9#32] [(icA 0 A.I2C_CTL, 3)] 1) with ser := { i2c := [(0, { target := some false })] } },
       0, [7#8, 8#8, 9#8], by decide⟩,
   ⟨{ (begun .i2c0 1 [0x19#32, 2#32, 0x20000800#32, 0#32, 0#32, 9#32] [(icA 0 A.I2C_CTL, 3)] 1) with ser := { i2c := [(0, { target := some true })] } },
       0, 3, by decide⟩⟩

/-- States and operands that meet the hypotheses of UsbAndClockLoss: clauses 1, 2, 3, 4, 5, 6, 7, 8, 9, 10, 11, 12. -/
theorem test_meets_UsbAndClockLoss_part1 :
    (∃ (s : State) (k : List Byte), InHand s .usb 0 0x10 ∧ s.usbAttached = true ∧ k.length = 8 ∧ (s.ring .usb 0).host = 0) ∧
    (∃ (s : State), InHand s .usb 0 0x11 ∧ (s.ring .usb 0).aux = 1 ∧ s.usbAttached = true ∧ s.safeHolds 6 = false ∧
        s.gated .usb = false ∧ s.flag A.USB_EP0 11 = false ∧ (s.ring .usb 0).count = 0 ∧ (s.dw .usb 0 1).toNat < 64 ∧
        (s.ring .usb 0).host = 0) ∧
    (∃ (s : State) (k : List Byte), InHand s .usb 0 0x12 ∧ (s.ring .usb 0).aux = 1 ∧ s.usbAttached = true ∧
        s.gated .usb = false ∧ s.flag A.USB_EP0 11 = false ∧ (s.ring .usb 0).count = 0 ∧ k.length ≤ (s.dw .usb 0 1).toNat ∧
        k.length < 64 ∧ (s.ring .usb 0).host = 0) ∧
    (∃ (s : State) (n : Fin 4), n ≠ 0 ∧ InHand s .usb n 0x18 ∧ (s.ring .usb n).aux = 1 ∧ s.usbAttached = true ∧
        s.safeHolds 6 = false ∧ s.gated .usb = false ∧ s.usbEndpoint n ≠ 0 ∧ s.usbJudge (s.usbEndpoint n) true = none ∧
        (s.ring .usb n).host = 0 ∧ (s.ring .usb n).count + s.usbMps (s.usbEndpoint n) < (s.dw .usb n 1).toNat) ∧
    (∃ (s : State) (n : Fin 4) (k : List Byte), n ≠ 0 ∧ InHand s .usb n 0x19 ∧ (s.ring .usb n).aux = 1 ∧ s.usbAttached = true ∧
        s.gated .usb = false ∧ s.usbEndpoint n ≠ 0 ∧ s.usbJudge (s.usbEndpoint n) false = none ∧ (s.ring .usb n).host = 0 ∧
        (s.ring .usb n).count = 0 ∧ (s.dw .usb n 1).toNat < k.length) ∧
    (∃ (s : State), s.usbAttached = true) ∧
    (∃ (s : State), s.usbAttached = true ∧ s.flag A.USB_STAT 2 = false) ∧
    (∃ (s : State) (m : Fin 8) (v : Word), s.Unhindered .usb m A.USB_CMD ∧ bit v 0 = true ∧ s.usbAttached = true ∧
        s.flag A.USB_STAT 2 = true) ∧
    (∃ (s : State), s.usbAttached = true ∧ s.flag A.USB_STAT 2 = true) ∧
    (∃ (s : State) (f : BitVec 11), s.usbAttached = true) ∧
    (∃ (s : State), s.usbAttached = true ∧ s.flag A.USB_ADDR 7 = true) ∧
    (∃ (s : State) (l : Bool), s.live .usb = true ∧ s.flag A.USB_STAT 0 ≠ l) :=
  ⟨⟨hand .usb 0 [0x10#32, 8#32, 0x20000800#32] [(A.USB_CTL, 3), (A.CLK_DOM 20, 1), (A.USB_EP0, 0x800)], [1#8, 2#8, 3#8, 4#8,
       5#8, 6#8, 7#8, 8#8], by decide⟩,
   ⟨begun .usb 0 [0x11#32, 18#32, 0x20000800#32] [(A.USB_CTL, 3), (A.CLK_DOM 20, 1)] 1, by decide⟩,
   ⟨begun .usb 0 [0x12#32, 18#32, 0x20000800#32] [(A.USB_CTL, 3), (A.CLK_DOM 20, 1)] 1, [7#8, 8#8], by decide⟩,
   ⟨begun .usb 1 [0x18#32, 18#32, 0x20000800#32, 0#32, 2#32] [(A.USB_CTL, 3), (A.CLK_DOM 20, 1), (A.USB_EP 1, 0x110)] 1, 1,
       by decide⟩,
   ⟨begun .usb 1 [0x19#32, 18#32, 0x20000800#32, 0#32, 2#32] [(A.USB_CTL, 3), (A.CLK_DOM 20, 1), (A.USB_EP 1, 0x210)] 1, 1,
       List.replicate 20 7#8, by decide⟩,
   ⟨begun .usb 1 [0x18#32, 18#32, 0x20000800#32, 0#32, 2#32] [(A.USB_CTL, 3), (A.CLK_DOM 20, 1), (A.USB_EP 1, 0x110),
       (A.USB_STAT, 0x904), (A.USB_ADDR, 0x85)] 1, by decide⟩,
   ⟨st [(A.USB_CTL, 3), (A.CLK_DOM 20, 1)], by decide⟩,
   ⟨{ st [(A.CORE_STAT, 0x2AA), (A.USB_CTL, 3), (A.CLK_DOM 20, 1), (A.USB_STAT, 4)] with tb := 9 }, 0, 1#32, by decide⟩,
   ⟨st [(A.USB_CTL, 3), (A.CLK_DOM 20, 1), (A.USB_STAT, 4)], by decide⟩,
   ⟨st [(A.USB_CTL, 3), (A.CLK_DOM 20, 1)], 99#11, by decide⟩,
   ⟨st [(A.USB_CTL, 3), (A.CLK_DOM 20, 1), (A.USB_ADDR, 0x85)], by decide⟩,
   ⟨st [], true, by decide⟩⟩

/-- States and operands that meet the hypotheses of UsbAndClockLoss: clauses 13, 14. -/
theorem test_meets_UsbAndClockLoss_part2 :
    (∃ (s : State), s.live .eth = true ∧ s.flag A.CLK_STAT 10 = true ∧ s.ser.clkLost.get (fun _ => false) Win.eth.code = false ∧
        InHand s .eth 0 0x10) ∧
    (∃ (s : State), s.flag A.CLK_STAT 10 = false ∧ s.ser.clkLost.get (fun _ => false) Win.usb.code = true) :=
  ⟨⟨begun .eth 0 [0x10#32, 64#32, 0x20000800#32] [(A.CLK_STAT, 0x400)] 1, by decide⟩,
   ⟨{ st [] with ser := { clkLost := [(Win.usb.code, true)] }, tb := 9 }, by decide⟩⟩

/-- States and operands that meet the hypotheses of DebugAccess: clauses 1, 2, 3, 4, 5, 6, 7. -/
theorem test_meets_DebugAccess :
    (∃ (s : State) (d : Drbg), s.authOn = true ∧ s.trngReady = true ∧ s.cry.drbg = some d ∧ s.reseedDue = false ∧
        s.flag A.TRNG_CTL 0 = false) ∧
    (∃ (s : State) (r : Word × List Byte × List Byte), s.authOn = true ∧ s.trngReady = true ∧ s.flag A.DBG_STAT 14 = false ∧
        s.authOk r.1 r.2.1 r.2.2 = false) ∧
    (∃ (s : State) (c : Fin 4), s.dbgMay (if c.val ≤ 1 then 0 else 1) = true ∧ s.coreState c = 2) ∧
    (∃ (s : State) (c : Fin 7), 4 ≤ c) ∧
    (∃ (s : State) (c : Fin 4), s.dbgMay (if c.val ≤ 1 then 0 else 1) = true ∧ s.dbgHalted c = true) ∧
    (∃ (s : State), s.dbgMay 3 = true) ∧
    (∃ (s : State), s.dbgSession = true) :=
  ⟨⟨drbgSt (st [(A.PWR_STAT, 0xFFFFFFFF)]) someDrbg, someDrbg, by decide⟩,
   ⟨{ drbgSt (st [(A.PWR_STAT, 0xFFFFFFFF)]) someDrbg with dbg := { fails := 2 } }, (5#32, [], []), by decide⟩,
   ⟨{ st [(A.PWR_STAT, 0xFFFFFFFF), (A.CORE_STAT, 0x2AA)] with dbg := { mode := 0 } }, 2, by decide⟩,
   ⟨{ st [(A.PWR_STAT, 0xFFFFFFFF), (A.CORE_STAT, 0x2AA)] with dbg := { mode := 0 } }, 4, by decide⟩,
   ⟨{ st [(A.PWR_STAT, 0xFFFFFFFF), (A.CORE_STAT, 0x2EA), (A.DBG_STAT, 0x800)] with dbg := { mode := 0 } }, 3, by decide⟩,
   ⟨{ safSt [(A.PWR_STAT, 0xFFFFFFFF)] { started := true } { started := true } with dbg := { mode := 0 } }, by decide⟩,
   ⟨st [(A.PWR_STAT, 0xFFFFFFFF), (A.CORE_STAT, 0x2EA), (A.DBG_STAT, 0x80C)], by decide⟩⟩

/-- States and operands that meet the hypotheses of EvrAckRule: clauses 1, 2, 3. -/
theorem test_meets_EvrAckRule :
    (∃ (s : State) (m : Fin 8) (z : AccSize) (v : Word), s.Unhindered .evr m A.EVR_ACK ∧ m.val ≤ 6 ∧
        fld (BusW.mk m A.EVR_ACK z.bytes v).full 0 11 ≤ 1215) ∧
    (∃ (s : State) (m : Fin 8) (z : AccSize) (v : Word), s.Unhindered .evr m A.EVR_ACK ∧ m.val ≤ 6 ∧
        fld (BusW.mk m A.EVR_ACK z.bytes v).full 0 11 ≤ 1215 ∧
        bit (s.banked m (pendAddr (fld (BusW.mk m A.EVR_ACK z.bytes v).full 0 11))) (fld (BusW.mk m A.EVR_ACK z.bytes v).full 0 11 % 32) = false) ∧
    (∃ (s : State) (m : Fin 8) (z : AccSize) (v : Word), s.Unhindered .evr m A.EVR_ACK ∧
        1215 < fld (BusW.mk m A.EVR_ACK z.bytes v).full 0 11) :=
  ⟨⟨((st []).setBanked 0 (pendAddr 29) 0xFFFFFFFF#32), 0, .half, 29#32, by decide⟩,
   ⟨(st []), 0, .word, 29#32, by decide⟩,
   ⟨(st []), 0, .word, 1216#32, by decide⟩⟩

/-- States and operands that meet the hypotheses of SwevRule: clauses 1, 2. -/
theorem test_meets_SwevRule :
    (∃ (s : State) (m : Fin 8) (z : AccSize) (v : Word), s.Unhindered .evr m A.EVR_SWEV) ∧
    (∃ (s : State) (m : Fin 8), s.CanRead .evr m ∧ s.pmpAllows m false .load A.EVR_SWEV = true ∧
        s.coreReach m .load (regionOf (s.phys m A.EVR_SWEV)) = true) :=
  ⟨⟨({ st [] with routes := [(72, 1), (75, 1)] }), 0, .byte, 9#32, by decide⟩,
   ⟨(st []), 0, by decide⟩⟩

/-- States and operands that meet the hypotheses of VaultWriters: clauses 1, 2, 3, 4. -/
theorem test_meets_VaultWriters :
    (∃ (s : State) (m : Fin 8) (a : Word) (z : AccSize) (v : Word), winOf a.toNat = some .vlt ∧ s.standsFor m ≠ mH0) ∧
    (∃ (s : State) (m : Fin 8) (a : Word) (z : AccSize) (v : Word), winOf a.toNat = some .vlt ∧ s.standsFor m ≠ mH0) ∧
    (∃ (s : State) (m : Fin 8) (off : BitVec 12) (z : AccSize) (v : Word), s.standsFor m ≠ mH0) ∧
    (∃ (s : State) (m : Fin 8) (v : Word), s.Unhindered .vlt m A.CAL_ALARM) :=
  ⟨⟨(st []), 1, wd A.TAMP_EN, .word, 0xFF#32, by decide⟩,
   ⟨(st []), 1, wd A.TAMP_EN, .word, 0xFF#32, by decide⟩,
   ⟨(st []), 7, 0x010#12, .word, 0#32, by decide⟩,
   ⟨(st []), 0, 0x5A#32, by decide⟩⟩

/-! ## The state after reset -/

/-- The memory of the reset state is in its canonical form. -/
theorem test_reset_sound : State.reset.Sound := by decide

/-- A state that lists a byte as unlisted memory reads it is not in the canonical form. -/
theorem test_listed_zero_is_not_sound : ¬ ({ State.reset with mem := [(0x20000000, 0#8)] } : State).Sound := by decide

/-- BLK_ID of KEY and VLT (14): 0x150 and 0x154. -/
theorem test_reset_blk_id : State.reset.reg 0x400503F8 = 0x150#32 ∧ State.reset.reg 0x400543F8 = 0x154#32 := by decide

/-! ## The queue -/

/-- The command at the front runs, and leaves the queue. -/
theorem test_step_takes_front : ∃ t, step { State.reset with pending := [.eventAssert 29, .egvPeriodEnd] } = .next t ∧ t.pending = [.egvPeriodEnd] :=
  ⟨_, rfl, rfl⟩

/-- With nothing waiting a step is a cycle of the time base. -/
theorem test_step_idles : step State.reset = .next State.reset.tbIdle := rfl

/-- No word spells a command. -/
theorem test_no_word_spells : decodeTableWord 32 0xFFFFFFFF = none := rfl

/-! ## Ill-formed commands -/

/-- Accesses: a register that is not the power die's, a misaligned one, one outside every window, one that is not WP, a port
beyond 0x7FC, a loop or gate that the spec does not have, a unit with no background work, one that asks for no key. -/
theorem test_wf_refuses_accesses :
    (Instr.pdRegisterRead 0 (wd A.EVR_ACK) .word).wf = false ∧ (Instr.pdRegisterWrite 0 (wd (A.LS_DIAG 2 + 1)) .half 0#32).wf = false ∧
    (Instr.registerWrite 0 0x30000000#32 .word 0#32).wf = false ∧ (Instr.registerWrite 0 (wd (A.EVR_SWEV + 2)) .word 0#32).wf = false ∧
    (Instr.wpRegisterWrite 0 (wd A.EVR_ACK) .word 0#32).wf = false ∧ (Instr.complementWrite 0 .sys 0x800#12 .word 0#32).wf = false ∧
    (Instr.offDomainAccess 0 0x20000000#32).wf = false ∧ (Instr.loopStep .sys 0 0).wf = false := by decide

/-- A loop window, a commit gate, a background unit and a user of keys that the spec does not have. -/
theorem test_wf_refuses_contracts :
    (Instr.loopBoundWrite 0 .sys 0 false .word 0#32).wf = false ∧ (Instr.loopPosWrite 0 .sys 0 .word 0#32).wf = false ∧
    (Instr.loopModeWrite 0 .sys 0 .word 0#32).wf = false ∧ (Instr.fairnessSlot .sys).wf = false ∧
    (Instr.gateCmt 0 .sys 0 .word 0#32).wf = false ∧ (Instr.gateDeadline .sys 0).wf = false ∧
    (Instr.escalatedClear 0 .sys 0 .word 0#32).wf = false ∧ (Instr.keyRequest .sys 0 false).wf = false := by decide

/-- Measurements and frames out of their ranges: sources of a wake, sources of a tamper event, an unknown outcome, samples beyond
16 bits, a delay for each leg, the length of a sounding, of codes, of phases, of a frame. -/
theorem test_wf_refuses_values :
    (Instr.wakeEvent 5).wf = false ∧ (Instr.tamperEvent 2 true).wf = false ∧ (Instr.ignDiagChange 0 3).wf = false ∧
    (Instr.knockSample 32768 0 0).wf = false ∧ (Instr.hbPeriod 0 (-32769)).wf = false ∧ (Instr.deadTimeStep 1 []).wf = false ∧
    (Instr.metConverterStart []).wf = false ∧ (Instr.metSample [] []).wf = false ∧ (Instr.metWindow 0 []).wf = false := by decide

/-- Packets and payloads of a wrong length, and cores that cannot switch. -/
theorem test_wf_refuses_packets :
    (Instr.setupWait []).wf = false ∧ (Instr.inXfer 0).wf = false ∧ (Instr.outXfer 0 []).wf = false ∧
    (Instr.recoveryData (List.replicate 1025 0#8) 0).wf = false ∧ (Instr.cutinSwitch 0).wf = false ∧ (Instr.coldSwitch 1).wf = false ∧
    (Instr.plmFrameArrival false [] false false (some ([], []))).wf = false ∧
    (Instr.canFrameReceived 0 0#32 0#32 (List.replicate 65 0#8) 0 0).wf = false ∧ (Instr.stopSwitch 0).wf = false ∧ (Instr.jtagAuth (some (0, [], []))).wf = false := by decide

/-- A well-formed command of each kind is taken. -/
theorem test_wf_takes : (Instr.registerWrite 0 (wd A.EVR_SWEV) .word 1#32).wf = true ∧ (Instr.wakeEvent 12).wf = true ∧
    (Instr.loopStep .pwm 1 0).wf = true ∧ (Instr.cutinSwitch 2).wf = true := by decide

/-! ## Worked examples of the spec -/

/-- 02, the cipher ring: with CIDX 12 and PIDX 14 a doorbell with index 30 is refused (DB_RANGE). -/
theorem test_doorbell_out_of_range :
    let s := rg .cry 2 1 14 12 14 [] []
    let s := s.modRing .cry 2 (fun r => { r with cfg := 0x104#32 })
    ∃ t, exec (.doorbell .cry 0 .word 0x2001E#32) s = .next t ∧ t.pidx .cry 2 = 14 ∧ bit (t.reg (ringErrA .cry 2)) 0 = true := by
  refine ⟨_, rfl, ?_, ?_⟩ <;> decide

/-- 02, the cipher ring: the doorbell with index 28 is accepted. -/
theorem test_doorbell_in_range :
    let s := rg .cry 2 1 14 12 14 [] []
    let s := s.modRing .cry 2 (fun r => { r with cfg := 0x104#32 })
    ∃ t, exec (.doorbell .cry 0 .word 0x2001C#32) s = .next t ∧ t.pidx .cry 2 = 28 ∧ bit (t.reg (ringErrA .cry 2)) 0 = false := by
  refine ⟨_, rfl, ?_, ?_⟩ <;> decide

/-- 03, Tables EVL-13 and EVL-14: with that route H0 reads EVR_TOP as 0x000C8079. -/
theorem test_evr_top :
    let s := { st [] with routes := [(121, 0xC21#32)] }
    ∃ t, exec (.eventAssert 121) s = .next t ∧ t.evrTop 0 = 0xC8079#32 ∧ bit (t.banked 0 (Win.evr.base + 0x4C)) 25 = true := by
  refine ⟨_, rfl, ?_, ?_⟩ <;> decide

/-- 03, Table EVL-15: P waits for SEM_5, which E holds, and reads 0x00083F21. -/
theorem test_sem_waiter :
    let s := st [(A.CORE_STAT, 0x2AA), (A.SEM 5, 0xF21)]
    ∃ t, exec (.semAcquire 3 5 .word true) s = .next t ∧ t.semRead 3 5 = 0x00083F21#32 := by
  refine ⟨_, rfl, ?_⟩; decide

/-- 03, Table EVL-15: the orphan that P acquires reads 0x00002235, and the repaired release 0x00005FF0. -/
theorem test_sem_orphan :
    let s := st [(A.CORE_STAT, 0x2AA), (A.SEM 5, 0x2F2)]
    (∃ t, exec (.semAcquire 3 5 .word false) s = .next t ∧ t.semRead 3 5 = 0x2235#32) ∧
    (∃ t, exec (.semReleaseRepaired 3 5 .word) (st [(A.CORE_STAT, 0x2AA), (A.SEM 5, 0x235)]) = .next t ∧ t.semRead 3 5 = 0x5FF0#32) := by
  refine ⟨⟨_, rfl, ?_⟩, ⟨_, rfl, ?_⟩⟩ <;> decide

/-- 04, Tables CTR-11 and CTR-12: with the bounds 0xA00 and 0xB40 the next step moves leg A from 0xC80 to 0xB40. -/
theorem test_loop_narrowed :
    let s := { st [(loopLoA .pwm 1, 0xA00), (loopHiA .pwm 1, 0xB40), (loopA .pwm 1, 1)] with
      elems := [((loopA .pwm 1) * 256, 0xC80)], loops := [(loopA .pwm 1, { mode := 1 })] }
    ∃ t, exec (.loopStep .pwm 1 0) s = .next t ∧ t.elem .pwm 1 0 = 0xB40 := by
  refine ⟨_, rfl, ?_⟩; decide

/-- 09: flow 2,470, open for 1,156,632 ticks, opening delay 3,200 and closing delay 600 are 65,000 units of 0.1 µg. -/
theorem test_fuel_mass : fuelMass 2470 1156632 3200 600 = 65000 ∧ fuelMass 2470 1156632 3225 600 = 64938 := by decide

/-- 10, Table PST-16: the step is -24 rpm. -/
theorem test_egv_step : -(roundDiv (20 * 200 * (84000 - 83000)) (84000 + 83000)) = -24 := by decide

/-- 11: CP_SET 160 asks for a duty of 26,667, the 20 A cable caps it at 33,333, and 63 A is 89,200. -/
theorem test_pilot_duty : ampsDuty 160 = 26667 ∧ ampsDuty 200 = 33333 ∧ ampsDuty 630 = 89200 := by decide

/-- 13: the worked calendar. -/
def workedCal : List Byte :=
  [9#8, 0#8, 0#8, 0#8, 1#8, 4#8, 0#8, 0#8] ++ zeros 8 ++ [1#8, 1#8, 0#8, 0#8] ++
    (List.range 3).flatMap (fun _ => [0#8, 0#8, 0xFF#8, 0#8]) ++ [1#8, 1#8, 1#8, 1#8, 1#8, 0#8, 0#8, 0#8] ++ zeros 56 ++
    natLe 2 0 ++ List.replicate 22 0xFF#8 ++ natLe 2 0 ++ natLe 2 0x9A4 ++ natLe 2 0x528 ++ List.replicate 18 0xFF#8 ++ zeros 336 ++
    [0x0C#8, 0x19#8, 0xFF#8, 0#8] ++ zeros 252

/-- 13, Table BIL-13: tariff T2 begins at 06:00 calendar time on Tuesday 5 March 2024. -/
theorem test_tariff_weekday :
    (chooseTariff workedCal (tariffTime workedCal 762933599)).tariff = 0 ∧
    (chooseTariff workedCal (tariffTime workedCal 762933600)).tariff = 1 := by decide

/-- 13, Table BIL-13: Christmas is T1 all day, and the night of 31 December is a Wednesday in tariff time. -/
theorem test_tariff_special :
    (chooseTariff workedCal (tariffTime workedCal 788436000)).tariff = 0 ∧
    (chooseTariff workedCal (tariffTime workedCal 789003000)).tariff = 0 := by decide

/-- 19: the reset value of CAN_NBT encodes 250 kbit/s, 0x00F1E7C3. -/
theorem test_reset_can_nbt : regReset 1 (Win.can0.base + 0x004) = 0x00F1E7C3#32 := by decide

/-! ## Standards the spec names -/

/-- FIPS 180-4: SHA-256 of "abc". -/
theorem test_sha256_abc : shaHash sha256 [0x61#8, 0x62#8, 0x63#8] =
    natBe 32 0xba7816bf8f01cfea414140de5dae2223b00361a396177a9cb410ff61f20015ad := by decide

/-- FIPS 197, appendix C.1: AES-128. -/
theorem test_aes128 : aes (natBe 16 0x000102030405060708090a0b0c0d0e0f) (natBe 16 0x00112233445566778899aabbccddeeff) =
    natBe 16 0x69c4e0d86a7b0430d8cdb78070b4c55a := by decide

end Sys2Proof.Tests
end

section
/-! SUPPORT. Events and locks (03): which pending bits an assertion sets, what the writes of the event router, the semaphores and
the mailboxes do, and the statements about them. -/
namespace Sys2Proof.Proofs.EventsAndLocks
open Sys2Proof Sys2Proof.Machine

/-- A command whose meaning computes `t`, the ordering option and the queue as they were, answers `t`. -/
theorem exec_next {i : Instr} {f : State → State} {s t : State} (hi : exec i s = act f s) (hf : f s = t)
    (ho : t.opt = s.opt) (hp : t.pending = s.pending) : exec i s = .next t := by
  subst hf
  exact hi.trans (act_of ho hp)

/-! ## Banked registers -/

/-- No two cores' copies of banked registers share a key. -/
theorem bankKey_eq_iff {c c' a a' : Nat} (ha : a < 0x100000000) (ha' : a' < 0x100000000) :
    bankKey c a = bankKey c' a' ↔ c = c' ∧ a = a' := by
  unfold bankKey; omega

theorem pendAddr_lt {n : Nat} (h : n < 1216) : pendAddr n < 0x100000000 := by
  simp only [pendAddr, A.EVR_PEND]; omega

theorem pendAddr_ne_miss (n : Nat) : pendAddr n ≠ A.EVR_MISS := by
  simp only [pendAddr, A.EVR_PEND, A.EVR_MISS]; omega

/-! ## What an assertion sets pending (R114, R119, R124) -/

/-- Core `c` hears source `n`: the source may assert, its route names the core, and the core is not in reset. -/
def hears (s : State) (n c : Nat) : Bool :=
  s.sourceLive n && decide (c < 7) && bit (s.route n) c && decide (2 ≤ s.coreState c)

/-- Who hears an event depends on the routes, the power domains and the cores' states alone. -/
theorem hears_congr {s t : State} (ho : t.opt = s.opt) (hr : t.routes = s.routes) (hp : t.reg A.PWR_STAT = s.reg A.PWR_STAT)
    (hc : t.reg A.CORE_STAT = s.reg A.CORE_STAT) (n c : Nat) : hears t n c = hears s n c := by
  have hl : t.sourceLive n = s.sourceLive n := by
    unfold State.sourceLive
    cases ownerOf n <;> simp [State.live, State.present, State.domOn, State.flag, ho, hp]
  have hroute : t.route n = s.route n := by rw [State.route, hr, State.route]
  have hstate : t.coreState c = s.coreState c := by rw [State.coreState, State.field, hc, State.coreState, State.field]
  simp only [hears, hl, hroute, hstate]

/-- One bank records an assertion: only the source's own bit changes, beside EVR_MISS. -/
theorem bankAssert_pending (s : State) (n : Nat) (bank : Tab Word) (c' c a i : Nat) (hn : n < 1216) (ha : a < 0x100000000)
    (hm : a ≠ A.EVR_MISS) :
    bit ((s.bankAssert n bank c').get (fun _ => 0#32) (bankKey c a)) i =
      (bit (bank.get (fun _ => 0#32) (bankKey c a)) i ||
        (bit (s.route n) c' && decide (2 ≤ s.coreState c') && decide (c = c' ∧ a = pendAddr n ∧ i = n % 32))) := by
  have hmiss : bankKey c a ≠ bankKey c' A.EVR_MISS := fun h => hm ((bankKey_eq_iff ha (by decide)).mp h).2
  have hpend := bankKey_eq_iff (c := c) (c' := c') ha (pendAddr_lt hn)
  have h32 : n % 32 < 32 := Nat.mod_lt _ (by decide)
  unfold State.bankAssert
  by_cases hr : (bit (s.route n) c' && decide (2 ≤ s.coreState c')) = true
  · simp only [hr, if_true]
    by_cases hk : bankKey c a = bankKey c' (pendAddr n)
    · obtain ⟨rfl, rfl⟩ := hpend.mp hk
      split
      · next hset =>
        rw [Tab.get_set_ne _ _ _ hmiss]
        by_cases hi : i = n % 32
        · simp [hi, hset]
        · simp [hi]
      · simp [h32]
    · have hne : ¬ (c = c' ∧ a = pendAddr n ∧ i = n % 32) := fun h => hk (hpend.mpr ⟨h.1, h.2.1⟩)
      split
      · rw [Tab.get_set_ne _ _ _ hmiss]; simp [hne]
      · rw [Tab.get_set_ne _ _ _ hk]; simp [hne]
  · simp [hr]

/-- The cores of a list record an assertion. -/
theorem bankAssert_foldl_pending (s : State) (n c a i : Nat) (hn : n < 1216) (ha : a < 0x100000000) (hm : a ≠ A.EVR_MISS)
    (cs : List Nat) (bank : Tab Word) :
    bit ((cs.foldl (s.bankAssert n) bank).get (fun _ => 0#32) (bankKey c a)) i =
      (bit (bank.get (fun _ => 0#32) (bankKey c a)) i ||
        (decide (c ∈ cs) && bit (s.route n) c && decide (2 ≤ s.coreState c) && decide (a = pendAddr n ∧ i = n % 32))) := by
  induction cs generalizing bank with
  | nil => simp
  | cons c' cs ih =>
    rw [List.foldl_cons, ih, bankAssert_pending s n bank c' c a i hn ha hm]
    by_cases h : c = c'
    · subst h; cases decide (c ∈ cs) <;> simp
    · simp [h]

/-- The banked registers after an assertion, bit by bit: the source is pending in every bank that hears it, and nothing else has
changed but EVR_MISS. -/
theorem raise_pending (s : State) {n a : Nat} (c i : Nat) (hn : n < 1216) (ha : a < 0x100000000) (hm : a ≠ A.EVR_MISS) :
    bit ((s.raise n).banked c a) i = (bit (s.banked c a) i || (hears s n c && decide (a = pendAddr n ∧ i = n % 32))) := by
  unfold State.raise hears State.banked
  split
  · next hl => simp only [bankAssert_foldl_pending s n c a i hn ha hm, List.mem_range, hl, Bool.true_and]
  · next hl => simp [hl]

theorem hears_raise (s : State) (m n c : Nat) : hears (s.raise m) n c = hears s n c :=
  hears_congr (by simp) (by simp) (by simp) (by simp) n c

/-- The banked registers after several assertions, bit by bit. -/
theorem raiseAll_pending (s : State) {l : List Nat} {a : Nat} (c i : Nat) (hl : ∀ n ∈ l, n < 1216) (ha : a < 0x100000000)
    (hm : a ≠ A.EVR_MISS) :
    bit ((s.raiseAll l).banked c a) i =
      (bit (s.banked c a) i || l.any (fun n => hears s n c && decide (a = pendAddr n ∧ i = n % 32))) := by
  induction l generalizing s with
  | nil => simp [State.raiseAll]
  | cons n l ih =>
    have hcons : s.raiseAll (n :: l) = (s.raise n).raiseAll l := rfl
    rw [hcons, ih (s.raise n) (fun k hk => hl k (List.mem_cons_of_mem n hk)),
      raise_pending s c i (hl n List.mem_cons_self) ha hm]
    simp [hears_raise, Bool.or_assoc]

/-- `t` holds the banks that assertions leave in `r`, a state whose cores hear as those of `s` do: each asserted source has been
heard. -/
theorem heard_of_raiseAll {s r t : State} {l : List Nat} {n : Nat} (hl : ∀ k ∈ l, k < 1216) (hn : n ∈ l)
    (hr : ∀ c, hears r n c = hears s n c) (ht : t.bank = (r.raiseAll l).bank) : Heard n s t := by
  intro hlive c hc hroute hstate
  have hbank : t.banked c (pendAddr n) = (r.raiseAll l).banked c (pendAddr n) := by rw [State.banked, ht, State.banked]
  rw [hbank, raiseAll_pending r c _ hl (pendAddr_lt (hl n hn)) (pendAddr_ne_miss n), Bool.or_eq_true, List.any_eq_true]
  refine .inr ⟨n, hn, ?_⟩
  rw [hr]
  simp [hears, hlive, hc, hroute, hstate]

/-- Assertions leave every banked register but EVR_MISS and the words of their own pending bits. -/
theorem banksSame_of_raiseAll {s r t : State} {l ns : List Nat} (hl : ∀ k ∈ l, k < 1216)
    (hns : ∀ k ∈ l, ∃ n ∈ ns, pendAddr n = pendAddr k) (hr : r.bank = s.bank) (ht : t.bank = (r.raiseAll l).bank) :
    BanksSame ns s t := by
  intro c a ha hm hne
  have hnone (i : Nat) : l.any (fun n => hears r n c && decide (a = pendAddr n ∧ i = n % 32)) = false := by
    refine List.any_eq_false.mpr fun k hk => ?_
    obtain ⟨n, hn, hnk⟩ := hns k hk
    have hak : a ≠ pendAddr k := hnk ▸ hne n hn
    simp [hak]
  calc t.banked c a = (r.raiseAll l).banked c a := by rw [State.banked, ht, State.banked]
    _ = r.banked c a := BitVec.eq_of_getLsbD_eq fun i _ => by
        refine (raiseAll_pending r c i hl ha hm).trans ?_
        rw [hnone, Bool.or_false]
        rfl
    _ = s.banked c a := by rw [State.banked, hr, State.banked]

/-- Raising the sources `g c` of those elements `c` of a list that `p` holds for. -/
theorem foldl_raise_if (p : Nat → Bool) (g : Nat → Nat) (l : List Nat) (s : State) :
    l.foldl (fun s c => if p c then s.raise (g c) else s) s = s.raiseAll ((l.filter p).map g) := by
  rw [State.raiseAll, List.foldl_map, List.foldl_filter]

/-! ## EVR_ACK and EVR_SWEV (R128, R130) -/

/-- A write of EVR_ACK that reaches it acknowledges the source number it names. -/
theorem busWrite_evrAck {s : State} {m : Nat} (h : s.Unhindered .evr m A.EVR_ACK) (size : Nat) (v : Word) :
    busWrite m A.EVR_ACK size v s = s.evrAck m (fld (BusW.mk m A.EVR_ACK size v).full 0 11) := by
  have ho : A.EVR_ACK % 0x1000 - A.EVR_ACK % 4 = 0x028 := by decide
  have hpd : isPd (A.EVR_ACK - A.EVR_ACK % 4) = false := by decide
  rw [busWrite_rw (w := .evr) rfl (by decide) rfl rfl h]
  simp [State.rwEffect, State.rwSystem, BusW.ra, BusW.o, ho, hpd]

/-- A write of EVR_SWEV that reaches it raises the software events it names. -/
theorem busWrite_evrSwev {s : State} {m : Nat} (h : s.Unhindered .evr m A.EVR_SWEV) (size : Nat) (v : Word) :
    busWrite m A.EVR_SWEV size v s = s.swev (BusW.mk m A.EVR_SWEV size v).full := by
  have ho : A.EVR_SWEV % 0x1000 - A.EVR_SWEV % 4 = 0x010 := by decide
  have hpd : isPd (A.EVR_SWEV - A.EVR_SWEV % 4) = false := by decide
  rw [busWrite_rw (w := .evr) rfl (by decide) rfl rfl h]
  simp [State.rwEffect, State.rwSystem, BusW.ra, BusW.o, ho, hpd]

/-- A core's acknowledgement clears one bit of its own bank. -/
theorem evrAck_of_core {s : State} {c n : Nat} (hn : n ≤ 1215) (hc : c ≤ 6) :
    s.evrAck c n = s.setBanked c (pendAddr n) (s.banked c (pendAddr n) &&& ~~~ (bitMask (n % 32))) :=
  if_pos ⟨hn, hc⟩

/-- Clearing a bit that is clear changes nothing. -/
theorem clear_bitMask_of_bit_false {w : Word} {i : Nat} (hi : i < 32) (h : bit w i = false) : w &&& ~~~ (bitMask i) = w := by
  refine BitVec.eq_of_getLsbD_eq fun j _ => (bit_clear_bitMask w i j hi).trans ?_
  by_cases hj : j = i
  · subst hj; simp only [ne_eq, not_true_eq_false, decide_false, Bool.and_false]; exact h.symm
  · simp [hj, bit]

/-- Settles O55: an acknowledgement clears one bit of the writing core's bank, and a clear bit stays as it is. -/
theorem evrAckRule : Obligations.EvrAckRule := by
  unfold Obligations.EvrAckRule
  refine ⟨fun s m z v h hm hn => ?_, fun s m z v h hm hn hclear => ?_, fun s m z v h hn => ?_⟩
  all_goals
    have hw := busWrite_evrAck h z.bytes v
    generalize fld (BusW.mk m A.EVR_ACK z.bytes v).full 0 11 = n at *
  · rw [evrAck_of_core hn hm] at hw
    have hlt := pendAddr_lt (Nat.lt_succ_of_le hn)
    refine ⟨_, exec_next rfl hw rfl rfl, by simp, fun c hc => ?_, fun c a ha hne => ?_, rfl⟩
    · rw [State.setBanked_banked, if_neg (fun he => hc ((bankKey_eq_iff hlt hlt).mp he).1)]
    · rw [State.setBanked_banked, if_neg (fun he => hne ((bankKey_eq_iff ha hlt).mp he).2)]
  · rw [evrAck_of_core hn hm, clear_bitMask_of_bit_false (Nat.mod_lt _ (by decide)) hclear] at hw
    refine ⟨_, exec_next rfl hw rfl rfl, fun c a => ?_, rfl⟩
    rw [State.setBanked_banked]
    split
    · next he => simp only [State.banked, he]
    · rfl
  · have hs : s.evrAck m n = s := if_neg (fun hle => absurd hle.1 (by omega))
    exact ⟨_, exec_next rfl (hw.trans hs) rfl rfl, rfl⟩

/-- The sources of the software events that a word names. -/
def swevSources (mask : Word) : List Nat := ((List.range 16).filter (bit mask)).map (72 + ·)

theorem mem_swevSources {mask : Word} {k : Nat} : k ∈ swevSources mask ↔ ∃ n, n < 16 ∧ bit mask n = true ∧ 72 + n = k := by
  simp [swevSources, and_assoc]

theorem swev_eq_raiseAll (s : State) (mask : Word) : s.swev mask = s.raiseAll (swevSources mask) := foldl_raise_if _ _ _ s

/-- A load of EVR_SWEV by a master that may make it answers 0 and changes nothing else. -/
theorem coreMemoryAccess_load_evrSwev {s : State} {m : Nat} (h : s.CanRead .evr m)
    (hp : s.pmpAllows m false .load A.EVR_SWEV = true) (hr : s.coreReach m .load (regionOf (s.phys m A.EVR_SWEV)) = true) :
    coreMemoryAccess m .load false A.EVR_SWEV 4 0#32 s = s.answer m 0#32 .ok := by
  have hphys : s.phys m A.EVR_SWEV = A.EVR_SWEV := by simp [State.phys, A.EVR_SWEV]
  have hregion : regionOf A.EVR_SWEV = .window .evr := rfl
  rw [hphys, hregion] at hr
  have hread : busRead m A.EVR_SWEV 4 s = s.answer m 0#32 .ok := by
    have hwin : winOf A.EVR_SWEV = some .evr := rfl
    simp only [busRead, hwin]
    exact (canRead_readAt h A.EVR_SWEV _).trans rfl
  have halign : A.EVR_SWEV % 4 = 0 := rfl
  simp [coreMemoryAccess, coreAccess, h.1, halign, hp, hphys, hregion, hr, hread, State.regionOn, State.regionAbsent]

/-- Settles O56: the write raises the sources its bits name one after the other, and a raise sets only its own source's bit. -/
theorem swevRule : Obligations.SwevRule := by
  unfold Obligations.SwevRule
  refine ⟨fun s m z v h => ?_, fun s m h hp hr => ?_⟩
  · have hw := (busWrite_evrSwev h z.bytes v).trans (swev_eq_raiseAll s _)
    generalize (BusW.mk m A.EVR_SWEV z.bytes v).full = mask at *
    have hl : ∀ k ∈ swevSources mask, k < 1216 := fun k hk => by
      obtain ⟨n, hn, -, rfl⟩ := mem_swevSources.mp hk; omega
    refine ⟨_, exec_next rfl hw (by simp) (by simp),
      fun n hn hb => heard_of_raiseAll hl (mem_swevSources.mpr ⟨n, hn, hb, rfl⟩) (fun _ => rfl) rfl, fun n c hn hb => ?_,
      banksSame_of_raiseAll hl (fun k hk => ?_) rfl rfl, State.raiseAll_eq s _⟩
    · rw [raiseAll_pending s c _ hl (pendAddr_lt (by omega)) (pendAddr_ne_miss _), Bool.or_eq_left_iff_imp, List.any_eq_true]
      rintro ⟨k, hk, hkn⟩
      obtain ⟨j, hj, hbj, rfl⟩ := mem_swevSources.mp hk
      simp only [Bool.and_eq_true, decide_eq_true_eq] at hkn
      obtain rfl : n = j := by omega
      simp [hb] at hbj
    · obtain ⟨n, hn, -, rfl⟩ := mem_swevSources.mp hk
      exact ⟨72, List.mem_singleton_self 72, by simp only [pendAddr]; congr 1; omega⟩
  · refine ⟨_, exec_next rfl (coreMemoryAccess_load_evrSwev h hp hr) rfl rfl, by simp, fun m' hm' => ?_, rfl⟩
    rw [State.answer_port, if_neg (fun he => hm' (List.mem_singleton.mpr he))]

/-! ## The fields of a semaphore (Table EVL-12) -/

/-- The fields are small enough for their places in the register. -/
def SemFits (x : Sem) : Prop := x.state < 4 ∧ x.owner < 16 ∧ x.prev < 16 ∧ x.waiters < 16

theorem sem_fits (s : State) (n : Nat) : SemFits (s.sem n) := ⟨fld_lt _ 0 2, fld_lt _ 4 4, fld_lt _ 8 4, fld_lt _ 16 4⟩

/-- Reading a semaphore whose register holds the word of `x`. -/
theorem sem_of_reg {t : State} {n : Nat} {x : Sem} (hx : SemFits x) (h : t.reg (A.SEM n) = x.word) : t.sem n = x := by
  obtain ⟨hstate, howner, hprev, hwaiters⟩ := hx
  simp (disch := omega) only [State.sem, h, Sem.word, fld_setFld_same, fld_setFld_disjoint, fld_setBit_out, bit_setFld_out,
    bit_setBit, if_true, Nat.mod_eq_of_lt]

/-! ## Semaphore commands (R136 to R140) -/

@[simp] theorem setSemResult_semResult (s : State) (n m r : Nat) : (s.setSemResult n m r).semResult n m = r :=
  Tab.get_set_same _ _ _ _

@[simp] theorem setSemResult_reg (s : State) (n m r a : Nat) : (s.setSemResult n m r).reg a = s.reg a := rfl

/-- A word command of a core on a semaphore that reaches it has its effect. -/
theorem semCmd_of_core {s : State} {m n : Nat} (h : s.Unhindered .sem m (A.SEM n)) (hm : m < 4) (eff : State → State) :
    s.semCmd m n 4 eff = eff s := by
  rw [State.semCmd, unhindered_plainWrite h]
  simp [show ¬ 4 ≤ m by omega]

/-- The register of SEM_ORPH that shows semaphore `n`. -/
abbrev orphAddr (n : Nat) : Nat := if n < 32 then A.SEM_ORPH0 else A.SEM_ORPH1

theorem sem_addresses_differ {n : Nat} (h : n < 64) :
    A.SEM n ≠ orphAddr n ∧ A.SEM n ≠ A.SEM_STAT ∧ orphAddr n ≠ A.SEM_STAT ∧
      (orphAddr n = A.SEM_ORPH0 ∨ orphAddr n = A.SEM_ORPH1) := by
  unfold orphAddr
  simp only [A.SEM, A.SEM_ORPH0, A.SEM_ORPH1, A.SEM_STAT]
  split <;> omega

/-- A semaphore's new state and its orphan bit in the registers, before anything is raised. -/
def semStored (s : State) (n : Nat) (x : Sem) : State :=
  let s1 := (s.setReg (A.SEM n) x.word).syncOrph n
  if x.state = 2 then s1.setBitReg A.SEM_STAT 1 else s1

/-- What a semaphore that becomes FREE or ORPHANED raises: SEM_ORPHANED, and SEM_AVAIL of each waiter (R139). -/
def semSources (x : Sem) : List Nat :=
  (if x.state = 2 then [116] else []) ++ ((List.range 4).filter x.waiters.testBit).map (112 + ·)

theorem semSources_lt (x : Sem) : ∀ k ∈ semSources x, k < 1216 := by
  intro k hk
  simp only [semSources, List.mem_append, List.mem_map, List.mem_filter, List.mem_range] at hk
  rcases hk with hk | ⟨c, ⟨hc, -⟩, rfl⟩
  · split at hk
    · rw [List.mem_singleton.mp hk]; decide
    · cases hk
  · omega

theorem semStored_frame (s : State) (n : Nat) (x : Sem) : semStored s n x = { s with regs := (semStored s n x).regs } := by
  unfold semStored; split <;> rfl

theorem semStored_reg (s : State) {n : Nat} {x : Sem} (hn : n < 64) (hx : SemFits x) (a : Nat) :
    (semStored s n x).reg a =
      if a = A.SEM n then x.word else if a = orphAddr n then setBit (s.reg a) (n % 32) (x.state == 2)
      else if a = A.SEM_STAT ∧ x.state = 2 then s.reg a ||| bitMask 1 else s.reg a := by
  obtain ⟨horph, hstat, hos, -⟩ := sem_addresses_differ hn
  have hsem : (s.setReg (A.SEM n) x.word).sem n = x := sem_of_reg hx (by simp)
  have hsync : (s.setReg (A.SEM n) x.word).syncOrph n =
      (s.setReg (A.SEM n) x.word).modReg (orphAddr n) (fun w => setBit w (n % 32) (x.state == 2)) := by
    simp only [State.syncOrph, hsem]
  unfold semStored
  rw [hsync]
  by_cases h1 : a = A.SEM n
  · subst h1; split <;> simp [horph, hstat]
  · by_cases h2 : a = orphAddr n
    · subst h2; split <;> simp [horph.symm, hos]
    · by_cases h3 : a = A.SEM_STAT
      · subst h3; split <;> simp_all [hos.symm, hstat.symm]
      · split <;> simp [h1, h2, h3]

/-- A semaphore that becomes FREE or ORPHANED: its fields are stored, its events raised and its waiters forgotten. -/
theorem putSem_eq (s : State) {n : Nat} {x : Sem} (hn : n < 64) (hx : SemFits x) (h1 : x.state ≠ 1) :
    s.putSem n x = ((semStored s n x).raiseAll (semSources x)).setReg (A.SEM n) { x with waiters := 0 }.word := by
  have hput : s.putSem n x = ((semStored s n x).raiseAll (if x.state = 2 then [116] else [])).semAvail n := by
    simp only [State.putSem, semStored, h1, if_false]
    split <;> rfl
  have hsem : ((semStored s n x).raiseAll (if x.state = 2 then [116] else [])).sem n = x :=
    sem_of_reg hx (by simp [semStored_reg s hn hx])
  rw [hput, State.semAvail, hsem]
  simp only [foldl_raise_if]
  rw [semSources, State.raiseAll, State.raiseAll, State.raiseAll, List.foldl_append]

theorem putSem_reg (s : State) {n : Nat} {x : Sem} (hn : n < 64) (hx : SemFits x) (h1 : x.state ≠ 1) (a : Nat) :
    (s.putSem n x).reg a =
      if a = A.SEM n then { x with waiters := 0 }.word else if a = orphAddr n then setBit (s.reg a) (n % 32) (x.state == 2)
      else if a = A.SEM_STAT ∧ x.state = 2 then s.reg a ||| bitMask 1 else s.reg a := by
  rw [putSem_eq s hn hx h1, State.setReg_reg, State.raiseAll_reg, semStored_reg s hn hx]
  split <;> rfl

/-- The semaphore afterwards. -/
theorem putSem_sem (s : State) {n : Nat} {x : Sem} (hn : n < 64) (hx : SemFits x) (h1 : x.state ≠ 1) :
    (s.putSem n x).sem n = { x with waiters := 0 } :=
  sem_of_reg ⟨hx.1, hx.2.1, hx.2.2.1, show 0 < 16 by decide⟩ ((putSem_reg s hn hx h1 _).trans (if_pos rfl))

/-- A semaphore put and a RESULT recorded: only registers, pending bits, the waits that listen and the RESULTs can change. -/
theorem putSem_setSemResult_frame (s : State) {n : Nat} {x : Sem} (hn : n < 64) (hx : SemFits x) (h1 : x.state ≠ 1)
    {t : State} {m r : Nat} (ht : t = (s.putSem n x).setSemResult n m r) :
    t = { s with regs := t.regs, semRes := t.semRes, bank := t.bank, waitHits := t.waitHits } := by
  rw [ht, putSem_eq s hn hx h1, State.raiseAll_eq, semStored_frame]
  rfl

/-- The registers of the other semaphores and mailboxes, and SEM_STAT unless the semaphore becomes ORPHANED, are as they were. -/
theorem putSem_regsSame (s : State) {n : Nat} {x : Sem} {ks : List Nat} (hn : n < 64) (hx : SemFits x) (h1 : x.state ≠ 1)
    (hks : [A.SEM n, A.SEM_ORPH0, A.SEM_ORPH1] ⊆ ks) (hstat : x.state = 2 → A.SEM_STAT ∈ ks) : RegsSame ks s (s.putSem n x) := by
  intro a ha
  obtain ⟨-, -, -, horph⟩ := sem_addresses_differ hn
  have hne : ∀ b ∈ [A.SEM n, A.SEM_ORPH0, A.SEM_ORPH1], a ≠ b := fun b hb hab => ha (hab ▸ hks hb)
  have h2 : a ≠ orphAddr n := by rcases horph with h | h <;> rw [h] <;> exact hne _ (by simp)
  have h3 : ¬ (a = A.SEM_STAT ∧ x.state = 2) := fun h => ha (h.1 ▸ hstat h.2)
  rw [putSem_reg s hn hx h1, if_neg (hne _ (by simp)), if_neg h2, if_neg h3]

/-- A semaphore that becomes ORPHANED raises SEM_ORPHANED. -/
theorem putSem_orphaned_heard (s : State) {n : Nat} {x : Sem} (hn : n < 64) (hx : SemFits x) (h2 : x.state = 2) :
    Heard 116 s (s.putSem n x) := by
  have hkept (a : Nat) (ha : a < 0x40004000) : (semStored s n x).reg a = s.reg a := by
    have h : a ≠ A.SEM n ∧ a ≠ orphAddr n ∧ a ≠ A.SEM_STAT := by
      unfold orphAddr
      simp only [A.SEM, A.SEM_ORPH0, A.SEM_ORPH1, A.SEM_STAT]
      split <;> omega
    simp [semStored_reg s hn hx, h]
  refine heard_of_raiseAll (r := semStored s n x) (semSources_lt x) (by simp [semSources, h2]) (fun c => ?_)
    (by rw [putSem_eq s hn hx (by omega), State.setReg_bank])
  exact hears_congr (by rw [semStored_frame]) (by rw [semStored_frame]) (hkept _ (by decide)) (hkept _ (by decide)) 116 c

/-- ACQUIRE of a FREE semaphore. -/
theorem semAcquire_free {s : State} {m n : Nat} (h : s.Unhindered .sem m (A.SEM n)) (hm : m < 4) (hfree : (s.sem n).state = 0)
    (wait : Bool) :
    semAcquire m n 4 wait s =
      (s.setReg (A.SEM n) { s.sem n with state := 1, repair := false, owner := m }.word).setSemResult n m 1 := by
  rw [semAcquire, semCmd_of_core h hm]
  simp [hfree]

/-- ACQUIRE without WAIT of a semaphore that another core owns. -/
theorem semAcquire_held {s : State} {m n : Nat} (h : s.Unhindered .sem m (A.SEM n)) (hm : m < 4) (hheld : (s.sem n).state = 1)
    (howner : (s.sem n).owner ≠ m) : semAcquire m n 4 false s = s.setSemResult n m 3 := by
  rw [semAcquire, semCmd_of_core h hm]
  simp [hheld, howner]

/-- RELEASE by the owner of a semaphore that was not taken for repair. -/
theorem semRelease_owner {s : State} {m n : Nat} (h : s.Unhindered .sem m (A.SEM n)) (hm : m < 4) (hheld : (s.sem n).state = 1)
    (howner : (s.sem n).owner = m) (hrepair : (s.sem n).repair = false) :
    semRelease m n 4 s = (s.putSem n { s.sem n with state := 0, owner := 0xF }).setSemResult n m 5 := by
  rw [semRelease, semCmd_of_core h hm]
  simp [hheld, howner, hrepair]

/-- RELEASE_REPAIRED by the owner. -/
theorem semReleaseRepaired_owner {s : State} {m n : Nat} (h : s.Unhindered .sem m (A.SEM n)) (hm : m < 4)
    (hheld : (s.sem n).state = 1) (howner : (s.sem n).owner = m) :
    semReleaseRepaired m n 4 s =
      (s.putSem n { s.sem n with state := 0, repair := false, owner := 0xF, prev := 0xF }).setSemResult n m 5 := by
  rw [semReleaseRepaired, semCmd_of_core h hm]
  simp [hheld, howner]

/-- FORCE_ORPHAN by H0 of an owned semaphore. -/
theorem semForceOrphan_host {s : State} {m n : Nat} (h : s.Unhindered .sem m (A.SEM n)) (hm : m < 4) (hhost : s.standsFor m = mH0)
    (hheld : (s.sem n).state = 1) :
    semForceOrphan m n 4 s =
      (s.putSem n { s.sem n with state := 2, repair := false, owner := 0xF, prev := (s.sem n).owner }).setSemResult n m 5 := by
  rw [semForceOrphan, semCmd_of_core h hm]
  simp [hheld, hhost]

/-! ## Mailboxes (R141 to R143) -/

/-- A word written by the sender of an empty mailbox fills it. -/
theorem mbxDataWrite_sender {s : State} {m k : Nat} (h : s.Unhindered .sem m (A.MBX_DATA k)) (hset : s.mbxUnset k = false)
    (hm : m = s.mbxSender k) (hempty : s.flag (A.MBX_STAT k) 0 = false) (v : Word) :
    mbxDataWrite m k 4 v s =
      ((s.setReg (A.MBX_DATA k) v).setBitReg (A.MBX_STAT k) 0).raise (96 + k) := by
  rw [mbxDataWrite, unhindered_plainWrite h]
  simp [hset, hempty, ← hm]

/-- A word as a 4-byte write of it presents it. -/
theorem w1cBits_word {a : Nat} (ha : a % 4 = 0) (v : Word) : w1cBits a 4 v = v := by
  refine BitVec.eq_of_getLsbD_eq fun i hi => ?_
  rw [w1cBits, mergeLanes, ha, setFld_getLsbD, if_pos (by omega)]
  simp [hi, BitVec.getLsbD]

/-- A word written to MBX_STAT that reaches it is judged bit by bit. -/
theorem busWrite_mbxStat {s : State} {m : Nat} (k : Fin 8) (h : s.Unhindered .sem m (A.MBX_STAT k)) (v : Word) :
    busWrite m (A.MBX_STAT k) 4 v s = s.mbxStat m k v := by
  have hwin : ∀ k : Fin 8, winOf (A.MBX_STAT k) = some .sem := by decide
  have hacc : ∀ k : Fin 8, (regInfo (A.MBX_STAT k)).map RegInfo.acc = some .w1c := by decide
  have halign : A.MBX_STAT k % 4 = 0 := by simp only [A.MBX_STAT]; omega
  have hpage : A.MBX_STAT k % 0x1000 = 0x208 + 0x10 * k := by simp only [A.MBX_STAT]; omega
  obtain ⟨r, hr, hrw⟩ := Option.map_eq_some_iff.mp (hacc k)
  rw [busWrite_w1c (hwin k) (by omega) (by simpa [halign] using hr) hrw (by simpa [halign] using h)]
  have hgate : ¬ (0x300 ≤ 0x208 + 0x10 * k.val ∧ 0x208 + 0x10 * k.val < 0x380) := by omega
  have hmbx : 0x200 ≤ 0x208 + 0x10 * k.val := by omega
  simp [State.w1cEffect, BusW.o, BusW.idx, BusW.full, hpage, halign, w1cBits_word, hgate, hmbx]

/-- The receiver of a full mailbox empties it. -/
theorem mbxStat_receiver {s : State} {m k : Nat} (hset : s.mbxUnset k = false) (hm : m = s.mbxReceiver k)
    (hfull : s.flag (A.MBX_STAT k) 0 = true) : s.mbxStat m k 1#32 = (s.clrBitReg (A.MBX_STAT k) 0).raise (104 + k) := by
  simp [State.mbxStat, State.mbxClearFull, hset, ← hm, hfull, bit]

/-- The sender of a mailbox clears OVF and DROP. -/
theorem mbxStat_sender {s : State} {m k : Nat} (hset : s.mbxUnset k = false) (hm : m = s.mbxSender k) :
    s.mbxStat m k 6#32 = s.modReg (A.MBX_STAT k) (fun w => w &&& ~~~ 6#32) := by
  simp [State.mbxStat, State.mbxClearSender, hset, ← hm, bit]

/-- An event raised after registers of the semaphore window have changed: who hears it does not depend on those registers. -/
theorem raise_after_semWindow {s r : State} {ks : List Nat} {n : Nat} (hn : n < 1216) (hr : r = { s with regs := r.regs })
    (hs : RegsSame ks s r) (hks : ∀ a ∈ ks, A.SEM 0 ≤ a) :
    Heard n s (r.raise n) ∧ BanksSame [n] s (r.raise n) ∧ RegsSame ks s (r.raise n) ∧
      r.raise n = { s with regs := (r.raise n).regs, bank := (r.raise n).bank, waitHits := (r.raise n).waitHits } := by
  have hl : ∀ k ∈ [n], k < 1216 := fun k hk => List.mem_singleton.mp hk ▸ hn
  have hkept (a : Nat) (ha : a < A.SEM 0) : r.reg a = s.reg a := hs a fun h => absurd (hks a h) (Nat.not_le.mpr ha)
  have hhears (c : Nat) : hears r n c = hears s n c :=
    hears_congr (by rw [hr]) (by rw [hr]) (hkept _ (by decide)) (hkept _ (by decide)) n c
  refine ⟨heard_of_raiseAll hl (List.mem_singleton_self n) hhears rfl,
    banksSame_of_raiseAll hl (fun k hk => ⟨k, hk, rfl⟩) (by rw [hr]) rfl,
    fun a ha => (State.raise_reg r n a).trans (hs a ha), ?_⟩
  rw [State.raise_eq, hr]

/-! ## The statement -/

/-- A command that puts a semaphore's new state and records a RESULT answers with that. -/
theorem exec_putSem {i : Instr} {f : State → State} {s : State} {n m r : Nat} {x : Sem} (hi : exec i s = act f s)
    (hf : f s = (s.putSem n x).setSemResult n m r) (hn : n < 64) (hx : SemFits x) (h1 : x.state ≠ 1) :
    exec i s = .next ((s.putSem n x).setSemResult n m r) :=
  exec_next hi hf (by rw [putSem_setSemResult_frame s hn hx h1 rfl]) (by rw [putSem_setSemResult_frame s hn hx h1 rfl])

/-- Settles O12: each command that reaches its semaphore or mailbox has the one effect of its case. -/
theorem semaphoresAndMailboxes : Obligations.SemaphoresAndMailboxes := by
  unfold Obligations.SemaphoresAndMailboxes
  refine ⟨fun s m n wait h hm hfree => ?_, fun s m n h hm hheld howner => ?_, fun s m n h hm hheld howner hrepair => ?_,
    fun s m n h hm hheld howner => ?_, fun s m n h hm hhost hheld => ?_, fun s m k v h hset hm hempty => ?_,
    fun s m k h hset hm hfull => ?_, fun s m k h hset hm => ?_⟩
  · have hw := semAcquire_free h hm hfree wait
    obtain ⟨-, -, hprev, hwaiters⟩ := sem_fits s n
    generalize s.sem n = x at *
    have hx : SemFits { x with state := 1, repair := false, owner := m } :=
      ⟨show 1 < 4 by decide, Nat.lt_trans hm (by decide), hprev, hwaiters⟩
    have hsem := sem_of_reg (t := s.setReg (A.SEM n) _) hx ((State.setReg_reg _ _ _ _).trans (if_pos rfl))
    exact ⟨_, exec_next rfl hw rfl rfl, congrArg Sem.state hsem, congrArg Sem.owner hsem, congrArg Sem.repair hsem,
      setSemResult_semResult _ _ _ _,
      fun a ha => (setSemResult_reg _ _ _ _ a).trans (State.setReg_reg_ne s _ (List.ne_of_not_mem_cons ha)), rfl⟩
  · exact ⟨_, exec_next rfl (semAcquire_held h hm hheld howner) rfl rfl, setSemResult_semResult _ _ _ _, rfl⟩
  · have hw := semRelease_owner h hm hheld howner hrepair
    obtain ⟨-, -, hprev, hwaiters⟩ := sem_fits s n
    generalize s.sem n = x at *
    have hx : SemFits { x with state := 0, owner := 0xF } := ⟨show 0 < 4 by decide, show 15 < 16 by decide, hprev, hwaiters⟩
    have hsem := putSem_sem s n.isLt hx Nat.zero_ne_one
    exact ⟨_, exec_putSem rfl hw n.isLt hx Nat.zero_ne_one, congrArg Sem.state hsem, congrArg Sem.owner hsem,
      congrArg Sem.waiters hsem, setSemResult_semResult _ _ _ _,
      putSem_regsSame s n.isLt hx Nat.zero_ne_one (List.Subset.refl _) (by simp),
      putSem_setSemResult_frame s n.isLt hx Nat.zero_ne_one rfl⟩
  · have hw := semReleaseRepaired_owner h hm hheld howner
    obtain ⟨-, -, -, hwaiters⟩ := sem_fits s n
    generalize s.sem n = x at *
    have hx : SemFits { x with state := 0, repair := false, owner := 0xF, prev := 0xF } :=
      ⟨show 0 < 4 by decide, show 15 < 16 by decide, show 15 < 16 by decide, hwaiters⟩
    have hsem := putSem_sem s n.isLt hx Nat.zero_ne_one
    exact ⟨_, exec_putSem rfl hw n.isLt hx Nat.zero_ne_one, congrArg Sem.state hsem, congrArg Sem.repair hsem,
      congrArg Sem.prev hsem, setSemResult_semResult _ _ _ _,
      putSem_regsSame s n.isLt hx Nat.zero_ne_one (List.Subset.refl _) (by simp),
      putSem_setSemResult_frame s n.isLt hx Nat.zero_ne_one rfl⟩
  · have hw := semForceOrphan_host h hm hhost hheld
    obtain ⟨-, howner, -, hwaiters⟩ := sem_fits s n
    generalize s.sem n = x at *
    have hx : SemFits { x with state := 2, repair := false, owner := 0xF, prev := x.owner } :=
      ⟨show 2 < 4 by decide, show 15 < 16 by decide, howner, hwaiters⟩
    have h1 : 2 ≠ 1 := by decide
    have hsem := putSem_sem s n.isLt hx h1
    refine ⟨_, exec_putSem rfl hw n.isLt hx h1, congrArg Sem.state hsem, congrArg Sem.prev hsem, ?_,
      putSem_orphaned_heard s n.isLt hx rfl,
      putSem_regsSame s n.isLt hx h1 (fun a ha => List.mem_append_left [A.SEM_STAT] ha) (by simp),
      putSem_setSemResult_frame s n.isLt hx h1 rfl⟩
    rw [setSemResult_reg, putSem_reg s n.isLt hx h1, if_neg (sem_addresses_differ n.isLt).1.symm, if_pos rfl,
      bit_setBit _ _ _ _ (Nat.mod_lt _ (by decide)), if_pos rfl]
    rfl
  · have hw := mbxDataWrite_sender h hset hm hempty v
    have hregs : RegsSame [A.MBX_DATA k, A.MBX_STAT k] s ((s.setReg (A.MBX_DATA k) v).setBitReg (A.MBX_STAT k) 0) := fun a ha => by
      have hdata : a ≠ A.MBX_DATA k := List.ne_of_not_mem_cons ha
      have hstat : a ≠ A.MBX_STAT k := List.ne_of_not_mem_cons (List.not_mem_of_not_mem_cons ha)
      rw [State.setBitReg_reg, if_neg hstat, State.setReg_reg_ne s v hdata]
    exact ⟨_, exec_next rfl hw (by simp) (by simp), by simp, by simp [State.flag],
      raise_after_semWindow (by omega) rfl hregs (by simp [A.SEM, A.MBX_DATA, A.MBX_STAT]; omega)⟩
  · have hw := (busWrite_mbxStat k h 1#32).trans (mbxStat_receiver hset hm hfull)
    have hregs : RegsSame [A.MBX_STAT k] s (s.clrBitReg (A.MBX_STAT k) 0) := fun a ha => by
      rw [State.clrBitReg_reg, if_neg (List.ne_of_not_mem_cons ha)]
    exact ⟨_, exec_next rfl hw (by simp) (by simp), by simp [State.flag],
      raise_after_semWindow (by omega) rfl hregs (by simp [A.SEM, A.MBX_STAT]; omega)⟩
  · have hw := (busWrite_mbxStat k h 6#32).trans (mbxStat_sender hset hm)
    refine ⟨_, exec_next rfl hw rfl rfl, by simp, fun a ha => ?_, rfl⟩
    rw [State.modReg_reg, if_neg (List.ne_of_not_mem_cons ha)]

end Sys2Proof.Proofs.EventsAndLocks
end

section
/-! SUPPORT. Adaptive loops, fairness slots and telemetry (04): what a step and a write of a loop do, what the telemetry unit's commands
do, and the statements about them. -/
namespace Sys2Proof.Proofs.SharedContracts
open Sys2Proof Sys2Proof.Machine Sys2Proof.Proofs.EventsAndLocks

/-- A command whose meaning computes `t`, which differs from `s` in what `r` names, answers `t`. -/
theorem exec_framed {i : Instr} {f : State → State} {s t r : State} (hi : exec i s = act f s) (hf : f s = t) (ht : t = r)
    (ho : r.opt = s.opt) (hp : r.pending = s.pending) : exec i s = .next t :=
  exec_next hi hf ((congrArg State.opt ht).trans ho) ((congrArg State.pending ht).trans hp)

/-! ## The register window of a loop (Tables CTR-2 and CTR-5) -/

theorem loopDef_eq_some {w : Win} {n : Nat} {l : LoopDef} (h : loopDef w n = some l) : l ∈ loopDefs ∧ l.win = w ∧ l.n = n := by
  have hp := List.find?_some h
  simp only [Bool.and_eq_true, decide_eq_true_eq, beq_iff_eq] at hp
  exact ⟨List.mem_of_find?_eq_some h, hp.1, hp.2⟩

/-- The window of an address inside it. -/
theorem winOf_base_add (w : Win) {o : Nat} (h : o < 0x1000) : winOf (w.base + o) = some w := by
  have hcode : winOfCode w.code = some w ∧ w.code ≤ 0xF0 := by cases w <;> decide
  have hdiv : (w.base + o - 0x40000000) / 0x1000 = w.code := by rw [Win.base]; omega
  rw [winOf, if_pos (by rw [Win.base]; omega), hdiv, hcode.1]

/-- The angle window holds one loop. -/
theorem ang_loop_zero {n : Nat} {l : LoopDef} (h : loopDef .ang n = some l) : n = 0 := by
  obtain ⟨hmem, hwin, rfl⟩ := loopDef_eq_some h
  exact (by decide : ∀ l ∈ loopDefs, l.win = .ang → l.n = 0) l hmem hwin

/-- Each of a loop's four registers has its row of the table. -/
theorem regInfo_loop {w : Win} {n : Nat} {l : LoopDef} (h : loopDef w n = some l) {k : Nat} (hk : k < 4) :
    regInfo (loopA w n + 4 * k) = l.rows[k]? := by
  have hrows : ∀ l ∈ loopDefs, ∀ k < 4, regInfo (loopA l.win l.n + 4 * k) = l.rows[k]? := by decide
  obtain ⟨hmem, rfl, rfl⟩ := loopDef_eq_some h
  exact hrows l hmem k hk

/-- Where a byte of a loop's registers lies in its window. -/
theorem loopA_add (w : Win) {n k : Nat} (hn : n < 16) (hk : k < 16) :
    winOf (loopA w n + k) = some w ∧ (loopA w n + k) % 0x1000 = 0x700 + 0x10 * n + k ∧ (loopA w n + k) % 4 = k % 4 := by
  have hwin : winOf (w.base + (0x700 + 0x10 * n + k)) = some w := winOf_base_add w (by omega)
  refine ⟨?_, ?_, ?_⟩
  · rw [← hwin, loopA]; congr 1; omega
  · rw [loopA, Win.base]; omega
  · rw [loopA, Win.base]; omega

/-- A word write of register `k` of a loop of the control die, as the effects of writes take it apart. -/
theorem loopReg_bus {w : Win} {n k : Nat} {l : LoopDef} (h : loopDef w n = some l) (hpd : l.pd = false) (hn : n < 16) (hk : k < 4)
    (m : Nat) (v : Word) :
    isPd (BusW.mk m (loopA w n + 4 * k) 4 v).ra = false ∧ (BusW.mk m (loopA w n + 4 * k) 4 v).lane = 0 ∧
      (BusW.mk m (loopA w n + 4 * k) 4 v).o = 0x700 + 0x10 * n + 4 * k ∧
      (BusW.mk m (loopA w n + 4 * k) 4 v).idx 0x700 0x10 = n ∧ (BusW.mk m (loopA w n + 4 * k) 4 v).full = v := by
  obtain ⟨-, hpage, hlane⟩ := loopA_add w hn (k := 4 * k) (by omega)
  have hra : (BusW.mk m (loopA w n + 4 * k) 4 v).ra = loopA w n + 4 * k := by simp only [BusW.ra]; omega
  have ho : (BusW.mk m (loopA w n + 4 * k) 4 v).o = 0x700 + 0x10 * n + 4 * k := by simp only [BusW.o]; omega
  refine ⟨?_, ?_, ho, ?_, w1cBits_word (by dsimp only; omega) v⟩
  · have hrows : ∀ r ∈ l.rows, r.pd = false := by simp [LoopDef.rows, hpd]
    rw [isPd, hra, regInfo_loop h hk]
    split
    · next r hr => exact hrows r (List.mem_of_getElem? hr)
    · rfl
  · simp only [BusW.lane]; omega
  · rw [BusW.idx, ho]; omega

/-- LOOP_LO is a WP register that holds what is written inside the loop's legal range (R149). -/
theorem loopLo_row {w : Win} {n : Nat} {l : LoopDef} (h : loopDef w n = some l) :
    ∃ r, regInfo (loopLoA w n) = some r ∧ r.acc = .wp ∧ ∀ old v, fld (r.stored old v) 0 16 = clampNat l.lo l.hi (fld v 0 16) := by
  have hrange : ∀ l ∈ loopDefs, l.lo < 2 ^ 16 ∧ l.hi < 2 ^ 16 := by decide
  obtain ⟨hlo, hhi⟩ := hrange l (loopDef_eq_some h).1
  refine ⟨_, regInfo_loop h (k := 1) (by decide), rfl, fun old v => ?_⟩
  have hmask : ∀ i < 16, (wd 0xFFFF).getLsbD (0 + i) = true := by decide
  rw [RegInfo.stored, List.foldl_cons, List.foldl_nil, Fix.apply, fld_merge old v _ 0 16 hmask, fld_setFld_same _ _ _ _ (by decide)]
  exact Nat.mod_eq_of_lt (by rw [clampNat]; omega)

/-- LOOP_CTL holds a written MODE that is not 3 (Table CTR-6). -/
theorem loopCtl_row {w : Win} {n : Nat} {l : LoopDef} (h : loopDef w n = some l) :
    ∃ r, regInfo (loopA w n) = some r ∧ ∀ old v, fld v 0 2 ≠ 3 → fld (r.stored old v) 0 2 = fld v 0 2 := by
  refine ⟨_, regInfo_loop h (k := 0) (by decide), fun old v hv => ?_⟩
  have hmask : ∀ i < 2, (wd 0xFF03).getLsbD (0 + i) = true := by decide
  have hlt : ¬ 3 ≤ fld v 0 2 := by have := fld_lt v 0 2; omega
  rw [RegInfo.stored, List.foldl_cons, List.foldl_nil, Fix.apply, fld_merge old v _ 0 2 hmask, if_neg hlt,
    fld_merge old v _ 0 2 hmask]

/-- A bound written by a pair that is ready has its effect. -/
theorem loopBoundWrite_eq {s : State} {w : Win} {m n : Nat} {v : Word} {l : LoopDef} (h : loopDef w n = some l) (hpd : l.pd = false)
    (hn : n < 16) (hw : s.PairReady w m (loopLoA w n) v) :
    loopWindowWrite m w n 4 4 v s = (s.setComp w none).boundEffect w n false v := by
  obtain ⟨hwin, hpage, hlane⟩ := loopA_add w hn (k := 4) (by decide)
  obtain ⟨hnot, -, ho, hidx, -⟩ := loopReg_bus h hpd hn (k := 1) (by decide) m v
  have ha : loopA w n + 4 - (loopA w n + 4) % 4 = loopLoA w n := by rw [hlane]; rfl
  have hbase : 0x300 ≤ 0x700 + 0x10 * n + 4 ∧ 0x700 ≤ 0x700 + 0x10 * n + 4 ∧ 0x700 + 0x10 * n + 4 ≠ 0x3FC := by omega
  have hlow : ((0x700 + 0x10 * n + 4) % 0x10 == 8) = false := beq_eq_false_iff_ne.mpr (by omega)
  obtain ⟨r, hr, hwp, -⟩ := loopLo_row h
  rw [loopWindowWrite, h, Option.isSome_some, if_pos rfl, busWrite_wp hwin (by omega) (ha.symm ▸ hr) hwp (ha.symm ▸ hw)]
  simp [State.wpEffect, hnot, ho, hidx, hbase, hlow]

/-- A word written to LOOP_CTL (`k` 0) or LOOP_POS (`k` 3) that reaches it is judged there. -/
theorem loopRwWrite_eq {s : State} {w : Win} {m n k : Nat} {v : Word} {l : LoopDef} (h : loopDef w n = some l) (hpd : l.pd = false)
    (hn : n < 16) (hk : k = 0 ∨ k = 3) (hw : s.Unhindered w m (loopA w n + 4 * k)) :
    loopWindowWrite m w n (4 * k) 4 v s =
      if k = 0 then s.loopCtlEffect w n 4 0 v
      else if w = .ang then s.shapePoke (s.field (loopA .ang 0) 8 8) (fld v 0 16) else s.posEffect w n (fld v 0 16) := by
  have hclk : w ≠ .clk := by
    obtain ⟨hmem, rfl, -⟩ := loopDef_eq_some h
    exact (by decide : ∀ l ∈ loopDefs, l.win ≠ .clk) l hmem
  have hk4 : k < 4 := by omega
  obtain ⟨hwin, hpage, hlane⟩ := loopA_add w hn (k := 4 * k) (by omega)
  obtain ⟨hnot, hz, ho, hidx, hfull⟩ := loopReg_bus h hpd hn hk4 m v
  have ha : loopA w n + 4 * k - (loopA w n + 4 * k) % 4 = loopA w n + 4 * k := by omega
  have hbase : 0x300 ≤ 0x700 + 0x10 * n + 4 * k ∧ 0x700 ≤ 0x700 + 0x10 * n + 4 * k ∧
      (0x700 + 0x10 * n + 4 * k) % 0x10 = 4 * k := by omega
  obtain ⟨r, hr, hrw⟩ : ∃ r, l.rows[k]? = some r ∧ r.acc = .rw := by
    rcases hk with rfl | rfl <;> exact ⟨_, rfl, rfl⟩
  rw [loopWindowWrite, h, Option.isSome_some, if_pos rfl,
    busWrite_rw hwin (by omega) (by rw [ha, regInfo_loop h hk4, hr]) hrw (by rwa [ha])]
  have hctl : 4 * k = 0 ↔ k = 0 := by omega
  obtain ⟨hcommon, hloop, hreg⟩ := hbase
  simp only [State.rwEffect, State.rwCommon, hnot, ho, hidx, hfull, hz, hcommon, hloop, hreg, hclk, hctl, ne_eq, not_false_eq_true,
    and_self, if_true, Bool.false_eq_true, if_false]

/-! ## The state of a loop -/

@[simp] theorem setLoop_reg (s : State) (w : Win) (n : Nat) (x : LoopSt) (a : Nat) : (s.setLoop w n x).reg a = s.reg a := rfl

@[simp] theorem setElem_reg (s : State) (w : Win) (n e v a : Nat) : (s.setElem w n e v).reg a = s.reg a := rfl

@[simp] theorem setLoop_loop (s : State) (w : Win) (n : Nat) (x : LoopSt) : (s.setLoop w n x).loop w n = x := Tab.get_set_same _ _ _ _

theorem raiseAll_loop (s : State) (evs : List Nat) (w : Win) (n : Nat) : (s.raiseAll evs).loop w n = s.loop w n := by
  rw [State.loop, State.raiseAll_loops, State.loop]

@[simp] theorem setLoop_elem (s : State) (w : Win) (n : Nat) (x : LoopSt) (e : Nat) : (s.setLoop w n x).elem w n e = s.elem w n e := rfl

@[simp] theorem setElem_elem (s : State) (w : Win) (n e v e' : Nat) :
    (s.setElem w n e v).elem w n e' = if e' = e then v else s.elem w n e' := by
  refine (Tab.get_set _ _ _ _ _).trans ?_
  simp only [Nat.add_left_cancel_iff]
  rfl

/-- All that bringing LOOP_CTL up to date can do: its status bits, the pin history, and the pin event (R152, R153). -/
theorem syncLoop_cases (s : State) (w : Win) (n : Nat) :
    ∃ f, s.syncLoop w n = s.modReg (loopA w n) f ∨ ∃ b c evs, s.syncLoop w n =
      ((s.modReg (loopA w n) f).setLoop w n { s.loop w n with first := b, clearedAt := c }).raiseAll evs := by
  cases hnow : (s.loop w n).pins.head? with
  | none =>
    cases hwas : s.flag (loopA w n) 16 <;> simp only [State.syncLoop, hnow, hwas]
    · exact ⟨_, .inl rfl⟩
    · exact ⟨_, .inr ⟨(s.loop w n).first, s.now, [], rfl⟩⟩
  | some p =>
    cases hwas : s.flag (loopA w n) 16 <;> simp only [State.syncLoop, hnow, hwas]
    · split
      · split
        · exact ⟨_, .inr ⟨false, (s.loop w n).clearedAt, [_], rfl⟩⟩
        · exact ⟨_, .inr ⟨false, (s.loop w n).clearedAt, [], rfl⟩⟩
      · exact ⟨_, .inr ⟨false, (s.loop w n).clearedAt, [], rfl⟩⟩
    · exact ⟨_, .inl rfl⟩

theorem syncLoop_frame (s : State) (w : Win) (n : Nat) :
    s.syncLoop w n = { s with regs := (s.syncLoop w n).regs, loops := (s.syncLoop w n).loops, bank := (s.syncLoop w n).bank,
                              waitHits := (s.syncLoop w n).waitHits } := by
  obtain ⟨f, h | ⟨b, c, evs, h⟩⟩ := syncLoop_cases s w n <;> rw [h]
  · rfl
  · rw [State.raiseAll_eq]; rfl

theorem syncLoop_reg_ne (s : State) (w : Win) (n : Nat) {a : Nat} (h : a ≠ loopA w n) : (s.syncLoop w n).reg a = s.reg a := by
  obtain ⟨f, hs | ⟨b, c, evs, hs⟩⟩ := syncLoop_cases s w n <;> simp [hs, h]

theorem syncLoop_mode (s : State) (w : Win) (n : Nat) : ((s.syncLoop w n).loop w n).mode = (s.loop w n).mode := by
  obtain ⟨f, h | ⟨b, c, evs, h⟩⟩ := syncLoop_cases s w n <;> rw [h]
  · rfl
  · rw [raiseAll_loop, setLoop_loop]

@[simp] theorem syncLoop_elem (s : State) (w : Win) (n e : Nat) : (s.syncLoop w n).elem w n e = s.elem w n e := by
  rw [syncLoop_frame]; rfl

/-! ## Writes of a loop's registers (R149, R155, R157, R158) -/

theorem loop_registers_differ (w : Win) (n : Nat) :
    loopLoA w n ≠ loopA w n ∧ loopHiA w n ≠ loopA w n ∧ loopHiA w n ≠ loopLoA w n := by
  simp only [loopLoA, loopHiA]; omega

theorem store_frame (s : State) (a : Nat) (v : Word) : s.store a v = { s with regs := (s.store a v).regs } := by
  unfold State.store; split <;> rfl

theorem store_reg_ne (s : State) {a b : Nat} (v : Word) (h : b ≠ a) : (s.store a v).reg b = s.reg b := by
  rw [State.store_reg, if_neg h]

theorem mergeLanes_word (old v : Word) : mergeLanes old 0 4 v = v := by
  refine BitVec.eq_of_getLsbD_eq fun i hi => ?_
  rw [mergeLanes, setFld_getLsbD, if_pos (by omega)]
  simp [hi, BitVec.getLsbD]

/-- A lower bound's write changes two registers of the loop, its pins and what pinning raises (R155). -/
theorem boundEffect_low (s : State) (w : Win) (n : Nat) (v : Word) :
    RegsSame [loopLoA w n, loopA w n] s (s.boundEffect w n false v) ∧
      (s.boundEffect w n false v).loopLo w n = (s.store (loopLoA w n) v).loopLo w n ∧
      s.boundEffect w n false v =
        { s with regs := (s.boundEffect w n false v).regs, loops := (s.boundEffect w n false v).loops,
                 bank := (s.boundEffect w n false v).bank, waitHits := (s.boundEffect w n false v).waitHits } := by
  obtain ⟨x, hx⟩ : ∃ x, s.boundEffect w n false v = ((s.store (loopLoA w n) v).setLoop w n x).syncLoop w n := ⟨_, rfl⟩
  rw [hx]
  refine ⟨fun a ha => ?_, ?_, ?_⟩
  · rw [syncLoop_reg_ne _ _ _ (List.ne_of_not_mem_cons (List.not_mem_of_not_mem_cons ha)), setLoop_reg,
      store_reg_ne _ _ (List.ne_of_not_mem_cons ha)]
  · rw [State.loopLo, State.field, syncLoop_reg_ne _ _ _ (loop_registers_differ w n).1, setLoop_reg]; rfl
  · rw [syncLoop_frame, store_frame]; rfl

/-- LOOP_LO after a write: the value written, held inside the loop's legal range. -/
theorem store_loopLo {w : Win} {n : Nat} {l : LoopDef} (h : loopDef w n = some l) (s : State) (v : Word) :
    (s.store (loopLoA w n) v).loopLo w n = clampNat l.lo l.hi (fld v 0 16) := by
  obtain ⟨r, hr, -, hstored⟩ := loopLo_row h
  rw [State.loopLo, State.field, State.store_reg, if_pos rfl, hr]
  exact hstored _ v

/-- A position written while the loop moves: the element that ELEM selects goes there, held inside the bounds (R157). -/
theorem posEffect_moving {s : State} {w : Win} {n : Nat} (hmode : (s.loop w n).mode ≠ 0) (hb : s.loopLo w n ≤ s.loopHi w n) (v : Nat) :
    (s.posEffect w n v).elem w n (s.field (loopA w n) 8 8) = clampNat (s.loopLo w n) (s.loopHi w n) v ∧
      RegsSame [loopA w n] s (s.posEffect w n v) ∧
      s.posEffect w n v =
        { s with regs := (s.posEffect w n v).regs, elems := (s.posEffect w n v).elems, loops := (s.posEffect w n v).loops,
                 bank := (s.posEffect w n v).bank, waitHits := (s.posEffect w n v).waitHits } := by
  obtain ⟨x, hx⟩ : ∃ x, s.posEffect w n v =
      (((s.clrBitReg (loopA w n) 19).setElem w n (s.field (loopA w n) 8 8)
        (clampNat (s.loopLo w n) (s.loopHi w n) v)).setLoop w n x).syncLoop w n := ⟨_, if_neg (by omega)⟩
  rw [hx]
  refine ⟨by simp, fun a ha => ?_, ?_⟩
  · have hne := List.ne_of_not_mem_cons ha
    simp [syncLoop_reg_ne _ _ _ hne, hne]
  · rw [syncLoop_frame]; rfl

/-- A position written in PARK is refused: only POS_ERR sets (R157). -/
theorem posEffect_parked {s : State} {w : Win} {n : Nat} (hmode : (s.loop w n).mode = 0) (v : Nat) :
    s.posEffect w n v = s.setBitReg (loopA w n) 19 := if_pos (.inl hmode)

/-- A position of the shape loop written in PARK: LOOP_CTL takes POS_ERR and keeps its ELEM (R157). -/
theorem shapePoke_parked {s : State} (hmode : (s.loop .ang 0).mode = 0) (e v : Nat) :
    s.shapePoke e v = (((s.setField (loopA .ang 0) 8 8 e).setBitReg (loopA .ang 0) 19).setField (loopA .ang 0) 8 8
      (s.field (loopA .ang 0) 8 8)) ∧ (s.shapePoke e v).flag (loopA .ang 0) 19 = true := by
  have hpos : (s.setField (loopA .ang 0) 8 8 e).posEffect .ang 0 v = (s.setField (loopA .ang 0) 8 8 e).setBitReg (loopA .ang 0) 19 :=
    posEffect_parked (s := s.setField (loopA .ang 0) 8 8 e) hmode v
  have herr : (((s.setField (loopA .ang 0) 8 8 e).setBitReg (loopA .ang 0) 19).setField (loopA .ang 0) 8 8
      (s.field (loopA .ang 0) 8 8)).flag (loopA .ang 0) 19 = true := by
    rw [State.flag, State.setField_reg, if_pos rfl, bit_setFld_out _ _ _ _ _ (by decide), State.setBitReg_reg, if_pos rfl,
      bit_or_bitMask _ _ _ (by decide)]
    simp
  have hpoke : s.shapePoke e v = (((s.setField (loopA .ang 0) 8 8 e).setBitReg (loopA .ang 0) 19).setField (loopA .ang 0) 8 8
      (s.field (loopA .ang 0) 8 8)) := by
    rw [State.shapePoke, hpos]; exact if_pos herr
  exact ⟨hpoke, hpoke ▸ herr⟩

/-- A position written to a loop in PARK, the shape loop or another, sets POS_ERR in LOOP_CTL and has no other effect. -/
theorem loopPosWrite_parked {s : State} {w : Win} {m n : Nat} {v : Word} {l : LoopDef} (h : loopDef w n = some l) (hpd : l.pd = false)
    (hn : n < 16) (hw : s.Unhindered w m (loopA w n + 12)) (hmode : (s.loop w n).mode = 0) :
    (loopWindowWrite m w n 12 4 v s).flag (loopA w n) 19 = true ∧ RegsSame [loopA w n] s (loopWindowWrite m w n 12 4 v s) ∧
      loopWindowWrite m w n 12 4 v s = { s with regs := (loopWindowWrite m w n 12 4 v s).regs } := by
  have hwrite := loopRwWrite_eq (v := v) h hpd hn (.inr rfl) hw
  rw [if_neg (by decide)] at hwrite
  split at hwrite
  · next hang =>
    subst hang
    obtain rfl := ang_loop_zero h
    obtain ⟨hpoke, herr⟩ := shapePoke_parked hmode (s.field (loopA .ang 0) 8 8) (fld v 0 16)
    rw [hwrite]
    refine ⟨herr, ?_, ?_⟩ <;> rw [hpoke]
    · exact fun a ha => by simp [List.ne_of_not_mem_cons ha]
    · rfl
  · rw [hwrite, posEffect_parked hmode]
    exact ⟨by simp [State.flag], fun a ha => by simp [List.ne_of_not_mem_cons ha], rfl⟩

/-- A mode written waits in LOOP_CTL; no other register and nothing of the loop changes. -/
theorem loopCtlEffect_mode {s : State} {w : Win} {n : Nat} {l : LoopDef} (h : loopDef w n = some l) {v : Word} (hv : fld v 0 2 ≠ 3) :
    (s.loopCtlEffect w n 4 0 v).field (loopA w n) 0 2 = fld v 0 2 ∧ RegsSame [loopA w n] s (s.loopCtlEffect w n 4 0 v) ∧
      s.loopCtlEffect w n 4 0 v = { s with regs := (s.loopCtlEffect w n 4 0 v).regs } := by
  obtain ⟨r, hr, hstored⟩ := loopCtl_row h
  have hmode : fld ((s.store (loopA w n) v).reg (loopA w n)) 0 2 = fld v 0 2 := by
    rw [State.store_reg, if_pos rfl, hr]; exact hstored _ v hv
  rw [State.loopCtlEffect, mergeLanes_word]
  split
  · refine ⟨?_, fun a ha => ?_, ?_⟩
    · rw [State.field, State.setField_reg, if_pos rfl, fld_setFld_disjoint _ _ _ _ _ _ (by decide), hmode]
    · rw [State.setField_reg, if_neg (List.ne_of_not_mem_cons ha), store_reg_ne _ _ (List.ne_of_not_mem_cons ha)]
    · rw [store_frame]; rfl
  · exact ⟨hmode, fun a ha => store_reg_ne _ _ (List.ne_of_not_mem_cons ha), store_frame _ _ _⟩

/-! ## A step in PARK (R151, R158) -/

/-- One element brought to the default `d`, held inside the bounds. -/
def parkElem (w : Win) (n d : Nat) (s : State) (e : Nat) : State := s.setElem w n e (clampNat (s.loopLo w n) (s.loopHi w n) d)

theorem foldl_parkElem_frame (w : Win) (n d : Nat) (es : List Nat) (s : State) :
    es.foldl (parkElem w n d) s = { s with elems := (es.foldl (parkElem w n d) s).elems } := by
  induction es generalizing s with
  | nil => rfl
  | cons e es ih => rw [List.foldl_cons, ih]; rfl

theorem foldl_parkElem_elem (w : Win) (n d : Nat) (es : List Nat) (s : State) (e : Nat) :
    (es.foldl (parkElem w n d) s).elem w n e =
      if e ∈ es then clampNat (s.loopLo w n) (s.loopHi w n) d else s.elem w n e := by
  induction es generalizing s with
  | nil => simp
  | cons e' es ih =>
    have helem : (parkElem w n d s e').elem w n e =
        if e = e' then clampNat (s.loopLo w n) (s.loopHi w n) d else s.elem w n e := setElem_elem _ _ _ _ _ _
    have hlo : (parkElem w n d s e').loopLo w n = s.loopLo w n := rfl
    have hhi : (parkElem w n d s e').loopHi w n = s.loopHi w n := rfl
    rw [List.foldl_cons, ih, helem, hlo, hhi]
    by_cases he : e = e' <;> simp [he]

/-- PARK brings every element of a loop to its default and changes nothing else. -/
theorem parkElems_eq {w : Win} {n : Nat} {l : LoopDef} (h : loopDef w n = some l) (s : State) :
    s.parkElems w n = (List.range (s.loopElems w n)).foldl (parkElem w n l.dflt) s := by
  rw [State.parkElems, h]; rfl

theorem loopElems_pos {w : Win} {n : Nat} {l : LoopDef} (h : loopDef w n = some l) (s : State) : 0 < s.loopElems w n := by
  have hpos : 0 < l.elems := (by decide : ∀ l ∈ loopDefs, 0 < l.elems) l (loopDef_eq_some h).1
  rw [State.loopElems, h]
  dsimp only
  split <;> omega

/-- A step of a loop in PARK whose bounds are in order: every element comes to the default, held inside the bounds. -/
theorem loopStep_parked {s : State} {w : Win} {n : Nat} {l : LoopDef} (h : loopDef w n = some l)
    (hmode : s.field (loopA w n) 0 2 = 0) (hb : s.loopLo w n ≤ s.loopHi w n) (wants : List (Nat × Int)) :
    ((s.loopStep w n wants).loop w n).mode = 0 ∧
      (∀ e < s.loopElems w n, (s.loopStep w n wants).elem w n e = clampNat (s.loopLo w n) (s.loopHi w n) l.dflt) ∧
      RegsSame [loopA w n] s (s.loopStep w n wants) ∧
      s.loopStep w n wants =
        { s with regs := (s.loopStep w n wants).regs, elems := (s.loopStep w n wants).elems, loops := (s.loopStep w n wants).loops,
                 bank := (s.loopStep w n wants).bank, waitHits := (s.loopStep w n wants).waitHits } := by
  obtain ⟨x, hx, hstep⟩ : ∃ x : LoopSt, x.mode = 0 ∧
      s.loopStep w n wants = ((s.setLoop w n x).parkElems w n).syncLoop w n := by
    refine ⟨{ s.loop w n with mode := 0, pins := [], stats := 0 }, rfl, ?_⟩
    have happly : s.applyMode w n = s.setLoop w n { s.loop w n with mode := 0, pins := [], stats := 0 } := by
      simp [State.applyMode, hmode]
    have hin : ¬ (s.applyMode w n).loopHi w n < (s.applyMode w n).loopLo w n := by rw [happly]; exact Nat.not_lt.mpr hb
    rw [State.loopStep, if_neg hin, happly, setLoop_loop]
    rfl
  have hpark := foldl_parkElem_frame w n l.dflt (List.range (s.loopElems w n)) (s.setLoop w n x)
  have helem := foldl_parkElem_elem w n l.dflt (List.range (s.loopElems w n)) (s.setLoop w n x)
  have hfold : (s.setLoop w n x).parkElems w n =
      (List.range (s.loopElems w n)).foldl (parkElem w n l.dflt) (s.setLoop w n x) := parkElems_eq h _
  rw [hstep, hfold]
  refine ⟨?_, fun e he => ?_, fun a ha => ?_, ?_⟩
  · rw [syncLoop_mode, hpark]
    exact (congrArg LoopSt.mode (setLoop_loop s w n x)).trans hx
  · rw [syncLoop_elem, helem, if_pos (List.mem_range.mpr he)]; rfl
  · rw [syncLoop_reg_ne _ _ _ (List.ne_of_not_mem_cons ha), hpark]; rfl
  · rw [syncLoop_frame, hpark]; rfl

/-! ## Fairness slots (R163) -/

theorem modReg_frame (s : State) (a : Nat) (f : Word → Word) : s.modReg a f = { s with regs := (s.modReg a f).regs } := rfl

/-- BG_STAT when a slot is earned: the count restarts, FAIR is set and the slot is counted. -/
def fairSlotEarned (b : Word) : Word := satAdd (setBit (setFld b 0 7 0) 7 true) 16 16 1

theorem bit_fairSlotEarned (b : Word) : bit (fairSlotEarned b) 7 = true := by
  rw [fairSlotEarned, satAdd, bit_setFld_out _ _ _ _ _ (by decide), bit_setBit _ _ _ _ (by decide), if_pos rfl]

theorem fld_fairSlotEarned (b : Word) : fld (fairSlotEarned b) 0 7 = 0 := by
  rw [fairSlotEarned, satAdd, fld_setFld_disjoint _ _ _ _ _ _ (by decide), fld_setBit_out _ _ _ _ _ (by decide)]
  exact fld_setFld_same _ _ _ _ (by decide)

/-- The sixty-fourth preemption in a row earns a slot. -/
theorem fairnessSlot_earned {s : State} {w : Win} (hbg : w.background = true) (hlive : s.live w = true)
    (hcount : 63 ≤ s.field (w.base + 0x3F0) 0 7) : fairnessSlot w s = s.modReg (w.base + 0x3F0) fairSlotEarned := by
  rw [fairnessSlot, hbg, hlive]
  exact congrArg (s.setReg (w.base + 0x3F0)) (if_pos hcount)

/-- Settles O14: a step in PARK, each write of a loop's registers and a preemption that earns a slot have the one effect of their case;
only the registers, elements and hidden state that the case names change. -/
theorem loopsAndSlots : Obligations.LoopsAndSlots := by
  unfold Obligations.LoopsAndSlots
  refine ⟨fun s n margin l h hlive hmode hb => ?_, fun s m w n v l h hpd hw => ?_, fun s m w n v l h hpd hang hw hmode hb => ?_,
    fun s m w n v l h hpd hw hmode => ?_, fun s m w n v l h hpd hw hv => ?_, fun s w hbg hlive hcount => ?_⟩
  · have hstep : loopStepCmd .pwm n margin s = s.loopStep .pwm n [] := by simp [loopStepCmd, h, hlive]
    obtain ⟨hparked, helem, hregs, hframe⟩ := loopStep_parked h hmode hb []
    exact ⟨_, exec_framed rfl hstep hframe rfl rfl, hparked, helem 0 (loopElems_pos h s), hregs, hframe⟩
  · have hwrite := loopBoundWrite_eq h hpd n.isLt hw
    obtain ⟨hregs, hlo, hframe⟩ := boundEffect_low (s.setComp w none) w n v
    obtain ⟨-, hhi, hhilo⟩ := loop_registers_differ w n
    have hkept : ((s.setComp w none).boundEffect w n false v).reg (loopHiA w n) = s.reg (loopHiA w n) :=
      hregs _ (by simp [hhi, hhilo])
    exact ⟨_, exec_framed rfl hwrite hframe rfl rfl, hlo.trans (store_loopLo h _ v), congrArg (fld · 0 16) hkept, hregs,
      by rw [hframe]; rfl⟩
  · have hwrite := loopRwWrite_eq (v := v) h hpd n.isLt (.inr rfl) hw
    rw [if_neg (by decide), if_neg hang] at hwrite
    obtain ⟨helem, hregs, hframe⟩ := posEffect_moving hmode hb (fld v 0 16)
    exact ⟨_, exec_framed rfl hwrite hframe rfl rfl, helem, hregs, hframe⟩
  · obtain ⟨herr, hregs, hframe⟩ := loopPosWrite_parked (v := v) h hpd n.isLt hw hmode
    exact ⟨_, exec_framed rfl rfl hframe rfl rfl, herr, hregs, hframe⟩
  · have hwrite := loopRwWrite_eq (v := v) h hpd n.isLt (.inl rfl) hw
    rw [if_pos rfl] at hwrite
    obtain ⟨hfield, hregs, hframe⟩ := loopCtlEffect_mode h (s := s) hv
    exact ⟨_, exec_framed rfl hwrite hframe rfl rfl, hfield, (congrArg State.loops hframe :), hregs, hframe⟩
  · have hw := fairnessSlot_earned hbg hlive hcount
    have hreg : (s.modReg (w.base + 0x3F0) fairSlotEarned).reg (w.base + 0x3F0) = fairSlotEarned (s.reg (w.base + 0x3F0)) :=
      (State.modReg_reg _ _ _ _).trans (if_pos rfl)
    exact ⟨_, exec_next rfl hw (State.modReg_opt _ _ _) (State.modReg_pending _ _ _),
      (congrArg (bit · 7) hreg).trans (bit_fairSlotEarned _), (congrArg (fld · 0 7) hreg).trans (fld_fairSlotEarned _),
      fun a ha => by rw [State.modReg_reg, if_neg (List.ne_of_not_mem_cons ha)], modReg_frame _ _ _⟩

/-! ## Two registers changed one after the other -/

theorem modReg_modReg_reg (s : State) {a b : Nat} (f g : Word → Word) (h : a ≠ b) (x : Nat) :
    ((s.modReg a f).modReg b g).reg x = if x = b then g (s.reg b) else if x = a then f (s.reg a) else s.reg x := by
  rw [State.modReg_reg, State.modReg_reg, State.modReg_reg, if_neg h.symm]

theorem modReg_modReg_regsSame (s : State) {a b : Nat} (f g : Word → Word) (h : a ≠ b) :
    RegsSame [a, b] s ((s.modReg a f).modReg b g) := fun x hx => by
  rw [modReg_modReg_reg s f g h, if_neg (List.ne_of_not_mem_cons (List.not_mem_of_not_mem_cons hx)),
    if_neg (List.ne_of_not_mem_cons hx)]

/-! ## Telemetry (R196 to R198) -/

/-- What a channel's register holds after a value has arrived: the value, its sequence number, and STALE 0 (R196, R197). -/
def tlmTaken (v : Nat) (w : Word) : Word := setBit (wrapAdd (setFld w 0 16 v) 16 8 1) 31 false

theorem fld_tlmTaken (v : Nat) (w : Word) : fld (tlmTaken v w) 0 16 = v % 65536 := by
  rw [tlmTaken, fld_setBit_out _ _ _ _ _ (by decide), wrapAdd, fld_setFld_disjoint _ _ _ _ _ _ (by decide)]
  exact fld_setFld_same _ _ _ _ (by decide)

theorem bit_tlmTaken (v : Nat) (w : Word) : bit (tlmTaken v w) 31 = false := by simp [tlmTaken]

theorem pdTelemetrySend_measured {s : State} {n v : Nat} (hen : s.flag A.TLM_CTL 0 = true) (hlist : s.tlmListed = true)
    (hup : s.linkUp = true) (hn : n < 16) (hcode : tlmCode s n ≠ 0xFF) (hreg : tlmReg (tlmCode s n) = none) :
    pdTelemetrySend n v s = { s with tlmOut := s.tlmOut ++ [(tlmCode s n, v % 65536)] } := by
  simp [pdTelemetrySend, hen, hlist, hup, hn, hcode, hreg]

/-- An arriving value while no stream descriptor is in hand: the channel's register takes it, and a later TLM_STALE tells again. -/
theorem tlmStore_of_no_stream {s : State} (v n : Nat) (h0 : s.inHand .tlm 0 = none) (h1 : s.inHand .tlm 1 = none) :
    s.tlmStore v n =
      { s.modReg (A.TLM_VAL n) (tlmTaken v) with tlmTold := s.tlmTold &&& (65535 - 2 ^ n) } := by
  have htaken : tlmTaken v = fun w => setBit (wrapAdd (setFld w 0 16 v) 16 8 1) 31 false := rfl
  have hlog (k : Nat) (hk : s.inHand .tlm k = none) (t : State) (ht : t.rings = s.rings) : t.logging .tlm k 0x10 = false := by
    have : t.inHand .tlm k = none := by
      rw [← hk, State.inHand, State.ring, ht]; rfl
    simp [State.logging, this]
  simp [State.tlmStore, List.range_succ, hlog 0 h0, hlog 1 h1, ← htaken]

/-- The oldest frame arrives and one channel alone carries its quantity: that channel takes the value. -/
theorem tlmFrame_channel {s : State} {c v n : Nat} {rest : List (Nat × Nat)} (hout : s.tlmOut = (c, v) :: rest)
    (hch : (List.range 16).filter (fun n => tlmCode s n == c) = [n]) :
    tlmFrame s = State.tlmStore v
      (({ s with tlmOut := rest, link := { s.link with validCd := s.now } }).modReg A.TLM_CNT (fun w => w + 1#32)) n := by
  simp [tlmFrame, hout, hch]

/-- Who hears an event does not depend on which stale channels have been told. -/
theorem raise_with_tlmTold (s : State) (x n : Nat) :
    ({ s with tlmTold := x } : State).raise n = { s.raise n with tlmTold := x } := by
  by_cases h : s.sourceLive n = true
  · exact (if_pos h).trans (by rw [State.raise, if_pos h]; rfl)
  · exact (if_neg h).trans (by rw [State.raise, if_neg h])

theorem tlmStale_first {s : State} {n : Nat} (hen : s.flag A.TLM_CTL 0 = true) (hn : n < 16) (hcode : tlmCode s n ≠ 0xFF)
    (htold : s.tlmTold.testBit n = false) :
    tlmStale n s =
      { ((s.setBitReg (A.TLM_VAL n) 31).setBitReg A.TLM_ERR n).raise 1186 with tlmTold := s.tlmTold ||| 2 ^ n } := by
  rw [← raise_with_tlmTold]
  simp [tlmStale, hen, hn, hcode, htold]

theorem tlmStream_starts {s : State} {n : Nat} (hand : InHand s .tlm n 0x10) (haux : (s.ring .tlm n).aux = 0)
    (htime : fld (s.dw .tlm n 5) 0 16 ≠ 0) (hmask : fld (s.dw .tlm n 4) 0 16 ≠ 0) :
    tlmStream n s = s.modRing .tlm n (fun r => { r with aux := 1, t0 := s.now }) := by
  simp [tlmStream, State.whenHand, hand, haux, htime, hmask]

/-- Settles O17: each telemetry command has the one effect of its case; a frame's value reaches no log, since no stream descriptor is
in hand. -/
theorem telemetry : Obligations.Telemetry := by
  unfold Obligations.Telemetry
  refine ⟨fun s hup => ?_, fun s n v hen hlist hup hcode hreg => ?_, fun s c v rest hout hch h0 h1 => ?_,
    fun s n hen hcode htold => ?_, fun s n hand haux htime hmask => ?_⟩
  · exact ⟨_, exec_next rfl (if_pos hup) rfl rfl, rfl⟩
  · have hw := pdTelemetrySend_measured (v := v.toNat) hen hlist hup n.isLt hcode hreg
    rw [Nat.mod_eq_of_lt v.isLt] at hw
    exact ⟨_, exec_next rfl hw rfl rfl, rfl⟩
  · have hw := (tlmFrame_channel hout hch).trans (tlmStore_of_no_stream v 0 h0 h1)
    have hne : A.TLM_CNT ≠ A.TLM_VAL 0 := by decide
    have hreg := modReg_modReg_reg s (fun w => w + 1#32) (tlmTaken v) hne
    have hval := (hreg (A.TLM_VAL 0)).trans (if_pos rfl)
    exact ⟨_, exec_next rfl hw rfl rfl, rfl, (hreg A.TLM_CNT).trans ((if_neg hne).trans (if_pos rfl)),
      (congrArg (fld · 0 16) hval).trans (fld_tlmTaken v _), (congrArg (bit · 31) hval).trans (bit_tlmTaken v _),
      modReg_modReg_regsSame s (fun w => w + 1#32) (tlmTaken v) hne, rfl⟩
  · have hw := tlmStale_first hen n.isLt hcode htold
    have hne : A.TLM_VAL n ≠ A.TLM_ERR := by simp only [A.TLM_VAL, A.TLM_ERR]; omega
    have hreg := modReg_modReg_reg s (· ||| bitMask 31) (· ||| bitMask n) hne
    obtain ⟨hheard, hbanks, hregs, hframe⟩ := raise_after_semWindow (n := 1186) (by decide) rfl
      (modReg_modReg_regsSame s (· ||| bitMask 31) (· ||| bitMask n) hne) (by simp [A.SEM, A.TLM_VAL, A.TLM_ERR]; omega)
    have hval := (State.raise_reg _ 1186 _).trans ((hreg (A.TLM_VAL n)).trans ((if_neg hne).trans (if_pos rfl)))
    have herr := (State.raise_reg _ 1186 _).trans ((hreg A.TLM_ERR).trans (if_pos rfl))
    refine ⟨_, exec_next rfl hw (by simp) (by simp), (congrArg (bit · 31) hval).trans (by simp),
      (congrArg (bit · n) herr).trans ?_, hheard, hbanks, hregs, ?_⟩
    · rw [bit_or_bitMask _ _ _ (by omega)]; simp
    · exact congrArg (fun r : State => { r with tlmTold := s.tlmTold ||| 2 ^ n.val }) hframe
  · refine ⟨_, exec_next rfl (tlmStream_starts hand haux htime hmask) rfl rfl, ?_, rfl⟩
    rw [State.modRing_ring, if_pos rfl]

end Sys2Proof.Proofs.SharedContracts
end
